-- ==== Sys2Proof/Word.lean ====
section
/-!
DEFINITION. The words of the SVT330: a register is 32 bits (R8), a byte is 8, a ZVC register and a comms RAM
word are 64, a tick number extended is 64.
-/
namespace Sys2Proof

/-- A register word. -/
abbrev Word := BitVec 32
/-- A byte of memory or of a frame. -/
abbrev Byte := BitVec 8
/-- A memory word or a ZVC register. -/
abbrev DWord := BitVec 64
/-- A status code of R54, or a page-specific error code (0x40 to 0xFF). -/
abbrev Code := BitVec 8

end Sys2Proof
end

