-- ==== Sys2Proof/Syntax.lean ====
section
/-!
DEFINITION. The commands of the SVT330 model: one constructor of `Instr` per row of the opcode table, with the
operands a sender gives. A command is a write to a register or command register, an instruction the Stride engines
execute, or an event on a pin, link, bus or timer.
-/
namespace Sys2Proof

/-- Who issues a register write or page command (R52, R63). -/
inductive Issuer where
  | h0 | h1 | h2 | h3 | supervisor | loader
  deriving DecidableEq, Repr

/-- One lane's bundle as it stands at the vote: its 112 bits (R91), and the delay stage whose parity failed (R93). -/
structure LaneCopy where
  bundle : BitVec 112
  bad : Option Nat
  deriving DecidableEq, Repr

/-- What the comparator reports in a case of the injection test: kind, lane (3: none), delay stage, bundle bit (0x7F:
none), and an invalid code of the checker (R106, R116). -/
structure InjSeen where
  kind : BitVec 4
  lane : BitVec 2
  stage : BitVec 4
  bit : BitVec 7
  invalid : Bool
  deriving DecidableEq, Repr

/-- What the comparator reported in cases of an injection test other than as listed; in every other case it gave the
exact report that R106 lists. -/
structure InjReport where
  odd : List (Nat × InjSeen)
  deriving DecidableEq, Repr

/-- What the SECDED code of a word that is read shows: nothing, or a single or double error with its syndrome
(R126, R127). -/
inductive Ecc where
  | good | single (syndrome : BitVec 8) | double (syndrome : BitVec 8)
  deriving DecidableEq, Repr

/-- A fault disturbs a stored word of a memory (0 to 2 lanes, 3 comms RAM, 4 Grador schedule, 5 routes, 6 connection
table): what its check code shows from then on. -/
structure Strike where
  mem : Fin 7
  word : Nat
  ecc : Ecc
  deriving DecidableEq, Repr

/-- What faults disturb in a tick: the path Y state of a group, and stored words (R126, R393). -/
structure TickFaults where
  upset : Option (Fin 8)
  strikes : List Strike
  deriving DecidableEq, Repr

/-- What a march test found: the first failing word of a memory, if any: address, data XOR, check XOR, element. -/
structure MarchFail where
  mem : Nat
  addr : Nat
  xor : BitVec 64
  chk : BitVec 8
  elem : BitVec 4
  deriving DecidableEq, Repr

/-- The data types of a ZVC instruction, field T (R184). -/
inductive ZTy where
  | bool | int16 | int32 | int64 | real32 | real64 | time | tod
  deriving DecidableEq, Repr

/-- The address spaces of a ZVC instruction, field SPACE (R185); codes 5 to 7 are reserved. -/
inductive ZSpace where
  | i | g | k | l | m
  deriving DecidableEq, Repr

/-- A working register W0 to W15 (R183). -/
abbrev ZReg := Fin 16

/-- A condition code (R187); code 15 is reserved. -/
abbrev ZCond := Fin 15

/-- What a slot instance brings (R246): nothing, energy that forms no frame, or a frame from its destination address
to its FCS, with its time stamp in ns from the cycle start of the network clock, reduced to the frame's first bit
(R273, R276), and whether a second frame start followed in the instance. -/
inductive Heard where
  | silent
  | energy
  | frame (bytes : List (BitVec 8)) (stamp : Int) (second : Bool)
  deriving DecidableEq, Repr

/-- How a CAN transmit attempt ends (R318): sent, with the stamp of its start of frame (R310); lost arbitration; error. -/
inductive CanEnd where
  | sent (stamp : BitVec 64)
  | lost
  | error
  deriving DecidableEq, Repr

/-- An SHP message as it arrives: Ethernet port, source address and UDP port, the header fields and the tag (R453). -/
structure ShpHead where
  eth : Fin 2
  ip : Word
  port : BitVec 16
  ver : Byte
  session : Word
  seq : Word
  host : Word
  tag : List Byte
  deriving DecidableEq, Repr

/-- What the cryptographic engine finds of a container (R479, R480): the lowest code of its own checks that fails (0:
none), the plaintext its body decrypts to, and for a delta the lowest code of its own checks on the result. -/
structure Opened where
  code : Byte
  plain : List Byte
  result : Byte
  deriving DecidableEq, Repr

/-- What a boot meets outside the registers (R472): known-answer tests passed, failing words of its march tests, the
injection test, the code of each slot's cryptographic checks, and the durations of the steps in µs. -/
structure BootReport where
  kat : BitVec 4
  march : List MarchFail
  inj : InjReport
  slots : List Byte
  us : List Nat
  deriving DecidableEq, Repr


/-- One command of the block; one constructor per row of the opcode table. -/
inductive Instr where
  /-- Train time crosses a whole microsecond; `faults` is what faults disturb in the tick (R68, R126, R393). -/
  | sampleTick (faults : TickFaults) -- SAMPLE_TICK
  /-- An aligned tick ends the stride (R34). -/
  | strideBoundary -- STRIDE_BOUNDARY
  /-- One lane cycle's three copies at the voters; `diff` is V1 XOR V2 (R94, R95). -/
  | vote (a b c : LaneCopy) (diff : BitVec 112) -- VOTE
  | resyncAutoStart (lane : Fin 3) -- RESYNC_AUTO_START
  /-- A clone pass ends; `same` says whether the two source copies agreed (R100). -/
  | clonePassEnd (same : Bool) -- CLONE_PASS_END
  | resyncReserveCheck -- RESYNC_RESERVE_CHECK
  | finalPhaseEnd -- FINAL_PHASE_END
  /-- The copy deadline of the previous tick: the record each lane sent (32 words), ring links with bad parity and
  late links in the order of XCHG_STAT, and the margin in ns (R109 to R114). -/
  | exchangeDeadline (recs : List (Option (List Word))) (bad late : List (Fin 6)) (margin : BitVec 16) -- EXCHANGE_DEADLINE
  | sourceInvalid (src : Fin 5) -- SOURCE_INVALID
  | rxEvent (lane : Fin 3) (src : Fin 5) -- RX_EVENT
  | clrOvr (iss : Issuer) (arg : BitVec 16) -- CLR_OVR
  | clrLoad (iss : Issuer) (arg : BitVec 16) -- CLR_LOAD
  | starterSnap (iss : Issuer) (arg : BitVec 16) -- STARTER_SNAP
  | injTest (iss : Issuer) (arg : BitVec 16) -- INJ_TEST
  | injTestEnd (rep : InjReport) -- INJ_TEST_END
  | injAgeExceeded -- INJ_AGE_EXCEEDED
  | pfcClrCnt (iss : Issuer) (arg : BitVec 16) -- PFC_CLR_CNT
  | resync (lane : Fin 3) (iss : Issuer) (arg : BitVec 16) -- RESYNC
  | fence (lane : Fin 3) (iss : Issuer) (arg : BitVec 16) -- FENCE
  | laneClrCnt (lane : Fin 3) (iss : Issuer) (arg : BitVec 16) -- LANE_CLR_CNT
  | xchgClrCnt (iss : Issuer) (arg : BitVec 16) -- XCHG_CLR_CNT
  | clrMargin (iss : Issuer) (arg : BitVec 16) -- CLR_MARGIN
  /-- NOP, CLAIM, RELEASE, TAKE, CLR_ERR on a page (R58). -/
  | cmdNop (page : BitVec 8) (iss : Issuer) (arg : BitVec 16) -- CMD_NOP
  | claim (page : BitVec 8) (iss : Issuer) (arg : BitVec 16) -- CLAIM
  | release (page : BitVec 8) (iss : Issuer) (arg : BitVec 16) -- RELEASE
  | take (page : BitVec 8) (iss : Issuer) (arg : BitVec 16) -- TAKE
  | clrErr (page : BitVec 8) (iss : Issuer) (arg : BitVec 16) -- CLR_ERR
  /-- A write of `size` bytes at a register address, and what a restart that it commands meets (R47, R55, R486). -/
  | registerWrite (iss : Issuer) (addr : BitVec 20) (size : Nat) (value : Word) (r : BootReport) -- REGISTER_WRITE
  /-- The write of the high word that commits a wide register (R48). -/
  | highWordCommit (iss : Issuer) (addr : BitVec 20) (value : Word) -- HIGH_WORD_COMMIT
  | functionReset (page : BitVec 8) (iss : Issuer) (value : Word) -- FUNCTION_RESET
  /-- The sweep finds a parity error: page, word index, failing bytes (R65). -/
  | paritySweep (page : BitVec 8) (word : BitVec 10) (bytes : BitVec 4) -- PARITY_SWEEP
  /-- A scheduled write-back is done in a cycle free of higher masters: memory 0 to 2 lanes, 3 comms RAM (R126). -/
  | eccWriteBack (mem : Fin 4) (word : Nat) -- ECC_WRITE_BACK
  | scrubRead (mem : Fin 4) (ecc : Ecc) -- SCRUB_READ
  | scrubLate (mem : Fin 4) -- SCRUB_LATE
  | march (mem : Fin 4) (iss : Issuer) (arg : BitVec 16) -- MARCH
  /-- The running march ends, with the failures it found (R139). -/
  | marchEnd (fails : List MarchFail) -- MARCH_END
  | memClrCnt (mem : Fin 4) (iss : Issuer) (arg : BitVec 16) -- MEM_CLR_CNT
  | atomAdd (page : Fin 4) (iss : Issuer) (arg : BitVec 16) -- ATOM_ADD
  | atomSwap (page : Fin 4) (iss : Issuer) (arg : BitVec 16) -- ATOM_SWAP
  | load (iss : Issuer) (arg : BitVec 16) -- LOAD
  | loadDone -- LOAD_DONE
  | start (iss : Issuer) (arg : BitVec 16) -- START
  | stop (iss : Issuer) (arg : BitVec 16) -- STOP
  | admitImage (iss : Issuer) (arg : BitVec 16) -- ADMIT
  | unload (iss : Issuer) (arg : BitVec 16) -- UNLOAD
  | execClrStat (iss : Issuer) (arg : BitVec 16) -- EXEC_CLR_STAT
  | hold (iss : Issuer) (arg : BitVec 16) -- HOLD
  | stepCmd (iss : Issuer) (arg : BitVec 16) -- STEP
  | continueCmd (iss : Issuer) (arg : BitVec 16) -- CONTINUE
  | clrForce (iss : Issuer) (arg : BitVec 16) -- CLR_FORCE
  | debugClrStat (iss : Issuer) (arg : BitVec 16) -- DEBUG_CLR_STAT
  /-- A write to a word of the FORCE table: entry and word 0 TGT, 1 VAL_LO, 2 VAL_HI, 3 reserved (R177). -/
  | forceEntryWrite (iss : Issuer) (entry : Fin 64) (word : Fin 4) (value : Word) -- FORCE_ENTRY_WRITE
  | nop -- NOP
  | mov (d a : ZReg) -- MOV
  | ldi (d : ZReg) (imm : BitVec 16) -- LDI
  | ldih (d : ZReg) (imm : BitVec 16) -- LDIH
  | getf (d : ZReg) -- GETF
  | setf (a : ZReg) -- SETF
  | clrq -- CLRQ
  /-- `err` is a lane whose read meets a SECDED error (R126, R127). -/
  | ld (d : ZReg) (sp : ZSpace) (t : ZTy) (off : BitVec 24) (err : Option (Fin 3 × Ecc)) -- LD
  | st (d : ZReg) (sp : ZSpace) (t : ZTy) (off : BitVec 24) -- ST
  | ldx (d x : ZReg) (sp : ZSpace) (t : ZTy) (off : BitVec 24) (count : BitVec 16) -- LDX
  | stx (d x : ZReg) (sp : ZSpace) (t : ZTy) (off : BitVec 24) (count : BitVec 16) -- STX
  | add (d a b : ZReg) (t : ZTy) (sat : Bool) -- ADD
  | sub (d a b : ZReg) (t : ZTy) (sat : Bool) -- SUB
  | mul (d a b : ZReg) (t : ZTy) (sat : Bool) -- MUL
  | div (d a b : ZReg) (t : ZTy) (sat : Bool) -- DIV
  | mod (d a b : ZReg) (t : ZTy) -- MOD
  | neg (d a : ZReg) (t : ZTy) (sat : Bool) -- NEG
  | abs (d a : ZReg) (t : ZTy) (sat : Bool) -- ABS
  | min (d a b : ZReg) (t : ZTy) -- MIN
  | max (d a b : ZReg) (t : ZTy) -- MAX
  | addi (d a : ZReg) (imm : BitVec 16) -- ADDI
  | and (d a b : ZReg) (t : ZTy) -- AND
  | or (d a b : ZReg) (t : ZTy) -- OR
  | xor (d a b : ZReg) (t : ZTy) -- XOR
  | not (d a : ZReg) (t : ZTy) -- NOT
  | shl (d a b : ZReg) (t : ZTy) -- SHL
  | shr (d a b : ZReg) (t : ZTy) -- SHR
  | sar (d a b : ZReg) (t : ZTy) -- SAR
  | rol (d a b : ZReg) (t : ZTy) -- ROL
  | ror (d a b : ZReg) (t : ZTy) -- ROR
  | cmp (a b : ZReg) (t : ZTy) -- CMP
  | setc (d : ZReg) (cond : ZCond) -- SETC
  | cvt (d a : ZReg) (t t2 : ZTy) (sat : Bool) -- CVT
  | br (cond : ZCond) (off : BitVec 20) -- BR
  | jmp (off : BitVec 24) -- JMP
  | loop (d : ZReg) (count : BitVec 16) (body : BitVec 20) -- LOOP
  | call (typ : BitVec 16) (off : BitVec 21) -- CALL
  | ret -- RET
  | trap (code : BitVec 8) -- TRAP
  | ton (off : BitVec 21) -- TON
  | tof (off : BitVec 21) -- TOF
  | tp (off : BitVec 21) -- TP
  | rTrig (off : BitVec 21) -- R_TRIG
  | fTrig (off : BitVec 21) -- F_TRIG
  | ctu (off : BitVec 21) -- CTU
  | ctd (off : BitVec 21) -- CTD
  | ctud (off : BitVec 21) -- CTUD
  | sr (off : BitVec 21) -- SR
  | rs (off : BitVec 21) -- RS
  | hyst (t : ZTy) (off : BitVec 21) -- HYST
  | ramp (t : ZTy) (off : BitVec 21) -- RAMP
  | lag (t : ZTy) (off : BitVec 21) -- LAG
  | limit (d a b : ZReg) (t : ZTy) -- LIMIT
  | sel (d a b : ZReg) -- SEL
  /-- MUX over W(a) to W(a + b) (R206). -/
  | mux (d a b : ZReg) -- MUX
  | mhdr (d : ZReg) (mb : BitVec 12) -- MHDR
  | mget (d : ZReg) (sp : ZSpace) (mb : BitVec 12) (off : BitVec 24) (len : BitVec 13) (boff : BitVec 16) -- MGET
  | mput (d : ZReg) (sp : ZSpace) (mb : BitVec 12) (off : BitVec 24) (len : BitVec 13) -- MPUT
  /-- `poisoned`: the response to the voted read request carries the poison indication (R128). -/
  | mstat (d : ZReg) (mb : BitVec 12) (poisoned : Bool) -- MSTAT
  | batonCommit -- BATON_COMMIT
  | sweepComplete -- SWEEP_COMPLETE
  | batonStale -- BATON_STALE
  | pfail -- PFAIL
  /-- The PFAIL flush ends; `us` is its duration (R219, R232). -/
  | pfailFlushEnd (us : Word) -- PFAIL_FLUSH_END
  /-- A restore ends; `us` is its duration (R218, R232). -/
  | restoreComplete (us : Word) -- RESTORE_COMPLETE
  | stage (iss : Issuer) (arg : BitVec 16) -- STAGE
  | stageDone -- STAGE_DONE
  | arm (iss : Issuer) (arg : BitVec 16) -- ARM
  | disarm (iss : Issuer) (arg : BitVec 16) -- DISARM
  | cancel (iss : Issuer) (arg : BitVec 16) -- CANCEL
  | confirm (iss : Issuer) (arg : BitVec 16) -- CONFIRM
  | revert (iss : Issuer) (arg : BitVec 16) -- REVERT
  | swapClrStat (iss : Issuer) (arg : BitVec 16) -- SWAP_CLR_STAT
  | trialLeftExpired -- TRIAL_LEFT_EXPIRED
  | revertDataLoaded -- REVERT_DATA_LOADED
  | batonClrCnt (iss : Issuer) (arg : BitVec 16) -- BATON_CLR_CNT
  | discard (iss : Issuer) (arg : BitVec 16) -- DISCARD
  /-- The network clock reaches the start of a basic cycle; `at_` is the ns of train time past the running tick's
  start (R236). -/
  | cycleStart (at_ : Fin 1000) -- CYCLE_START
  /-- An entry of the claim table is to be removed (R259). -/
  | claimTimeout (idx : BitVec 8) -- CLAIM_TIMEOUT
  | txLatch -- TX_LATCH
  /-- A slot instance's action point comes; the lanes' permit windows at the frame's start and at its end (R252). -/
  | txFrame (ch : Fin 2) (slot : BitVec 10) (permit atEnd : BitVec 3) -- TX_FRAME
  | gradorRxInstance (ch : Fin 2) (slot : BitVec 10) (heard : Heard) -- GRADOR_RX_INSTANCE
  | coldStart -- COLD_START
  | csBackoffEnd -- CS_BACKOFF_END
  | coldRetry -- COLD_RETRY
  | pacerCorrection -- PACER_CORRECTION
  | linkDelayRequest (ch : Fin 2) (t1 : Word) -- LINK_DELAY_REQUEST
  /-- Both response messages of exchange `k` of the running measurement have arrived (R274). -/
  | linkDelayResponse (ch : Fin 2) (k : Fin 16) (t2 t3 t4 : Word) -- LINK_DELAY_RESPONSE
  /-- The partner's request, received at T2, is answered; the answer leaves at T3 (R274). -/
  | linkDelayAnswer (ch : Fin 2) (t2 t3 : Word) -- LINK_DELAY_ANSWER
  | linkDelayTimeout (ch : Fin 2) (k : Fin 16) -- LINK_DELAY_TIMEOUT
  | phyLinkChange (ch : Fin 2) (up : Bool) -- PHY_LINK_CHANGE
  | slotClaim (iss : Issuer) (arg : BitVec 16) -- SLOT_CLAIM
  | slotRelease (iss : Issuer) (arg : BitVec 16) -- SLOT_RELEASE
  | grdsClrCnt (iss : Issuer) (arg : BitVec 16) -- GRDS_CLR_CNT
  | grdChClrCnt (ch : Fin 2) (iss : Issuer) (arg : BitVec 16) -- GRD_CH_CLR_CNT
  | grdmbClrCnt (iss : Issuer) (arg : BitVec 16) -- GRDMB_CLR_CNT
  /-- A write that sets GRDS.PG_CTRL.EN (R239). -/
  | grdsEnable (iss : Issuer) -- GRDS_ENABLE
  | pacerClrCnt (iss : Issuer) (arg : BitVec 16) -- PACER_CLR_CNT
  | timeMessage -- TIME_MESSAGE
  | holdoverExpired -- HOLDOVER_EXPIRED
  | timeSnap (iss : Issuer) (arg : BitVec 16) -- TIME_SNAP
  | adjUnlock (iss : Issuer) (arg : BitVec 16) -- ADJ_UNLOCK
  | adjForce (iss : Issuer) (arg : BitVec 16) -- ADJ_FORCE
  | adjUnlockExpired -- ADJ_UNLOCK_EXPIRED
  | timeClrCnt (iss : Issuer) (arg : BitVec 16) -- TIME_CLR_CNT
  /-- Train time reaches the channel's TIME at an 8 ns edge of the running tick (R298). -/
  | compareFire (ch : Fin 32) (pos : Fin 125) -- COMPARE_FIRE
  | tcapClrCnt (iss : Issuer) (arg : BitVec 16) -- TCAP_CLR_CNT
  /-- A valid frame: FRM_ID, BRS, ESI, DLC, data, and its receive time stamp (R309 to R311). -/
  | canRxFrame (ctl : Fin 8) (id : Word) (brs esi : Bool) (dlc : Fin 16) (data : List (BitVec 8)) (stamp : BitVec 64) -- CAN_RX_FRAME
  | canTxAttemptEnd (ctl : Fin 8) (how : CanEnd) -- CAN_TX_ATTEMPT_END
  /-- A bus error with LAST_ERR.CODE, in the data phase, as transmitter; `heavy` where the standard counts 8 for a
  receiver (R319). -/
  | canBusError (ctl : Fin 8) (code : Fin 7) (dataPhase asTx heavy : Bool) -- CAN_BUS_ERROR
  | canIntegrationDone (ctl : Fin 8) -- CAN_INTEGRATION_DONE
  | canRecoveryDone (ctl : Fin 8) -- CAN_RECOVERY_DONE
  | pop (ctl : Fin 8) (iss : Issuer) (arg : BitVec 16) -- POP
  | tbLoad (ctl : Fin 8) (iss : Issuer) (arg : BitVec 16) -- TB_LOAD
  | txfPush (ctl : Fin 8) (iss : Issuer) (arg : BitVec 16) -- TXF_PUSH
  | tbAbort (ctl : Fin 8) (iss : Issuer) (arg : BitVec 16) -- TB_ABORT
  | txfAbortHead (ctl : Fin 8) (iss : Issuer) (arg : BitVec 16) -- TXF_ABORT_HEAD
  | txfFlush (ctl : Fin 8) (iss : Issuer) (arg : BitVec 16) -- TXF_FLUSH
  | canRestart (ctl : Fin 8) (iss : Issuer) (arg : BitVec 16) -- CAN_RESTART
  | canClrCnt (ctl : Fin 8) (iss : Issuer) (arg : BitVec 16) -- CAN_CLR_CNT
  | rxfDataRead (ctl : Fin 8) -- RXF_DATA_READ
  | canBusIdle (ctl : Fin 8) -- CAN_BUS_IDLE
  /-- The unit at the head of a port's ingress queue is loaded into the port's buffer and its routes begin to act. -/
  | relayUnit (port : Fin 17) -- RELAY_UNIT
  | relayTransferEnd (port : Fin 17) -- RELAY_TRANSFER_END
  | relayBackoffEnd (port : Fin 17) -- RELAY_BACKOFF_END
  | relayHoldExpired (port : Fin 17) -- RELAY_HOLD_EXPIRED
  /-- A UDP datagram to RELAY_UDP on an ETH port: sender's IPv4 address and payload (R329). -/
  | relayDatagram (eth : Fin 2) (peer : Word) (payload : List (BitVec 8)) -- RELAY_DATAGRAM
  | relayOutboxTake (host : Fin 4) -- RELAY_OUTBOX_TAKE
  | relayClrCnt (iss : Issuer) (arg : BitVec 16) -- RELAY_CLR_CNT
  | flush (iss : Issuer) (arg : BitVec 16) -- FLUSH
  /-- A write that sets RELAY.PG_CTRL.EN (R326). -/
  | relayEnable (iss : Issuer) -- RELAY_ENABLE
  /-- A group's SVT-F1 receives a downstream frame, or finds it missing (R340). -/
  | downstreamFrameRx (g : Fin 4) (frame : Option (BitVec 200)) -- DOWNSTREAM_FRAME_RX
  | failsafeEntry (g : Fin 4) (powerOn : Bool) -- FAILSAFE_ENTRY
  | bringupComplete (g : Fin 4) -- BRINGUP_COMPLETE
  | bringupTimeout (g : Fin 4) -- BRINGUP_TIMEOUT
  | fldEnable (g : Fin 4) (iss : Issuer) -- FLD_ENABLE
  /-- A timed event an SVT-F1 holds reaches its time (R343). -/
  | timedEvent (g : Fin 4) -- TIMED_EVENT
  | safeOffAsserted (g : Fin 4) -- SAFE_OFF_ASSERTED
  | safeOffReleased (g : Fin 4) -- SAFE_OFF_RELEASED
  | safeOffTimedRelease (g : Fin 4) -- SAFE_OFF_TIMED_RELEASE
  | cutTermAct (g : Fin 4) (term : Fin 4) -- CUT_TERM_ACT
  | cutHoldEnd (g : Fin 4) (term : Fin 4) -- CUT_HOLD_END
  | diEdgeAccept (g : Fin 4) (ch : Fin 16) (pos : Fin 125) -- DI_EDGE_ACCEPT
  | wettingEnd (g : Fin 4) (ch : Fin 16) -- WETTING_END
  | diOpenWire (g : Fin 4) (ch : Fin 16) (open_ : Bool) -- DI_OPEN_WIRE
  | doOverload (g : Fin 4) (ch : Fin 8) -- DO_OVERLOAD
  | doOpenWireOn (g : Fin 4) (ch : Fin 8) (open_ : Bool) -- DO_OPEN_WIRE_ON
  | sboSwitchLimit (g : Fin 4) -- SBO_SWITCH_LIMIT
  /-- A temperature threshold is crossed: 0 die 140, 1 die 155, 2 a DO switch, 3 the SBO switch; rising or falling
  (R364). -/
  | thermalThreshold (g : Fin 4) (kind : Fin 4) (ch : Fin 8) (rising : Bool) -- THERMAL_THRESHOLD
  | vfLow (g : Fin 4) (low : Bool) -- VF_LOW
  | relink (g : Fin 4) (iss : Issuer) (arg : BitVec 16) -- RELINK
  | fldClrCnt (g : Fin 4) (iss : Issuer) (arg : BitVec 16) -- FLD_CLR_CNT
  | fdgClrCnt (g : Fin 4) (iss : Issuer) (arg : BitVec 16) -- FDG_CLR_CNT
  | diComparatorEdge (g : Fin 4) (ch : Fin 16) (level : Bool) (pos : Fin 125) -- DI_COMPARATOR_EDGE
  | sboOvercurrent (g : Fin 4) -- SBO_OVERCURRENT
  | doOpenWireOff (g : Fin 4) (ch : Fin 8) (open_ : Bool) -- DO_OPEN_WIRE_OFF
  /-- A single-cycle conversion of input `n` of a group ends with its code (R379). -/
  | aiConversionEnd (g : Fin 4) (n : Fin 2) (code : BitVec 20) -- AI_CONVERSION_END
  | shuntOpen (g : Fin 4) (n : Fin 2) -- SHUNT_OPEN
  /-- The shunt recloses; `fallen`: the current is no longer above 30 mA (R373). -/
  | shuntReclose (g : Fin 4) (n : Fin 2) (fallen : Bool) -- SHUNT_RECLOSE
  /-- The FI comparator changes, `ns` into the running tick (R383). -/
  | fiEdge (g : Fin 4) (rising : Bool) (ns : Fin 1000) -- FI_EDGE
  | fiStandstill (g : Fin 4) -- FI_STANDSTILL
  | measaClrCnt (iss : Issuer) (arg : BitVec 16) -- MEASA_CLR_CNT
  | measfClrCnt (iss : Issuer) (arg : BitVec 16) -- MEASF_CLR_CNT
  /-- The current of a two-wire sensor is below 3.5 mA, above 21 mA, or neither (R383). -/
  | fiOpenShort (g : Fin 4) (open_ short : Bool) -- FI_OPEN_SHORT
  | discrepancyTimeout (pair : Fin 32) -- DISCREPANCY_TIMEOUT
  | safeMsgTimeout (conn : BitVec 8) -- SAFE_MSG_TIMEOUT
  | resetArm (iss : Issuer) (arg : BitVec 16) -- RESET_ARM
  | resetConfirm (iss : Issuer) (arg : BitVec 16) -- RESET_CONFIRM
  | resetArmExpired -- RESET_ARM_EXPIRED
  | resetWaitExpired (grp : Fin 8) -- RESET_WAIT_EXPIRED
  | safeClrCnt (iss : Issuer) (arg : BitVec 16) -- SAFE_CLR_CNT
  | switchTest (iss : Issuer) (arg : BitVec 16) -- SWITCH_TEST
  | switchTestDue (sbo : Fin 4) -- SWITCH_TEST_DUE
  | switchTestStepEnd (sbo : Fin 4) -- SWITCH_TEST_STEP_END
  | switchTestRetry (sbo : Fin 4) -- SWITCH_TEST_RETRY
  | switchTestOverdue (sbo : Fin 4) -- SWITCH_TEST_OVERDUE
  | brakeTest (iss : Issuer) (arg : BitVec 16) -- BRAKE_TEST
  | brakeTestStepEnd (sbo : Fin 4) -- BRAKE_TEST_STEP_END
  | readbackMismatch (sbo : Fin 4) -- READBACK_MISMATCH
  | sboClrCnt (iss : Issuer) (arg : BitVec 16) -- SBO_CLR_CNT
  | discClrCnt (iss : Issuer) (arg : BitVec 16) -- DISC_CLR_CNT
  | smsgClrCnt (iss : Issuer) (arg : BitVec 16) -- SMSG_CLR_CNT
  | smsgEnable (iss : Issuer) -- SMSG_ENABLE
  /-- The active's lock-out states and safe-message transmit SEQs over the partner link (R398, R428, R433). -/
  | lockoutStateMessage (locked waiting : BitVec 8) (seqs : List (BitVec 8 × BitVec 16)) -- LOCKOUT_STATE_MESSAGE
  | actInChange (level : Bool) -- ACT_IN_CHANGE
  | claimHoldExpired -- CLAIM_HOLD_EXPIRED
  | gateOpen -- GATE_OPEN
  | claimWaitExpired -- CLAIM_WAIT_EXPIRED
  /-- The standby's MRAM receives words over the partner link: of the mirror copy, or a forwarded baton write (R215,
  R428). -/
  | mirrorWrite (copy : Bool) (addr : BitVec 24) (bytes : List Byte) -- MIRROR_WRITE
  | mirrorCopyEnd -- MIRROR_COPY_END
  /-- A heartbeat: over Grador or over the partner link, with BOUND_TICK, COMMIT_SEQ and group states (R429). -/
  | heartbeat (grador : Bool) (tick : Word) (seqLo seqHi : Word) (locked waiting : BitVec 8) -- HEARTBEAT
  | partnerSilent -- PARTNER_SILENT
  | healthReportSend -- HEALTH_REPORT_SEND
  /-- A partner report of 16 words; `grador` when it came from the pair block (R438, R439). -/
  | healthReport (grador : Bool) (words : List Word) -- HEALTH_REPORT
  /-- WITHDRAW of the active: cause 1 command, 2 HALTED, 3 PFAIL, and its COMMIT_SEQ (R430). -/
  | withdrawMessage (cause : Fin 4) (seq : DWord) -- WITHDRAW_MESSAGE
  | standbyInjTest -- STANDBY_INJ_TEST
  | withdraw (iss : Issuer) (arg : BitVec 16) -- WITHDRAW
  | takeover (iss : Issuer) (arg : BitVec 16) -- TAKEOVER
  | resyncMirror (iss : Issuer) (arg : BitVec 16) -- RESYNC_MIRROR
  | partClrCnt (iss : Issuer) (arg : BitVec 16) -- PART_CLR_CNT
  | healthClrCnt (iss : Issuer) (arg : BitVec 16) -- HEALTH_CLR_CNT
  /-- The link goes up or down; when up, the partner's highest PLV and JFMT, NODE_ID and SLOT_ID (R434). -/
  | partnerLinkChange (up : Bool) (plv jfmt : BitVec 4) (node : BitVec 10) (slot : BitVec 3) -- PARTNER_LINK_CHANGE
  | pathDegraded -- PATH_DEGRADED
  | partnerReportTimeout -- PARTNER_REPORT_TIMEOUT
  | mirrorCopyRequest -- MIRROR_COPY_REQUEST
  /-- A PCI Express memory write through BAR2 (R446). -/
  | bar2Write (host : Fin 2) (off : BitVec 23) (bytes : List Byte) -- BAR2_WRITE
  /-- A write of COMMIT in the region of a host, and its latch (R449). -/
  | hostCommit (host : Fin 4) (value : Word) -- HOST_COMMIT
  | irqRearm (host : Fin 4) -- IRQ_REARM
  | pcieLinkReset (ep : Fin 2) -- PCIE_LINK_RESET
  /-- A frame on an Ethernet port, from its destination address to before its FCS, and what a restart that a WRITE in it
  commands meets (R451). -/
  | ethFrame (port : Fin 2) (fcsOk : Bool) (bytes : List Byte) (r : BootReport) -- ETH_FRAME
  | hello (m : ShpHead) (nonce : List Byte) -- HELLO
  | read (m : ShpHead) (off count : Word) -- READ
  /-- Addresses and values, and what a restart that one of them commands meets (R456, R486). -/
  | write (m : ShpHead) (pairs : List (Word × Word)) (r : BootReport) -- WRITE
  | memRead (m : ShpHead) (off len : Word) -- MEM_READ
  | memWrite (m : ShpHead) (off len : Word) (data : List Byte) -- MEM_WRITE
  | evtAck (m : ShpHead) -- EVT_ACK
  | close (m : ShpHead) -- CLOSE
  | shpEvent (sess : Fin 2) -- SHP_EVENT
  | shpEventRepeat (sess : Fin 2) -- SHP_EVENT_REPEAT
  | sessionTimeout (sess : Fin 2) -- SESSION_TIMEOUT
  | drop (iss : Issuer) (arg : BitVec 16) -- DROP
  | hostClrCnt (iss : Issuer) (arg : BitVec 16) -- HOST_CLR_CNT
  | pcieClrCnt (iss : Issuer) (arg : BitVec 16) -- PCIE_CLR_CNT
  | shpClose (iss : Issuer) (arg : BitVec 16) -- SHP_CLOSE
  | shpClrCnt (iss : Issuer) (arg : BitVec 16) -- SHP_CLR_CNT
  | ethClrCnt (port : Fin 2) (iss : Issuer) (arg : BitVec 16) -- ETH_CLR_CNT
  | ethLinkChange (port : Fin 2) (up : Bool) -- ETH_LINK_CHANGE
  /-- Link training ends: the rate code and whether configuration space enables MSI (R450, R463). -/
  | pcieLinkUp (ep : Fin 2) (rate : BitVec 2) (msi : Bool) -- PCIE_LINK_UP
  | powerUp (r : BootReport) -- POWER_UP
  | resetIn (r : BootReport) -- RESET_IN
  | bootRestart (iss : Issuer) (arg : BitVec 16) (r : BootReport) -- BOOT_RESTART
  | bootClrCnt (iss : Issuer) (arg : BitVec 16) -- BOOT_CLR_CNT
  | holdupCharged -- HOLDUP_CHARGED
  | erase (iss : Issuer) (arg : BitVec 16) -- ERASE
  | chunk (iss : Issuer) (arg : BitVec 16) -- CHUNK
  | install (iss : Issuer) (arg : BitVec 16) -- INSTALL
  /-- The running ERASE, CHUNK or INSTALL ends: it ran past its limit, or the flash read back wrong, or what INSTALL
  opened (R481, R482). -/
  | updOperationEnd (late bad : Bool) (us : Nat) (c : Opened) -- UPD_OPERATION_END
  | activate (iss : Issuer) (arg : BitVec 16) -- ACTIVATE
  | abandon (iss : Issuer) (arg : BitVec 16) -- ABANDON
  | updClrCnt (iss : Issuer) (arg : BitVec 16) -- UPD_CLR_CNT
  | healthConfirm (iss : Issuer) (value : Word) -- HEALTH_CONFIRM
  /-- TRIAL_RUN_S has reached TRIAL_WIN_S; what a restart it causes meets (R484). -/
  | trialWinExpired (r : BootReport) -- TRIAL_WIN_EXPIRED
  | cryptClrCnt (iss : Issuer) (arg : BitVec 16) -- CRYPT_CLR_CNT
  | powerLoss -- POWER_LOSS
  /-- An operating second passes; `ok` says that the MRAM takes a record that closes (R498, R508). -/
  | operatingSecond (ok : Bool) -- OPERATING_SECOND
  | openRecordWrite (ok : Bool) -- OPEN_RECORD_WRITE
  | reportDrain -- REPORT_DRAIN
  | archived (iss : Issuer) (arg : BitVec 16) -- ARCHIVED
  | clrSrc (iss : Issuer) (arg : BitVec 16) -- CLR_SRC
  | recClrCnt (iss : Issuer) (arg : BitVec 16) -- REC_CLR_CNT
  /-- VIN, VHOLD in 10 mV, board and junction temperature in 0.125 °C (R506). -/
  | envSample (vin vhold board junc : BitVec 16) -- ENV_SAMPLE
  | envClrCnt (iss : Issuer) (arg : BitVec 16) -- ENV_CLR_CNT
  deriving DecidableEq, Repr

end Sys2Proof
end

