-- ==== Sys2Proof/Decode.lean ====
section
/-!
DEFINITION. Decoding by the opcode table's bits.
-/
namespace Sys2Proof

/-- The command a word of `nbits` bits spells. The table gives no row any bits: a command of this block is a register
write, an engine action or an event, and no word spells one. -/
def decodeTableWord (_nbits _w : Nat) : Option Instr := none

end Sys2Proof
end

