-- ==== Sys2Proof/Machine/Sparse.lean ====
section
/-!
DEFINITION. Sparse storage in one canonical form: a list of (address, value) pairs with strictly rising addresses
and no entry equal to what an unlisted address reads as. Registers, bytes of memory and held halves use it.
Bits of words and byte order are here too, so that a repair can mend them.
-/
namespace Sys2Proof.Machine

/-- The value at `k`; an unlisted address reads as `d`. -/
def Sparse.get {α : Type} : List (Nat × α) → Nat → α → α
  | [], _, d => d
  | (k', v) :: m, k, d => if k' = k then v else if k < k' then d else Sparse.get m k d

/-- Store `v` at `k`; writing what an unlisted address reads as removes the entry. -/
def Sparse.put {α : Type} [DecidableEq α] : List (Nat × α) → Nat → α → α → List (Nat × α)
  | [], k, v, d => if v = d then [] else [(k, v)]
  | (k', v') :: m, k, v, d =>
    if k' < k then (k', v') :: Sparse.put m k v d
    else if k' = k then (if v = d then m else (k, v) :: m)
    else if v = d then (k', v') :: m else (k, v) :: (k', v') :: m

/-- The canonical form: addresses above `lo` strictly rise and no entry holds its default. -/
def Sparse.wfFrom {α : Type} [DecidableEq α] (dflt : Nat → α) : Option Nat → List (Nat × α) → Bool
  | _, [] => true
  | lo, (k, v) :: m =>
    (match lo with | none => true | some l => decide (l < k)) && !(decide (v = dflt k))
      && Sparse.wfFrom dflt (some k) m

/-- The canonical form of a whole store. -/
def Sparse.wf {α : Type} [DecidableEq α] (dflt : Nat → α) (m : List (Nat × α)) : Bool :=
  Sparse.wfFrom dflt none m

/-- Put a key with a value into a list of keys in rising order. -/
def mapPut {α : Type} : List (Nat × α) → Nat → α → List (Nat × α)
  | [], k, v => [(k, v)]
  | (k', v') :: m, k, v =>
    if k' < k then (k', v') :: mapPut m k v else if k' = k then (k, v) :: m else (k, v) :: (k', v') :: m

/-- The value of a key. -/
def mapGet {α : Type} (m : List (Nat × α)) (k : Nat) : Option α := (m.find? fun e => e.1 == k).map (·.2)

/-- Drop every entry whose address `p` holds of. -/
def Sparse.drop {α : Type} (p : Nat → Bool) (m : List (Nat × α)) : List (Nat × α) :=
  m.filter fun e => !p e.1

/-! ### Byte memories -/

/-- What a byte of memory that nothing has written reads as (DESIGN CHOICE, log entry 3). -/
def blankByte : Byte := 0#8

/-- The canonical form of a byte memory. -/
def Memory.wf (m : List Host.Cell) : Bool := Sparse.wf (fun _ => blankByte) m

/-- One byte of a memory. -/
def Memory.read (m : List Host.Cell) (a : Nat) : Byte := Sparse.get m a blankByte

/-- Write one byte of a memory. -/
def Memory.write (m : List Host.Cell) (a : Nat) (b : Byte) : List Host.Cell := Sparse.put m a b blankByte

/-- `n` bytes from address `a` up. -/
def Memory.readN (m : List Host.Cell) (a : Nat) : Nat → List Byte
  | 0 => []
  | n + 1 => Memory.read m a :: Memory.readN m (a + 1) n

/-- Write bytes from address `a` up. -/
def Memory.writeN (m : List Host.Cell) (a : Nat) : List Byte → List Host.Cell
  | [] => m
  | b :: bs => Memory.writeN (Memory.write m a b) (a + 1) bs

/-- The number a list of bytes spells, the first byte the least significant (R8). -/
def leNat : List Byte → Nat
  | [] => 0
  | b :: bs => b.toNat + 256 * leNat bs

/-- The number a list of bytes spells, the first byte the most significant (network order). -/
def beNat (bs : List Byte) : Nat := bs.foldl (fun a b => a * 256 + b.toNat) 0

/-- The `n` low bytes of a number, the least significant first. -/
def leBytes : Nat → Nat → List Byte
  | 0, _ => []
  | n + 1, v => BitVec.ofNat 8 v :: leBytes n (v / 256)

/-- The `n` low bytes of a number, the most significant first. -/
def beBytes (n v : Nat) : List Byte := (leBytes n v).reverse

/-- A little-endian number of `n` bytes at address `a`. -/
def Memory.readLe (m : List Host.Cell) (a n : Nat) : Nat := leNat (Memory.readN m a n)

/-- Write the `n` low bytes of `v`, little-endian, at address `a`. -/
def Memory.writeLe (m : List Host.Cell) (a n v : Nat) : List Host.Cell := Memory.writeN m a (leBytes n v)

/-- Fill `n` bytes from `a` with 0. -/
def Memory.clear (m : List Host.Cell) (a n : Nat) : List Host.Cell :=
  Sparse.drop (fun k => decide (a ≤ k ∧ k < a + n)) m

/-- Replace the bytes from `a` up by a block. -/
def Memory.splice (m : List Host.Cell) (a : Nat) (bs : List Byte) : List Host.Cell :=
  (m.filter fun e => decide (e.1 < a))
    ++ ((bs.zipIdx a).filterMap fun x => if x.1 = blankByte then none else some (x.2, x.1))
    ++ (m.filter fun e => decide (a + bs.length ≤ e.1))

/-- Copy `n` bytes at `src` of one memory to `dst` of another. -/
def Memory.copy (into : List Host.Cell) (dst : Nat) (from_ : List Host.Cell) (src n : Nat) : List Host.Cell :=
  (from_.filter fun e => decide (src ≤ e.1 ∧ e.1 < src + n)).foldl
    (fun m e => Memory.write m (e.1 - src + dst) e.2) (Memory.clear into dst n)

/-! ### Bits of words -/

/-- Bits [hi:lo] of a word, as a number. -/
def fld (w : BitVec n) (hi lo : Nat) : Nat := (w.toNat >>> lo) % 2 ^ (hi + 1 - lo)

/-- Bit `i` of a word. -/
def bitOf (w : BitVec n) (i : Nat) : Bool := w.getLsbD i

/-- `w` with bits [hi:lo] replaced by the low bits of `v`. -/
def setFld (w : BitVec n) (hi lo v : Nat) : BitVec n :=
  let m : BitVec n := BitVec.ofNat n ((2 ^ (hi + 1 - lo) - 1) <<< lo)
  (w &&& ~~~m) ||| (BitVec.ofNat n (v % 2 ^ (hi + 1 - lo)) <<< lo)

/-- `w` with bit `i` set to `b`. -/
def setBit (w : BitVec n) (i : Nat) (b : Bool) : BitVec n :=
  let m : BitVec n := BitVec.ofNat n (2 ^ i)
  if b then w ||| m else w &&& ~~~m

/-- A flag as a number. -/
def b2n (b : Bool) : Nat := if b then 1 else 0

/-- A counter that saturates at all ones (R15). -/
def satInc (w : BitVec n) : BitVec n := if w = BitVec.allOnes n then w else w + 1

/-- Add, saturating at all ones (R15). -/
def satAdd (w : BitVec n) (k : Nat) : BitVec n :=
  if 2 ^ n ≤ w.toNat + k then BitVec.allOnes n else BitVec.ofNat n (w.toNat + k)

/-- The signed value of the low `n` bits of a number. -/
def toSigned (n v : Nat) : Int :=
  let r := v % 2 ^ n
  if 2 ^ (n - 1) ≤ r then (r : Int) - 2 ^ n else r

/-- A signed number as the low `n` bits of its two's complement. -/
def ofSigned (n : Nat) (v : Int) : Nat := (v % (2 ^ n : Int)).toNat

/-- A signed number limited to `n` bits. -/
def clampSigned (n : Nat) (v : Int) : Int :=
  if v < -(2 ^ (n - 1)) then -(2 ^ (n - 1)) else if (2 ^ (n - 1)) ≤ v then 2 ^ (n - 1) - 1 else v

/-- Replace element `i` of a list; a list too short is left as it is. -/
def setAt {α : Type} : List α → Nat → α → List α
  | [], _, _ => []
  | _ :: l, 0, v => v :: l
  | x :: l, i + 1, v => x :: setAt l i v

/-- Element `i` of a list, or `d`. -/
def getAt {α : Type} (d : α) : List α → Nat → α
  | [], _ => d
  | x :: _, 0 => x
  | _ :: l, i + 1 => getAt d l i

/-- Change element `i` of a list. -/
def modAt {α : Type} (f : α → α) : List α → Nat → List α
  | [], _ => []
  | x :: l, 0 => f x :: l
  | x :: l, i + 1 => x :: modAt f l i

/-- `f` over the numbers `0 … n-1`, in rising order. -/
def forN {σ : Type} (n : Nat) (f : Nat → σ → σ) (s : σ) : σ := (List.range n).foldl (fun t i => f i t) s

end Sys2Proof.Machine
end

