-- ==== Sys2Proof/Machine/RegMap.lean ====
section
/-!
DEFINITION. The register map: the 70 pages of R44 with every register their chapters' tables define, its access,
reset value, writable bits and stated field ranges. A register page is 4 KiB; page `p` is at `0x1000 * p` (R43).
The named addresses (`R.<PAGE>_<NAME>`) are absolute on a page with one instance and page offsets on the others.
Reset values the tables leave to the module (fuses, boot record, MRAM) stand as 0 here and are loaded by the start-up
sequence; the assumption log (entry 4) names them.
-/
namespace Sys2Proof.Machine

/-- The register access types of R9. -/
inductive Acc where
  | rw | ro | w1c | wo | cmd
  deriving DecidableEq, Repr

/-- The kinds of register page (R44); a kind with several instances has consecutive slots. -/
inductive PageKind where
  | dev | boot | starter | pfc | lane | xchg | mem | memx | exec | swap | debug | baton | grd | grds | pacer | grdmb | time | tcap | can | relay | eth | fld | fdg | measa | measf | safe | sbo | disc | smsg | part | health | host | pcie | shp | upd | crypt | recorder | env | tst
  deriving DecidableEq, Repr

/-- One run of registers of a page: `n` words from `off`, `step` bytes apart, with the bits a write stores and the
ranges `(hi, lo, min, max)` its fields state (R13). -/
structure RegRow where
  off : Nat
  n : Nat
  step : Nat
  acc : Acc
  reset : Nat
  mask : Nat
  ranges : List (Nat × Nat × Nat × Nat)
  deriving DecidableEq, Repr

/-- The kind of a page slot and its instance; `none` for an unpopulated slot (R44). -/
def pageKind (p : Nat) : Option (PageKind × Nat) :=
  if p = 0 then some (.dev, 0)
  else if p = 1 then some (.boot, 0)
  else if p = 2 then some (.starter, 0)
  else if p = 3 then some (.pfc, 0)
  else if 4 ≤ p ∧ p ≤ 6 then some (.lane, p - 4)
  else if p = 7 then some (.xchg, 0)
  else if 8 ≤ p ∧ p ≤ 10 then some (.mem, p - 8)
  else if p = 11 then some (.memx, 0)
  else if p = 12 then some (.exec, 0)
  else if p = 13 then some (.swap, 0)
  else if p = 14 then some (.debug, 0)
  else if p = 15 then some (.baton, 0)
  else if 16 ≤ p ∧ p ≤ 17 then some (.grd, p - 16)
  else if p = 18 then some (.grds, 0)
  else if p = 19 then some (.pacer, 0)
  else if p = 20 then some (.grdmb, 0)
  else if p = 24 then some (.time, 0)
  else if p = 25 then some (.tcap, 0)
  else if 32 ≤ p ∧ p ≤ 39 then some (.can, p - 32)
  else if p = 40 then some (.relay, 0)
  else if 41 ≤ p ∧ p ≤ 42 then some (.eth, p - 41)
  else if 48 ≤ p ∧ p ≤ 51 then some (.fld, p - 48)
  else if 52 ≤ p ∧ p ≤ 55 then some (.fdg, p - 52)
  else if p = 56 then some (.measa, 0)
  else if p = 57 then some (.measf, 0)
  else if p = 64 then some (.safe, 0)
  else if p = 65 then some (.sbo, 0)
  else if p = 66 then some (.disc, 0)
  else if p = 67 then some (.smsg, 0)
  else if p = 72 then some (.part, 0)
  else if p = 73 then some (.health, 0)
  else if p = 80 then some (.host, 0)
  else if p = 81 then some (.pcie, 0)
  else if p = 82 then some (.shp, 0)
  else if p = 88 then some (.upd, 0)
  else if p = 89 then some (.crypt, 0)
  else if p = 96 then some (.recorder, 0)
  else if p = 97 then some (.env, 0)
  else if 0xF0 ≤ p ∧ p ≤ 0xFC then some (.tst, p - 0xF0)
  else none

/-! ### Page bases -/

/-- DEV, page 0x00. -/
abbrev P.DEV : Nat := 0x0
/-- BOOT, page 0x01. -/
abbrev P.BOOT : Nat := 0x1
/-- STARTER, page 0x02. -/
abbrev P.STARTER : Nat := 0x2
/-- PFC, page 0x03. -/
abbrev P.PFC : Nat := 0x3
/-- LANE: the first of 3 pages, 0x04. -/
abbrev P.LANE : Nat := 0x4
/-- XCHG, page 0x07. -/
abbrev P.XCHG : Nat := 0x7
/-- MEM: the first of 3 pages, 0x08. -/
abbrev P.MEM : Nat := 0x8
/-- MEMX, page 0x0b. -/
abbrev P.MEMX : Nat := 0xb
/-- EXEC, page 0x0c. -/
abbrev P.EXEC : Nat := 0xc
/-- SWAP, page 0x0d. -/
abbrev P.SWAP : Nat := 0xd
/-- DEBUG, page 0x0e. -/
abbrev P.DEBUG : Nat := 0xe
/-- BATON, page 0x0f. -/
abbrev P.BATON : Nat := 0xf
/-- GRD: the first of 2 pages, 0x10. -/
abbrev P.GRD : Nat := 0x10
/-- GRDS, page 0x12. -/
abbrev P.GRDS : Nat := 0x12
/-- PACER, page 0x13. -/
abbrev P.PACER : Nat := 0x13
/-- GRDMB, page 0x14. -/
abbrev P.GRDMB : Nat := 0x14
/-- TIME, page 0x18. -/
abbrev P.TIME : Nat := 0x18
/-- TCAP, page 0x19. -/
abbrev P.TCAP : Nat := 0x19
/-- CAN: the first of 8 pages, 0x20. -/
abbrev P.CAN : Nat := 0x20
/-- RELAY, page 0x28. -/
abbrev P.RELAY : Nat := 0x28
/-- ETH: the first of 2 pages, 0x29. -/
abbrev P.ETH : Nat := 0x29
/-- FLD: the first of 4 pages, 0x30. -/
abbrev P.FLD : Nat := 0x30
/-- FDG: the first of 4 pages, 0x34. -/
abbrev P.FDG : Nat := 0x34
/-- MEASA, page 0x38. -/
abbrev P.MEASA : Nat := 0x38
/-- MEASF, page 0x39. -/
abbrev P.MEASF : Nat := 0x39
/-- SAFE, page 0x40. -/
abbrev P.SAFE : Nat := 0x40
/-- SBO, page 0x41. -/
abbrev P.SBO : Nat := 0x41
/-- DISC, page 0x42. -/
abbrev P.DISC : Nat := 0x42
/-- SMSG, page 0x43. -/
abbrev P.SMSG : Nat := 0x43
/-- PART, page 0x48. -/
abbrev P.PART : Nat := 0x48
/-- HEALTH, page 0x49. -/
abbrev P.HEALTH : Nat := 0x49
/-- HOST, page 0x50. -/
abbrev P.HOST : Nat := 0x50
/-- PCIE, page 0x51. -/
abbrev P.PCIE : Nat := 0x51
/-- SHP, page 0x52. -/
abbrev P.SHP : Nat := 0x52
/-- UPD, page 0x58. -/
abbrev P.UPD : Nat := 0x58
/-- CRYPT, page 0x59. -/
abbrev P.CRYPT : Nat := 0x59
/-- REC, page 0x60. -/
abbrev P.REC : Nat := 0x60
/-- ENV, page 0x61. -/
abbrev P.ENV : Nat := 0x61

/-! ### Header offsets (R49) -/

abbrev H.ID : Nat := 0x0
abbrev H.VER : Nat := 0x4
abbrev H.CAP : Nat := 0x8
abbrev H.CTRL : Nat := 0xc
abbrev H.STAT : Nat := 0x10
abbrev H.CMD : Nat := 0x14
abbrev H.CMDSTAT : Nat := 0x18
abbrev H.RESET : Nat := 0x1c
abbrev H.IRQ_RAW : Nat := 0x20
abbrev H.IRQ_EN : Nat := 0x24
abbrev H.IRQ_PEND : Nat := 0x28
abbrev H.ERRCNT : Nat := 0x2c
abbrev H.ERRFIRST : Nat := 0x30
abbrev H.ERRLAST : Nat := 0x34
abbrev H.OWNER : Nat := 0x38
abbrev H.PARITY : Nat := 0x3c

/-! ### Function registers -/

abbrev R.DEV_IRQ_SUM : Nat := 0x40
abbrev R.DEV_ID : Nat := 0x60
abbrev R.DEV_ORDER : Nat := 0x64
abbrev R.DEV_REVISION : Nat := 0x68
abbrev R.DEV_F1_REV : Nat := 0x6c
abbrev R.DEV_UID_LO : Nat := 0x70
abbrev R.DEV_UID_HI : Nat := 0x74
abbrev R.DEV_PAGES : Nat := 0x78
abbrev R.DEV_STAT : Nat := 0x7c
abbrev R.DEV_PAGE_ID : Nat := 0x100
abbrev R.DEV_PAGE_VER : Nat := 0x500
abbrev R.DEV_PAGE_SUM : Nat := 0x900
abbrev R.BOOT_CFG : Nat := 0x1040
abbrev R.BOOT_STAT : Nat := 0x1044
abbrev R.BOOT_TIME_US : Nat := 0x1048
abbrev R.BOOT_STAGE_US : Nat := 0x104c
abbrev R.BOOT_CNT : Nat := 0x106c
abbrev R.BOOT_FAIL_BOOT_CNT : Nat := 0x1070
abbrev R.BOOT_FUSE_STAT : Nat := 0x1074
abbrev R.BOOT_UID_LO : Nat := 0x1078
abbrev R.BOOT_UID_HI : Nat := 0x107c
abbrev R.BOOT_CFG_CRC : Nat := 0x1080
abbrev R.BOOT_CFG_FAIL : Nat := 0x1084
abbrev R.BOOT_SLOT_STAT : Nat := 0x1088
abbrev R.BOOT_SLOT_ID_LO : Nat := 0x10a0
abbrev R.BOOT_SLOT_ID_HI : Nat := 0x10a4
abbrev R.STARTER_STRIDE_LEN : Nat := 0x2040
abbrev R.STARTER_STRIDE_PHASE : Nat := 0x2044
abbrev R.STARTER_TICK : Nat := 0x2048
abbrev R.STARTER_TICK_HI : Nat := 0x204c
abbrev R.STARTER_BOUND_TICK : Nat := 0x2050
abbrev R.STARTER_STRIDE_NO_LO : Nat := 0x2054
abbrev R.STARTER_STRIDE_NO_HI : Nat := 0x2058
abbrev R.STARTER_OVR_STAT : Nat := 0x205c
abbrev R.STARTER_OVR_CNT : Nat := 0x2060
abbrev R.STARTER_OVR_LAST_TICK : Nat := 0x2064
abbrev R.STARTER_OVR_LAST_TASKS : Nat := 0x2068
abbrev R.STARTER_STRETCH_CNT : Nat := 0x206c
abbrev R.STARTER_EVT_STAT : Nat := 0x2070
abbrev R.STARTER_EVT_DROP_CNT : Nat := 0x2074
abbrev R.STARTER_CYC_LAST : Nat := 0x2078
abbrev R.STARTER_CYC_MAX : Nat := 0x207c
abbrev R.STARTER_SNAP_TICK : Nat := 0x2080
abbrev R.STARTER_SNAP_TICK_HI : Nat := 0x2084
abbrev R.PFC_LANE_MAP : Nat := 0x3040
abbrev R.PFC_MISM_CNT_A : Nat := 0x3044
abbrev R.PFC_MISM_CNT_B : Nat := 0x3048
abbrev R.PFC_MISM_CNT_C : Nat := 0x304c
abbrev R.PFC_VOTER_DIS_CNT : Nat := 0x3050
abbrev R.PFC_DUAL_MISM_CNT : Nat := 0x3054
abbrev R.PFC_DLY_PAR_CNT : Nat := 0x3058
abbrev R.PFC_LAST_TICK_LO : Nat := 0x305c
abbrev R.PFC_LAST_TICK_HI : Nat := 0x3060
abbrev R.PFC_LAST_INFO : Nat := 0x3064
abbrev R.PFC_LAST_ADDR : Nat := 0x3068
abbrev R.PFC_LAST_DATA_LO : Nat := 0x306c
abbrev R.PFC_LAST_DATA_HI : Nat := 0x3070
abbrev R.PFC_LAST_DIFF : Nat := 0x3074
abbrev R.PFC_INJ_STAT : Nat := 0x3084
abbrev R.PFC_INJ_TICK_LO : Nat := 0x3088
abbrev R.PFC_INJ_TICK_HI : Nat := 0x308c
abbrev R.PFC_INJ_AGE_S : Nat := 0x3090
abbrev R.PFC_INJ_AGE_LIMIT : Nat := 0x3094
abbrev R.PFC_SAFE_OFF_STAT : Nat := 0x3098
abbrev R.PFC_CHK_STAT : Nat := 0x309c
abbrev R.PFC_MISM_TICK : Nat := 0x30a0
abbrev R.PFC_MISM_INFO : Nat := 0x30a4
abbrev R.PFC_MISM_ADDR : Nat := 0x30a8
abbrev R.PFC_MISM_BITS : Nat := 0x30ac
abbrev R.LANE_CFG : Nat := 0x40
abbrev R.LANE_STATE : Nat := 0x44
abbrev R.LANE_STAGGER : Nat := 0x48
abbrev R.LANE_ATTR_CNT : Nat := 0x4c
abbrev R.LANE_ATTR_WIN : Nat := 0x50
abbrev R.LANE_ATTR_TICK_LO : Nat := 0x54
abbrev R.LANE_ATTR_TICK_HI : Nat := 0x58
abbrev R.LANE_RESYNC_CNT : Nat := 0x6c
abbrev R.LANE_RESYNC_STAT : Nat := 0x70
abbrev R.LANE_RESYNC_DIRTY : Nat := 0x74
abbrev R.LANE_RESYNC_START_LO : Nat := 0x78
abbrev R.LANE_RESYNC_START_HI : Nat := 0x7c
abbrev R.LANE_RESYNC_LAST_STRIDES : Nat := 0x80
abbrev R.LANE_FINAL_LAST_CYC : Nat := 0x84
abbrev R.LANE_FINAL_MAX_CYC : Nat := 0x88
abbrev R.LANE_FINAL_LIMIT_CYC : Nat := 0x8c
abbrev R.LANE_CLONE_BYTES_LO : Nat := 0x90
abbrev R.LANE_CLONE_BYTES_HI : Nat := 0x94
abbrev R.LANE_SECDED_DBL_CNT : Nat := 0x98
abbrev R.LANE_BEAT_MISS_CNT : Nat := 0x9c
abbrev R.LANE_RX_FAULT_CNT : Nat := 0xa0
abbrev R.LANE_SUP_STAT : Nat := 0xa4
abbrev R.LANE_ENGINE_STAT : Nat := 0xa8
abbrev R.LANE_CYC_CNT_LO : Nat := 0xac
abbrev R.LANE_CYC_CNT_HI : Nat := 0xb0
abbrev R.LANE_RETIRE_TICK_LO : Nat := 0xb4
abbrev R.LANE_RETIRE_TICK_HI : Nat := 0xb8
abbrev R.LANE_RETIRE_CAUSE : Nat := 0xbc
abbrev R.LANE_CAUSE_TICK : Nat := 0xc0
abbrev R.LANE_CAUSE_INFO : Nat := 0xc4
abbrev R.XCHG_CFG : Nat := 0x7040
abbrev R.XCHG_STAT : Nat := 0x7044
abbrev R.XCHG_DIS_CNT : Nat := 0x7048
abbrev R.XCHG_DIS2_CNT : Nat := 0x705c
abbrev R.XCHG_INVAL_CNT : Nat := 0x7070
abbrev R.XCHG_ODD_CNT : Nat := 0x7084
abbrev R.XCHG_RXCRC_CNT : Nat := 0x7090
abbrev R.XCHG_RING_ERR : Nat := 0x709c
abbrev R.XCHG_LATE_CNT : Nat := 0x70b4
abbrev R.XCHG_LAST_DIS_TICK : Nat := 0x70b8
abbrev R.XCHG_LAST_DIS_INFO : Nat := 0x70bc
abbrev R.XCHG_MARGIN_MIN_NS : Nat := 0x70c0
abbrev R.XCHG_MARGIN_LAST_NS : Nat := 0x70c4
abbrev R.XCHG_SRC_STAT : Nat := 0x70c8
abbrev R.XCHG_DISC_AGREED : Nat := 0x70dc
abbrev R.MEM_CFG : Nat := 0x40
abbrev R.MEM_STAT : Nat := 0x44
abbrev R.MEM_SBE_CNT : Nat := 0x48
abbrev R.MEM_DBE_CNT : Nat := 0x4c
abbrev R.MEM_SBE_LAST_ADDR : Nat := 0x50
abbrev R.MEM_SBE_LAST_INFO : Nat := 0x54
abbrev R.MEM_DBE_LAST_ADDR : Nat := 0x58
abbrev R.MEM_DBE_LAST_INFO : Nat := 0x5c
abbrev R.MEM_SCRUB_PASS_CNT : Nat := 0x60
abbrev R.MEM_SCRUB_POS : Nat := 0x64
abbrev R.MEM_BDIRTY_CNT : Nat := 0x68
abbrev R.MEM_BDIRTY_MAX : Nat := 0x6c
abbrev R.MEM_CDIRTY_CNT : Nat := 0x70
abbrev R.MEM_COW_LAST : Nat := 0x74
abbrev R.MEM_COW_MAX : Nat := 0x78
abbrev R.MEM_MARCH_CFG : Nat := 0x7c
abbrev R.MEM_MARCH_STAT : Nat := 0x80
abbrev R.MEM_MARCH_FAIL_ADDR : Nat := 0x84
abbrev R.MEM_MARCH_FAIL_XOR_LO : Nat := 0x88
abbrev R.MEM_MARCH_FAIL_XOR_HI : Nat := 0x8c
abbrev R.MEM_MARCH_FAIL_CHK : Nat := 0x90
abbrev R.MEM_MARCH_TIME_US : Nat := 0x94
abbrev R.MEM_ATOM_CNT : Nat := 0x98
abbrev R.MEM_WAIT_MAX : Nat := 0x9c
abbrev R.MEM_SBE_BANK : Nat := 0xa0
abbrev R.MEMX_ATOM_CNT : Nat := 0xb098
abbrev R.MEMX_ATOM_ADDR : Nat := 0xb068
abbrev R.MEMX_ATOM_OPND_LO : Nat := 0xb06c
abbrev R.MEMX_ATOM_OPND_HI : Nat := 0xb070
abbrev R.MEMX_ATOM_OLD_LO : Nat := 0xb074
abbrev R.MEMX_ATOM_OLD_HI : Nat := 0xb078
abbrev R.EXEC_CFG : Nat := 0xc040
abbrev R.EXEC_MODE : Nat := 0xc044
abbrev R.EXEC_PROG_ID_LO : Nat := 0xc048
abbrev R.EXEC_PROG_ID_HI : Nat := 0xc04c
abbrev R.EXEC_PROG_INFO : Nat := 0xc050
abbrev R.EXEC_INST_COUNT : Nat := 0xc054
abbrev R.EXEC_CODE_BYTES : Nat := 0xc058
abbrev R.EXEC_DATA_BYTES : Nat := 0xc05c
abbrev R.EXEC_ADM_STAT : Nat := 0xc060
abbrev R.EXEC_ADM_FAIL_ADDR : Nat := 0xc064
abbrev R.EXEC_ADM_STRIDE_US : Nat := 0xc068
abbrev R.EXEC_ADM_BUDGET : Nat := 0xc06c
abbrev R.EXEC_ADM_WORST : Nat := 0xc070
abbrev R.EXEC_ADM_WORST_IDX : Nat := 0xc074
abbrev R.EXEC_PTIME_LO : Nat := 0xc078
abbrev R.EXEC_PTIME_HI : Nat := 0xc07c
abbrev R.EXEC_PSTRIDE_LO : Nat := 0xc080
abbrev R.EXEC_PSTRIDE_HI : Nat := 0xc084
abbrev R.EXEC_TRAP_INFO : Nat := 0xc088
abbrev R.EXEC_TRAP_ADDR : Nat := 0xc08c
abbrev R.EXEC_TRAP_CNT : Nat := 0xc090
abbrev R.EXEC_TASK_CFG : Nat := 0xc0c0
abbrev R.EXEC_TASK_WCET : Nat := 0xc100
abbrev R.EXEC_TASK_LAST : Nat := 0xc140
abbrev R.EXEC_TASK_MAX : Nat := 0xc180
abbrev R.EXEC_TASK_RUNS : Nat := 0xc1c0
abbrev R.SWAP_CONFIRM_WIN : Nat := 0xd040
abbrev R.SWAP_STAT : Nat := 0xd044
abbrev R.SWAP_AT_LO : Nat := 0xd048
abbrev R.SWAP_AT_HI : Nat := 0xd04c
abbrev R.SWAP_MIG_CYC : Nat := 0xd050
abbrev R.SWAP_MIG_REV_CYC : Nat := 0xd054
abbrev R.SWAP_MIG_LIMIT : Nat := 0xd058
abbrev R.SWAP_MAP_ENTRIES : Nat := 0xd05c
abbrev R.SWAP_MAP_RUNS : Nat := 0xd060
abbrev R.SWAP_MAP_WORDS : Nat := 0xd064
abbrev R.SWAP_NEW_PROG_ID_LO : Nat := 0xd068
abbrev R.SWAP_NEW_PROG_ID_HI : Nat := 0xd06c
abbrev R.SWAP_TRIAL_LEFT : Nat := 0xd070
abbrev R.SWAP_EXCH_PSTRIDE_LO : Nat := 0xd074
abbrev R.SWAP_EXCH_PSTRIDE_HI : Nat := 0xd078
abbrev R.SWAP_EXCH_CNT : Nat := 0xd07c
abbrev R.SWAP_REVERT_CNT : Nat := 0xd080
abbrev R.SWAP_TOUT_CANCEL : Nat := 0xd084
abbrev R.SWAP_STAGE_FAIL : Nat := 0xd088
abbrev R.DEBUG_DBG_STAT : Nat := 0xe040
abbrev R.DEBUG_HOLD_TICK : Nat := 0xe044
abbrev R.DEBUG_STEP_CNT : Nat := 0xe048
abbrev R.DEBUG_BP_SKIP_CNT : Nat := 0xe04c
abbrev R.DEBUG_BP_HIT_ADDR : Nat := 0xe050
abbrev R.DEBUG_BP : Nat := 0xe060
abbrev R.DEBUG_FORCE_TGT : Nat := 0xe080
abbrev R.DEBUG_FORCE_VAL_LO : Nat := 0xe084
abbrev R.DEBUG_FORCE_VAL_HI : Nat := 0xe088
abbrev R.DEBUG_FORCE_RSV : Nat := 0xe08c
abbrev R.BATON_CFG : Nat := 0xf040
abbrev R.BATON_STAT : Nat := 0xf044
abbrev R.BATON_COMMIT_SEQ_LO : Nat := 0xf048
abbrev R.BATON_COMMIT_SEQ_HI : Nat := 0xf04c
abbrev R.BATON_COMMIT_PSTRIDE_LO : Nat := 0xf050
abbrev R.BATON_COMMIT_PSTRIDE_HI : Nat := 0xf054
abbrev R.BATON_LAG : Nat := 0xf058
abbrev R.BATON_SET_LINES_LAST : Nat := 0xf05c
abbrev R.BATON_SET_LINES_MAX : Nat := 0xf060
abbrev R.BATON_COALESCE_CNT : Nat := 0xf064
abbrev R.BATON_OVERSIZE_CNT : Nat := 0xf068
abbrev R.BATON_RING_HEAD : Nat := 0xf06c
abbrev R.BATON_RING_START : Nat := 0xf070
abbrev R.BATON_RING_WRAPS : Nat := 0xf074
abbrev R.BATON_SWEEP_CNT : Nat := 0xf078
abbrev R.BATON_SWEEP_POS : Nat := 0xf07c
abbrev R.BATON_MIRROR_ERR_CNT : Nat := 0xf080
abbrev R.BATON_RESTORE_STAT : Nat := 0xf084
abbrev R.BATON_RESTORE_US : Nat := 0xf088
abbrev R.BATON_RESTORE_ADV_LO : Nat := 0xf08c
abbrev R.BATON_RESTORE_ADV_HI : Nat := 0xf090
abbrev R.BATON_PFAIL_CNT : Nat := 0xf094
abbrev R.BATON_FLUSH_US_MAX : Nat := 0xf098
abbrev R.GRD_CH_CFG : Nat := 0x40
abbrev R.GRD_CH_STAT : Nat := 0x44
abbrev R.GRD_RX_OK_CNT : Nat := 0x48
abbrev R.GRD_RX_SILENT_CNT : Nat := 0x4c
abbrev R.GRD_RX_FCS_CNT : Nat := 0x50
abbrev R.GRD_RX_FORMAT_CNT : Nat := 0x54
abbrev R.GRD_RX_BOUNDARY_CNT : Nat := 0x58
abbrev R.GRD_RX_VERSION_CNT : Nat := 0x5c
abbrev R.GRD_RX_SCHED_CNT : Nat := 0x60
abbrev R.GRD_RX_CYCERR_CNT : Nat := 0x64
abbrev R.GRD_RX_SENDER_CNT : Nat := 0x68
abbrev R.GRD_RX_UNCLAIMED_CNT : Nat := 0x6c
abbrev R.GRD_RX_COLL_CNT : Nat := 0x70
abbrev R.GRD_TX_OK_CNT : Nat := 0x74
abbrev R.GRD_TX_AGED_CNT : Nat := 0x78
abbrev R.GRD_TX_CUT_CNT : Nat := 0x7c
abbrev R.GRD_LINK_DOWN_CNT : Nat := 0x80
abbrev R.GRD_LAST_ERR_CYCLE : Nat := 0x84
abbrev R.GRD_LAST_ERR_INFO : Nat := 0x88
abbrev R.GRDS_NODE_CFG : Nat := 0x12040
abbrev R.GRDS_CYCLE_CFG : Nat := 0x12044
abbrev R.GRDS_SLOT_CFG : Nat := 0x12048
abbrev R.GRDS_NET_CFG : Nat := 0x1204c
abbrev R.GRDS_SCHED_ID : Nat := 0x12050
abbrev R.GRDS_NODE_STAT : Nat := 0x12054
abbrev R.GRDS_CYCLE_NOW : Nat := 0x12058
abbrev R.GRDS_SCHED_ERR : Nat := 0x1205c
abbrev R.GRDS_FALSE_START_CNT : Nat := 0x12060
abbrev R.GRDS_COLD_RETRY_CNT : Nat := 0x12064
abbrev R.GRDS_INTEG_CNT : Nat := 0x12068
abbrev R.GRDS_INTEG_FAIL_CNT : Nat := 0x1206c
abbrev R.GRDS_SYNC_LOST_CNT : Nat := 0x12070
abbrev R.GRDS_CLAIM_REQ : Nat := 0x12074
abbrev R.GRDS_CLAIM_STAT : Nat := 0x12078
abbrev R.GRDS_OWN_CLAIM : Nat := 0x1207c
abbrev R.GRDS_CLAIM_KNOWN : Nat := 0x1208c
abbrev R.GRDS_ABSENT_NOW : Nat := 0x12090
abbrev R.GRDS_ABSENT_CNT : Nat := 0x12094
abbrev R.GRDS_ABSENT_MAP : Nat := 0x12100
abbrev R.PACER_CFG : Nat := 0x13040
abbrev R.PACER_WIN_CFG : Nat := 0x13044
abbrev R.PACER_NET_DLY : Nat := 0x13048
abbrev R.PACER_LINK_DFLT : Nat := 0x1304c
abbrev R.PACER_STAT : Nat := 0x13050
abbrev R.PACER_OFFSET_LAST : Nat := 0x13054
abbrev R.PACER_OFFSET_MAX : Nat := 0x13058
abbrev R.PACER_RATE_PPB : Nat := 0x1305c
abbrev R.PACER_RATE_STEP_LAST : Nat := 0x13060
abbrev R.PACER_CALC_CYCLE : Nat := 0x13064
abbrev R.PACER_LINK_DLY_A : Nat := 0x13068
abbrev R.PACER_LINK_DLY_B : Nat := 0x1306c
abbrev R.PACER_LOST_OFS_CNT : Nat := 0x13070
abbrev R.PACER_LOST_RATE_CNT : Nat := 0x13074
abbrev R.PACER_LOST_NOSYNC_CNT : Nat := 0x13078
abbrev R.PACER_SYNC_REJ_CNT : Nat := 0x1307c
abbrev R.PACER_PROBE_CNT : Nat := 0x13080
abbrev R.PACER_PROBE_FAIL_CNT : Nat := 0x13084
abbrev R.PACER_DEV_LOG : Nat := 0x13100
abbrev R.GRDMB_MB_SEL : Nat := 0x14040
abbrev R.GRDMB_MB_ENTRY : Nat := 0x14044
abbrev R.GRDMB_MB_STAT : Nat := 0x14048
abbrev R.GRDMB_MB_OK_CNT : Nat := 0x1404c
abbrev R.GRDMB_MB_ERR_CNT : Nat := 0x14050
abbrev R.GRDMB_MB_LAST_OK : Nat := 0x14054
abbrev R.GRDMB_RX_BUF_CNT : Nat := 0x14058
abbrev R.GRDMB_TX_BUF_CNT : Nat := 0x1405c
abbrev R.GRDMB_TX_LEN_CNT : Nat := 0x14060
abbrev R.GRDMB_RX_NEW : Nat := 0x14100
abbrev R.GRDMB_ERR_MAP : Nat := 0x14300
abbrev R.TIME_CFG : Nat := 0x18040
abbrev R.TIME_JUMP_LIMIT : Nat := 0x18044
abbrev R.TIME_SLEW_LIMIT : Nat := 0x18048
abbrev R.TIME_HOLDOVER : Nat := 0x1804c
abbrev R.TIME_INCREMENT : Nat := 0x18050
abbrev R.TIME_TT_NS : Nat := 0x18054
abbrev R.TIME_TT_SEC_LO : Nat := 0x18058
abbrev R.TIME_TT_SEC_HI : Nat := 0x1805c
abbrev R.TIME_SNAP_SEC_LO : Nat := 0x18060
abbrev R.TIME_SNAP_SEC_HI : Nat := 0x18064
abbrev R.TIME_SNAP_NS : Nat := 0x18068
abbrev R.TIME_SNAP_TICK : Nat := 0x1806c
abbrev R.TIME_STAT : Nat := 0x18070
abbrev R.TIME_PHASE_ERR : Nat := 0x18074
abbrev R.TIME_TAI_UTC : Nat := 0x18078
abbrev R.TIME_ADJ_SEC_LO : Nat := 0x1807c
abbrev R.TIME_ADJ_SEC_HI : Nat := 0x18080
abbrev R.TIME_ADJ_NS : Nat := 0x18084
abbrev R.TIME_JUMP_REQ_LO : Nat := 0x18088
abbrev R.TIME_JUMP_REQ_HI : Nat := 0x1808c
abbrev R.TIME_STEP_CNT : Nat := 0x18090
abbrev R.TIME_JUMP_REF_CNT : Nat := 0x18094
abbrev R.TIME_REF_CHG_CNT : Nat := 0x18098
abbrev R.TIME_REF_LOSS_CNT : Nat := 0x1809c
abbrev R.TCAP_CMP_ARMED : Nat := 0x19040
abbrev R.TCAP_TOUT_PEND : Nat := 0x19044
abbrev R.TCAP_CMP_FIRE_CNT : Nat := 0x19048
abbrev R.TCAP_TOUT_SWITCH_CNT : Nat := 0x1904c
abbrev R.TCAP_TOUT_LATE_CNT : Nat := 0x19050
abbrev R.TCAP_TOUT_CANCEL_CNT : Nat := 0x19054
abbrev R.TCAP_STEPPED_OVER_CNT : Nat := 0x19058
abbrev R.TCAP_CAP_CFG : Nat := 0x19100
abbrev R.TCAP_CAP_CNT : Nat := 0x19180
abbrev R.TCAP_CMP_CFG : Nat := 0x19200
abbrev R.TCAP_CMP_TIME_LO : Nat := 0x19204
abbrev R.TCAP_CMP_TIME_HI : Nat := 0x19208
abbrev R.TCAP_CMP_PERIOD_NS : Nat := 0x1920c
abbrev R.TCAP_TOUT_CFG : Nat := 0x19400
abbrev R.TCAP_TOUT_STAT : Nat := 0x19480
abbrev R.CAN_CFG : Nat := 0x40
abbrev R.CAN_NBT : Nat := 0x44
abbrev R.CAN_DBT : Nat := 0x48
abbrev R.CAN_STAT : Nat := 0x4c
abbrev R.CAN_LAST_ERR : Nat := 0x50
abbrev R.CAN_RX_OK_CNT : Nat := 0x54
abbrev R.CAN_RX_ERR_CNT : Nat := 0x58
abbrev R.CAN_RX_OVF_CNT : Nat := 0x5c
abbrev R.CAN_RX_NOMATCH_CNT : Nat := 0x60
abbrev R.CAN_TX_OK_CNT : Nat := 0x64
abbrev R.CAN_TX_RETRY_CNT : Nat := 0x68
abbrev R.CAN_TX_DISCARD_CNT : Nat := 0x6c
abbrev R.CAN_BUSOFF_CNT : Nat := 0x70
abbrev R.CAN_RXF_STAT : Nat := 0x74
abbrev R.CAN_RXF_HEAD_ADDR : Nat := 0x78
abbrev R.CAN_RXF_DATA : Nat := 0x7c
abbrev R.CAN_TXF_STAT : Nat := 0x80
abbrev R.CAN_TB_STAT : Nat := 0x84
abbrev R.CAN_TB_TS_LO : Nat := 0x90
abbrev R.CAN_TB_TS_HI : Nat := 0x94
abbrev R.CAN_TX_STAGE : Nat := 0xa8
abbrev R.CAN_FILT_ID : Nat := 0x100
abbrev R.CAN_FILT_MASK : Nat := 0x104
abbrev R.RELAY_CFG : Nat := 0x28040
abbrev R.RELAY_UDP : Nat := 0x28044
abbrev R.RELAY_PEER_IP0 : Nat := 0x28048
abbrev R.RELAY_PEER_IP1 : Nat := 0x2804c
abbrev R.RELAY_STAT : Nat := 0x28050
abbrev R.RELAY_ROUTES_EN : Nat := 0x28054
abbrev R.RELAY_ROUTE_ERR : Nat := 0x28058
abbrev R.RELAY_RELAYED_CNT : Nat := 0x2805c
abbrev R.RELAY_SIZE_REJ_CNT : Nat := 0x28060
abbrev R.RELAY_SWAP_REJ_CNT : Nat := 0x28064
abbrev R.RELAY_NOROUTE_CNT : Nat := 0x28068
abbrev R.RELAY_DROP_FULL_CNT : Nat := 0x2806c
abbrev R.RELAY_OVERWRITE_CNT : Nat := 0x28070
abbrev R.RELAY_ING_LEN_CNT : Nat := 0x28074
abbrev R.RELAY_BACKOFF_CNT : Nat := 0x28078
abbrev R.RELAY_EVT_CNT : Nat := 0x2807c
abbrev R.RELAY_EVT_NOROUTE_CNT : Nat := 0x28080
abbrev R.RELAY_LAST_DROP_INFO : Nat := 0x28084
abbrev R.RELAY_LAST_DROP_ROUTE : Nat := 0x28088
abbrev R.RELAY_LAST_DROP_ID : Nat := 0x2808c
abbrev R.RELAY_PORT_CFG : Nat := 0x280c0
abbrev R.RELAY_PORT_STAT : Nat := 0x28140
abbrev R.ETH_CFG : Nat := 0x40
abbrev R.ETH_IP_ADDR : Nat := 0x44
abbrev R.ETH_IP_MASK : Nat := 0x48
abbrev R.ETH_GATEWAY : Nat := 0x4c
abbrev R.ETH_MAC_LO : Nat := 0x50
abbrev R.ETH_MAC_HI : Nat := 0x54
abbrev R.ETH_STAT : Nat := 0x58
abbrev R.ETH_RX_FRM_CNT : Nat := 0x5c
abbrev R.ETH_TX_FRM_CNT : Nat := 0x60
abbrev R.ETH_RX_DROP_CNT : Nat := 0x64
abbrev R.ETH_LINK_DOWN_CNT : Nat := 0x68
abbrev R.FLD_CFG : Nat := 0x40
abbrev R.FLD_STAT : Nat := 0x44
abbrev R.FLD_LINK_STAT : Nat := 0x48
abbrev R.FLD_DI_LEVEL : Nat := 0x4c
abbrev R.FLD_DO_STATE : Nat := 0x50
abbrev R.FLD_SBO_STAT : Nat := 0x54
abbrev R.FLD_SAFEOFF_STAT : Nat := 0x58
abbrev R.FLD_DN_BAD_CNT : Nat := 0x5c
abbrev R.FLD_UP_BAD_CNT : Nat := 0x60
abbrev R.FLD_FAILSAFE_CNT : Nat := 0x64
abbrev R.FLD_EDGE_LOST_CNT : Nat := 0x68
abbrev R.FLD_CUT_CNT : Nat := 0x6c
abbrev R.FLD_FS_TICK_LO : Nat := 0x70
abbrev R.FLD_FS_TICK_HI : Nat := 0x74
abbrev R.FLD_DN_REPAIR_CNT : Nat := 0x78
abbrev R.FLD_CFG_CRC : Nat := 0x7c
abbrev R.FLD_DI_CFG : Nat := 0x80
abbrev R.FLD_DO_CFG : Nat := 0xc0
abbrev R.FLD_SBO_CFG : Nat := 0xe0
abbrev R.FLD_CUT_TERM : Nat := 0xe4
abbrev R.FLD_TEV_LATE_CNT : Nat := 0xf4
abbrev R.FLD_SAFEOFF_CNT : Nat := 0xf8
abbrev R.FLD_DI_EDGE_CNT : Nat := 0x100
abbrev R.FLD_DO_OVL_CNT : Nat := 0x140
abbrev R.FLD_DO_OPEN_CNT : Nat := 0x160
abbrev R.FDG_ROT_STAT : Nat := 0x40
abbrev R.FDG_ROT_PASS_CNT : Nat := 0x44
abbrev R.FDG_DIAG_HELD_CNT : Nat := 0x48
abbrev R.FDG_F1_ID : Nat := 0x4c
abbrev R.FDG_TEMP_NOW : Nat := 0x50
abbrev R.FDG_TEMP_MAX : Nat := 0x54
abbrev R.FDG_TEMP_MIN : Nat := 0x58
abbrev R.FDG_VF_MIN : Nat := 0x5c
abbrev R.FDG_VF_MAX : Nat := 0x60
abbrev R.FDG_THERM_CNT : Nat := 0x64
abbrev R.FDG_DI_OW_MAP : Nat := 0x68
abbrev R.FDG_DO_FAULT_MAP : Nat := 0x6c
abbrev R.FDG_SBO_DIAG : Nat := 0x70
abbrev R.FDG_VALVE_MA : Nat := 0x74
abbrev R.FDG_VALVE_MA_MAX : Nat := 0x78
abbrev R.FDG_FAULT_SUM : Nat := 0x7c
abbrev R.FDG_DIAG : Nat := 0x100
abbrev R.MEASA_MEAS_CFG : Nat := 0x38040
abbrev R.MEASA_MEAS_STAT : Nat := 0x38044
abbrev R.MEASA_TRIG_IGN_CNT : Nat := 0x38048
abbrev R.MEASA_RANGE_CNT : Nat := 0x3804c
abbrev R.MEASA_SHUNT_CNT : Nat := 0x38050
abbrev R.MEASA_AI_CFG : Nat := 0x38100
abbrev R.MEASA_AI_TRIG : Nat := 0x38104
abbrev R.MEASA_AI_RLO : Nat := 0x38108
abbrev R.MEASA_AI_RHI : Nat := 0x3810c
abbrev R.MEASA_AI_THR_HI : Nat := 0x38110
abbrev R.MEASA_AI_THR_LO : Nat := 0x38114
abbrev R.MEASA_AI_LIM : Nat := 0x38118
abbrev R.MEASA_AI_STAT : Nat := 0x3811c
abbrev R.MEASA_AI_LAST : Nat := 0x38200
abbrev R.MEASA_AI_SMP_CNT : Nat := 0x38220
abbrev R.MEASF_STAT : Nat := 0x39040
abbrev R.MEASF_FAST_CNT : Nat := 0x39044
abbrev R.MEASF_FI_CFG : Nat := 0x39100
abbrev R.MEASF_FI_THR_HI : Nat := 0x39104
abbrev R.MEASF_FI_THR_LO : Nat := 0x39108
abbrev R.MEASF_FI_LIM : Nat := 0x3910c
abbrev R.MEASF_FI_STAT : Nat := 0x39110
abbrev R.MEASF_FI_LAST : Nat := 0x39114
abbrev R.MEASF_FI_PERIOD_NS : Nat := 0x39118
abbrev R.MEASF_FI_EDGE_CNT : Nat := 0x3911c
abbrev R.SAFE_STAT : Nat := 0x40040
abbrev R.SAFE_RESET_STAT : Nat := 0x40044
abbrev R.SAFE_PATH_DIS_CNT : Nat := 0x40048
abbrev R.SAFE_LOCK_CNT : Nat := 0x4004c
abbrev R.SAFE_REL_REFUSED_CNT : Nat := 0x40050
abbrev R.SAFE_SG_CFG : Nat := 0x40100
abbrev R.SAFE_SG_DO : Nat := 0x40104
abbrev R.SAFE_SG_STAT : Nat := 0x40108
abbrev R.SAFE_SG_CAUSE : Nat := 0x4010c
abbrev R.SAFE_LOCK_TICK_LO : Nat := 0x40110
abbrev R.SAFE_LOCK_TICK_HI : Nat := 0x40114
abbrev R.SAFE_SG_LOCK_CNT : Nat := 0x40118
abbrev R.SAFE_SG_RSV : Nat := 0x4011c
abbrev R.SBO_TEST_FAIL_CNT : Nat := 0x41040
abbrev R.SBO_MON_FAULT_CNT : Nat := 0x41044
abbrev R.SBO_SCFG : Nat := 0x41100
abbrev R.SBO_BT_CFG : Nat := 0x41104
abbrev R.SBO_SSTAT : Nat := 0x41108
abbrev R.SBO_TEST_AGE_S : Nat := 0x4110c
abbrev R.SBO_BT_AGE_S : Nat := 0x41110
abbrev R.SBO_BT_MA : Nat := 0x41114
abbrev R.SBO_TEST_CNT : Nat := 0x41118
abbrev R.SBO_TEST_ABORT_CNT : Nat := 0x4111c
abbrev R.DISC_PAIR_VAL : Nat := 0x42040
abbrev R.DISC_PAIR_FAULT : Nat := 0x42044
abbrev R.DISC_PAIR_RUN : Nat := 0x42048
abbrev R.DISC_FAULT_CNT : Nat := 0x4204c
abbrev R.DISC_LAST_FAULT_TICK : Nat := 0x42050
abbrev R.DISC_LAST_FAULT_PAIR : Nat := 0x42054
abbrev R.DISC_PAIR_CFG : Nat := 0x42100
abbrev R.DISC_PAIR_STAT : Nat := 0x42104
abbrev R.SMSG_CONN_SEL : Nat := 0x43040
abbrev R.SMSG_CONN_STAT : Nat := 0x43044
abbrev R.SMSG_CONN_LAST : Nat := 0x43048
abbrev R.SMSG_CONN_DUAL_CNT : Nat := 0x4304c
abbrev R.SMSG_CONN_SINGLE_CNT : Nat := 0x43050
abbrev R.SMSG_CONN_REJ_CNT : Nat := 0x43054
abbrev R.SMSG_CONN_TO_CNT : Nat := 0x43058
abbrev R.SMSG_ACC_DUAL_CNT : Nat := 0x43060
abbrev R.SMSG_ACC_SINGLE_CNT : Nat := 0x43064
abbrev R.SMSG_DIFF_CNT : Nat := 0x43068
abbrev R.SMSG_SINGLE_REJ_CNT : Nat := 0x4306c
abbrev R.SMSG_CRC_CNT : Nat := 0x43070
abbrev R.SMSG_ADDR_CNT : Nat := 0x43074
abbrev R.SMSG_SEQ_CNT : Nat := 0x43078
abbrev R.SMSG_TIME_CNT : Nat := 0x4307c
abbrev R.SMSG_TIMEOUT_CNT : Nat := 0x43080
abbrev R.SMSG_LAST_REJ_INFO : Nat := 0x43084
abbrev R.SMSG_CONN_ERR : Nat := 0x43088
abbrev R.SMSG_VALID_MAP : Nat := 0x43100
abbrev R.SMSG_SINGLE_MAP : Nat := 0x43120
abbrev R.PART_CFG : Nat := 0x48040
abbrev R.PART_MB : Nat := 0x48044
abbrev R.PART_STAT : Nat := 0x48048
abbrev R.PART_INCOMPAT : Nat := 0x4804c
abbrev R.PART_NOT_READY : Nat := 0x48050
abbrev R.PART_SYNC_PROGRESS : Nat := 0x48054
abbrev R.PART_BOTH_CLAIM_CNT : Nat := 0x48058
abbrev R.PART_TAKEOVER_CNT : Nat := 0x4805c
abbrev R.PART_WITHDRAW_CNT : Nat := 0x48060
abbrev R.PART_HB_MISS_CNT : Nat := 0x48064
abbrev R.PART_LINK_ERR_CNT : Nat := 0x48068
abbrev R.PART_TAKE_US_LAST : Nat := 0x4806c
abbrev R.PART_TAKE_US_MAX : Nat := 0x48070
abbrev R.PART_TAKE_TICK_LO : Nat := 0x48074
abbrev R.PART_TAKE_TICK_HI : Nat := 0x48078
abbrev R.PART_LOCK_MIRROR : Nat := 0x4807c
abbrev R.PART_PARTNER_UID_LO : Nat := 0x48080
abbrev R.PART_PARTNER_UID_HI : Nat := 0x48084
abbrev R.HEALTH_STAT : Nat := 0x49040
abbrev R.HEALTH_REPORT_AGE_MS : Nat := 0x49044
abbrev R.HEALTH_REPORT_CNT : Nat := 0x49048
abbrev R.HEALTH_REPORT_ERR_CNT : Nat := 0x4904c
abbrev R.HEALTH_OWN : Nat := 0x49100
abbrev R.HEALTH_PARTNER : Nat := 0x49140
abbrev R.HOST_CFG : Nat := 0x50040
abbrev R.HOST_STAT : Nat := 0x50044
abbrev R.HOST_ACC_CNT : Nat := 0x50050
abbrev R.HOST_OWN_REJ_CNT : Nat := 0x50060
abbrev R.HOST_COMMIT_CNT : Nat := 0x50070
abbrev R.HOST_REGION_REJ_CNT : Nat := 0x50080
abbrev R.PCIE_CFG : Nat := 0x51040
abbrev R.PCIE_STAT : Nat := 0x51044
abbrev R.PCIE_PCI_ID : Nat := 0x51048
abbrev R.PCIE_EP0_CNT : Nat := 0x51050
abbrev R.PCIE_EP1_CNT : Nat := 0x51064
abbrev R.SHP_CFG : Nat := 0x52040
abbrev R.SHP_STAT : Nat := 0x52044
abbrev R.SHP_AUTH_FAIL_CNT : Nat := 0x52048
abbrev R.SHP_LEN_REJ_CNT : Nat := 0x5204c
abbrev R.SHP_VER_REJ_CNT : Nat := 0x52050
abbrev R.SHP_SRC_REJ_CNT : Nat := 0x52054
abbrev R.SHP_HELLO_CNT : Nat := 0x52058
abbrev R.SHP_SESS_ID : Nat := 0x52080
abbrev R.SHP_PEER_IP : Nat := 0x52084
abbrev R.SHP_PEER : Nat := 0x52088
abbrev R.SHP_SEQ_LAST : Nat := 0x5208c
abbrev R.SHP_REQ_CNT : Nat := 0x52090
abbrev R.SHP_RETRY_CNT : Nat := 0x52094
abbrev R.SHP_SEQ_REJ_CNT : Nat := 0x52098
abbrev R.SHP_EVT_CNT : Nat := 0x5209c
abbrev R.UPD_CFG : Nat := 0x58040
abbrev R.UPD_STAT : Nat := 0x58044
abbrev R.UPD_STG_OFFSET : Nat := 0x58048
abbrev R.UPD_STG_LEN : Nat := 0x5804c
abbrev R.UPD_STG_SRC : Nat := 0x58050
abbrev R.UPD_STG_BYTES : Nat := 0x58054
abbrev R.UPD_HDR_INFO : Nat := 0x58058
abbrev R.UPD_STAGED_ID_LO : Nat := 0x5805c
abbrev R.UPD_STAGED_ID_HI : Nat := 0x58060
abbrev R.UPD_TRIAL_RUN_S : Nat := 0x58064
abbrev R.UPD_HEALTH_CONFIRM : Nat := 0x58068
abbrev R.UPD_INSTALL_US : Nat := 0x5806c
abbrev R.UPD_INSTALL_CNT : Nat := 0x58070
abbrev R.UPD_FALLBACK_CNT : Nat := 0x58074
abbrev R.CRYPT_STAT : Nat := 0x59040
abbrev R.CRYPT_SIG_OK_CNT : Nat := 0x59044
abbrev R.CRYPT_SIG_FAIL_CNT : Nat := 0x59048
abbrev R.CRYPT_TAG_FAIL_CNT : Nat := 0x5904c
abbrev R.CRYPT_HASH_FAIL_CNT : Nat := 0x59050
abbrev R.CRYPT_ARB_REJ_CNT : Nat := 0x59054
abbrev R.CRYPT_ROOT_ID_LO : Nat := 0x59058
abbrev R.CRYPT_ROOT_ID_HI : Nat := 0x5905c
abbrev R.REC_CFG : Nat := 0x60040
abbrev R.REC_STAT : Nat := 0x60044
abbrev R.REC_EPOCH : Nat := 0x60048
abbrev R.REC_OP_SEC_LO : Nat := 0x6004c
abbrev R.REC_OP_SEC_HI : Nat := 0x60050
abbrev R.REC_PWR_CYCLES : Nat := 0x60054
abbrev R.REC_CLOSE_SEC_LO : Nat := 0x60058
abbrev R.REC_SKIP_CNT : Nat := 0x6005c
abbrev R.REC_QUEUE_STAT : Nat := 0x60060
abbrev R.REC_LOG_HEAD : Nat := 0x60064
abbrev R.REC_LOG_WRAPS : Nat := 0x60068
abbrev R.REC_LOG_SEL : Nat := 0x6006c
abbrev R.REC_LOGW : Nat := 0x60070
abbrev R.REC_SRC_SEL : Nat := 0x60080
abbrev R.REC_SRC_CNT : Nat := 0x60084
abbrev R.REC_SRC_LOST : Nat := 0x60088
abbrev R.REC_SRC_FIRST : Nat := 0x6008c
abbrev R.REC_SRC_FIRST_TICK : Nat := 0x60090
abbrev R.REC_SRC_LAST : Nat := 0x60094
abbrev R.REC_SRC_LAST_TICK : Nat := 0x60098
abbrev R.REC_LOST_TOTAL : Nat := 0x6009c
abbrev R.REC_SRC_MAP : Nat := 0x600a0
abbrev R.REC_OPEN_SEL : Nat := 0x600c0
abbrev R.REC_OPEN_DATA : Nat := 0x600c4
abbrev R.ENV_STAT : Nat := 0x61040
abbrev R.ENV_VIN : Nat := 0x61044
abbrev R.ENV_VHOLD : Nat := 0x61048
abbrev R.ENV_BOARD_T : Nat := 0x6104c
abbrev R.ENV_JUNC_T : Nat := 0x61050
abbrev R.ENV_VIN_MIN : Nat := 0x61054
abbrev R.ENV_VIN_MAX : Nat := 0x61058
abbrev R.ENV_BOARD_T_MIN : Nat := 0x6105c
abbrev R.ENV_BOARD_T_MAX : Nat := 0x61060
abbrev R.ENV_JUNC_T_MAX : Nat := 0x61064
abbrev R.ENV_VIN_WARN : Nat := 0x61068
abbrev R.ENV_TEMP_WARN : Nat := 0x6106c
abbrev R.ENV_WARN_CNT : Nat := 0x61070

/-- The function registers of DEV (R66). -/
def rowsDEV : List RegRow :=
  [⟨0x40, 8, 4, .ro, 0x0, 0x0, []⟩,
   ⟨0x60, 1, 4, .ro, 0x330, 0x0, []⟩,
   ⟨0x64, 1, 4, .ro, 0x0, 0x0, []⟩,
   ⟨0x68, 1, 4, .ro, 0xa10b, 0x0, []⟩,
   ⟨0x6c, 1, 4, .ro, 0x0, 0x0, []⟩,
   ⟨0x70, 1, 4, .ro, 0x0, 0x0, []⟩,
   ⟨0x74, 1, 4, .ro, 0x0, 0x0, []⟩,
   ⟨0x78, 1, 4, .ro, 0x46, 0x0, []⟩,
   ⟨0x7c, 1, 4, .ro, 0x0, 0x0, []⟩,
   ⟨0x100, 256, 4, .ro, 0x0, 0x0, []⟩,
   ⟨0x500, 256, 4, .ro, 0x0, 0x0, []⟩,
   ⟨0x900, 256, 4, .ro, 0x0, 0x0, []⟩]

/-- The function registers of BOOT (R486). -/
def rowsBOOT : List RegRow :=
  [⟨0x40, 1, 4, .rw, 0x1, 0x1, []⟩,
   ⟨0x44, 1, 4, .ro, 0x0, 0x0, []⟩,
   ⟨0x48, 1, 4, .ro, 0x0, 0x0, []⟩,
   ⟨0x4c, 8, 4, .ro, 0x0, 0x0, []⟩,
   ⟨0x6c, 1, 4, .ro, 0x0, 0x0, []⟩,
   ⟨0x70, 1, 4, .ro, 0x0, 0x0, []⟩,
   ⟨0x74, 1, 4, .ro, 0x0, 0x0, []⟩,
   ⟨0x78, 1, 4, .ro, 0x0, 0x0, []⟩,
   ⟨0x7c, 1, 4, .ro, 0x0, 0x0, []⟩,
   ⟨0x80, 1, 4, .ro, 0x0, 0x0, []⟩,
   ⟨0x84, 1, 4, .ro, 0x0, 0x0, []⟩,
   ⟨0x88, 6, 4, .ro, 0x0, 0x0, []⟩,
   ⟨0xa0, 6, 8, .ro, 0x0, 0x0, []⟩,
   ⟨0xa4, 6, 8, .ro, 0x0, 0x0, []⟩]

/-- The function registers of STARTER (R84). -/
def rowsSTARTER : List RegRow :=
  [⟨0x40, 1, 4, .rw, 0x3e8, 0x1ffff, [(16, 0, 250, 100000)]⟩,
   ⟨0x44, 1, 4, .rw, 0x0, 0x1ffff, []⟩,
   ⟨0x48, 1, 4, .ro, 0x0, 0x0, []⟩,
   ⟨0x4c, 1, 4, .ro, 0x0, 0x0, []⟩,
   ⟨0x50, 1, 4, .ro, 0x0, 0x0, []⟩,
   ⟨0x54, 1, 4, .ro, 0x0, 0x0, []⟩,
   ⟨0x58, 1, 4, .ro, 0x0, 0x0, []⟩,
   ⟨0x5c, 1, 4, .ro, 0x0, 0x0, []⟩,
   ⟨0x60, 1, 4, .ro, 0x0, 0x0, []⟩,
   ⟨0x64, 1, 4, .ro, 0x0, 0x0, []⟩,
   ⟨0x68, 1, 4, .ro, 0x0, 0x0, []⟩,
   ⟨0x6c, 1, 4, .ro, 0x0, 0x0, []⟩,
   ⟨0x70, 1, 4, .ro, 0x0, 0x0, []⟩,
   ⟨0x74, 1, 4, .ro, 0x0, 0x0, []⟩,
   ⟨0x78, 1, 4, .ro, 0x0, 0x0, []⟩,
   ⟨0x7c, 1, 4, .ro, 0x0, 0x0, []⟩,
   ⟨0x80, 1, 4, .ro, 0x0, 0x0, []⟩,
   ⟨0x84, 1, 4, .ro, 0x0, 0x0, []⟩]

/-- The function registers of PFC (R115). -/
def rowsPFC : List RegRow :=
  [⟨0x40, 1, 4, .ro, 0x0, 0x0, []⟩,
   ⟨0x44, 1, 4, .ro, 0x0, 0x0, []⟩,
   ⟨0x48, 1, 4, .ro, 0x0, 0x0, []⟩,
   ⟨0x4c, 1, 4, .ro, 0x0, 0x0, []⟩,
   ⟨0x50, 1, 4, .ro, 0x0, 0x0, []⟩,
   ⟨0x54, 1, 4, .ro, 0x0, 0x0, []⟩,
   ⟨0x58, 1, 4, .ro, 0x0, 0x0, []⟩,
   ⟨0x5c, 1, 4, .ro, 0x0, 0x0, []⟩,
   ⟨0x60, 1, 4, .ro, 0x0, 0x0, []⟩,
   ⟨0x64, 1, 4, .ro, 0x1fc30, 0x0, []⟩,
   ⟨0x68, 1, 4, .ro, 0x0, 0x0, []⟩,
   ⟨0x6c, 1, 4, .ro, 0x0, 0x0, []⟩,
   ⟨0x70, 1, 4, .ro, 0x0, 0x0, []⟩,
   ⟨0x74, 4, 4, .ro, 0x0, 0x0, []⟩,
   ⟨0x84, 1, 4, .ro, 0xfff0000, 0x0, []⟩,
   ⟨0x88, 1, 4, .ro, 0x0, 0x0, []⟩,
   ⟨0x8c, 1, 4, .ro, 0x0, 0x0, []⟩,
   ⟨0x90, 1, 4, .ro, 0x0, 0x0, []⟩,
   ⟨0x94, 1, 4, .rw, 0x15180, 0xffffffff, [(31, 0, 60, 2592000)]⟩,
   ⟨0x98, 1, 4, .ro, 0x0, 0x0, []⟩]
  ++ [⟨0x9c, 1, 4, .ro, 0x1, 0x0, []⟩,
   ⟨0xa0, 10, 16, .ro, 0x0, 0x0, []⟩,
   ⟨0xa4, 10, 16, .ro, 0x0, 0x0, []⟩,
   ⟨0xa8, 10, 16, .ro, 0x0, 0x0, []⟩,
   ⟨0xac, 10, 16, .ro, 0x0, 0x0, []⟩]

/-- The function registers of LANE (R117). -/
def rowsLANE : List RegRow :=
  [⟨0x40, 1, 4, .rw, 0x1, 0x1, []⟩,
   ⟨0x44, 1, 4, .ro, 0x100, 0x0, []⟩,
   ⟨0x48, 1, 4, .ro, 0x500, 0x0, []⟩,
   ⟨0x4c, 1, 4, .ro, 0x0, 0x0, []⟩,
   ⟨0x50, 1, 4, .ro, 0x0, 0x0, []⟩,
   ⟨0x54, 3, 8, .ro, 0x0, 0x0, []⟩,
   ⟨0x58, 3, 8, .ro, 0x0, 0x0, []⟩,
   ⟨0x6c, 1, 4, .ro, 0x0, 0x0, []⟩,
   ⟨0x70, 1, 4, .ro, 0x0, 0x0, []⟩,
   ⟨0x74, 1, 4, .ro, 0x0, 0x0, []⟩,
   ⟨0x78, 1, 4, .ro, 0x0, 0x0, []⟩,
   ⟨0x7c, 1, 4, .ro, 0x0, 0x0, []⟩,
   ⟨0x80, 1, 4, .ro, 0x0, 0x0, []⟩,
   ⟨0x84, 1, 4, .ro, 0x0, 0x0, []⟩,
   ⟨0x88, 1, 4, .ro, 0x0, 0x0, []⟩,
   ⟨0x8c, 1, 4, .ro, 0x9c3b, 0x0, []⟩,
   ⟨0x90, 1, 4, .ro, 0x0, 0x0, []⟩,
   ⟨0x94, 1, 4, .ro, 0x0, 0x0, []⟩,
   ⟨0x98, 1, 4, .ro, 0x0, 0x0, []⟩,
   ⟨0x9c, 1, 4, .ro, 0x0, 0x0, []⟩]
  ++ [⟨0xa0, 1, 4, .ro, 0x0, 0x0, []⟩,
   ⟨0xa4, 1, 4, .ro, 0x0, 0x0, []⟩,
   ⟨0xa8, 1, 4, .ro, 0x0, 0x0, []⟩,
   ⟨0xac, 1, 4, .ro, 0x0, 0x0, []⟩,
   ⟨0xb0, 1, 4, .ro, 0x0, 0x0, []⟩,
   ⟨0xb4, 1, 4, .ro, 0x0, 0x0, []⟩,
   ⟨0xb8, 1, 4, .ro, 0x0, 0x0, []⟩,
   ⟨0xbc, 1, 4, .ro, 0x0, 0x0, []⟩,
   ⟨0xc0, 10, 8, .ro, 0x0, 0x0, []⟩,
   ⟨0xc4, 10, 8, .ro, 0x0, 0x0, []⟩]

/-- The function registers of XCHG (R118). -/
def rowsXCHG : List RegRow :=
  [⟨0x40, 1, 4, .rw, 0x40040, 0xfffff, [(15, 0, 8, 65535), (19, 16, 1, 15)]⟩,
   ⟨0x44, 1, 4, .ro, 0x3f07, 0x0, []⟩,
   ⟨0x48, 5, 4, .ro, 0x0, 0x0, []⟩,
   ⟨0x5c, 5, 4, .ro, 0x0, 0x0, []⟩,
   ⟨0x70, 5, 4, .ro, 0x0, 0x0, []⟩,
   ⟨0x84, 3, 4, .ro, 0x0, 0x0, []⟩,
   ⟨0x90, 3, 4, .ro, 0x0, 0x0, []⟩,
   ⟨0x9c, 6, 4, .ro, 0x0, 0x0, []⟩,
   ⟨0xb4, 1, 4, .ro, 0x0, 0x0, []⟩,
   ⟨0xb8, 1, 4, .ro, 0x0, 0x0, []⟩,
   ⟨0xbc, 1, 4, .ro, 0x30, 0x0, []⟩,
   ⟨0xc0, 1, 4, .ro, 0xffff, 0x0, []⟩,
   ⟨0xc4, 1, 4, .ro, 0x0, 0x0, []⟩,
   ⟨0xc8, 5, 4, .ro, 0x0, 0x0, []⟩,
   ⟨0xdc, 1, 4, .ro, 0x0, 0x0, []⟩]

/-- The function registers of MEM (R140). -/
def rowsMEM : List RegRow :=
  [⟨0x40, 1, 4, .rw, 0xa, 0xf, [(3, 0, 1, 10)]⟩,
   ⟨0x44, 1, 4, .ro, 0x1, 0x0, []⟩,
   ⟨0x48, 1, 4, .ro, 0x0, 0x0, []⟩,
   ⟨0x4c, 1, 4, .ro, 0x0, 0x0, []⟩,
   ⟨0x50, 1, 4, .ro, 0x0, 0x0, []⟩,
   ⟨0x54, 1, 4, .ro, 0x0, 0x0, []⟩,
   ⟨0x58, 1, 4, .ro, 0x0, 0x0, []⟩,
   ⟨0x5c, 1, 4, .ro, 0x0, 0x0, []⟩,
   ⟨0x60, 1, 4, .ro, 0x0, 0x0, []⟩,
   ⟨0x64, 1, 4, .ro, 0x0, 0x0, []⟩,
   ⟨0x68, 1, 4, .ro, 0x0, 0x0, []⟩,
   ⟨0x6c, 1, 4, .ro, 0x0, 0x0, []⟩,
   ⟨0x70, 1, 4, .ro, 0x0, 0x0, []⟩,
   ⟨0x74, 1, 4, .ro, 0x0, 0x0, []⟩,
   ⟨0x78, 1, 4, .ro, 0x0, 0x0, []⟩,
   ⟨0x7c, 1, 4, .rw, 0x0, 0x13, []⟩,
   ⟨0x80, 1, 4, .ro, 0x0, 0x0, []⟩,
   ⟨0x84, 1, 4, .ro, 0x0, 0x0, []⟩,
   ⟨0x88, 1, 4, .ro, 0x0, 0x0, []⟩,
   ⟨0x8c, 1, 4, .ro, 0x0, 0x0, []⟩]
  ++ [⟨0x90, 1, 4, .ro, 0x0, 0x0, []⟩,
   ⟨0x94, 1, 4, .ro, 0x0, 0x0, []⟩,
   ⟨0x98, 1, 4, .ro, 0x0, 0x0, []⟩,
   ⟨0x9c, 1, 4, .ro, 0x0, 0x0, []⟩,
   ⟨0xa0, 16, 4, .ro, 0x0, 0x0, []⟩]

/-- The function registers of MEMX (R140, R142). -/
def rowsMEMX : List RegRow :=
  [⟨0x40, 1, 4, .rw, 0xa, 0xf, [(3, 0, 1, 10)]⟩,
   ⟨0x44, 1, 4, .ro, 0x1, 0x0, []⟩,
   ⟨0x48, 1, 4, .ro, 0x0, 0x0, []⟩,
   ⟨0x4c, 1, 4, .ro, 0x0, 0x0, []⟩,
   ⟨0x50, 1, 4, .ro, 0x0, 0x0, []⟩,
   ⟨0x54, 1, 4, .ro, 0x0, 0x0, []⟩,
   ⟨0x58, 1, 4, .ro, 0x0, 0x0, []⟩,
   ⟨0x5c, 1, 4, .ro, 0x0, 0x0, []⟩,
   ⟨0x60, 1, 4, .ro, 0x0, 0x0, []⟩,
   ⟨0x64, 1, 4, .ro, 0x0, 0x0, []⟩,
   ⟨0x7c, 1, 4, .rw, 0x0, 0x3, []⟩,
   ⟨0x80, 1, 4, .ro, 0x0, 0x0, []⟩,
   ⟨0x84, 1, 4, .ro, 0x0, 0x0, []⟩,
   ⟨0x88, 1, 4, .ro, 0x0, 0x0, []⟩,
   ⟨0x8c, 1, 4, .ro, 0x0, 0x0, []⟩,
   ⟨0x90, 1, 4, .ro, 0x0, 0x0, []⟩,
   ⟨0x94, 1, 4, .ro, 0x0, 0x0, []⟩,
   ⟨0x98, 1, 4, .ro, 0x0, 0x0, []⟩,
   ⟨0x9c, 1, 4, .ro, 0x0, 0x0, []⟩,
   ⟨0xa0, 16, 4, .ro, 0x0, 0x0, []⟩]
  ++ [⟨0x68, 1, 4, .rw, 0x1c0000, 0x1ffff8, []⟩,
   ⟨0x6c, 1, 4, .rw, 0x0, 0xffffffff, []⟩,
   ⟨0x70, 1, 4, .rw, 0x0, 0xffffffff, []⟩,
   ⟨0x74, 1, 4, .ro, 0x0, 0x0, []⟩,
   ⟨0x78, 1, 4, .ro, 0x0, 0x0, []⟩]

/-- The function registers of EXEC (R173). -/
def rowsEXEC : List RegRow :=
  [⟨0x40, 1, 4, .rw, 0x0, 0xf, []⟩,
   ⟨0x44, 1, 4, .ro, 0x0, 0x0, []⟩,
   ⟨0x48, 1, 4, .ro, 0x0, 0x0, []⟩,
   ⟨0x4c, 1, 4, .ro, 0x0, 0x0, []⟩,
   ⟨0x50, 1, 4, .ro, 0x0, 0x0, []⟩,
   ⟨0x54, 1, 4, .ro, 0x0, 0x0, []⟩,
   ⟨0x58, 1, 4, .ro, 0x0, 0x0, []⟩,
   ⟨0x5c, 1, 4, .ro, 0x0, 0x0, []⟩,
   ⟨0x60, 1, 4, .ro, 0x0, 0x0, []⟩,
   ⟨0x64, 1, 4, .ro, 0x0, 0x0, []⟩,
   ⟨0x68, 1, 4, .ro, 0x0, 0x0, []⟩,
   ⟨0x6c, 1, 4, .ro, 0x0, 0x0, []⟩,
   ⟨0x70, 1, 4, .ro, 0x0, 0x0, []⟩,
   ⟨0x74, 1, 4, .ro, 0x0, 0x0, []⟩,
   ⟨0x78, 1, 4, .ro, 0x0, 0x0, []⟩,
   ⟨0x7c, 1, 4, .ro, 0x0, 0x0, []⟩,
   ⟨0x80, 1, 4, .ro, 0x0, 0x0, []⟩,
   ⟨0x84, 1, 4, .ro, 0x0, 0x0, []⟩,
   ⟨0x88, 1, 4, .ro, 0x0, 0x0, []⟩,
   ⟨0x8c, 1, 4, .ro, 0x0, 0x0, []⟩]
  ++ [⟨0x90, 1, 4, .ro, 0x0, 0x0, []⟩,
   ⟨0xc0, 16, 4, .ro, 0x0, 0x0, []⟩,
   ⟨0x100, 16, 4, .ro, 0x0, 0x0, []⟩,
   ⟨0x140, 16, 4, .ro, 0x0, 0x0, []⟩,
   ⟨0x180, 16, 4, .ro, 0x0, 0x0, []⟩,
   ⟨0x1c0, 16, 4, .ro, 0x0, 0x0, []⟩]

/-- The function registers of SWAP (R229). -/
def rowsSWAP : List RegRow :=
  [⟨0x40, 1, 4, .rw, 0x927c0, 0xffffffff, [(31, 0, 1, 4294967295)]⟩,
   ⟨0x44, 1, 4, .ro, 0x0, 0x0, []⟩,
   ⟨0x48, 1, 4, .rw, 0x0, 0xffffffff, []⟩,
   ⟨0x4c, 1, 4, .rw, 0x0, 0xffffffff, []⟩,
   ⟨0x50, 1, 4, .ro, 0x0, 0x0, []⟩,
   ⟨0x54, 1, 4, .ro, 0x0, 0x0, []⟩,
   ⟨0x58, 1, 4, .ro, 0x186a0, 0x0, []⟩,
   ⟨0x5c, 1, 4, .ro, 0x0, 0x0, []⟩,
   ⟨0x60, 1, 4, .ro, 0x0, 0x0, []⟩,
   ⟨0x64, 1, 4, .ro, 0x0, 0x0, []⟩,
   ⟨0x68, 1, 4, .ro, 0x0, 0x0, []⟩,
   ⟨0x6c, 1, 4, .ro, 0x0, 0x0, []⟩,
   ⟨0x70, 1, 4, .ro, 0x0, 0x0, []⟩,
   ⟨0x74, 1, 4, .ro, 0x0, 0x0, []⟩,
   ⟨0x78, 1, 4, .ro, 0x0, 0x0, []⟩,
   ⟨0x7c, 1, 4, .ro, 0x0, 0x0, []⟩,
   ⟨0x80, 1, 4, .ro, 0x0, 0x0, []⟩,
   ⟨0x84, 1, 4, .ro, 0x0, 0x0, []⟩,
   ⟨0x88, 1, 4, .ro, 0x0, 0x0, []⟩]

/-- The function registers of DEBUG (R176). -/
def rowsDEBUG : List RegRow :=
  [⟨0x40, 1, 4, .ro, 0x0, 0x0, []⟩,
   ⟨0x44, 1, 4, .ro, 0x0, 0x0, []⟩,
   ⟨0x48, 1, 4, .ro, 0x0, 0x0, []⟩,
   ⟨0x4c, 1, 4, .ro, 0x0, 0x0, []⟩,
   ⟨0x50, 1, 4, .ro, 0x0, 0x0, []⟩,
   ⟨0x60, 8, 4, .rw, 0x0, 0x800ffffc, []⟩,
   ⟨0x80, 64, 16, .rw, 0x0, 0x80001fff, []⟩,
   ⟨0x84, 64, 16, .rw, 0x0, 0xffffffff, []⟩,
   ⟨0x88, 64, 16, .rw, 0x0, 0xffffffff, []⟩,
   ⟨0x8c, 64, 16, .ro, 0x0, 0x0, []⟩]

/-- The function registers of BATON (R232). -/
def rowsBATON : List RegRow :=
  [⟨0x40, 1, 4, .rw, 0x2001, 0xff01, [(15, 8, 1, 255)]⟩,
   ⟨0x44, 1, 4, .ro, 0x2000, 0x0, []⟩,
   ⟨0x48, 1, 4, .ro, 0x0, 0x0, []⟩,
   ⟨0x4c, 1, 4, .ro, 0x0, 0x0, []⟩,
   ⟨0x50, 1, 4, .ro, 0x0, 0x0, []⟩,
   ⟨0x54, 1, 4, .ro, 0x0, 0x0, []⟩,
   ⟨0x58, 1, 4, .ro, 0x0, 0x0, []⟩,
   ⟨0x5c, 1, 4, .ro, 0x0, 0x0, []⟩,
   ⟨0x60, 1, 4, .ro, 0x0, 0x0, []⟩,
   ⟨0x64, 1, 4, .ro, 0x0, 0x0, []⟩,
   ⟨0x68, 1, 4, .ro, 0x0, 0x0, []⟩,
   ⟨0x6c, 1, 4, .ro, 0x0, 0x0, []⟩,
   ⟨0x70, 1, 4, .ro, 0x0, 0x0, []⟩,
   ⟨0x74, 1, 4, .ro, 0x0, 0x0, []⟩,
   ⟨0x78, 1, 4, .ro, 0x0, 0x0, []⟩,
   ⟨0x7c, 1, 4, .ro, 0x0, 0x0, []⟩,
   ⟨0x80, 1, 4, .ro, 0x0, 0x0, []⟩,
   ⟨0x84, 1, 4, .ro, 0x0, 0x0, []⟩,
   ⟨0x88, 1, 4, .ro, 0x0, 0x0, []⟩,
   ⟨0x8c, 1, 4, .ro, 0x0, 0x0, []⟩]
  ++ [⟨0x90, 1, 4, .ro, 0x0, 0x0, []⟩,
   ⟨0x94, 1, 4, .ro, 0x0, 0x0, []⟩,
   ⟨0x98, 1, 4, .ro, 0x0, 0x0, []⟩]

/-- The function registers of GRD (R264). -/
def rowsGRD : List RegRow :=
  [⟨0x40, 1, 4, .rw, 0x1, 0x3, []⟩,
   ⟨0x44, 1, 4, .ro, 0x0, 0x0, []⟩,
   ⟨0x48, 1, 4, .ro, 0x0, 0x0, []⟩,
   ⟨0x4c, 1, 4, .ro, 0x0, 0x0, []⟩,
   ⟨0x50, 1, 4, .ro, 0x0, 0x0, []⟩,
   ⟨0x54, 1, 4, .ro, 0x0, 0x0, []⟩,
   ⟨0x58, 1, 4, .ro, 0x0, 0x0, []⟩,
   ⟨0x5c, 1, 4, .ro, 0x0, 0x0, []⟩,
   ⟨0x60, 1, 4, .ro, 0x0, 0x0, []⟩,
   ⟨0x64, 1, 4, .ro, 0x0, 0x0, []⟩,
   ⟨0x68, 1, 4, .ro, 0x0, 0x0, []⟩,
   ⟨0x6c, 1, 4, .ro, 0x0, 0x0, []⟩,
   ⟨0x70, 1, 4, .ro, 0x0, 0x0, []⟩,
   ⟨0x74, 1, 4, .ro, 0x0, 0x0, []⟩,
   ⟨0x78, 1, 4, .ro, 0x0, 0x0, []⟩,
   ⟨0x7c, 1, 4, .ro, 0x0, 0x0, []⟩,
   ⟨0x80, 1, 4, .ro, 0x0, 0x0, []⟩,
   ⟨0x84, 1, 4, .ro, 0x0, 0x0, []⟩,
   ⟨0x88, 1, 4, .ro, 0x0, 0x0, []⟩]

/-- The function registers of GRDS (R266). -/
def rowsGRDS : List RegRow :=
  [⟨0x40, 1, 4, .rw, 0x0, 0x1fff, []⟩,
   ⟨0x44, 1, 4, .rw, 0x1403e8, 0x3ff3fff, [(13, 0, 250, 10000), (25, 16, 20, 1000)]⟩,
   ⟨0x48, 1, 4, .rw, 0x64, 0x3ff, [(9, 0, 100, 1000)]⟩,
   ⟨0x4c, 1, 4, .rw, 0x188b5, 0xfffff, [(15, 0, 1536, 65535), (19, 16, 1, 2)]⟩,
   ⟨0x50, 1, 4, .rw, 0x0, 0xffff, []⟩,
   ⟨0x54, 1, 4, .ro, 0x0, 0x0, []⟩,
   ⟨0x58, 1, 4, .ro, 0x0, 0x0, []⟩,
   ⟨0x5c, 1, 4, .ro, 0x0, 0x0, []⟩,
   ⟨0x60, 1, 4, .ro, 0x0, 0x0, []⟩,
   ⟨0x64, 1, 4, .ro, 0x0, 0x0, []⟩,
   ⟨0x68, 1, 4, .ro, 0x0, 0x0, []⟩,
   ⟨0x6c, 1, 4, .ro, 0x0, 0x0, []⟩,
   ⟨0x70, 1, 4, .ro, 0x0, 0x0, []⟩,
   ⟨0x74, 1, 4, .rw, 0x0, 0xfff, []⟩,
   ⟨0x78, 1, 4, .ro, 0x0, 0x0, []⟩,
   ⟨0x7c, 4, 4, .ro, 0x0, 0x0, []⟩,
   ⟨0x8c, 1, 4, .ro, 0x0, 0x0, []⟩,
   ⟨0x90, 1, 4, .ro, 0x0, 0x0, []⟩,
   ⟨0x94, 1, 4, .ro, 0x0, 0x0, []⟩,
   ⟨0x100, 32, 4, .ro, 0x0, 0x0, []⟩]

/-- The function registers of PACER (R285). -/
def rowsPACER : List RegRow :=
  [⟨0x40, 1, 4, .rw, 0x26401f4, 0xf7f03ff, [(9, 0, 50, 500), (22, 16, 1, 100), (27, 24, 1, 15)]⟩,
   ⟨0x44, 1, 4, .rw, 0x3e80032, 0x3fff03ff, [(9, 0, 20, 500), (29, 16, 100, 10000)]⟩,
   ⟨0x48, 1, 4, .rw, 0x0, 0xffffffff, []⟩,
   ⟨0x4c, 1, 4, .rw, 0x0, 0xfff, []⟩,
   ⟨0x50, 1, 4, .ro, 0x0, 0x0, []⟩,
   ⟨0x54, 1, 4, .ro, 0x0, 0x0, []⟩,
   ⟨0x58, 1, 4, .ro, 0x0, 0x0, []⟩,
   ⟨0x5c, 1, 4, .ro, 0x0, 0x0, []⟩,
   ⟨0x60, 1, 4, .ro, 0x0, 0x0, []⟩,
   ⟨0x64, 1, 4, .ro, 0x0, 0x0, []⟩,
   ⟨0x68, 1, 4, .ro, 0x0, 0x0, []⟩,
   ⟨0x6c, 1, 4, .ro, 0x0, 0x0, []⟩,
   ⟨0x70, 1, 4, .ro, 0x0, 0x0, []⟩,
   ⟨0x74, 1, 4, .ro, 0x0, 0x0, []⟩,
   ⟨0x78, 1, 4, .ro, 0x0, 0x0, []⟩,
   ⟨0x7c, 1, 4, .ro, 0x0, 0x0, []⟩,
   ⟨0x80, 1, 4, .ro, 0x0, 0x0, []⟩,
   ⟨0x84, 1, 4, .ro, 0x0, 0x0, []⟩,
   ⟨0x100, 30, 4, .ro, 0x0, 0x0, []⟩]

/-- The function registers of GRDMB (R268). -/
def rowsGRDMB : List RegRow :=
  [⟨0x40, 1, 4, .rw, 0x0, 0xfff, []⟩,
   ⟨0x44, 1, 4, .ro, 0x0, 0x0, []⟩,
   ⟨0x48, 1, 4, .ro, 0x0, 0x0, []⟩,
   ⟨0x4c, 1, 4, .ro, 0x0, 0x0, []⟩,
   ⟨0x50, 1, 4, .ro, 0x0, 0x0, []⟩,
   ⟨0x54, 1, 4, .ro, 0x0, 0x0, []⟩,
   ⟨0x58, 1, 4, .ro, 0x0, 0x0, []⟩,
   ⟨0x5c, 1, 4, .ro, 0x0, 0x0, []⟩,
   ⟨0x60, 1, 4, .ro, 0x0, 0x0, []⟩,
   ⟨0x100, 128, 4, .w1c, 0x0, 0xffffffff, []⟩,
   ⟨0x300, 128, 4, .ro, 0x0, 0x0, []⟩]

/-- The function registers of TIME (R301). -/
def rowsTIME : List RegRow :=
  [⟨0x40, 1, 4, .rw, 0x0, 0xfff7ff, []⟩,
   ⟨0x44, 1, 4, .rw, 0x3e8, 0xfffff, [(19, 0, 1, 1000000)]⟩,
   ⟨0x48, 1, 4, .rw, 0x3e8, 0x1ffff, [(16, 0, 100, 100000)]⟩,
   ⟨0x4c, 1, 4, .rw, 0xa, 0xfff, [(11, 0, 0, 3600)]⟩,
   ⟨0x50, 1, 4, .rw, 0x8000000, 0xffffffff, []⟩,
   ⟨0x54, 1, 4, .ro, 0x0, 0x0, []⟩,
   ⟨0x58, 1, 4, .ro, 0x0, 0x0, []⟩,
   ⟨0x5c, 1, 4, .ro, 0x0, 0x0, []⟩,
   ⟨0x60, 1, 4, .ro, 0x0, 0x0, []⟩,
   ⟨0x64, 1, 4, .ro, 0x0, 0x0, []⟩,
   ⟨0x68, 1, 4, .ro, 0x0, 0x0, []⟩,
   ⟨0x6c, 1, 4, .ro, 0x0, 0x0, []⟩,
   ⟨0x70, 1, 4, .ro, 0x0, 0x0, []⟩,
   ⟨0x74, 1, 4, .ro, 0x0, 0x0, []⟩,
   ⟨0x78, 1, 4, .ro, 0x0, 0x0, []⟩,
   ⟨0x7c, 1, 4, .rw, 0x0, 0xffffffff, []⟩,
   ⟨0x80, 1, 4, .rw, 0x0, 0xffffffff, []⟩,
   ⟨0x84, 1, 4, .rw, 0x0, 0x3fffffff, [(29, 0, 0, 999999999)]⟩,
   ⟨0x88, 1, 4, .ro, 0x0, 0x0, []⟩,
   ⟨0x8c, 1, 4, .ro, 0x0, 0x0, []⟩]
  ++ [⟨0x90, 1, 4, .ro, 0x0, 0x0, []⟩,
   ⟨0x94, 1, 4, .ro, 0x0, 0x0, []⟩,
   ⟨0x98, 1, 4, .ro, 0x0, 0x0, []⟩,
   ⟨0x9c, 1, 4, .ro, 0x0, 0x0, []⟩]

/-- The function registers of TCAP (R304). -/
def rowsTCAP : List RegRow :=
  [⟨0x40, 1, 4, .ro, 0x0, 0x0, []⟩,
   ⟨0x44, 1, 4, .ro, 0x0, 0x0, []⟩,
   ⟨0x48, 1, 4, .ro, 0x0, 0x0, []⟩,
   ⟨0x4c, 1, 4, .ro, 0x0, 0x0, []⟩,
   ⟨0x50, 1, 4, .ro, 0x0, 0x0, []⟩,
   ⟨0x54, 1, 4, .ro, 0x0, 0x0, []⟩,
   ⟨0x58, 1, 4, .ro, 0x0, 0x0, []⟩,
   ⟨0x100, 32, 4, .rw, 0x0, 0x11f0f, []⟩,
   ⟨0x180, 32, 4, .ro, 0x0, 0x0, []⟩,
   ⟨0x200, 32, 16, .rw, 0x0, 0xf, []⟩,
   ⟨0x204, 32, 16, .rw, 0x0, 0xffffffff, []⟩,
   ⟨0x208, 32, 16, .rw, 0x0, 0xffffffff, []⟩,
   ⟨0x20c, 32, 16, .rw, 0x0, 0xffffffff, []⟩,
   ⟨0x400, 32, 4, .rw, 0x0, 0x1011f, []⟩,
   ⟨0x480, 32, 4, .ro, 0x0, 0x0, []⟩]

/-- The function registers of CAN (R320). -/
def rowsCAN : List RegRow :=
  [⟨0x40, 1, 4, .rw, 0x0, 0x77f, []⟩,
   ⟨0x44, 1, 4, .rw, 0x10101f82, 0xffffffff, [(6, 0, 1, 64), (15, 7, 2, 256), (23, 16, 1, 128), (31, 24, 1, 128)]⟩,
   ⟨0x48, 1, 4, .rw, 0xa53a1, 0x7f5fffff, [(4, 0, 1, 16), (10, 5, 1, 32), (15, 11, 1, 16), (20, 16, 1, 16)]⟩,
   ⟨0x4c, 1, 4, .ro, 0x0, 0x0, []⟩,
   ⟨0x50, 1, 4, .ro, 0x0, 0x0, []⟩,
   ⟨0x54, 1, 4, .ro, 0x0, 0x0, []⟩,
   ⟨0x58, 1, 4, .ro, 0x0, 0x0, []⟩,
   ⟨0x5c, 1, 4, .ro, 0x0, 0x0, []⟩,
   ⟨0x60, 1, 4, .ro, 0x0, 0x0, []⟩,
   ⟨0x64, 1, 4, .ro, 0x0, 0x0, []⟩,
   ⟨0x68, 1, 4, .ro, 0x0, 0x0, []⟩,
   ⟨0x6c, 1, 4, .ro, 0x0, 0x0, []⟩,
   ⟨0x70, 1, 4, .ro, 0x0, 0x0, []⟩,
   ⟨0x74, 1, 4, .ro, 0x0, 0x0, []⟩,
   ⟨0x78, 1, 4, .ro, 0x0, 0x0, []⟩,
   ⟨0x7c, 1, 4, .ro, 0x0, 0x0, []⟩,
   ⟨0x80, 1, 4, .ro, 0x0, 0x0, []⟩,
   ⟨0x84, 3, 4, .ro, 0x0, 0x0, []⟩,
   ⟨0x90, 3, 8, .ro, 0x0, 0x0, []⟩,
   ⟨0x94, 3, 8, .ro, 0x0, 0x0, []⟩]
  ++ [⟨0xa8, 1, 4, .rw, 0x0, 0xffffffff, []⟩,
   ⟨0xac, 1, 4, .rw, 0x0, 0x17f, []⟩,
   ⟨0xb0, 16, 4, .rw, 0x0, 0xffffffff, []⟩,
   ⟨0x100, 128, 8, .rw, 0x0, 0xffffffff, []⟩,
   ⟨0x104, 128, 8, .rw, 0x0, 0xffffffff, []⟩]

/-- The function registers of RELAY (R335). -/
def rowsRELAY : List RegRow :=
  [⟨0x40, 1, 4, .rw, 0x6404, 0x3ffff, [(7, 0, 1, 255), (17, 8, 1, 1000)]⟩,
   ⟨0x44, 1, 4, .rw, 0xb8e3, 0xffff, [(15, 0, 1, 65535)]⟩,
   ⟨0x48, 1, 4, .rw, 0x0, 0xffffffff, []⟩,
   ⟨0x4c, 1, 4, .rw, 0x0, 0xffffffff, []⟩,
   ⟨0x50, 1, 4, .ro, 0x0, 0x0, []⟩,
   ⟨0x54, 1, 4, .ro, 0x0, 0x0, []⟩,
   ⟨0x58, 1, 4, .ro, 0x0, 0x0, []⟩,
   ⟨0x5c, 1, 4, .ro, 0x0, 0x0, []⟩,
   ⟨0x60, 1, 4, .ro, 0x0, 0x0, []⟩,
   ⟨0x64, 1, 4, .ro, 0x0, 0x0, []⟩,
   ⟨0x68, 1, 4, .ro, 0x0, 0x0, []⟩,
   ⟨0x6c, 1, 4, .ro, 0x0, 0x0, []⟩,
   ⟨0x70, 1, 4, .ro, 0x0, 0x0, []⟩,
   ⟨0x74, 1, 4, .ro, 0x0, 0x0, []⟩,
   ⟨0x78, 1, 4, .ro, 0x0, 0x0, []⟩,
   ⟨0x7c, 1, 4, .ro, 0x0, 0x0, []⟩,
   ⟨0x80, 1, 4, .ro, 0x0, 0x0, []⟩,
   ⟨0x84, 1, 4, .ro, 0x0, 0x0, []⟩,
   ⟨0x88, 1, 4, .ro, 0x0, 0x0, []⟩,
   ⟨0x8c, 1, 4, .ro, 0x0, 0x0, []⟩]
  ++ [⟨0xc0, 17, 4, .rw, 0x300000, 0x3ff001f, [(25, 16, 0, 864)]⟩,
   ⟨0x140, 17, 4, .ro, 0x0, 0x0, []⟩]

/-- The function registers of ETH (R465). -/
def rowsETH : List RegRow :=
  [⟨0x40, 1, 4, .rw, 0x1, 0x1, []⟩,
   ⟨0x44, 1, 4, .rw, 0x0, 0xffffffff, []⟩,
   ⟨0x48, 1, 4, .rw, 0x0, 0xffffffff, []⟩,
   ⟨0x4c, 1, 4, .rw, 0x0, 0xffffffff, []⟩,
   ⟨0x50, 1, 4, .ro, 0x0, 0x0, []⟩,
   ⟨0x54, 1, 4, .ro, 0x0, 0x0, []⟩,
   ⟨0x58, 1, 4, .ro, 0x0, 0x0, []⟩,
   ⟨0x5c, 1, 4, .ro, 0x0, 0x0, []⟩,
   ⟨0x60, 1, 4, .ro, 0x0, 0x0, []⟩,
   ⟨0x64, 1, 4, .ro, 0x0, 0x0, []⟩,
   ⟨0x68, 1, 4, .ro, 0x0, 0x0, []⟩]

/-- The function registers of FLD (R366). -/
def rowsFLD : List RegRow :=
  [⟨0x40, 1, 4, .rw, 0x1, 0x3, []⟩,
   ⟨0x44, 1, 4, .ro, 0x0, 0x0, []⟩,
   ⟨0x48, 1, 4, .ro, 0x200, 0x0, []⟩,
   ⟨0x4c, 1, 4, .ro, 0x0, 0x0, []⟩,
   ⟨0x50, 1, 4, .ro, 0x0, 0x0, []⟩,
   ⟨0x54, 1, 4, .ro, 0x0, 0x0, []⟩,
   ⟨0x58, 1, 4, .ro, 0x0, 0x0, []⟩,
   ⟨0x5c, 1, 4, .ro, 0x0, 0x0, []⟩,
   ⟨0x60, 1, 4, .ro, 0x0, 0x0, []⟩,
   ⟨0x64, 1, 4, .ro, 0x0, 0x0, []⟩,
   ⟨0x68, 1, 4, .ro, 0x0, 0x0, []⟩,
   ⟨0x6c, 1, 4, .ro, 0x0, 0x0, []⟩,
   ⟨0x70, 1, 4, .ro, 0x0, 0x0, []⟩,
   ⟨0x74, 1, 4, .ro, 0x0, 0x0, []⟩,
   ⟨0x78, 1, 4, .ro, 0x0, 0x0, []⟩,
   ⟨0x7c, 1, 4, .ro, 0x0, 0x0, []⟩,
   ⟨0x80, 16, 4, .rw, 0x80000, 0x807fffff, [(15, 0, 0, 50000)]⟩,
   ⟨0xc0, 8, 4, .rw, 0x4, 0x80000007, []⟩,
   ⟨0xe0, 1, 4, .rw, 0x640000, 0x8fff0000, []⟩,
   ⟨0xe4, 4, 4, .rw, 0x0, 0x8ff1ff1f, []⟩]
  ++ [⟨0xf4, 1, 4, .ro, 0x0, 0x0, []⟩,
   ⟨0xf8, 1, 4, .ro, 0x0, 0x0, []⟩,
   ⟨0x100, 16, 4, .ro, 0x0, 0x0, []⟩,
   ⟨0x140, 8, 4, .ro, 0x0, 0x0, []⟩,
   ⟨0x160, 8, 4, .ro, 0x0, 0x0, []⟩]

/-- The function registers of FDG (R370). -/
def rowsFDG : List RegRow :=
  [⟨0x40, 1, 4, .ro, 0x0, 0x0, []⟩,
   ⟨0x44, 1, 4, .ro, 0x0, 0x0, []⟩,
   ⟨0x48, 1, 4, .ro, 0x0, 0x0, []⟩,
   ⟨0x4c, 1, 4, .ro, 0x0, 0x0, []⟩,
   ⟨0x50, 1, 4, .ro, 0x0, 0x0, []⟩,
   ⟨0x54, 1, 4, .ro, 0x8000, 0x0, []⟩,
   ⟨0x58, 1, 4, .ro, 0x7fff, 0x0, []⟩,
   ⟨0x5c, 1, 4, .ro, 0xffff, 0x0, []⟩,
   ⟨0x60, 1, 4, .ro, 0x0, 0x0, []⟩,
   ⟨0x64, 1, 4, .ro, 0x0, 0x0, []⟩,
   ⟨0x68, 1, 4, .ro, 0x0, 0x0, []⟩,
   ⟨0x6c, 1, 4, .ro, 0x0, 0x0, []⟩,
   ⟨0x70, 1, 4, .ro, 0x0, 0x0, []⟩,
   ⟨0x74, 1, 4, .ro, 0x0, 0x0, []⟩,
   ⟨0x78, 1, 4, .ro, 0x0, 0x0, []⟩,
   ⟨0x7c, 1, 4, .ro, 0x0, 0x0, []⟩,
   ⟨0x100, 64, 4, .ro, 0xffff0000, 0x0, []⟩]

/-- The function registers of MEASA (R386). -/
def rowsMEASA : List RegRow :=
  [⟨0x40, 1, 4, .rw, 0x400, 0x1ffff9f, []⟩,
   ⟨0x44, 1, 4, .ro, 0x0, 0x0, []⟩,
   ⟨0x48, 1, 4, .ro, 0x0, 0x0, []⟩,
   ⟨0x4c, 1, 4, .ro, 0x0, 0x0, []⟩,
   ⟨0x50, 1, 4, .ro, 0x0, 0x0, []⟩,
   ⟨0x100, 8, 32, .rw, 0x80, 0xff0fff, [(7, 4, 3, 10)]⟩,
   ⟨0x104, 8, 32, .rw, 0x0, 0x1f03, []⟩,
   ⟨0x108, 8, 32, .rw, 0x80000, 0xfffff, []⟩,
   ⟨0x10c, 8, 32, .rw, 0x7ffff, 0xfffff, []⟩,
   ⟨0x110, 8, 32, .rw, 0x7f800000, 0xffffffff, []⟩,
   ⟨0x114, 8, 32, .rw, 0xff800000, 0xffffffff, []⟩,
   ⟨0x118, 8, 32, .rw, 0x3, 0xff, [(7, 0, 1, 255)]⟩,
   ⟨0x11c, 8, 32, .ro, 0xff00, 0x0, []⟩,
   ⟨0x200, 8, 4, .ro, 0x0, 0x0, []⟩,
   ⟨0x220, 8, 4, .ro, 0x0, 0x0, []⟩]

/-- The function registers of MEASF (R388). -/
def rowsMEASF : List RegRow :=
  [⟨0x40, 1, 4, .ro, 0x0, 0x0, []⟩,
   ⟨0x44, 1, 4, .ro, 0x0, 0x0, []⟩,
   ⟨0x100, 4, 32, .rw, 0x3e80000, 0x3fff3f0f, [(29, 16, 1, 10000)]⟩,
   ⟨0x104, 4, 32, .rw, 0x7f800000, 0xffffffff, []⟩,
   ⟨0x108, 4, 32, .rw, 0xff800000, 0xffffffff, []⟩,
   ⟨0x10c, 4, 32, .rw, 0x3, 0xff, [(7, 0, 1, 255)]⟩,
   ⟨0x110, 4, 32, .ro, 0xff00, 0x0, []⟩,
   ⟨0x114, 4, 32, .ro, 0x0, 0x0, []⟩,
   ⟨0x118, 4, 32, .ro, 0x0, 0x0, []⟩,
   ⟨0x11c, 4, 32, .ro, 0x0, 0x0, []⟩]

/-- The function registers of SAFE (R414). -/
def rowsSAFE : List RegRow :=
  [⟨0x40, 1, 4, .ro, 0x1000000, 0x0, []⟩,
   ⟨0x44, 1, 4, .ro, 0x0, 0x0, []⟩,
   ⟨0x48, 1, 4, .ro, 0x0, 0x0, []⟩,
   ⟨0x4c, 1, 4, .ro, 0x0, 0x0, []⟩,
   ⟨0x50, 1, 4, .ro, 0x0, 0x0, []⟩,
   ⟨0x100, 8, 32, .rw, 0x0, 0x8001ff0f, []⟩,
   ⟨0x104, 8, 32, .rw, 0x0, 0xffffffff, []⟩,
   ⟨0x108, 8, 32, .ro, 0x0, 0x0, []⟩,
   ⟨0x10c, 8, 32, .ro, 0x0, 0x0, []⟩,
   ⟨0x110, 8, 32, .ro, 0x0, 0x0, []⟩,
   ⟨0x114, 8, 32, .ro, 0x0, 0x0, []⟩,
   ⟨0x118, 8, 32, .ro, 0x0, 0x0, []⟩,
   ⟨0x11c, 8, 32, .ro, 0x0, 0x0, []⟩]

/-- The function registers of SBO (R416). -/
def rowsSBO : List RegRow :=
  [⟨0x40, 1, 4, .ro, 0x0, 0x0, []⟩,
   ⟨0x44, 1, 4, .ro, 0x0, 0x0, []⟩,
   ⟨0x100, 4, 32, .rw, 0x641418, 0x8fff3f1f, [(27, 16, 10, 4000), (13, 8, 5, 28), (4, 0, 1, 24)]⟩,
   ⟨0x104, 4, 32, .rw, 0x258c83e8, 0x7fffffff, [(30, 22, 1, 500), (21, 13, 1, 500), (12, 0, 100, 5000)]⟩,
   ⟨0x108, 4, 32, .ro, 0x0, 0x0, []⟩,
   ⟨0x10c, 4, 32, .ro, 0x0, 0x0, []⟩,
   ⟨0x110, 4, 32, .ro, 0x0, 0x0, []⟩,
   ⟨0x114, 4, 32, .ro, 0x0, 0x0, []⟩,
   ⟨0x118, 4, 32, .ro, 0x0, 0x0, []⟩,
   ⟨0x11c, 4, 32, .ro, 0x0, 0x0, []⟩]

/-- The function registers of DISC (R418). -/
def rowsDISC : List RegRow :=
  [⟨0x40, 1, 4, .ro, 0x0, 0x0, []⟩,
   ⟨0x44, 1, 4, .ro, 0x0, 0x0, []⟩,
   ⟨0x48, 1, 4, .ro, 0x0, 0x0, []⟩,
   ⟨0x4c, 1, 4, .ro, 0x0, 0x0, []⟩,
   ⟨0x50, 1, 4, .ro, 0x0, 0x0, []⟩,
   ⟨0x54, 1, 4, .ro, 0x0, 0x0, []⟩,
   ⟨0x100, 32, 8, .rw, 0x640100, 0xf7ffff3f, [(26, 16, 1, 2000)]⟩,
   ⟨0x104, 32, 8, .ro, 0x0, 0x0, []⟩]

/-- The function registers of SMSG (R422). -/
def rowsSMSG : List RegRow :=
  [⟨0x40, 1, 4, .rw, 0x0, 0xff, []⟩,
   ⟨0x44, 1, 4, .ro, 0x0, 0x0, []⟩,
   ⟨0x48, 1, 4, .ro, 0x0, 0x0, []⟩,
   ⟨0x4c, 1, 4, .ro, 0x0, 0x0, []⟩,
   ⟨0x50, 1, 4, .ro, 0x0, 0x0, []⟩,
   ⟨0x54, 1, 4, .ro, 0x0, 0x0, []⟩,
   ⟨0x58, 1, 4, .ro, 0x0, 0x0, []⟩,
   ⟨0x60, 1, 4, .ro, 0x0, 0x0, []⟩,
   ⟨0x64, 1, 4, .ro, 0x0, 0x0, []⟩,
   ⟨0x68, 1, 4, .ro, 0x0, 0x0, []⟩,
   ⟨0x6c, 1, 4, .ro, 0x0, 0x0, []⟩,
   ⟨0x70, 1, 4, .ro, 0x0, 0x0, []⟩,
   ⟨0x74, 1, 4, .ro, 0x0, 0x0, []⟩,
   ⟨0x78, 1, 4, .ro, 0x0, 0x0, []⟩,
   ⟨0x7c, 1, 4, .ro, 0x0, 0x0, []⟩,
   ⟨0x80, 1, 4, .ro, 0x0, 0x0, []⟩,
   ⟨0x84, 1, 4, .ro, 0x0, 0x0, []⟩,
   ⟨0x88, 1, 4, .ro, 0x0, 0x0, []⟩,
   ⟨0x100, 8, 4, .ro, 0x0, 0x0, []⟩,
   ⟨0x120, 8, 4, .ro, 0x0, 0x0, []⟩]

/-- The function registers of PART (R436). -/
def rowsPART : List RegRow :=
  [⟨0x40, 1, 4, .rw, 0xc3, 0x1ff, [(8, 4, 0, 24)]⟩,
   ⟨0x44, 1, 4, .rw, 0x0, 0xfff0fff, []⟩,
   ⟨0x48, 1, 4, .ro, 0x0, 0x0, []⟩,
   ⟨0x4c, 1, 4, .ro, 0x0, 0x0, []⟩,
   ⟨0x50, 1, 4, .ro, 0x1, 0x0, []⟩,
   ⟨0x54, 1, 4, .ro, 0x0, 0x0, []⟩,
   ⟨0x58, 1, 4, .ro, 0x0, 0x0, []⟩,
   ⟨0x5c, 1, 4, .ro, 0x0, 0x0, []⟩,
   ⟨0x60, 1, 4, .ro, 0x0, 0x0, []⟩,
   ⟨0x64, 1, 4, .ro, 0x0, 0x0, []⟩,
   ⟨0x68, 1, 4, .ro, 0x0, 0x0, []⟩,
   ⟨0x6c, 1, 4, .ro, 0x0, 0x0, []⟩,
   ⟨0x70, 1, 4, .ro, 0x0, 0x0, []⟩,
   ⟨0x74, 1, 4, .ro, 0x0, 0x0, []⟩,
   ⟨0x78, 1, 4, .ro, 0x0, 0x0, []⟩,
   ⟨0x7c, 1, 4, .ro, 0x0, 0x0, []⟩,
   ⟨0x80, 1, 4, .ro, 0x0, 0x0, []⟩,
   ⟨0x84, 1, 4, .ro, 0x0, 0x0, []⟩]

/-- The function registers of HEALTH (R438). -/
def rowsHEALTH : List RegRow :=
  [⟨0x40, 1, 4, .ro, 0x0, 0x0, []⟩,
   ⟨0x44, 1, 4, .ro, 0xffff, 0x0, []⟩,
   ⟨0x48, 1, 4, .ro, 0x0, 0x0, []⟩,
   ⟨0x4c, 1, 4, .ro, 0x0, 0x0, []⟩,
   ⟨0x100, 16, 4, .ro, 0x0, 0x0, []⟩,
   ⟨0x140, 16, 4, .ro, 0x0, 0x0, []⟩]

/-- The function registers of HOST (R462). -/
def rowsHOST : List RegRow :=
  [⟨0x40, 1, 4, .rw, 0x0, 0x3, []⟩,
   ⟨0x44, 1, 4, .ro, 0x0, 0x0, []⟩,
   ⟨0x50, 4, 4, .ro, 0x0, 0x0, []⟩,
   ⟨0x60, 4, 4, .ro, 0x0, 0x0, []⟩,
   ⟨0x70, 4, 4, .ro, 0x0, 0x0, []⟩,
   ⟨0x80, 1, 4, .ro, 0x0, 0x0, []⟩]

/-- The function registers of PCIE (R463). -/
def rowsPCIE : List RegRow :=
  [⟨0x40, 1, 4, .rw, 0x3, 0x3, []⟩,
   ⟨0x44, 1, 4, .ro, 0x0, 0x0, []⟩,
   ⟨0x48, 1, 4, .ro, 0x3300000, 0x0, []⟩,
   ⟨0x50, 5, 4, .ro, 0x0, 0x0, []⟩,
   ⟨0x64, 5, 4, .ro, 0x0, 0x0, []⟩]

/-- The function registers of SHP (R464). -/
def rowsSHP : List RegRow :=
  [⟨0x40, 1, 4, .rw, 0x3cb8e2, 0xffffff, [(15, 0, 1, 65535), (23, 16, 10, 255)]⟩,
   ⟨0x44, 1, 4, .ro, 0x0, 0x0, []⟩,
   ⟨0x48, 1, 4, .ro, 0x0, 0x0, []⟩,
   ⟨0x4c, 1, 4, .ro, 0x0, 0x0, []⟩,
   ⟨0x50, 1, 4, .ro, 0x0, 0x0, []⟩,
   ⟨0x54, 1, 4, .ro, 0x0, 0x0, []⟩,
   ⟨0x58, 1, 4, .ro, 0x0, 0x0, []⟩,
   ⟨0x80, 2, 32, .ro, 0x0, 0x0, []⟩,
   ⟨0x84, 2, 32, .ro, 0x0, 0x0, []⟩,
   ⟨0x88, 2, 32, .ro, 0x0, 0x0, []⟩,
   ⟨0x8c, 2, 32, .ro, 0x0, 0x0, []⟩,
   ⟨0x90, 2, 32, .ro, 0x0, 0x0, []⟩,
   ⟨0x94, 2, 32, .ro, 0x0, 0x0, []⟩,
   ⟨0x98, 2, 32, .ro, 0x0, 0x0, []⟩,
   ⟨0x9c, 2, 32, .ro, 0x0, 0x0, []⟩]

/-- The function registers of UPD (R488). -/
def rowsUPD : List RegRow :=
  [⟨0x40, 1, 4, .rw, 0x30258, 0x3ffff, [(15, 0, 60, 65535), (17, 16, 1, 3)]⟩,
   ⟨0x44, 1, 4, .ro, 0x0, 0x0, []⟩,
   ⟨0x48, 1, 4, .rw, 0x0, 0x1ffffff, []⟩,
   ⟨0x4c, 1, 4, .rw, 0x0, 0xffff, [(15, 0, 8, 32768)]⟩,
   ⟨0x50, 1, 4, .rw, 0x0, 0xffff, []⟩,
   ⟨0x54, 1, 4, .ro, 0x0, 0x0, []⟩,
   ⟨0x58, 1, 4, .ro, 0x0, 0x0, []⟩,
   ⟨0x5c, 1, 4, .ro, 0x0, 0x0, []⟩,
   ⟨0x60, 1, 4, .ro, 0x0, 0x0, []⟩,
   ⟨0x64, 1, 4, .ro, 0x0, 0x0, []⟩,
   ⟨0x68, 1, 4, .wo, 0x0, 0xffffffff, []⟩,
   ⟨0x6c, 1, 4, .ro, 0x0, 0x0, []⟩,
   ⟨0x70, 1, 4, .ro, 0x0, 0x0, []⟩,
   ⟨0x74, 1, 4, .ro, 0x0, 0x0, []⟩]

/-- The function registers of CRYPT (R490). -/
def rowsCRYPT : List RegRow :=
  [⟨0x40, 1, 4, .ro, 0x0, 0x0, []⟩,
   ⟨0x44, 1, 4, .ro, 0x0, 0x0, []⟩,
   ⟨0x48, 1, 4, .ro, 0x0, 0x0, []⟩,
   ⟨0x4c, 1, 4, .ro, 0x0, 0x0, []⟩,
   ⟨0x50, 1, 4, .ro, 0x0, 0x0, []⟩,
   ⟨0x54, 1, 4, .ro, 0x0, 0x0, []⟩,
   ⟨0x58, 1, 4, .ro, 0x0, 0x0, []⟩,
   ⟨0x5c, 1, 4, .ro, 0x0, 0x0, []⟩]

/-- The function registers of REC (R507). -/
def rowsREC : List RegRow :=
  [⟨0x40, 1, 4, .rw, 0x40, 0x7ff, [(10, 0, 1, 1024)]⟩,
   ⟨0x44, 1, 4, .ro, 0x0, 0x0, []⟩,
   ⟨0x48, 1, 4, .ro, 0x0, 0x0, []⟩,
   ⟨0x4c, 1, 4, .ro, 0x0, 0x0, []⟩,
   ⟨0x50, 1, 4, .ro, 0x0, 0x0, []⟩,
   ⟨0x54, 1, 4, .ro, 0x0, 0x0, []⟩,
   ⟨0x58, 1, 4, .ro, 0x0, 0x0, []⟩,
   ⟨0x5c, 1, 4, .ro, 0x0, 0x0, []⟩,
   ⟨0x60, 1, 4, .ro, 0x0, 0x0, []⟩,
   ⟨0x64, 1, 4, .ro, 0x0, 0x0, []⟩,
   ⟨0x68, 1, 4, .ro, 0x0, 0x0, []⟩,
   ⟨0x6c, 1, 4, .rw, 0x0, 0xfff, []⟩,
   ⟨0x70, 4, 4, .ro, 0x0, 0x0, []⟩,
   ⟨0x80, 1, 4, .rw, 0x0, 0xff, []⟩,
   ⟨0x84, 1, 4, .ro, 0x0, 0x0, []⟩,
   ⟨0x88, 1, 4, .ro, 0x0, 0x0, []⟩,
   ⟨0x8c, 1, 4, .ro, 0x0, 0x0, []⟩,
   ⟨0x90, 1, 4, .ro, 0x0, 0x0, []⟩,
   ⟨0x94, 1, 4, .ro, 0x0, 0x0, []⟩,
   ⟨0x98, 1, 4, .ro, 0x0, 0x0, []⟩]
  ++ [⟨0x9c, 1, 4, .ro, 0x0, 0x0, []⟩,
   ⟨0xa0, 8, 4, .ro, 0x0, 0x0, []⟩,
   ⟨0xc0, 1, 4, .rw, 0x0, 0x7f, []⟩,
   ⟨0xc4, 1, 4, .ro, 0x0, 0x0, []⟩]

/-- The function registers of ENV (R509). -/
def rowsENV : List RegRow :=
  [⟨0x40, 1, 4, .ro, 0x0, 0x0, []⟩,
   ⟨0x44, 1, 4, .ro, 0x0, 0x0, []⟩,
   ⟨0x48, 1, 4, .ro, 0x0, 0x0, []⟩,
   ⟨0x4c, 1, 4, .ro, 0x0, 0x0, []⟩,
   ⟨0x50, 1, 4, .ro, 0x0, 0x0, []⟩,
   ⟨0x54, 1, 4, .ro, 0x7fff, 0x0, []⟩,
   ⟨0x58, 1, 4, .ro, 0x8000, 0x0, []⟩,
   ⟨0x5c, 1, 4, .ro, 0x7fff, 0x0, []⟩,
   ⟨0x60, 1, 4, .ro, 0x8000, 0x0, []⟩,
   ⟨0x64, 1, 4, .ro, 0x8000, 0x0, []⟩,
   ⟨0x68, 1, 4, .rw, 0xbcc0690, 0xffffffff, []⟩,
   ⟨0x6c, 1, 4, .rw, 0x3c00370, 0xffffffff, []⟩,
   ⟨0x70, 1, 4, .ro, 0x0, 0x0, []⟩]

/-- The function registers of a kind of page; the factory test pages define none (R45). -/
def pageRows : PageKind → List RegRow
  | .dev => rowsDEV
  | .boot => rowsBOOT
  | .starter => rowsSTARTER
  | .pfc => rowsPFC
  | .lane => rowsLANE
  | .xchg => rowsXCHG
  | .mem => rowsMEM
  | .memx => rowsMEMX
  | .exec => rowsEXEC
  | .swap => rowsSWAP
  | .debug => rowsDEBUG
  | .baton => rowsBATON
  | .grd => rowsGRD
  | .grds => rowsGRDS
  | .pacer => rowsPACER
  | .grdmb => rowsGRDMB
  | .time => rowsTIME
  | .tcap => rowsTCAP
  | .can => rowsCAN
  | .relay => rowsRELAY
  | .eth => rowsETH
  | .fld => rowsFLD
  | .fdg => rowsFDG
  | .measa => rowsMEASA
  | .measf => rowsMEASF
  | .safe => rowsSAFE
  | .sbo => rowsSBO
  | .disc => rowsDISC
  | .smsg => rowsSMSG
  | .part => rowsPART
  | .health => rowsHEALTH
  | .host => rowsHOST
  | .pcie => rowsPCIE
  | .shp => rowsSHP
  | .upd => rowsUPD
  | .crypt => rowsCRYPT
  | .recorder => rowsREC
  | .env => rowsENV
  | .tst => []

end Sys2Proof.Machine
end

