-- ==== Sys2Proof/Machine/RegReset.lean ====
section
/-!
DEFINITION. The reset value of every register (R9, R49 to R51 for the header), and which addresses are defined.
-/
namespace Sys2Proof.Machine

/-- The address of an offset on a page (R43). -/
def pa (page off : Nat) : Nat := page * 0x1000 + off

/-- The page of an address. -/
def pageOf (a : Nat) : Nat := a / 0x1000

/-- The offset of an address on its page. -/
def offOf (a : Nat) : Nat := a % 0x1000

/-- The index of the first page of the same function (R50). -/
def firstPage : PageKind → Nat
  | .lane => P.LANE | .mem => P.MEM | .grd => P.GRD | .can => P.CAN | .eth => P.ETH | .fld => P.FLD
  | .fdg => P.FDG | .tst => 0xF0
  | .dev => P.DEV | .boot => P.BOOT | .starter => P.STARTER | .pfc => P.PFC | .xchg => P.XCHG | .memx => P.MEMX
  | .exec => P.EXEC | .swap => P.SWAP | .debug => P.DEBUG | .baton => P.BATON | .grds => P.GRDS
  | .pacer => P.PACER | .grdmb => P.GRDMB | .time => P.TIME | .tcap => P.TCAP | .relay => P.RELAY
  | .measa => P.MEASA | .measf => P.MEASF | .safe => P.SAFE | .sbo => P.SBO | .disc => P.DISC | .smsg => P.SMSG
  | .part => P.PART | .health => P.HEALTH | .host => P.HOST | .pcie => P.PCIE | .shp => P.SHP | .upd => P.UPD
  | .crypt => P.CRYPT | .recorder => P.REC | .env => P.ENV

/-- PG_ID of a page (R50). -/
def pgId (p : Nat) (k : PageKind) (inst : Nat) : Nat := p * 2 ^ 24 + inst * 2 ^ 16 + 0x5300 + firstPage k

/-- PG_VER.PROTO of a kind of page (R50, R346). -/
def pgProto : PageKind → Nat
  | .grds | .part | .baton | .shp | .exec | .fld => 2
  | _ => 0

/-- PG_CAP.COUNT of a kind of page on a module with field groups, as its chapter states it. -/
def pgCount : PageKind → Nat
  | .dev => 256 | .starter => 4096 | .pfc => 3 | .lane => 1 | .xchg => 5 | .mem | .memx => 16 | .exec => 16
  | .swap => 2 | .debug => 64 | .baton => 40960 | .grd => 1024 | .grds => 4096 | .pacer => 30 | .grdmb => 4096
  | .time => 1 | .tcap => 32 | .can => 128 | .relay => 4096 | .eth => 1 | .fld => 1 | .fdg => 64 | .measa => 8
  | .measf => 4 | .safe => 8 | .sbo => 4 | .disc => 32 | .smsg => 256 | .part => 1 | .health => 16 | .host => 4
  | .pcie => 2 | .shp => 2 | .boot => 6 | .upd => 3 | .crypt => 4 | .recorder => 4096 | .env => 4 | .tst => 0

/-- PG_CAP.FEAT of a page, as its chapter states it. -/
def pgFeat (k : PageKind) (inst : Nat) : Nat :=
  match k with
  | .pfc | .mem | .exec | .debug | .grds => 1
  | .can => if inst ≤ 3 then 3 else 1
  | _ => 0

/-- PG_CTRL.EN at reset (R51). -/
def pgEn : PageKind → Nat
  | .dev | .boot | .host | .pcie | .shp => 1
  | _ => 0

/-- The row that defines an offset of a kind of page. -/
def findRow : List RegRow → Nat → Option RegRow
  | [], _ => none
  | r :: rs, off =>
    if r.off ≤ off ∧ (off - r.off) % r.step = 0 ∧ (off - r.off) / r.step < r.n then some r else findRow rs off

/-- The reset value of a header register (R49 to R51). -/
def headerReset (p : Nat) (k : PageKind) (inst off : Nat) : Nat :=
  if off = H.ID then pgId p k inst
  else if off = H.VER then 0x01000000 + (match k with | .fld | .fdg => 0 | _ => 0xA100) + pgProto k
  else if off = H.CAP then pgFeat k inst * 2 ^ 16 + pgCount k
  else if off = H.CTRL then pgEn k
  else if off = H.OWNER then 7
  else 0

/-- LANEx.STAGGER (R117). -/
def staggerReset (inst : Nat) : Nat := if inst = 0 then 0x500 else if inst = 1 then 0x302 else 0x104

/-- Default RANK of each relay port (R324). -/
def rankReset (p : Nat) : Nat := if p = 0 then 14 else if p = 1 then 16 else if p = 2 then 15 else 16 - p

/-- The reset value of the register at an address; 0 where no register is defined. -/
def regReset (a : Nat) : Word :=
  match pageKind (pageOf a) with
  | none => 0
  | some (k, inst) =>
    if offOf a < 0x40 then BitVec.ofNat 32 (headerReset (pageOf a) k inst (offOf a))
    else if k = .lane ∧ offOf a = R.LANE_STAGGER then BitVec.ofNat 32 (staggerReset inst)
    else match findRow (pageRows k) (offOf a) with
      | some r =>
        if k = .relay ∧ r.off = 0xC0 then BitVec.ofNat 32 (r.reset + rankReset ((offOf a - r.off) / 4))
        else BitVec.ofNat 32 r.reset
      | none => 0

end Sys2Proof.Machine
end

