-- ==== Sys2Proof/Machine/State.lean ====
section
/-!
DEFINITION. The state of the block: every register (one sparse store, `regs`, over the reset values of the register
map), the memories, and the machinery behind the pages, chapter by chapter of the spec. `State.reset` is the module
without power-up done: every field at the value the spec states for reset or the assumption log names.
-/
namespace Sys2Proof.Machine

/-! ### Reasons a step can stop -/

/-- Why a step stops with a fault. No command of this block raises one: every rule of the spec gives an effect. -/
inductive Fault where
  /-- Raised by no command (safe: nothing stops). -/
  | none
  deriving DecidableEq, Repr

/-- Why a step is refused. -/
inductive Refusal where
  /-- Raised by an arm of `exec` whose command has no meaning in the model (safe: nothing is claimed of it). -/
  | notModelled (mnemonic : String)
  deriving DecidableEq, Repr

/-! ### Register pages, starter (chapters 02, 03) -/

/-- An action the device takes at the next stride boundary (R25, R60). -/
inductive Deferred where
  /-- A register write accepted at the next boundary. -/
  | write (addr : Nat) (val : Word)
  /-- A function reset accepted at the next boundary (R60); its page is BUSY until then. -/
  | reset (page : Nat)
  /-- RELAY FLUSH of a port (R336). -/
  | flush (port : Nat)
  /-- CLR_FORCE (R177). -/
  | clrForce
  deriving DecidableEq, Repr

/-- An event with its order key (R77) and list entry (R80). -/
structure Event where
  tick : Nat
  cls : Nat
  src : Nat
  seq : Nat
  ts : Nat
  detail : Nat
  qual : Nat
  deriving DecidableEq, Repr

/-- The starter behind its page: the values in force and the event lists (R72 to R83). -/
structure Starter where
  /-- S and P latched at the last boundary (R75, R87). -/
  runS : Nat
  runP : Nat
  /-- PG_CTRL.EN is in force. -/
  running : Bool
  /-- A boundary has occurred since EN was set. -/
  started : Bool
  /-- Train time at the start of the running tick and of the tick before, ns (R70). -/
  tickNs : Nat
  prevNs : Nat
  /-- Lane cycles of the tick that ended last, and the fifths of one carried to the next: a lane runs 16 cycles in 5
  edges of the time base (R26, R27). -/
  tickCyc : Nat
  fifths : Nat
  /-- Train time of the latest boundary, ns (R150). -/
  boundNs : Nat
  /-- Train time as the system area shows it, with the substitute of R201; `none` before the first boundary. -/
  sysNs : Option Nat
  /-- Train time has been valid at a boundary since power-up (R201). -/
  everValid : Bool
  /-- Strides since train time was valid at a boundary, at most 255 (R16). -/
  sysAge : Nat
  /-- Events not yet delivered. -/
  events : List Event
  deriving DecidableEq, Repr

/-! ### Recorder and hosts as the shared operations need them (chapters 18, 20) -/

/-- The error counters of one source page (R503, R504). -/
structure SrcCount where
  cnt : Word
  lost : Word
  first : Word
  firstTick : Word
  last : Word
  lastTick : Word
  deriving DecidableEq, Repr

/-- A report waiting in the queue (R504). -/
structure Report where
  tick : Nat
  page : Nat
  report : Word
  opSec : Word
  deriving DecidableEq, Repr

/-- What the block sends to the outside, newest first (the model's record of outputs). -/
inductive Sent where
  /-- An MSI of endpoint `ep`, or INTA asserted when MSI is disabled (R450). -/
  | msi (ep : Nat)
  | inta (ep : Nat) (level : Bool)
  /-- An SHP message of a session, or an unauthenticated answer: port, session, type, sequence, payload (R454). -/
  | shp (port sess typ seq : Nat) (payload : List Byte)
  /-- An Ethernet frame of the relay or of ARP and ICMP: port and bytes. -/
  | eth (port : Nat) (bytes : List Byte)
  /-- A relay datagram: ETH port, peer address, and UDP payload (R329). -/
  | datagram (port peer : Nat) (payload : List Byte)
  /-- A Grador frame: channel, slot, header words and payload (R252). -/
  | grador (ch slot : Nat) (bytes : List Byte)
  /-- A CAN frame: controller and frame words. -/
  | can (ctl : Nat) (words : List Word)
  /-- A heartbeat over the partner link: BOUND_TICK, COMMIT_SEQ, LOCKED and RESET_WAIT groups (R429). -/
  | heartbeat (tick seq locked waiting : Nat)
  /-- A health report over the partner link (R439). -/
  | health (words : List Word)
  /-- The lock-out states of R398. -/
  | lockStates (locked waiting : Nat)
  /-- A standby asks for the mirror copy (R428). -/
  | copyRequest
  /-- A WITHDRAW message with its COMMIT_SEQ (R430). -/
  | withdraw (cause seq : Nat)
  /-- A mirrored MRAM write: address and length (R215, R428). -/
  | mirror (addr len : Nat)
  /-- The transmit SEQ of a safe connection (R428, R433). -/
  | safeSeq (conn seq : Nat)
  /-- A delay request on the OAM channel of a Grador channel (R274). -/
  | delay (ch kind : Nat)
  /-- A delay response with its stamp (R274). -/
  | answer (ch : Nat) (stamp : Word)
  deriving DecidableEq, Repr

/-! ### Lanes, PFC, exchange (chapter 04) and the Stride engines (chapters 06, 07) -/

/-- A running loop: its body's first address and the address after it, the index of the round, its count and the
register the index is loaded into (R198). -/
structure LoopEnt where
  first : Nat
  last : Nat
  idx : Nat
  count : Nat
  reg : Nat
  deriving DecidableEq, Repr

/-- One level of the call stack: return address, code range, type, bases and the loops of the level (R183, R199). -/
structure Level where
  retPc : Nat
  first : Nat
  last : Nat
  typ : Nat
  iBase : Nat
  iSize : Nat
  lBase : Nat
  lSize : Nat
  tb : Bool
  /-- Running loops, innermost first (R198). -/
  loops : List LoopEnt
  deriving DecidableEq, Repr

/-- The ZVC machine state of one lane (R183). -/
structure Engine where
  w : List DWord
  z : Bool
  n : Bool
  v : Bool
  c : Bool
  q : Bool
  pc : Nat
  /-- The current level and the levels below it, innermost first. -/
  stack : List Level
  /-- Lane cycles of the current task run. -/
  cycles : Nat
  deriving DecidableEq, Repr

/-- A lane: its Stride engine and its SRAM (R122). -/
structure Lane where
  eng : Engine
  sram : List Host.Cell
  deriving DecidableEq, Repr

/-- The rebuild of a fenced lane (R100 to R103). -/
structure Clone where
  /-- The lane being rebuilt, if any. -/
  lane : Option Nat
  /-- Lines the running pass still has to copy. -/
  todo : List Nat
  /-- The first pass is running: every line of the SRAM is to be copied. -/
  firstPass : Bool
  /-- Lines marked since the running pass began (R100). -/
  marked : List Nat
  /-- The final phase has armed the lane for the next boundary (R101). -/
  armed : Bool
  /-- Boundaries since the fence. -/
  strides : Nat
  /-- Lines of the running pass already copied. -/
  reached : Nat
  deriving DecidableEq, Repr

/-- The comparator and the exchange behind their pages. -/
structure Voting where
  clone : Clone
  /-- The last bundle V1 forwarded (R94). -/
  lastBundle : BitVec 112
  /-- The last delivered value of an atomic or voted read to the lanes (R132). -/
  lastReturn : DWord
  /-- Ticks in a row that a lane's copy of a source was not good or was outvoted: entry 3 × source + lane (R112). -/
  oddRun : List Nat
  /-- The lanes whose copies the exchange counts: those in service at the start of the running tick (R96, R103). -/
  counted : List Nat
  /-- Q_AGREED_2 of the agreed discretes (R111). -/
  discTwo : BitVec 5
  /-- The tick of the latest decision (R111). -/
  decided : Option Nat
  /-- The agreed upstream frames of F0 to F3 (R110). -/
  frames : List (BitVec 224)
  /-- PFC SAFE_OFF after an injection test is held until this tick (R107). -/
  testOffUntil : Nat
  deriving DecidableEq, Repr

/-! ### Memory (chapter 05) -/

/-- The memory controllers behind their pages; index 0 to 2 are the lane SRAMs, 3 the comms RAM. -/
structure Mems where
  /-- The comms buffer RAM (R124). -/
  comms : List Host.Cell
  /-- Stored words whose check code shows an error, by memory · 2^20 + word (R122, R126 to R128). -/
  upset : List (Nat × Ecc)
  /-- Comms RAM words known to be poisoned and not yet rewritten (R128). -/
  poison : List Nat
  /-- Write-backs scheduled: (memory, word index) (R126). -/
  writeBack : List (Nat × Nat)
  /-- Retained lines written since the latest closed set (R135). -/
  batonDirty : List Nat
  /-- Lines of the closed set not yet streamed, and those the copy-on-write store holds, in the order of the copies
  (R136). -/
  closed : List Nat
  cow : List Nat
  /-- Lines copied on write in the running stride (R136). -/
  cowNow : Nat
  /-- Tick of the latest CLR_CNT of each memory page, from which WAIT_MAX counts (R140). -/
  waitFrom : List Nat
  /-- Tick of the latest completed scrub pass of each memory (R130). -/
  scrubStart : List Nat
  /-- Fenced lanes whose latest march failed: a RESYNC is refused (R139). -/
  marchBad : List Nat
  /-- The march test running: memory, algorithm, preserving, start tick (R138). -/
  march : Option (Nat × Nat × Bool × Nat)
  deriving DecidableEq, Repr

/-! ### Programs and modes (chapters 06, 07) -/

/-- A type table entry (R181). -/
structure TypeEntry where
  entry : Nat
  last : Nat
  size : Nat
  lSize : Nat
  deriving DecidableEq, Repr

/-- An instance table entry (R181). -/
structure InstEntry where
  off : Nat
  typ : Nat
  tb : Bool
  hash : Nat
  deriving DecidableEq, Repr

/-- A task table entry (R181). -/
structure TaskEntry where
  entry : Nat
  last : Nat
  plog : Nat
  offset : Nat
  lSize : Nat
  deriving DecidableEq, Repr

/-- A binding table entry (R181). -/
structure Binding where
  kind : Nat
  index : Nat
  page : Nat
  chan : Nat
  mOff : Nat
  size : Nat
  deriving DecidableEq, Repr

/-- A program as its image gives it (R180). -/
structure Program where
  version : Nat
  progId : Nat
  kSize : Nat
  msgSize : Nat
  declWcet : List Nat
  types : List TypeEntry
  insts : List InstEntry
  tasks : List TaskEntry
  binds : List Binding
  /-- Code and constants section bytes. -/
  code : List Byte
  consts : List Byte
  /-- Initial instance data bytes. -/
  data : List Byte
  /-- The image the program was read from. -/
  image : List Byte
  deriving DecidableEq, Repr

/-- A frozen-buffer block of the program's message window or a transmit block (R31, R153). -/
structure Block where
  /-- Binding it belongs to: kind, page, channel. -/
  page : Nat
  chan : Nat
  /-- Back half: the latest complete unit, its tick, source sequence and quality bits of its own. -/
  back : Option (List Byte × Nat × Nat × Nat)
  /-- The front half as delivered: data, source sequence and its own quality bits. -/
  front : Option (List Byte × Nat × Nat)
  age : Nat
  fresh : Bool
  deriving DecidableEq, Repr

/-- A mode command waiting for the boundary (R162, R169). -/
inductive ModeCmd where
  | start (cold : Bool) | stop | hold | step | cont
  deriving DecidableEq, Repr

/-- The execution model behind EXEC and DEBUG. -/
structure Exec where
  prog : Option Program
  /-- S of the latest passing admission (R158). -/
  admS : Nat
  /-- An admission or LOAD is running: 1 LOAD of slot A or B (+ slot), 3 ADMIT, 4 START. -/
  admitting : Option (Nat × Nat)
  /-- Active area selectors (R225): instance area and code area. -/
  instArea : Nat
  codeArea : Nat
  /-- Tasks of the stride that are due and not completed, in order; the head runs. -/
  due : List Nat
  /-- A task is executing. -/
  running : Bool
  /-- The stride that is open is an executed one (RUN or STEP). -/
  executed : Bool
  /-- Tasks left of a stride a breakpoint halted (R166); the head is resumed at its breakpoint. -/
  remainder : List Nat
  /-- The halted stride has an open pending store (R166). -/
  halted : Bool
  /-- Trap of the stride: task, code, address (R170). -/
  trap : Option (Nat × Nat × Nat)
  /-- Mode commands waiting, with the page they came on. -/
  waiting : List (ModeCmd × Nat)
  /-- A module-wide class 1 cause arose since the last boundary (R169). -/
  cause1 : Bool
  /-- First stride flags for the system area (R150): start, cold, restore, exchange, step. -/
  flagStart : Bool
  flagCold : Bool
  flagRestore : Bool
  flagExchange : Bool
  /-- Strides the latest restore added (R150). -/
  restoreAdded : Nat
  /-- A restore waits for the first executed stride: PSTRIDE, PTIME, train time in ns and whether it was valid (R220). -/
  restored : Option (Nat × Nat × Nat × Bool)
  /-- The next START must be cold (R220, R234). -/
  needCold : Bool
  /-- Application slot the program was loaded from: 4 or 5. -/
  slot : Nat
  /-- Pending output store: output slot to value (R35). -/
  outPend : List (Nat × DWord)
  /-- Current output store (R35). -/
  outCur : List (Nat × DWord)
  /-- Pending transmit units: block number to data and the instance that wrote it, index + 1, 0 for a task body
  (R35, R207, R226). -/
  txPend : List (Nat × List Byte × Nat)
  /-- Frozen blocks of the bindings. -/
  blocks : List Block
  /-- Forces in force: slot, output, value (R168). -/
  forces : List (Nat × Bool × DWord)
  /-- Breakpoints in force: address of each enabled entry by index (R166). -/
  bps : List (Nat × Nat)
  /-- Per-transmit-block commit record: units, tick, length, status, age (R254, R448). -/
  txStat : List (Nat × Nat × Nat × Nat × Nat × Nat)
  /-- Lane cycles spent on tasks in the stride, but for the running one; and what the running one spent before a
  breakpoint halted it in an earlier stride (R84, R166). -/
  cyc : Nat
  cycBase : Nat
  /-- Output channels that no binding drives, as entry to STOP left them: page, channel, value (R163). -/
  kept : List (Nat × Nat × DWord)
  deriving DecidableEq, Repr

/-! ### Field groups (chapter 14) -/

/-- A timed event on its way to or held in an SVT-F1: act tick, position, kind, target, value (R343). -/
structure TimedEv where
  tick : Nat
  pos : Nat
  kind : Nat
  target : Nat
  value : Nat
  deriving DecidableEq, Repr

/-- One analogue input inside the SVT-F1 (R373, R379). -/
structure F1Ai where
  shunt : Bool
  /-- Tick at which the shunt opened or was last tried. -/
  shuntAt : Nat
  /-- The time (ns on the tick scale) of the trigger whose conversion runs. -/
  busy : Option Nat
  /-- The latest accepted trigger. -/
  trig : Option Nat
  ign : Nat
  /-- Codes delivered in this tick (R342). -/
  words : List Nat
  /-- The tick from which the decimator has run without a restart (R375). -/
  since : Nat
  deriving DecidableEq, Repr

/-- The frequency input inside the SVT-F1 (R383). -/
structure F1Fi where
  open_ : Bool
  short : Bool
  /-- FAST is reported until this tick. -/
  fastEnd : Nat
  edges : Nat
  last : Option Nat
  /-- Position of the edge accepted in this tick; 1,023 none. -/
  pos : Nat
  deriving DecidableEq, Repr

/-- The SVT-F1 of one group (R339 to R365). Times are ns on the tick scale: 1,000 × tick + offset. -/
structure F1 where
  failsafe : Bool
  fsCause : Nat
  badRun : Nat
  goodRun : Nat
  /-- An image has been applied since power-on (R345). -/
  applied : Bool
  /-- A frame has been received since power-on; SEQ and TICK of the latest frame place. -/
  dnSeen : Bool
  dnSeq : Nat
  dnTick : Nat
  /-- Outputs in force and those of the latest good frame, applied at the next tick (R341). -/
  doF : Nat
  hs : Bool
  ls : Bool
  nextOut : Option (Nat × Bool × Bool)
  /-- What the frames command of the DOs and of the two SBO switches, also where fail-safe holds them off (R361 to
  R364). -/
  cmdDo : Nat
  cmdHs : Bool
  cmdLs : Bool
  evs : List TimedEv
  /-- Comparators, their latest change (ns), debounced values, wetting and open wire, 16 bits each (R354 to R359). -/
  comp : BitVec 16
  compAt : List Nat
  val : BitVec 16
  wet : BitVec 16
  wetEnd : List Nat
  openWire : BitVec 16
  /-- Edges accepted in this tick: channel, direction, position (R357). -/
  edges : List (Nat × Nat × Nat)
  /-- DO diagnostics, 8 bits each (R361), and the switches over-temperature holds off (R364). -/
  ovl : BitVec 8
  trip : BitVec 8
  owOff : BitVec 8
  owOn : BitVec 8
  otDo : BitVec 8
  otHot : BitVec 8
  otSbo : Bool
  otSboHot : Bool
  sboOc : Bool
  /-- Opened by the 300 µs limit, and the tick from which just one switch has been closed (R363). -/
  sboLim : Bool
  oneFrom : Option Nat
  /-- SAFE_OFF seen at the SVT-F1 and the tick from which the toggle has been present (R351). -/
  safeOff : Bool
  toggleSince : Nat
  cutAct : BitVec 4
  cutHold : BitVec 4
  cutEnd : List Nat
  vfLow : Bool
  hot140 : Bool
  hot155 : Bool
  diagIdx : Nat
  pass : Nat
  upSeq : Nat
  /-- The upstream frame sent in this tick (R342). -/
  upFrame : BitVec 224
  /-- The active configuration: the words the SVT-C1 built it from (R344). -/
  cfg : List Word
  /-- Words of the running pass received in good frames without a gap, and the image they belong to (R344). -/
  shadow : Nat
  shadowCfg : List Word
  /-- The image to be copied at the start of the next tick (R344). -/
  nextCfg : Option (List Word)
  cntBad : Nat
  cntRepair : Nat
  cntFs : Nat
  ai : List F1Ai
  fi : F1Fi
  deriving DecidableEq, Repr

/-- A field group seen from the SVT-C1. -/
structure Group where
  f1 : F1
  /-- Sending downstream frames. -/
  dnOn : Bool
  bringup : Bool
  enTick : Nat
  dnSeq : Nat
  /-- Image word the next frame carries. -/
  cfgPos : Nat
  /-- The image being sent, the tick its full pass is counted from, and the tick of the frame that carried APPLY
  (R344). -/
  cfgCur : List Word
  cfgTa : Option Nat
  cfgSent : Option Nat
  applyNext : Bool
  dnFrame : BitVec 200
  /-- Timed events not yet sent. -/
  queue : List TimedEv
  /-- Agreed DI, Q_AGREED_2 mask, age (256: nothing agreed since the enable) and freshness of the group (R358). -/
  di : BitVec 16
  q2 : BitVec 16
  age : Nat
  fresh : Bool
  /-- The group's values are invalid (R347, R349). -/
  invalid : Bool
  /-- A tick with FAILSAFE = 1 was agreed (R347). -/
  fsSeen : Bool
  /-- LSTAT and SBO fields of the latest agreed frame. -/
  lstat : Nat
  sboUp : Nat
  /-- The tick from which each SAFE_OFF of the safety unit is released (R351); `none`: not asserted. -/
  offUntil : Option Nat
  /-- Tick of refresh of each diagnostic field (R370). -/
  diagTick : List (Option Nat)
  /-- The latest value of each diagnostic field, and whether it has come since FDG's latest reset (R59, R371). -/
  raw : List Nat
  seen : List Bool
  deriving DecidableEq, Repr

/-! ### Safety (chapter 16) -/

/-- A switch test or brake test of an SBO (R402, R403). -/
structure SboTest where
  /-- 0 idle, 1 high side, 2 pause, 3 low side; 11 to 14 brake-test steps. -/
  phase : Nat
  endTick : Nat
  /-- A deferred or aborted test runs again from this tick. -/
  retryAt : Nat
  due : Bool
  byCommand : Bool
  /-- Energised at the start of the test. -/
  energised : Bool
  /-- Step 3 of a brake test: the readback has been right so far, and the valve has shown current (R403). -/
  ok : Bool
  sawOn : Bool
  /-- TEST_RESULT before the running switch test. -/
  prevRes : Nat
  deriving DecidableEq, Repr

/-- A safe connection (R406 to R411). -/
structure Conn where
  valid : Bool
  single : Bool
  everDual : Bool
  lastSeq : Nat
  age : Nat
  d : Nat
  txSeq : Option Nat
  /-- Codes and PDUs of the copies of the running cycle. -/
  copyA : Option (Nat × List Byte)
  copyB : Option (Nat × List Byte)
  codeA : Nat
  codeB : Nat
  dual : Word
  singles : Word
  rejs : Word
  tos : Word
  /-- Latest accepted data, its SEQ and the reset-source bit of it. -/
  data : List Byte
  bit0 : Bool
  /-- A unit was accepted in the running basic cycle. -/
  now : Bool
  deriving DecidableEq, Repr

/-- The safety unit behind its pages. -/
structure Safety where
  /-- The connection table (R420), 8 KiB. -/
  connTab : List Host.Cell
  /-- Group states as path Y holds them; path X's stand in SG_STAT (R393). -/
  pathY : List Nat
  /-- Release request of the previous commit, one bit per group (R394). -/
  prevReq : BitVec 8
  /-- RESET_ARM: mask, deadline, host (R399). -/
  arm : Option (Nat × Nat × Issuer)
  /-- Tick of RESET_CONFIRM and deadline of each waiting group, and edges seen. -/
  waitFrom : List Nat
  waitEnd : List Nat
  edgeSeen : BitVec 8
  /-- Tick of each group's latest recorded cause. -/
  causeTick : List Nat
  /-- Groups with a FIELD, NETWORK or CONFIG condition in the previous tick (R397). -/
  condPrev : BitVec 8
  tests : List SboTest
  /-- Tick since which the read-back of each SBO differs, and since which it is energised or not (R401). -/
  misSince : List (Option Nat)
  enSince : List (Bool × Nat)
  /-- End of the quiet millisecond after each test step. -/
  quietUntil : List Nat
  /-- Tick at which each running pair timer started (R404). -/
  pairStart : List (Option Nat)
  conns : List (Nat × Conn)
  /-- Tick at which the gate first opened at a takeover (R402). -/
  gateFirst : Option Nat
  /-- SG_STAT[15:0] of each group at the end of the tick before (R31, R394). -/
  statAt : List Nat
  deriving DecidableEq, Repr

/-! ### Partner (chapter 17) -/

/-- The partner unit behind PART and HEALTH. -/
structure Partner where
  actIn : Bool
  toggling : Bool
  /-- The gate holds the claim; the last toggle was at this tick. -/
  held : Bool
  lastToggle : Nat
  /-- Since when the claim is held with ACT_IN clear (R425). -/
  clearSince : Option Nat
  claimTick : Nat
  waitStart : Option Nat
  copying : Bool
  copied : Bool
  hbLink : Option Nat
  hbGrd : Option Nat
  silenceFrom : Nat
  /-- Takeover: trigger tick; the restore has brought a commit and RUN begins at the next boundary; it found none. -/
  takeTick : Option Nat
  restored : Bool
  noData : Bool
  partnerArmed : Bool
  partnerMirrorBad : Bool
  /-- Words 0, 4, 5 and 6 of the partner's latest report (R439), and its NODE_ID and SLOT_ID as the link gave them. -/
  peer : List Word
  peerNode : Nat
  peerSlot : Nat
  reportTick : Option Nat
  /-- When this module sent its latest report (R429). -/
  reportSent : Option Nat
  withdrawing : Bool
  mirrorSeq : List (Nat × Nat)
  negotiated : Bool
  deriving DecidableEq, Repr

/-! ### Measurement chain (chapter 15) -/

/-- An output of an analogue input: its value (REAL32), code, stamp in ns of train time, effective time (R378), and
whether it carries Q_AGREED_2. -/
structure MeasOut where
  val : Word
  code : Int
  stamp : Nat
  eff : Int
  two : Bool
  deriving DecidableEq, Repr

/-- The measurement stage of one analogue input (R374 to R382). -/
structure AiChan where
  /-- The channel words in force, and whether the group was in fail-safe. -/
  cfg : List Word
  failsafe : Bool
  /-- The restart of the decimator, ns on the tick scale (R375). -/
  restart : Nat
  /-- The latest codes and the latest rank outputs, newest first. -/
  codes : List Int
  ranks : List Int
  /-- The chain has delivered its (L + M + 1)th code since the restart. -/
  settled : Bool
  out : Option MeasOut
  fresh : Bool
  age : Nat
  /-- The latest accepted triggers, ns on the tick scale, newest first (R379). -/
  trigs : List Nat
  /-- A configuration word failed its parity (R391). -/
  bad : Bool
  deriving DecidableEq, Repr

/-- The measurement stage of one frequency input (R383, R384). -/
structure FiChan where
  cfg : List Word
  failsafe : Bool
  /-- Edge times since the restart or standstill, newest first, at most 65 (ns of train time). -/
  edges : List Nat
  /-- The average in REAL32 Hz, its effective time and Q_AGREED_2. -/
  out : Option (Word × Int × Bool)
  fresh : Bool
  age : Nat
  still : Bool
  bad : Bool
  deriving DecidableEq, Repr

/-- The measurement stages behind MEASA and MEASF. -/
structure Measure where
  ai : List AiChan
  fi : List FiChan
  deriving DecidableEq, Repr

/-! ### Time unit (chapter 11) -/

/-- A timed output: its pending schedule and the value it drives (R299, R300). -/
structure Tout where
  pend : Bool
  time : Nat
  value : Bool
  owner : Nat
  /-- The pending switch has been handed to its group's event queue. -/
  queued : Bool
  cur : Bool
  deriving DecidableEq, Repr

/-- The time unit behind TIME and TCAP. -/
structure TimeUnit where
  /-- Train time: seconds, nanoseconds and the 24-bit fraction of a nanosecond (R289). -/
  sec : BitVec 64
  ns : Nat
  frac : BitVec 24
  /-- The self-valid latch (R293). -/
  selfValid : Bool
  /-- Consecutive messages with |e| ≤ 100 ns, and the carry of the phase term (R292, R293). -/
  run : Nat
  carry : Int
  /-- A message counted since the latest instance of REF_MB was due. -/
  counted : Bool
  /-- Own train time latched at the action point of REF_MB's instance in the running cycle (R291). -/
  latched : Option Nat
  /-- Tick at which HOLDOVER began. -/
  holdFrom : Nat
  /-- ADJ_UNLOCK in force: its deadline tick and issuer (R295). -/
  unlock : Option (Nat × Issuer)
  /-- Timed outputs (R299, R300). -/
  touts : List Tout
  /-- Compare channels: the TIME whose firing has been queued to the field groups, and firings (R298). -/
  cmps : List (Option Nat × Nat)
  /-- Boundary tick whose stride trigger has been queued (R380). -/
  strideTrig : Nat
  deriving DecidableEq, Repr

/-! ### Boot, fuses, flash (chapter 19) -/

/-- The start-up machinery behind BOOT, UPD and CRYPT. -/
structure Boot where
  /-- The three physical copies of the fuses (R468). -/
  fuse0 : BitVec 1024
  fuse1 : BitVec 1024
  fuse2 : BitVec 1024
  /-- The boot is held in RECOVERY (R475). -/
  recovery : Bool
  /-- The six slots: the container header and the plaintext result of each (R470, R478). -/
  headers : List (List Byte)
  flash : List (List Byte)
  /-- The staging area, the end of its erased range, and the ranges written since (R481). -/
  staging : List Host.Cell
  erased : Nat
  written : List (Nat × Nat)
  /-- The UPD command that runs: opcode, two arguments, start tick. -/
  op : Option (Nat × Nat × Nat × Nat)
  /-- VIN is in range and the supplies are up; the boot waits for the hold-up store; the store is charged (R520). -/
  powered : Bool
  waiting : Bool
  charged : Bool
  /-- A fallback restarts the module at the next boundary, and what that boot will meet (R484). -/
  restartDue : Option BootReport
  /-- Durations of the steps of the running boot, in µs. -/
  us : List Nat
  /-- The tick in which the boot began to wait for the hold-up store (R473, R520). -/
  waitFrom : Nat
  /-- Pages the configuration record has enabled, and the owners it names (R476, R477). -/
  enables : List Nat
  owners : List (Nat × Nat)
  /-- An AUTOSTART waits for the claim (R474). -/
  autoStart : Bool
  /-- No output has been committed since release (R474). -/
  outputsHeld : Bool
  deriving DecidableEq, Repr

/-! ### Exchange and retention (chapter 08) -/

/-- A run of a migration map (R223). -/
structure MigRun where
  mark : Bool
  kind : Nat
  oldOff : Nat
  newOff : Nat
  len : Nat
  deriving DecidableEq, Repr

/-- An entry of a migration map with its runs (R223). -/
structure MigEntry where
  old : Nat
  new : Nat
  newOnly : Bool
  runs : List MigRun
  deriving DecidableEq, Repr

/-- A migration map (R223). -/
structure MigMap where
  oldId : Nat
  newId : Nat
  entries : List MigEntry
  /-- RUNS of the header. -/
  runs : Nat
  deriving DecidableEq, Repr

/-- A staged exchange (R222): the new program, the old one and the two maps. -/
structure Staged where
  slot : Nat
  new : Program
  oldSlot : Nat
  old : Program
  fwd : MigMap
  rev : MigMap
  deriving DecidableEq, Repr

/-- The exchange behind SWAP; its state stands in SWAP_STAT. -/
structure Exchange where
  /-- Slot of the STAGE that runs. -/
  staging : Option Nat
  staged : Option Staged
  /-- The old initial data stands in the inactive area (R227). -/
  revertReady : Bool
  /-- Output channels the program no longer binds, until the next boundary: page, channel, value (R225), and timed
  outputs whose output takes its off value there (R226). -/
  leaving : List (Nat × Nat × DWord)
  leavingTouts : List Nat
  deriving DecidableEq, Repr

/-- The trailer of a set that has been closed (R212). -/
structure Trailer where
  pstride : Nat
  ptime : Nat
  sec : Nat
  ns : Nat
  flags : Nat
  progId : Nat
  trialLeft : Nat
  deriving DecidableEq, Repr

/-- The baton behind BATON. -/
structure Baton where
  /-- The 16 MiB MRAM (R211). -/
  mram : List Host.Cell
  /-- SEQ of the latest entry written. -/
  seq : Nat
  /-- The closed set's trailer, and whether it is a chain (R216). -/
  closing : Option (Trailer × Bool)
  /-- The instance area that was active when the set closed, and how many lines it had. -/
  closedInst : Nat
  closedLines : List Nat
  /-- Boundary tick at which the set closed, and the lines of it that have been streamed with their bytes (R215). -/
  closedAt : Nat
  streamed : List (Nat × List Byte)
  /-- Strides joined into the open map (R214). -/
  joined : Nat
  /-- The next set closed carries EXCH (1) or REVERT (2) (R228). -/
  exchNext : Nat
  /-- Ring position and next SEQ at which the running sweep started, its next line, and the lines it passed over that no
  commit has carried since (R217). -/
  sweepAt : Option (Nat × Nat)
  sweepPos : Nat
  sweepTodo : List Nat
  /-- An exchange commit lies after the restore start: the next sweep writes the ring (R228). -/
  ringDue : Bool
  /-- SEQ of the entry at the restore start. -/
  startSeq : Nat
  /-- Ring bytes written since the restore start. -/
  written : Nat
  /-- The base image is not read until the next complete sweep (R228). -/
  baseBad : Bool
  /-- A restore runs: 1 boot, 2 takeover, and its start tick. -/
  restoring : Option (Nat × Nat)
  deriving DecidableEq, Repr

/-! ### Grador (chapters 09, 10) -/

/-- A message buffer beside its bytes in the comms RAM (R247, R250, R254). -/
structure GrdBuf where
  okCnt : Word
  errCnt : Word
  /-- CYCLE_CNT of the latest OK frame or send. -/
  lastOk : Nat
  status : Nat
  ageField : Nat
  dlen : Nat
  /-- Cycle (counted by the node) in which the latest OK frame came; `none` before the first. -/
  okTotal : Option Nat
  /-- Units committed and not yet latched: boundary tick and bytes, oldest first. -/
  commits : List (Nat × List Byte)
  latched : Option (List Byte)
  latchAge : Nat
  /-- AGE of the latest send (R254). -/
  sentAge : Nat
  units : Word
  commitStat : Nat
  /-- The PDU of a paired instance in a cycle, so that both channels send the same (R253, R407). -/
  pairTx : Option (Nat × Option (List Byte))
  deriving DecidableEq, Repr

/-- An entry of the claim table (R259). -/
structure Claim where
  idx : Nat
  held : Bool
  base : Nat
  rlog : Nat
  slot : Nat
  ch : Nat
  node : Nat
  lap : Nat
  /-- Heard in the running lap; whole laps of silence; cycle of a release. -/
  heard : Bool
  silent : Nat
  relAt : Option Nat
  deriving DecidableEq, Repr

/-- A deviation of the running cycle (R278). -/
structure PVal where
  node : Nat
  ch : Nat
  slot : Nat
  dev : Int
  own : Bool
  /-- The frame's time stamp, ns from the cycle's start (R285). -/
  stamp : Int
  deriving DecidableEq, Repr

/-- A delay exchange with the tick of its request: running since its T1, failed, or its delay in half ns (R274). -/
inductive Exch where
  | run (tick : Nat) (t1 : Word)
  | failed (tick : Nat)
  | done (tick : Nat) (twice : Int)
  deriving DecidableEq, Repr

/-- The Grador controller and the pacer behind their pages. -/
structure Grador where
  /-- The 64 KiB schedule memory (R242); the claim table stands in `claims`. -/
  sched : List Host.Cell
  /-- Cycles started, and the running cycle's start: tick, and train time in ns. -/
  total : Nat
  cycTick : Nat
  cycNs : Nat
  /-- The network clock's position within the cycle at the start of the running tick, ns (R272). -/
  pos : Int
  /-- Time since the latest ns that the rate correction gained or lost, and the rate in effect from the next cycle
  (R280, R282). -/
  rateAcc : Nat
  rateNext : Option Int
  /-- What is left of the offset correction that is being spread; the pacer has computed in this cycle (R280, R282). -/
  spread : Int
  corrected : Bool
  /-- The cycle is not a silent whole one; the node has taken timing since it entered the state (R256, R282). -/
  noise : Bool
  placed : Bool
  /-- A CS frame with status OK was heard in the running cycle (R257). -/
  csSeen : Bool
  /-- Channels whose first measurement since the entry to LISTEN is not over (R275). -/
  barred : List Bool
  /-- Cycles in the present protocol state, and cycles of silence (R256). -/
  phase : Nat
  quiet : Nat
  /-- The back-off counts from the end of the running cycle. -/
  aborted : Bool
  /-- INTEGRATE: a full cycle runs; adoption was on a CS frame; the cycle has failed (R257). -/
  fullCycle : Bool
  adoptedCs : Bool
  integBad : Bool
  /-- Sync nodes heard OK in the running cycle: channel and node. -/
  syncs : List (Nat × Nat)
  bufs : List (Nat × GrdBuf)
  claims : List Claim
  /-- SLOT_CLAIM: instance, laps begun since the command, and what spoils it (R260). -/
  claiming : Option (Nat × Nat × Bool)
  /-- Cycle at which each releasing own claim ends, by claim index (R261). -/
  relEnd : List (Nat × Nat)
  rotate : Nat
  /-- Consecutive misses of each monitored station (R249). -/
  misses : List (Nat × Nat)
  /-- Pacer: values of the running and of the previous cycle, the previous correction, and whether the offset was
  computed in the previous and in this cycle (R278 to R281). -/
  vals : List PVal
  prev : List PVal
  oc : Int
  prevOc : Int
  measured : Bool
  prevMeasured : Bool
  /-- The running link measurement of each channel (R274, R275). -/
  probes : List (Option (List Exch))
  deriving DecidableEq, Repr

/-! ### CAN (chapter 12) and the relay (chapter 13) -/

/-- A CAN frame as R309 stores it. -/
structure CanFrame where
  id : Word
  ctl : Word
  data : List Byte
  /-- The tick in which the arbitration of a frame that the program committed may start (R315). -/
  start : Option Nat
  deriving DecidableEq, Repr

/-- A transmit buffer (R315, R316). -/
structure CanTb where
  pend : Option CanFrame
  /-- A frame that waits for the attempt of the old one to end. -/
  next : Option CanFrame
  abort : Bool
  /-- The latest committed unit, for cyclic sending, and its strides. -/
  last : Option CanFrame
  age : Nat
  deriving DecidableEq, Repr

/-- A CAN controller behind its page. -/
structure CanCtl where
  /-- Index of the oldest entry of the receive FIFO (R314), and the word pointer of RXF_DATA (R535). -/
  head : Nat
  ptr : Nat
  /-- The transmit FIFO, its head's attempts, and a mark to abort the head. -/
  txf : List CanFrame
  tried : Bool
  abortHead : Bool
  tbs : List CanTb
  /-- The attempt: a transmit buffer 0 to 2, or 3 for the FIFO head. -/
  attempt : Option Nat
  /-- Frames accepted by each filter since the enable (R312). -/
  seen : List (Nat × Nat)
  /-- Waiting for bus idle to leave the bus (R319, R323): 1 EN cleared, 2 function reset. -/
  leaving : Nat
  deriving DecidableEq, Repr

/-- A unit in the relay (R324). -/
structure RUnit where
  port : Nat
  id : Nat
  event : Bool
  data : List Byte
  /-- Code of the first route that did not deliver it (R327). -/
  fail : Nat
  deriving DecidableEq, Repr

/-- A unit in an egress queue: its source, where it goes, and the tick of its delivery (R327, R331). -/
structure Egress where
  dst : Nat
  src : Nat
  event : Bool
  id : Nat
  data : List Byte
  frame : CanFrame
  tick : Nat
  deriving DecidableEq, Repr

/-- Phases of a transfer (R331, R334): it holds its port's buffer, moves, waits for space, or has backed off. -/
inductive XPhase where
  | loaded | moving | space | backoff
  deriving DecidableEq, Repr

/-- The transfer of a port's ingress head: routes not yet delivered, and the tick its wait ends. -/
structure Xfer where
  unit : RUnit
  left : List Nat
  phase : XPhase
  until_ : Nat
  deriving DecidableEq, Repr

/-- The relay behind its page. -/
structure Relay where
  /-- The 64 KiB route memory (R325). -/
  routes : List Host.Cell
  ingress : List (List RUnit)
  xfer : List (Option Xfer)
  egress : List (List Egress)
  events : Nat
  /-- Next inbox slot and outbox slot of each host port (R330), and datagrams sent on each ETH port (R329). -/
  inbox : List Nat
  outbox : List Nat
  seqs : List Nat
  /-- Units delivered to each PROG receive block (R327). -/
  progSeq : List (Nat × Nat)
  deriving DecidableEq, Repr


/-! ### Hosts over SHP (chapter 18) -/

/-- A cached response: SEQ and tag of its request, and the datagram that answered it (R457). -/
structure ShpCached where
  seq : Nat
  tag : List Byte
  resp : List Byte
  deriving DecidableEq, Repr

/-- An open session (R455 to R459). -/
structure Session where
  id : Word
  ver : Nat
  ip : Word
  port : Nat
  eth : Nat
  /-- SEQ of the latest accepted request. -/
  seq : Nat
  key : List Byte
  cache : List ShpCached
  /-- Tick of the latest accepted request. -/
  lastReq : Nat
  /-- Events sent, an event to send, and the tick of the latest sending of an unanswered one. -/
  events : Nat
  evtDue : Bool
  evtSent : Option Nat
  deriving DecidableEq, Repr

/-- The sessions of H2 and H3 and their host keys. -/
structure Shp where
  sess : List (Option Session)
  keys : List (Option (List Byte))
  deriving DecidableEq, Repr

/-! ### Event recorder (chapter 20) -/

/-- An extreme entry (R496): lowest and highest sample, and the operating seconds that reached them first. -/
structure Extreme where
  min : Int
  max : Int
  minAt : Nat
  maxAt : Nat
  deriving DecidableEq, Repr

/-- A record that is open (R499): operating second and INTERVAL_H at its opening, power-ups within it, histogram bins
(R495), extremes and counts. -/
structure OpenRec where
  openAt : Nat
  interval : Nat
  powerUps : Nat
  bins : List Nat
  extremes : List Extreme
  counts : List Word
  deriving DecidableEq, Repr

/-- The recorder behind REC. -/
structure Recorder where
  /-- The tallies of the running interval (R497). -/
  tally : List Word
  /-- The open record, and as it was last written to MRAM. -/
  live : OpenRec
  saved : OpenRec
  /-- Records closed whose MRAM write failed (R508). -/
  unwritten : List (List Byte)
  /-- The detail log by entry (R505). -/
  log : List (Nat × Report)
  /-- The lowest load margin of the executed strides closed in the running second (R495). -/
  margin : Option Int
  /-- The latest ENV samples: VIN, board and junction temperature. -/
  sample : Option (Int × Int × Int)
  /-- Operating seconds and power cycles as the counter area of MRAM holds them (R498). -/
  secSaved : Nat
  cycSaved : Word
  /-- The tick of the latest removal from the report queue (R504). -/
  drainedAt : Nat
  deriving DecidableEq, Repr

/-- The whole block. -/
structure State where
  /-- Every register that holds a value other than its reset value (R43, R49). -/
  regs : List (Nat × Word)
  /-- Held low halves, by issuer and address (R48, R442). -/
  held : List (Nat × Word)
  /-- What PG_CMDSTAT shows, by page, of the latest command rejected while another was executing (R55). -/
  shown : List (Nat × Word)
  /-- Actions due at the next boundary (R25). -/
  deferred : List Deferred
  starter : Starter
  voting : Voting
  lanes : List Lane
  mems : Mems
  exec : Exec
  groups : List Group
  safety : Safety
  part : Partner
  time : TimeUnit
  boot : Boot
  meas : Measure
  swap : Exchange
  baton : Baton
  grd : Grador
  can : List CanCtl
  relay : Relay
  shp : Shp
  life : Recorder
  /-- Error counters by source page and the report queue (R503, R504). -/
  srcs : List (Nat × SrcCount)
  reports : List Report
  /-- What the block has sent, newest first. -/
  sent : List Sent
  /-- Commands waiting, first in first out. -/
  pending : List Instr
  /-- How many free values have been taken (the model's own). -/
  freeCtr : Nat
  deriving DecidableEq, Repr

/-! ### The parts of the block with nothing done -/

/-- An analogue input that has not converted. -/
def f1AiZero : F1Ai := ⟨false, 0, none, none, 0, [], 0⟩

/-- An SVT-F1 that has never been powered (R345): in fail-safe, every output off. -/
def f1Zero : F1 :=
  { failsafe := true, fsCause := 2, badRun := 0, goodRun := 0, applied := false, dnSeen := false, dnSeq := 0,
    dnTick := 0, doF := 0, hs := false, ls := false, nextOut := none, cmdDo := 0, cmdHs := false, cmdLs := false, evs := [], comp := 0,
    compAt := List.replicate 16 0, val := 0, wet := 0, wetEnd := List.replicate 16 0, openWire := 0, edges := [],
    ovl := 0, trip := 0, owOff := 0, owOn := 0, otDo := 0, otHot := 0, otSbo := false, otSboHot := false,
    sboOc := false, sboLim := false, oneFrom := none, safeOff := true, toggleSince := 0, cutAct := 0, cutHold := 0,
    cutEnd := List.replicate 4 0, vfLow := false, hot140 := false, hot155 := false, diagIdx := 0, pass := 0,
    upSeq := 0, upFrame := 0, cfg := [], shadow := 0, shadowCfg := [], nextCfg := none, cntBad := 0, cntRepair := 0,
    cntFs := 0, ai := [f1AiZero, f1AiZero], fi := ⟨false, false, 0, 0, none, 1023⟩ }

/-- A field group that has never been enabled. -/
def groupZero : Group :=
  { f1 := f1Zero, dnOn := false, bringup := false, enTick := 0, dnSeq := 0, cfgPos := 0, cfgCur := [], cfgTa := none,
    cfgSent := none, applyNext := false, dnFrame := 0, queue := [], di := 0, q2 := 0, age := 256, fresh := false,
    invalid := false, fsSeen := false, lstat := 0, sboUp := 0, offUntil := none,
    diagTick := List.replicate 64 none, raw := List.replicate 64 0, seen := List.replicate 64 false }

/-- A timed output never scheduled. -/
def toutZero : Tout := ⟨false, 0, false, 0, false, false⟩

/-- No test. -/
def testZero : SboTest := ⟨0, 0, 0, false, false, false, false, false, 0⟩

/-- An engine that has not run, and a lane with nothing written. -/
def engineZero : Engine := ⟨List.replicate 16 0, false, false, false, false, false, 0, [], 0⟩
def laneZero : Lane := ⟨engineZero, []⟩

def tbZero : CanTb := ⟨none, none, false, none, 0⟩
def canZero : CanCtl := ⟨0, 0, [], false, false, [tbZero, tbZero, tbZero], none, [], 0⟩

def aiZero : AiChan :=
  { cfg := [], failsafe := true, restart := 0, codes := [], ranks := [], settled := false, out := none, fresh := false,
    age := 255, trigs := [], bad := false }
def fiZero : FiChan :=
  { cfg := [], failsafe := true, edges := [], out := none, fresh := false, age := 255, still := false, bad := false }

def starterZero : Starter :=
  { runS := 0, runP := 0, running := false, started := false, tickNs := 0, prevNs := 0, tickCyc := 400, fifths := 0,
    boundNs := 0, sysNs := none,
    everValid := false, sysAge := 255, events := [] }

/-- No lane is being rebuilt. -/
def cloneIdle : Clone := ⟨none, [], false, [], false, 0, 0⟩

def votingZero : Voting :=
  { clone := cloneIdle, lastBundle := 0, lastReturn := 0, oddRun := List.replicate 15 0, counted := [0, 1, 2],
    discTwo := 0, decided := none, frames := List.replicate 4 0, testOffUntil := 0 }

def memsZero : Mems :=
  { comms := [], upset := [], poison := [], writeBack := [], batonDirty := [], closed := [], cow := [], cowNow := 0,
    waitFrom := [0, 0, 0, 0], scrubStart := [0, 0, 0, 0], marchBad := [], march := none }

def execZero : Exec :=
  { prog := none, admS := 0, admitting := none, instArea := 0, codeArea := 0, due := [], running := false,
    executed := false, remainder := [], halted := false, trap := none, waiting := [], cause1 := false,
    flagStart := false, flagCold := false, flagRestore := false, flagExchange := false, restoreAdded := 0,
    restored := none, needCold := false, slot := 4, outPend := [], outCur := [], txPend := [], blocks := [],
    forces := [], bps := [], txStat := [], cyc := 0, cycBase := 0, kept := [] }

def safetyZero : Safety :=
  { connTab := [], pathY := List.replicate 8 0, prevReq := 0, arm := none, waitFrom := List.replicate 8 0,
    waitEnd := List.replicate 8 0, edgeSeen := 0, causeTick := List.replicate 8 0, condPrev := 0,
    tests := List.replicate 4 testZero, misSince := List.replicate 4 none, enSince := List.replicate 4 (false, 0),
    quietUntil := List.replicate 4 0, pairStart := List.replicate 32 none, conns := [], gateFirst := none,
    statAt := List.replicate 8 0 }

def partZero : Partner :=
  { actIn := false, toggling := false, held := false, lastToggle := 0, clearSince := none, claimTick := 0,
    waitStart := none, copying := false, copied := false, hbLink := none, hbGrd := none, silenceFrom := 0,
    takeTick := none, restored := false, noData := false, partnerArmed := false, partnerMirrorBad := false, peer := [],
    peerNode := 0, peerSlot := 0, reportTick := none, reportSent := none, withdrawing := false, mirrorSeq := [], negotiated := false }

def timeZero : TimeUnit :=
  { sec := 0, ns := 0, frac := 0, selfValid := false, run := 0, carry := 0, counted := false, latched := none, holdFrom := 0,
    unlock := none, touts := List.replicate 32 toutZero, cmps := List.replicate 32 (none, 0), strideTrig := 0 }

/-- Fuses as the model takes them at production (DESIGN CHOICE, log entry 5): three lanes enabled, variant
SVT330-PM-A, unique ID 0, no keys, thermometer 0, and the CRC-16 that fits them (R468); the debug lock is set, as on
every production module (R45). -/
def fusesAtProduction : BitVec 1024 := BitVec.ofNat 1024 (7 * 2 ^ 132 + 15 * 2 ^ 912 + 0xB57D * 2 ^ 1008)

def bootZero : Boot :=
  { fuse0 := fusesAtProduction, fuse1 := fusesAtProduction, fuse2 := fusesAtProduction, recovery := false,
    headers := List.replicate 6 [], flash := List.replicate 6 [], staging := [], erased := 0, written := [], op := none,
    powered := false, waiting := false, charged := false, restartDue := none, us := [], waitFrom := 0, enables := [], owners := [],
    autoStart := false, outputsHeld := false }

def swapZero : Exchange := { staging := none, staged := none, revertReady := false, leaving := [], leavingTouts := [] }

def batonZero : Baton :=
  { mram := [], seq := 0, closing := none, closedInst := 0, closedLines := [], closedAt := 0, streamed := [],
    joined := 0, exchNext := 0, sweepAt := none, sweepPos := 0, sweepTodo := [], ringDue := false, startSeq := 0, written := 0, baseBad := true, restoring := none }

def grdZero : Grador :=
  { sched := [], total := 0, cycTick := 0, cycNs := 0, pos := 0, rateAcc := 0, rateNext := none, spread := 0,
    corrected := false, noise := false, placed := false, csSeen := false, barred := [false, false], phase := 0, quiet := 0, aborted := false, fullCycle := false,
    adoptedCs := false, integBad := false, syncs := [], bufs := [], claims := [], claiming := none, relEnd := [],
    rotate := 0, misses := [], vals := [], prev := [], oc := 0, prevOc := 0, measured := false, prevMeasured := false,
    probes := [none, none] }

def relayZero : Relay :=
  { routes := [], ingress := List.replicate 17 [], xfer := List.replicate 17 none, egress := List.replicate 17 [],
    events := 0, inbox := [0, 0, 0, 0], outbox := [0, 0, 0, 0], seqs := [0, 0], progSeq := [] }

def shpZero : Shp := { sess := [none, none], keys := [none, none] }

/-- An extreme entry whose quantity has not been sampled (R496). -/
def extremeZero : Extreme := ⟨0x7FFF, -0x8000, 0, 0⟩

/-- Twenty tallies at 0 (R497). -/
def tallyZero : List Word := List.replicate 20 0

/-- A record that opens at an operating second. -/
def recordOpen (at_ interval : Nat) : OpenRec :=
  ⟨at_, interval, 0, List.replicate 64 0, List.replicate 8 extremeZero, tallyZero⟩

def lifeZero : Recorder :=
  { tally := tallyZero, live := recordOpen 0 64, saved := recordOpen 0 64, unwritten := [], log := [], margin := none,
    sample := none, secSaved := 0, cycSaved := 0, drainedAt := 0 }

/-- The block right after reset: every register at its reset value, memories with nothing written, no program, no
container in a slot, and no supply yet: POWER_UP starts it (log entry 6). -/
def State.reset : State :=
  { regs := [], held := [], shown := [], deferred := [], starter := starterZero, voting := votingZero,
    lanes := [laneZero, laneZero, laneZero], mems := memsZero, exec := execZero,
    groups := List.replicate 4 groupZero, safety := safetyZero, part := partZero, time := timeZero, boot := bootZero,
    meas := ⟨List.replicate 8 aiZero, List.replicate 4 fiZero⟩, swap := swapZero, baton := batonZero, grd := grdZero,
    can := List.replicate 8 canZero, relay := relayZero, shp := shpZero, life := lifeZero, srcs := [], reports := [],
    sent := [], pending := [], freeCtr := 0 }

end Sys2Proof.Machine
end

