-- ==== Sys2Proof/Machine/Ops.lean ====
section
/-!
DEFINITION. The shared operations of every page: register access, counters, interrupts, the error record, ownership,
the ordered checks of R55 and the course of a command (R52 to R64), events (R76, R77), ticks and train time.
-/
namespace Sys2Proof.Machine

/-! ### Registers -/

/-- The stored word of a register. -/
def State.reg (s : State) (a : Nat) : Word := Sparse.get s.regs a (regReset a)

/-- Store a register. -/
def State.setReg (s : State) (a : Nat) (w : Word) : State :=
  { s with regs := Sparse.put s.regs a w (regReset a) }

/-- The stored word as a number. -/
def State.regN (s : State) (a : Nat) : Nat := (s.reg a).toNat

/-- Store a number, modulo 2^32. -/
def State.setRegN (s : State) (a v : Nat) : State := s.setReg a (BitVec.ofNat 32 v)

/-- Bits [hi:lo] of a register. -/
def State.regF (s : State) (a hi lo : Nat) : Nat := fld (s.reg a) hi lo

/-- Bit `i` of a register. -/
def State.regB (s : State) (a i : Nat) : Bool := bitOf (s.reg a) i

/-- Replace bits [hi:lo] of a register. -/
def State.setF (s : State) (a hi lo v : Nat) : State := s.setReg a (setFld (s.reg a) hi lo v)

/-- Replace bit `i` of a register. -/
def State.setB (s : State) (a i : Nat) (b : Bool) : State := s.setReg a (setBit (s.reg a) i b)

/-- Count one on a saturating counter register (R15). -/
def State.bump (s : State) (a : Nat) : State := s.setReg a (satInc (s.reg a))

/-- Count `k` on a saturating counter register (R15). -/
def State.bumpBy (s : State) (a k : Nat) : State := s.setReg a (satAdd (s.reg a) k)

/-- Count one in a saturating field [hi:lo] of a register. -/
def State.bumpF (s : State) (a hi lo : Nat) : State :=
  if s.regF a hi lo = 2 ^ (hi + 1 - lo) - 1 then s else s.setF a hi lo (s.regF a hi lo + 1)

/-- Keep the larger of a register and `v`. -/
def State.maxReg (s : State) (a v : Nat) : State := if s.regN a < v then s.setRegN a v else s

/-- Store the same word in every register of a list. -/
def State.setAll (s : State) (as : List Nat) (w : Word) : State := as.foldl (fun t a => t.setReg a w) s

/-- Clear the registers of a list to 0. -/
def State.clear (s : State) (as : List Nat) : State := s.setAll as 0

/-- Addresses `base`, `base + step`, … of `n` registers. -/
def regRun (base n step : Nat) : List Nat := (List.range n).map fun i => base + step * i

/-- The 64-bit value of a low word and the high word after it (R48). -/
def State.reg64 (s : State) (a : Nat) : Nat := s.regN a + 2 ^ 32 * s.regN (a + 4)

/-- Store a 64-bit value, low word first. -/
def State.setReg64 (s : State) (a v : Nat) : State := (s.setRegN a (v % 2 ^ 32)).setRegN (a + 4) (v / 2 ^ 32 % 2 ^ 32)

/-! ### Time -/

/-- The extended tick number (R69). -/
def State.now (s : State) : Nat := s.regN R.STARTER_TICK + 2 ^ 32 * s.regN R.STARTER_TICK_HI

/-- Train time in ns since the epoch. -/
def State.ttNs (s : State) : Nat := s.time.sec.toNat * 1000000000 + s.time.ns

/-! ### Module facts several pages ask for -/

/-- A fuse bit as the majority of its three copies (R469). -/
def State.fuses (s : State) : BitVec 1024 :=
  (s.boot.fuse0 &&& s.boot.fuse1) ||| (s.boot.fuse0 &&& s.boot.fuse2) ||| (s.boot.fuse1 &&& s.boot.fuse2)

/-- The module is an SVT330-PM-N, without field groups (R3, R468). -/
def State.variantN (s : State) : Bool := fld s.fuses 131 128 == 1

/-- The debug lock is set (R468). -/
def State.debugLocked (s : State) : Bool := !(fld s.fuses 915 912 == 0)

/-- The pages on which R4 replaces the command tables on SVT330-PM-N. -/
def fieldPage (p : Nat) : Bool := (0x30 ≤ p && p ≤ 0x39) || p == 0x41

/-- The pages that stay populated in RECOVERY (R475). -/
def recoveryPage (p : Nat) : Bool :=
  p == P.DEV || p == P.BOOT || p == P.UPD || p == P.CRYPT || p == P.HOST || p == P.PCIE

/-- The page slot is populated (R44, R475). -/
def State.populated (s : State) (p : Nat) : Bool :=
  (pageKind p).isSome && (!s.boot.recovery || recoveryPage p)

/-- The PFC is HALTED (R97). -/
def State.halted (s : State) : Bool := s.regB R.PFC_LANE_MAP 13

/-- A code of EXEC_MODE.MODE (R161). -/
def State.mode (s : State) : Nat := s.regF R.EXEC_MODE 3 0
abbrev modeNone : Nat := 0
abbrev modeStop : Nat := 1
abbrev modeRun : Nat := 2
abbrev modeHold : Nat := 3
abbrev modeStep : Nat := 4

/-- The module is the cold standby (R174). -/
def State.standby (s : State) : Bool := s.regB R.EXEC_MODE 5

/-- NO_PROGRAM or STOP. -/
def State.stopped (s : State) : Bool := s.mode == modeNone || s.mode == modeStop

/-- PART_STAT.ROLE codes (R437). -/
def State.role (s : State) : Nat := s.regF R.PART_STAT 3 0
abbrev roleInit : Nat := 0
abbrev roleClaiming : Nat := 1
abbrev roleBackoff : Nat := 2
abbrev roleActive : Nat := 3
abbrev roleSync : Nat := 4
abbrev roleArmed : Nat := 5
abbrev roleUnarmed : Nat := 6
abbrev roleTaking : Nat := 7
abbrev roleWithdrawn : Nat := 8
abbrev roleSingle : Nat := 9

/-- The stored PG_STAT.STATE of a page (R51). -/
def State.pgState (s : State) (p : Nat) : Nat := s.regF (pa p H.STAT) 3 0

/-- Set PG_STAT.STATE whatever it was. -/
def State.putPgState (s : State) (p v : Nat) : State := s.setF (pa p H.STAT) 3 0 v

/-- Set PG_STAT.STATE; a page leaves FAULT (4) by a function reset or a restart only (R65). -/
def State.setPgState (s : State) (p v : Nat) : State := if s.pgState p = 4 then s else s.putPgState p v

abbrev stOff : Nat := 0
abbrev stInit : Nat := 1
abbrev stReady : Nat := 2
abbrev stActive : Nat := 3
abbrev stFault : Nat := 4
abbrev stLocked : Nat := 5

/-- PG_CTRL.EN of a page. -/
def State.en (s : State) (p : Nat) : Bool := s.regB (pa p H.CTRL) 0

/-- Set PG_CTRL.EN. -/
def State.setEn (s : State) (p : Nat) (b : Bool) : State := s.setB (pa p H.CTRL) 0 b

/-- A lane is in service: in the vote (R95, R115). -/
def State.inService (s : State) (l : Nat) : Bool := s.regF (pa (P.LANE + l) R.LANE_STATE) 2 0 == 0

/-- The lanes in service. -/
def State.lanesIn (s : State) : List Nat := (List.range 3).filter fun l => s.inService l

/-- A configuration word as the function works on it where a parity fault puts it on its reset values (R65, R121, R179,
R441). -/
def State.cfgWord (s : State) (a : Nat) : Word := if s.pgState (pageOf a) = stFault then regReset a else s.reg a

/-! ### Status codes (R54) and issuers (R52, R63) -/

abbrev cDone : Nat := 0x00
abbrev cBusy : Nat := 0x01
abbrev cUnknown : Nat := 0x02
abbrev cState : Nat := 0x03
abbrev cNotOwner : Nat := 0x04
abbrev cRange : Nat := 0x05
abbrev cLocked : Nat := 0x06
abbrev cTimeout : Nat := 0x07
abbrev cVersion : Nat := 0x08
abbrev cIntegrity : Nat := 0x09
abbrev cResource : Nat := 0x0A
abbrev cSafety : Nat := 0x0B
abbrev cLength : Nat := 0x0C
abbrev cAccess : Nat := 0x0D
abbrev cParity : Nat := 0x0E
abbrev cAddress : Nat := 0x0F

/-- The issuer code of PG_CMDSTAT and the error registers. -/
def issuerCode : Issuer → Nat
  | .h0 => 0 | .h1 => 1 | .h2 => 2 | .h3 => 3 | .supervisor => 4 | .loader => 5

/-- The issuer is a host, which ownership gates (R64). -/
def isHost : Issuer → Bool
  | .supervisor | .loader => false
  | _ => true

/-- The issuer with a code. -/
def issuerOf (n : Nat) : Issuer :=
  if n = 0 then .h0 else if n = 1 then .h1 else if n = 2 then .h2 else if n = 3 then .h3
  else if n = 4 then .supervisor else .loader

abbrev srcProgram : Nat := 6
abbrev srcHardware : Nat := 7

/-! ### Interrupts (R61, R62, R450) -/

/-- The slots of every populated page, in order (R44). -/
def pageList : List Nat :=
  (List.range 0x15) ++ [0x18, 0x19] ++ (List.range 11).map (0x20 + ·) ++ (List.range 10).map (0x30 + ·)
    ++ [0x40, 0x41, 0x42, 0x43, 0x48, 0x49, 0x50, 0x51, 0x52, 0x58, 0x59, 0x60, 0x61]
    ++ (List.range 13).map (0xF0 + ·)

/-- PG_IRQ_PEND ≠ 0 (R61). -/
def State.irqPend (s : State) (p : Nat) : Bool :=
  s.populated p && !((s.reg (pa p H.IRQ_RAW) &&& s.reg (pa p H.IRQ_EN)) == 0)

/-- The comms RAM address of the host region of Hn (R446). -/
def hostBase (n : Nat) : Nat := 0x1C0000 + 0x10000 * n

/-- IRQ_MASK of host `n` enables page `p` (R448). -/
def State.irqMasked (s : State) (n p : Nat) : Bool :=
  (Memory.readLe s.mems.comms (hostBase n + 0xDC20 + 4 * (p / 32)) 4).testBit (p % 32)

/-- The masked summary of host `n` is not zero (R450). -/
def State.summary (s : State) (n : Nat) : Bool := pageList.any fun p => s.irqPend p && s.irqMasked n p

/-- Host `n` is armed (R462). -/
def State.armed (s : State) (n : Nat) : Bool := s.regB R.HOST_STAT (4 + n)

/-- Record an output of the block. -/
def State.send (s : State) (o : Sent) : State := { s with sent := o :: s.sent }

/-- Endpoint `n` signals its host and disarms: an MSI, or INTA when MSI is disabled (R450). -/
def signalHost (n : Nat) (s : State) : State :=
  let s := s.setB R.HOST_STAT (4 + n) false
  if s.regB R.PCIE_STAT (8 * n + 3) then s.send (.msi n) else (s.setB R.PCIE_STAT (8 * n + 4) true).send (.inta n true)

/-- An SHP host whose masked summary rose disarms, with an EVENT to send where its session has version 2 (R459). -/
def eventDue (n : Nat) (s : State) : State :=
  let mark (o : Option Session) : Option Session := o.map fun x => { x with evtDue := true }
  match getAt none s.shp.sess (n - 2) with
  | some x =>
    if x.ver = 2 then
      { (s.setB R.HOST_STAT (4 + n) false) with shp := { s.shp with sess := modAt mark s.shp.sess (n - 2) } }
    else s
  | none => s

/-- The masked summary of an armed host went from 0 to non-zero between two states (R450, R459). -/
def msiCheck (before : State) (s : State) : State :=
  forN 4 (fun n t => if t.armed n && t.summary n && !before.summary n then
    (if n < 2 then signalHost n t else eventDue n t) else t) s

/-- Set a raw interrupt bit of a page (R61). -/
def irqSet (p bit : Nat) (s : State) : State :=
  msiCheck s (s.setB (pa p H.IRQ_RAW) bit true)

/-! ### The error record (R56, R63, R503, R504) -/

/-- Operating seconds (R498). -/
def State.opSec (s : State) : Nat := s.regN R.REC_OP_SEC_LO + 2 ^ 32 * s.regF R.REC_OP_SEC_HI 7 0

/-- The operating seconds and the power-cycle count are written to the counter area of MRAM (R498). -/
def saveCounts (s : State) : State :=
  { s with life := { s.life with secSaved := s.opSec, cycSaved := s.reg R.REC_PWR_CYCLES } }

/-- The empty record of a source. -/
def srcZero : SrcCount := ⟨0, 0, 0, 0, 0, 0⟩

/-- The recorder's counters of a source page. -/
def State.srcOf (s : State) (p : Nat) : SrcCount := Sparse.get s.srcs p srcZero

/-- The recorder counts a report of page `p` and queues it, or drops it from a full queue (R503, R504). -/
def reportError (p : Nat) (rep : Word) (s : State) : State :=
  let tick := BitVec.ofNat 32 s.now
  let c := s.srcOf p
  let firstFree := c.first == 0
  let c := { c with cnt := satInc c.cnt, last := rep, lastTick := tick,
                    first := if firstFree then rep else c.first,
                    firstTick := if firstFree then tick else c.firstTick }
  if s.reports.length < 256 then
    let s := { s with srcs := Sparse.put s.srcs p c srcZero,
                      reports := s.reports ++ [(⟨s.now, p, rep, BitVec.ofNat 32 s.opSec⟩ : Report)] }
    let lvl := s.reports.length
    let s := s.setF R.REC_QUEUE_STAT 8 0 lvl
    if s.regF R.REC_QUEUE_STAT 24 16 < lvl then s.setF R.REC_QUEUE_STAT 24 16 lvl else s
  else
    let s := { s with srcs := Sparse.put s.srcs p { c with lost := satInc c.lost } srcZero }
    irqSet P.REC 10 (s.bump R.REC_LOST_TOTAL)

/-- The recorder's own tally `w` counts an event (R497). -/
def tally (w : Nat) (s : State) : State := { s with life := { s.life with tally := modAt satInc s.life.tally w } }

/-- Record an error on a page: PG_ERRCNT, PG_ERRFIRST, PG_ERRLAST, the ERR interrupt and the recorder
(R56, R61, R63, R503). -/
def recordErr (p code src detail : Nat) (s : State) : State :=
  let rep := BitVec.ofNat 32 (code % 256 + (detail % 1024) * 256 + (src % 8) * 2 ^ 18)
  let s := if s.regF (pa p H.ERRCNT) 15 0 = 0xFFFF then s.setB (pa p H.ERRCNT) 16 true
           else s.setRegN (pa p H.ERRCNT) (s.regN (pa p H.ERRCNT) + 1)
  let s := if s.regF (pa p H.ERRFIRST) 7 0 = 0 then s.setReg (pa p H.ERRFIRST) rep else s
  let s := s.setReg (pa p H.ERRLAST) rep
  reportError p rep (irqSet p 1 s)

/-! ### Ownership (R58, R64) -/

/-- PG_OWNER.OWNER. -/
def State.owner (s : State) (p : Nat) : Nat := s.regF (pa p H.OWNER) 2 0

/-- The management host (R58, R460); H0 while HOST is in FAULT (R467). -/
def State.mgmt (s : State) : Nat := if s.pgState P.HOST = stFault then 0 else s.regF R.HOST_CFG 1 0

/-- Make `o` the owner of a page; a change is counted and raises OWNER_CHG (R61, R64). A change of PG_OWNER.MGMT alone,
by HOST_CFG.MGMT or by HOST in FAULT, raises none (DESIGN CHOICE, log entry 183). -/
def setOwner (p o : Nat) (s : State) : State :=
  if s.owner p = o then s
  else irqSet p 3 ((s.setF (pa p H.OWNER) 2 0 o).bumpF (pa p H.OWNER) 15 8)

/-- The issuer may write the page: hosts are gated by ownership, nothing else is (R64). -/
def State.mayWrite (s : State) (p : Nat) (iss : Issuer) : Bool := !isHost iss || s.owner p == issuerCode iss

/-! ### Commands (R52 to R60) -/

/-- A PG_CMD write, or a PG_RESET write as opcode 0xA5 (R53). -/
structure Call where
  page : Nat
  op : Nat
  iss : Issuer
  deriving DecidableEq, Repr

/-- A command of the page is executing (R53). -/
def State.busy (s : State) (p : Nat) : Bool := s.regF (pa p H.CMDSTAT) 7 0 == cBusy

/-- The opcode PG_CMDSTAT shows. -/
def State.cmdOp (s : State) (p : Nat) : Nat := s.regF (pa p H.CMDSTAT) 15 8

/-- A command with this opcode is executing on the page. -/
def State.busyWith (s : State) (p op : Nat) : Bool := s.busy p && s.cmdOp p == op

/-- The issuer PG_CMDSTAT shows. -/
def State.cmdIss (s : State) (p : Nat) : Nat := s.regF (pa p H.CMDSTAT) 18 16

/-- SEQ of the latest command of a page that PG_CMDSTAT has shown (R52). -/
def State.lastSeq (s : State) (p : Nat) : Nat :=
  fld ((mapGet s.shown p).getD (s.reg (pa p H.CMDSTAT))) 31 24

/-- The word of PG_CMDSTAT that shows a command with a code, SEQ incremented (R52, R53). -/
def State.answerWord (s : State) (c : Call) (code : Nat) : Nat :=
  code + c.op * 2 ^ 8 + issuerCode c.iss * 2 ^ 16 + (s.lastSeq c.page + 1) % 256 * 2 ^ 24

/-- No rejected command is shown on a page. -/
def State.unshow (s : State) (p : Nat) : State := { s with shown := s.shown.filter fun e => !(e.1 == p) }

/-- Answer a command in PG_CMDSTAT with a code, SEQ incremented (R52, R53). -/
def answer (c : Call) (code : Nat) (s : State) : State :=
  (s.setRegN (pa c.page H.CMDSTAT) (s.answerWord c code)).unshow c.page

/-- Answer a command rejected while another one of its page is executing: PG_CMDSTAT shows it until the other one ends,
which runs on (R53, R55; log entry 42). -/
def answerOver (c : Call) (code : Nat) (s : State) : State :=
  { s with shown := mapPut s.shown c.page (BitVec.ofNat 32 (s.answerWord c code)) }

/-- A rejection that changes PG_CMDSTAT shows there. A function reset refused while a command is executing does not
(R55, R60). -/
def answerReject (c : Call) (code : Nat) (s : State) : State :=
  if !s.busy c.page then answer c code s else if c.op = 0xA5 then s else answerOver c code s

/-- Reject a command: the error record, and PG_CMDSTAT where the check changes it (R55, R56). -/
def reject (c : Call) (code : Nat) (changes : Bool) (s : State) : State :=
  let s := if changes then answerReject c code s else s
  let s := if code = cNotOwner ∧ isHost c.iss then s.bump (R.HOST_OWN_REJ_CNT + 4 * issuerCode c.iss) else s
  recordErr c.page code (issuerCode c.iss) c.op s

/-- Host accesses are counted (R462). -/
def countAccess (iss : Issuer) (s : State) : State :=
  if isHost iss then s.bump (R.HOST_ACC_CNT + 4 * issuerCode iss) else s

/-- ADJ_UNLOCK ends (R295, R302). -/
def dropUnlock (s : State) : State :=
  let s := s.setB R.TIME_STAT 4 false
  { s with time := { s.time with unlock := none } }

/-- A command arrives: a host's is counted, and any but ADJ_FORCE ends an ADJ_UNLOCK in force, on whichever page it is
(R295, R462). -/
def commandAccess (c : Call) (s0 : State) : State :=
  let s := countAccess c.iss s0
  if isHost c.iss && s.time.unlock.isSome && !(c.page == P.TIME && c.op == 0x12) then dropUnlock s else s

/-- Checks 2 to 6 of R55 on a page command: the failure code and whether PG_CMDSTAT changes. -/
def precheck (c : Call) (s : State) : Option (Nat × Bool) :=
  if fieldPage c.page && s.variantN then some (cResource, true)
  else if !s.mayWrite c.page c.iss then some (cNotOwner, false)
  else if 0xF0 ≤ c.page && s.debugLocked then some (cLocked, true)
  else if s.busy c.page then some (cBusy, false)
  else none

/-- A command to a slot that is not populated is recorded on DEV with ADDRESS (R46). -/
def addressReject (iss : Issuer) (detail : Nat) (s : State) : State :=
  recordErr P.DEV cAddress (issuerCode iss) detail s

/-- An access that is no aligned word is recorded on its page, or on DEV (R47). -/
def accessReject (iss : Issuer) (a : Nat) (s : State) : State :=
  recordErr (if s.populated (pageOf a) then pageOf a else P.DEV) cAccess (issuerCode iss) (offOf a / 4) s

/-- A page command: the ordered checks of R55 (`check` is checks 8 to 11 of the page), then BUSY and its effect
`body`, which ends it with `finish` now or in a later step (R53). -/
def command (c : Call) (check : State → Option Nat) (body : State → State) (s0 : State) : State :=
  let s := commandAccess c s0
  if s.populated c.page then
    match precheck c s with
    | some (code, changes) => reject c code changes s
    | none =>
      match check s with
      | some code => reject c code true s
      | none => body (answer c cBusy s)
  else addressReject c.iss 5 s

/-- A page command with a key or unlock (check 5 of R55, before the busy check). -/
def commandKeyed (c : Call) (key : State → Bool) (check : State → Option Nat) (body : State → State) (s0 : State) :
    State :=
  let s := commandAccess c s0
  if s.populated c.page then
    match precheck c s with
    | some (code, changes) => if code = cBusy && !key s then reject c cLocked true s else reject c code changes s
    | none =>
      if !key s then reject c cLocked true s
      else match check s with
        | some code => reject c code true s
        | none => body (answer c cBusy s)
  else addressReject c.iss 5 s

/-- The command of a page leaves BUSY with a final code (R53, R61). -/
def finish (p code : Nat) (s : State) : State := irqSet p 0 (s.setF (pa p H.CMDSTAT) 7 0 code)

/-- A command refused after it was BUSY: its final code and the error record. -/
def finishErr (p code : Nat) (s : State) : State :=
  let iss := s.cmdIss p
  let op := s.cmdOp p
  recordErr p code iss op (finish p code s)

/-- A command that takes full effect at once (R53). -/
def quick (c : Call) (check : State → Option Nat) (f : State → State) : State → State :=
  command c check fun s => finish c.page cDone (f s)

/-- A keyed command that takes full effect at once. -/
def quickKeyed (c : Call) (key : State → Bool) (check : State → Option Nat) (f : State → State) : State → State :=
  commandKeyed c key check fun s => finish c.page cDone (f s)

/-- No further check. -/
def noCheck : State → Option Nat := fun _ => none

/-- Fail with a code unless a condition holds. -/
def need (b : Bool) (code : Nat) (rest : Option Nat) : Option Nat := if b then rest else some code

/-- Page commands other than header commands answer STATE_REJECT while the PFC is HALTED and they need lane work
(R97). -/
def notHalted (s : State) (rest : Option Nat) : Option Nat := need (!s.halted) cState rest

/-! ### Registers at a function reset (R59) -/

/-- The registers a function reset returns to their reset values. -/
def resettable (off : Nat) : Bool :=
  off == H.CTRL || off == H.STAT || off == H.IRQ_RAW || off == H.IRQ_EN || off == H.PARITY || decide (0x40 ≤ off)

/-- PG_CTRL, PG_STAT, PG_IRQ_RAW, PG_IRQ_EN, PG_PARITY and every function register return to reset (R59); low halves
held for the page are dropped. -/
def resetRegs (p : Nat) (s : State) : State :=
  { s with regs := Sparse.drop (fun a => pageOf a == p && resettable (offOf a)) s.regs,
           held := Sparse.drop (fun a => pageOf (a % 2 ^ 20) == p) s.held }

/-! ### Events (R76, R77, R80) -/

/-- An event of a tick, its SEQ the number of earlier events of the source in the tick (R77). -/
def raiseAt (tick cls src ts detail qual : Nat) (s : State) : State :=
  let seq := (s.starter.events.filter fun e => e.tick == tick && e.cls == cls && e.src == src).length
  { s with starter := { s.starter with
      events := s.starter.events ++ [(⟨tick, cls, src, seq, ts % 2 ^ 64, detail, qual⟩ : Event)] } }

/-- Train time at the start of the running tick, or of the tick before (R70). -/
def State.tickStart (s : State) (k : Nat) : Nat := if k = s.now then s.starter.tickNs else s.starter.prevNs

/-- An event of the running tick, stamped with the train time at its start (R80). -/
def raise (cls src detail qual : Nat) (s : State) : State := raiseAt s.now cls src s.starter.tickNs detail qual s

/-! ### Free values -/

/-- The next free value's number, and the state with it taken. -/
def State.fresh (s : State) : State := { s with freeCtr := s.freeCtr + 1 }

end Sys2Proof.Machine
end

