-- ==== Sys2Proof/Machine/Reactions.lean ====
section
/-!
DEFINITION. The reactions that cross pages: safety group states and lock-out (R392 to R398), SAFE_OFF lines (R351),
program mode changes (R161 to R164), module-wide class 1 causes (R83, R97), withdrawal of the claim (R425, R430).
-/
namespace Sys2Proof.Machine

/-! ### Small updates of the machinery behind the pages -/

def updGroup (g : Nat) (f : Group → Group) (s : State) : State := { s with groups := modAt f s.groups g }
def updF1 (g : Nat) (f : F1 → F1) : State → State := updGroup g fun x => { x with f1 := f x.f1 }
def updSafety (f : Safety → Safety) (s : State) : State := { s with safety := f s.safety }
def updPart (f : Partner → Partner) (s : State) : State := { s with part := f s.part }
def updExec (f : Exec → Exec) (s : State) : State := { s with exec := f s.exec }
def updVoting (f : Voting → Voting) (s : State) : State := { s with voting := f s.voting }
def updMems (f : Mems → Mems) (s : State) : State := { s with mems := f s.mems }
def updStarter (f : Starter → Starter) (s : State) : State := { s with starter := f s.starter }
def updTime (f : TimeUnit → TimeUnit) (s : State) : State := { s with time := f s.time }
def updBaton (f : Baton → Baton) (s : State) : State := { s with baton := f s.baton }
def updSwap (f : Exchange → Exchange) (s : State) : State := { s with swap := f s.swap }
def updBoot (f : Boot → Boot) (s : State) : State := { s with boot := f s.boot }

/-- Group `g` of the field groups. -/
def State.grp (s : State) (g : Nat) : Group := getAt groupZero s.groups g

/-! ### Timed outputs (R299, R300) -/

/-- TOUT_CFG of timed output `t`. -/
def toutA (t : Nat) : Nat := R.TCAP_TOUT_CFG + 4 * t

/-- Timed output `t`. -/
def State.tout (s : State) (t : Nat) : Tout := getAt toutZero s.time.touts t

def setTout (t : Nat) (x : Tout) : State → State := updTime fun y => { y with touts := setAt y.touts t x }

/-- DO that timed output `t` drives. -/
def State.toutDo (s : State) (t : Nat) : Nat := s.regF (toutA t) 4 0

/-- Fields of TOUT_STAT and TOUT_PEND (R304, R305). -/
def toutState (t st : Nat) (s : State) : State :=
  (s.setF (R.TCAP_TOUT_STAT + 4 * t) 1 0 st).setB R.TCAP_TOUT_PEND t (decide (st = 1))

/-- The unsent events of a DO leave the queue of its field group (R343, R294). -/
def unqueueDo (i : Nat) : State → State :=
  updGroup (i / 8) fun x => { x with queue := x.queue.filter fun e => !(e.kind == 0 && e.target == i % 8) }

/-- A pending schedule is removed other than by CANCEL (R300, R304). -/
def cancelTout (t : Nat) (s : State) : State :=
  let x := s.tout t
  if !x.pend then s else
  let s := unqueueDo (s.toutDo t) (setTout t { x with pend := false, queued := false } s)
  irqSet P.TCAP 10 ((toutState t 3 s).bump R.TCAP_TOUT_CANCEL_CNT)

/-- Every pending schedule is removed. -/
def cancelTouts (s : State) : State := forN 32 cancelTout s

/-! ### Safety group membership (R392) -/

/-- Address of word `w` of safety group `g` (R414). -/
def sgA (g w : Nat) : Nat := R.SAFE_SG_CFG + 0x20 * g + w
abbrev sgDo : Nat := 4
abbrev sgStat : Nat := 8
abbrev sgCause : Nat := 12
abbrev sgTick : Nat := 16
abbrev sgCnt : Nat := 24

abbrev grpOff : Nat := 0
abbrev grpSafe : Nat := 1
abbrev grpReleased : Nat := 2
abbrev grpLocked : Nat := 3
abbrev grpWait : Nat := 4

/-- SG_CFG.EN. -/
def State.sgEn (s : State) (g : Nat) : Bool := s.regB (sgA g 0) 31

/-- SG_STAT.STATE. -/
def State.sgState (s : State) (g : Nat) : Nat := s.regF (sgA g sgStat) 2 0

/-- The group is RELEASED; in every other state it is in its safe state (R392). -/
def State.released (s : State) (g : Nat) : Bool := s.sgState g == grpReleased

/-- Some safety group is RELEASED. -/
def State.anyReleased (s : State) : Bool := (List.range 8).any fun g => s.released g

/-- DO `i` (module index) is a member of group `g`. -/
def State.doMember (s : State) (g i : Nat) : Bool := s.sgEn g && s.regB (sgA g sgDo) i

/-- SBO `i` is a member of group `g`. -/
def State.sboMember (s : State) (g i : Nat) : Bool := s.sgEn g && s.regB (sgA g 0) i

/-- The group a DO belongs to. -/
def State.doGroup (s : State) (i : Nat) : Option Nat := (List.range 8).find? fun g => s.doMember g i

/-- The group an SBO belongs to. -/
def State.sboGroup (s : State) (i : Nat) : Option Nat := (List.range 8).find? fun g => s.sboMember g i

/-- PAIR_CFG of a pair (R418). -/
def pairA (p : Nat) : Nat := R.DISC_PAIR_CFG + 8 * p

/-- Pair `p` is enabled and a member of group `g`. -/
def State.pairMember (s : State) (g p : Nat) : Bool :=
  s.regB (pairA p) 31 && s.regF (pairA p) 30 28 == g && s.sgEn g

/-- RESET_SRC of a group (R399). -/
def State.resetSrc (s : State) (g : Nat) : Nat := s.regF (sgA g 0) 16 8

/-- Field group `f` holds an output of safety group `g`. -/
def State.holdsOutput (s : State) (g f : Nat) : Bool :=
  s.sgEn g && (!(fld (s.reg (sgA g sgDo)) (8 * f + 7) (8 * f) == 0) || s.sboMember g f)

/-- Field group `f` holds a member, or the reset source, of safety group `g` (R395, R397). -/
def State.usesField (s : State) (g f : Nat) : Bool :=
  s.holdsOutput g f
    || (s.sgEn g && decide (s.resetSrc g < 64) && s.resetSrc g / 16 == f)
    || (List.range 32).any fun p => s.pairMember g p &&
        (s.regF (pairA p) 5 0 / 16 == f || s.regF (pairA p) 13 8 / 16 == f)

/-! ### Tests of safe brake outputs, as group changes abort them (R402) -/

/-- Word `w` of SBO `i` (R416). -/
def sboA (i w : Nat) : Nat := R.SBO_SCFG + 0x20 * i + w
abbrev sboStat : Nat := 8
abbrev sboTestAge : Nat := 12
abbrev sboBtAge : Nat := 16
abbrev sboBtMa : Nat := 20
abbrev sboTestCnt : Nat := 24
abbrev sboAbortCnt : Nat := 28

/-- The test record of SBO `i`. -/
def State.sboTest (s : State) (i : Nat) : SboTest := getAt testZero s.safety.tests i

def setTest (i : Nat) (t : SboTest) : State → State := updSafety fun x => { x with tests := setAt x.tests i t }

/-- SBO is TESTING while a test step runs, and ACTIVE otherwise; FAULT stands (R416). -/
def sboPageState (s : State) : State :=
  if s.pgState P.SBO = stFault ∨ s.pgState P.SBO = stOff then s
  else s.setPgState P.SBO (if (List.range 4).any fun i => !((s.sboTest i).phase == 0) then 6 else stActive)

/-- The quiet millisecond after a step (R401). -/
def quiet (i : Nat) (s : State) : State :=
  updSafety (fun x => { x with quietUntil := setAt x.quietUntil i (s.now + 1000), misSince := setAt x.misSince i none }) s

/-- A switch-test step that runs is aborted and the test retried after 10 ms (R402). -/
def abortTest (i : Nat) (s : State) : State :=
  let t := s.sboTest i
  if t.phase = 1 ∨ t.phase = 3 then
    let s := setTest i { t with phase := 0, due := true, retryAt := s.now + 10000 } (quiet i s)
    let s := ((s.setF (sboA i sboStat) 3 2 0).setF (sboA i sboStat) 5 4 t.prevRes).bump (sboA i sboAbortCnt)
    sboPageState s
  else s

/-- Put a group in a state on both paths (R393); a change aborts its members' switch-test steps (R402), and leaving
RELEASED removes the schedules that would switch a member on (R300). -/
def setGroup (g st : Nat) (s : State) : State :=
  if s.sgState g = st then s else
  let s := (List.range 4).foldl (fun t i => if t.sboMember g i then abortTest i t else t) s
  let s := if s.released g then
      forN 32 (fun k t => if (t.tout k).value && t.doMember g (t.toutDo k) then cancelTout k t else t) s else s
  let s := s.setF (sgA g sgStat) 2 0 st
  updSafety (fun x => { x with pathY := setAt x.pathY g st }) s

/-- A RELEASED group takes its safe state (R394). -/
def groupSafe (g : Nat) (s : State) : State := if s.released g then setGroup g grpSafe s else s

/-- Every released group takes its safe state. -/
def allGroupsSafe (s : State) : State := forN 8 groupSafe s

/-! ### SAFE_OFF lines (R351) -/

/-- FLD register of group `f`. -/
def fldA (f off : Nat) : Nat := pa (P.FLD + f) off

/-- The PFC asserts SAFE_OFF to every group, for a reason bit of SAFE_OFF_STAT where the cause has one (R97, R107, R115). -/
def pfcSafeOff (reason : Option Nat) (s : State) : State :=
  let s := s.setF R.PFC_SAFE_OFF_STAT 3 0 15
  let s := match reason with | some i => s.setB R.PFC_SAFE_OFF_STAT i true | none => s
  forN 4 (fun f t => t.setB (fldA f R.FLD_SAFEOFF_STAT) 1 true) s

/-- The safety unit asserts the SAFE_OFF line of field group `f` and will release it after 10 µs (R351). -/
def unitSafeOff (f : Nat) (s : State) : State :=
  updGroup f (fun x => { x with offUntil := some (s.now + 10) }) (s.setB (fldA f R.FLD_SAFEOFF_STAT) 2 true)

/-! ### Lock-out (R397, R398) -/

/-- The lock-out states as two masks: LOCKED, RESET_WAIT. A group that is OFF keeps what is recorded of it, since only
a reset clears a lock-out (R399). -/
def lockMasks (s : State) : Nat × Nat :=
  let kept (b g : Nat) : Bool := s.sgState g == grpOff && s.regB R.PART_LOCK_MIRROR (b + g)
  ((List.range 8).foldl (fun a g => a + (if s.sgState g = grpLocked ∨ kept 0 g = true then 2 ^ g else 0)) 0,
   (List.range 8).foldl (fun a g => a + (if s.sgState g = grpWait ∨ kept 8 g = true then 2 ^ g else 0)) 0)

/-- The lock-out states go to the MRAM control block and over the partner link (R398). -/
def storeLocks (s : State) : State :=
  let (l, w) := lockMasks s
  let s := s.setRegN R.PART_LOCK_MIRROR (l + 256 * w)
  if s.regB R.PART_STAT 10 then s.send (.lockStates l w) else s

/-- Causes of R397. -/
abbrev causeModule : Nat := 1
abbrev causeTrap : Nat := 2
abbrev causePath : Nat := 3
abbrev causeField : Nat := 4
abbrev causeDisc : Nat := 5
abbrev causeSwitch : Nat := 6
abbrev causeMonitor : Nat := 7
abbrev causeBrake : Nat := 8
abbrev causeSmsg : Nat := 9
abbrev causeNetwork : Nat := 10
abbrev causeConfig : Nat := 11

/-- A brake test of a member that runs ends with FAIL (R403). -/
def endBrake (g : Nat) (s : State) : State :=
  (List.range 4).foldl (fun t i =>
    let x := t.sboTest i
    if t.sboMember g i && decide (10 < x.phase) then
      let t := setTest i { x with phase := 0 } (quiet i t)
      let t := ((t.setF (sboA i sboStat) 3 2 0).setF (sboA i sboStat) 7 6 2).setF (sboA i sboStat) 11 8 (x.phase - 10)
      let t := recordErr P.SBO 0x42 srcHardware i (irqSet P.SBO 10 t)
      let t := if t.busyWith P.SBO 0x11 then finish P.SBO cDone t else t
      sboPageState t
    else t) s

/-- A class 1 cause of group `g`: lock-out in the tick of the cause (R394, R398). A group already LOCKED only records
a lower code of the same tick (R397). The event of a class 1 cause has QUAL 0, as no quality word is stated for it
(DESIGN CHOICE, log entry 183). -/
def lockGroup (g cause detail : Nat) (s : State) : State :=
  if !s.sgEn g || s.sgState g == grpOff then s
  else if s.sgState g = grpLocked then
    if getAt 0 s.safety.causeTick g = s.now ∧ cause < s.regF (sgA g sgCause) 7 0 then
      s.setRegN (sgA g sgCause) (cause + 256 * (detail % 256))
    else s
  else
    let wasWait := s.sgState g == grpWait
    let s := endBrake g s
    let s := setGroup g grpLocked s
    let s := s.setRegN (sgA g sgCause) (cause + 256 * (detail % 256))
    let s := updSafety (fun x => { x with causeTick := setAt x.causeTick g s.now }) s
    let s := if wasWait then
        recordErr P.SAFE 0x41 srcHardware g ((s.setB R.SAFE_RESET_STAT (8 + g) false).setF R.SAFE_RESET_STAT 19 16 4)
      else s
    let s := tally 18 ((s.bump (sgA g sgCnt)).bump R.SAFE_LOCK_CNT)
    let s := s.setReg64 (sgA g sgTick) s.now
    let s := forN 4 (fun f t => if t.holdsOutput g f && bitOf (t.cfgWord (fldA f R.FLD_CFG)) 0 then unitSafeOff f t else t) s
    let s := raise 1 (1 + g) cause 0 s
    storeLocks (irqSet P.SAFE 8 s)

/-- A cause of every group. -/
def lockAll (cause detail : Nat) (s : State) : State := forN 8 (fun g t => lockGroup g cause detail t) s

/-- A cause of every group that a field group serves (R350, R397). -/
def lockField (f cause : Nat) (s : State) : State :=
  forN 8 (fun g t => if t.usesField g f then lockGroup g cause f t else t) s

/-! ### Program modes (R161 to R164) -/

/-- The DO (module index) an output binding names, if it names one (R338). -/
def bindDo (b : Binding) : Option Nat :=
  if b.kind = 1 ∧ P.FLD ≤ b.page ∧ b.page ≤ P.FLD + 3 ∧ b.chan < 8 then some (8 * (b.page - P.FLD) + b.chan) else none

/-- The bindings of the loaded program. -/
def State.binds (s : State) : List Binding := match s.exec.prog with | some p => p.binds | none => []

/-- PG_STAT.STATE of EXEC for a mode (R173). -/
def execPageState (m : Nat) : Nat :=
  if m = modeNone then 2 else if m = modeStop then 6 else if m = modeRun then 3 else if m = modeHold then 7 else 8

/-- Set EXEC_MODE.MODE with the page states of EXEC and DEBUG; a change raises MODE_CHG (R173, R176).
Entry to STOP or HOLD removes every pending schedule (R300), and an armed exchange is disarmed when the mode leaves
RUN (R221). -/
def setMode (m : Nat) (s : State) : State :=
  let changed := !(s.mode == m)
  let s := s.setF R.EXEC_MODE 3 0 m
  let s := if s.pgState P.EXEC = stFault then s else s.setPgState P.EXEC (execPageState m)
  let s := if s.pgState P.DEBUG = stFault then s else s.setPgState P.DEBUG (if m = modeHold then 7 else stActive)
  let s := s.setB R.DEBUG_DBG_STAT 0 (m == modeHold)
  let s := if changed && (m == modeStop || m == modeHold) then cancelTouts s else s
  let s := if !(m == modeRun) && s.regF R.SWAP_STAT 2 0 == 3 then s.setF R.SWAP_STAT 2 0 2 else s
  if changed then irqSet P.EXEC 8 s else s

/-- A binding of a timed output (R299). -/
def bindTout (b : Binding) : Bool := b.kind == 3 && b.page == P.TCAP

/-- What STOP turns off: with STOP_OUT = 0 every non-safety field output is 0, those of timed outputs too (R164,
R300). -/
def stopOutputs (s : State) : State :=
  if s.regB R.EXEC_CFG 3 && !(s.pgState P.EXEC == stFault) then s
  else
    let s := updExec (fun e => { e with outCur := (s.binds.foldl (fun m b =>
      match bindDo b with
      | some i => if (s.doGroup i).isSome then m else Sparse.put m b.index 0 0
      | none => m) e.outCur) }) s
    let s := (s.binds.filter bindTout).foldl (fun t b =>
      if (t.doGroup (t.toutDo b.chan)).isSome then t else setTout b.chan { t.tout b.chan with cur := false } t) s
    updSwap (fun x => { x with leaving := [] }) s

/-- The pending output store of the stride and the rest of its work are discarded. -/
def discardStride (s : State) : State :=
  let ran := if s.exec.running then (getAt laneZero s.lanes (s.lanesIn.headD 0)).eng.cycles - s.exec.cycBase else 0
  updExec (fun e => { e with outPend := [], txPend := [], due := [], remainder := [], halted := false,
                             running := false, cyc := e.cyc + ran, cycBase := 0 })
    ((s.setB R.DEBUG_DBG_STAT 12 false).setB R.DEBUG_DBG_STAT 1 false)

/-- Entry to STOP with a cause code (R164, R174). -/
def enterStop (cause : Nat) (s : State) : State :=
  let s := discardStride (allGroupsSafe s)
  stopOutputs ((setMode modeStop s).setF R.EXEC_MODE 15 12 cause)

/-- A module-wide class 1 cause (R76 source 0): every group locks out; a running program goes to STOP (R83, R162). -/
def moduleCause (stopCause : Nat) (s : State) : State :=
  let s := raise 1 0 causeModule 0 s
  let s := lockAll causeModule 0 s
  let s := forN 4 (fun f t => if t.variantN then t else unitSafeOff f t) s
  let s := updExec (fun e => { e with cause1 := true }) s
  if s.stopped then s else enterStop stopCause s

/-! ### The claim (R425, R430) -/

/-- Write the PART role with the page state of R436; a change raises ROLE_CHG. -/
def setRole (r : Nat) (s : State) : State :=
  if s.role = r then s else
  let s := s.setF R.PART_STAT 3 0 r
  let st := if r = roleActive ∨ r = roleSingle then stActive
            else if r = roleSync ∨ r = roleArmed ∨ r = roleUnarmed then 6
            else if r = roleWithdrawn then 7 else stInit
  let s := if s.pgState P.PART = stFault then s else s.setPgState P.PART st
  let s := s.setB R.PART_STAT 5 (r == roleArmed)
  let s := s.setB R.EXEC_MODE 5 (r == roleSync || r == roleArmed || r == roleUnarmed)
  irqSet P.PART 8 s

/-- The partner unit stops toggling; the gate holds the claim for 50 µs more (R425). -/
def dropClaim (s : State) : State :=
  if s.part.toggling then updPart (fun x => { x with toggling := false, lastToggle := s.now }) s else s

/-- The interlock gate closes: outputs lose power and Grador transmit its enable (R339, R425). -/
def closeGate (s : State) : State :=
  if s.regB R.PART_STAT 9 then
    let s := s.setB R.PART_STAT 9 false
    let s := forN 4 (fun f t => t.setB (fldA f R.FLD_STAT) 6 true) s
    forN 4 (fun i t => abortTest i t) s
  else s

/-- WITHDRAW is sent and the claim dropped (R430); `cause` 1 command, 2 HALTED, 3 PFAIL. -/
def withdrawNow (cause : Nat) (s : State) : State :=
  if s.role = roleActive ∨ (s.role = roleSingle ∧ cause = 1) then
    let s := s.send (.withdraw cause (s.reg64 R.BATON_COMMIT_SEQ_LO))
    setRole roleWithdrawn (dropClaim (s.bump R.PART_WITHDRAW_CNT))
  else dropClaim s

/-! ### HALTED (R97) -/

/-- The PFC enters HALTED, with the reason bit of SAFE_OFF_STAT: 8 VOTER, 9 DUAL or MULTI, 10 the test, none for SECDED
and RX (R115). -/
def halt (reason : Option Nat) (s : State) : State :=
  if s.halted then s else
  let s := (s.setB R.PFC_LANE_MAP 13 true).setB R.EXEC_MODE 6 true
  let s := pfcSafeOff reason s
  let s := moduleCause 4 s
  let s := s.setB R.GRDS_NODE_STAT 8 false
  let s := withdrawNow 2 s
  irqSet P.PFC 9 s

end Sys2Proof.Machine
end

