-- ==== Sys2Proof/Machine/Units.lean ====
section
/-!
DEFINITION. Frozen buffers (R31): the back half of each source unit, for the freeze to deliver.
-/
namespace Sys2Proof.Machine

/-- The quality word of a channel that is off, or that nothing has come from (R17). -/
abbrev qualNone : Nat := 0xFF00

/-- A block nothing has come to yet. -/
def blockZero (page chan : Nat) : Block := ⟨page, chan, none, none, 255, false⟩

/-- The block of a source. -/
def State.block (s : State) (page chan : Nat) : Block :=
  (s.exec.blocks.find? fun b => b.page == page && b.chan == chan).getD (blockZero page chan)

/-- Change the block of a source, creating it when it is new. -/
def updBlock (page chan : Nat) (f : Block → Block) : State → State := updExec fun e =>
  if e.blocks.any fun b => b.page == page && b.chan == chan then
    { e with blocks := e.blocks.map fun b => if b.page == page && b.chan == chan then f b else b }
  else { e with blocks := e.blocks ++ [f (blockZero page chan)] }

/-- The next source sequence of a block that counts its units. -/
def nextSeq (b : Block) : Nat :=
  match b.back, b.front with
  | some x, _ => x.2.2.1 + 1
  | none, some x => x.2.1 + 1
  | none, none => 1

/-- A complete unit goes into the back half of its source, replacing an older one (R31). -/
def pushUnit (page chan : Nat) (data : List Byte) (seq qual : Nat) (s : State) : State :=
  updBlock page chan (fun b => { b with back := some (data, s.now, seq, qual) }) s

/-- The source has brought nothing since it was enabled (R17). -/
def dropBlock (page chan : Nat) : State → State := updExec fun e =>
  { e with blocks := e.blocks.filter fun b => !(b.page == page && b.chan == chan) }

/-- The same for every source of a page. -/
def dropBlocks (page : Nat) : State → State := updExec fun e => { e with blocks := e.blocks.filter fun b => b.page != page }

/-- The unit of the program's transmit block (R207): the binding of KIND 3 with this page and channel. -/
def State.txBinding (s : State) (page chan : Nat) : Option Binding :=
  s.binds.find? fun b => b.kind == 3 && b.page == page && b.chan == chan

/-- Record a commit in the transmit record of a block: units, tick, length, status, age (R207). -/
def txNote (mb status : Nat) (sent : Bool) (s : State) : State :=
  let old := (s.exec.txStat.find? fun x => x.1 == mb).getD (mb, 0, 0, 0, 0, 0)
  let new := (mb, min (2 ^ 32 - 1) (old.2.1 + b2n sent), s.now, old.2.2.2.1, status, if sent then 0 else old.2.2.2.2.2)
  updExec (fun e => { e with txStat := new :: e.txStat.filter fun x => x.1 != mb }) s

end Sys2Proof.Machine
end

