-- ==== Sys2Proof/Machine/Capture.lean ====
section
/-!
DEFINITION. Capture channels of the time unit (R297) and the validity of train time (R293).
-/
namespace Sys2Proof.Machine

/-- TIME_STAT.VALID. -/
def State.timeValid (s : State) : Bool := s.regB R.TIME_STAT 0

/-- CAP_CFG of channel `j`. -/
def capA (j : Nat) : Nat := R.TCAP_CAP_CFG + 4 * j

/-- Capture channel `j` stamps an event: the 16-byte unit and CAP_CNT (R297). -/
def capture (j ts : Nat) (s : State) : State :=
  let n := nextSeq (s.block P.TCAP j) % 2 ^ 32
  let unit := leBytes 8 (ts % 2 ^ 64) ++ leBytes 4 n ++ leBytes 4 (b2n s.timeValid)
  pushUnit P.TCAP j unit n 0 (s.bump (R.TCAP_CAP_CNT + 4 * j))

/-- Every enabled capture channel of a source stamps it; `idx` is the compare channel for SRC 6. -/
def captures (src : Nat) (idx : Nat) (ts : Nat) (s : State) : State :=
  forN 32 (fun j t =>
    if t.regB (capA j) 16 && t.regF (capA j) 3 0 == src && (src != 6 || t.regF (capA j) 12 8 == idx) then
      capture j ts t
    else t) s

abbrev capBoundary : Nat := 1
abbrev capCycle : Nat := 2
abbrev capLap : Nat := 3
abbrev capSecond : Nat := 4
abbrev capPfail : Nat := 5
abbrev capCompare : Nat := 6

end Sys2Proof.Machine
end

