-- ==== Sys2Proof/Config.lean ====
section
/-!
DEFINITION. What the spec leaves open: constants without a body. Nothing can evaluate one, so a claim that mentions
one holds whatever its value is.
-/
namespace Sys2Proof

/-- A value the spec leaves undefined; the argument numbers the draws. -/
opaque Config.freeValue : Nat → BitVec 64

/-- The content of a configuration image word built from register words; the assignment of words is internal (R344). -/
opaque Config.imageWord : List Word → Nat → BitVec 16

/-- What an SBO code carries that does not close its switch (R400): the code of path X and of path Y. -/
opaque Config.openCodeX : BitVec 4
opaque Config.openCodeY : BitVec 4

/-- A quantity an SVT-F1 measures on its wiring for the diagnostic rotation: group, field index, tick (R365). -/
opaque Config.measured : Nat → Nat → Nat → BitVec 16

/-- The continuous analogue codes of a tick: group, input, tick (R374): the 42-bit upstream field. -/
opaque Config.aiStream : Nat → Nat → Nat → BitVec 42

/-- What the words of the open record hold that its closing fills: word, operating second (R494, R507). -/
opaque Config.openRecord : Nat → Nat → BitVec 32

/-- The voted write in which a lane's decision of a tick crosses (R113): its address and layout are internal; the
argument numbers the draws. -/
opaque Config.decisionWrite : Nat → BitVec 112

/-- What the internal regions of the comms RAM hold (R124): address, tick. -/
opaque Config.internalByte : Nat → Nat → BitVec 8

/-- The latency of a channel's Grador PHY that the trim fuses give, receive or transmit, in ns (R273): the layout of the
trim bits is not given. -/
opaque Config.phyLatency : BitVec 128 → Nat → Bool → Nat

/-- The longest wait at a memory's banks below rank 1 between two ticks, in lane cycles (R125, R140): memory, ticks. -/
opaque Config.longestWait : Nat → Nat → Nat → BitVec 32

/-- Percent complete of the march test that runs on a memory (R141): memory, ticks since its start. -/
opaque Config.marchProgress : Nat → Nat → Nat

/-- Percent complete of the ERASE, CHUNK or INSTALL that runs (R489): opcode, ticks since its start. -/
opaque Config.updateProgress : Nat → Nat → Nat

/-- Which of several CALLs, given by address, is the offending instruction of a refused admission (R208). -/
opaque Config.offendingCall : List Nat → Nat

end Sys2Proof
end

