-- ==== Sys2Proof/Machine/Crc.lean ====
section
/-!
DEFINITION. Reflected 32-bit CRCs over bytes: the IEEE 802.3 polynomial (R180, R212, R439) and CRC-32C (R406).
-/
namespace Sys2Proof.Machine

/-- One byte into a reflected CRC register. -/
def crcByte (poly c : BitVec 32) (b : Byte) : BitVec 32 :=
  (List.range 8).foldl (fun c _ => if bitOf c 0 then (c >>> 1) ^^^ poly else c >>> 1) (c ^^^ b.zeroExtend 32)

/-- A reflected CRC with an initial value and a final inversion. -/
def crcOf (poly init : BitVec 32) (bs : List Byte) : Nat := (~~~(bs.foldl (crcByte poly) init)).toNat

/-- CRC-32, IEEE 802.3. -/
def crc32 (bs : List Byte) : Nat := crcOf 0xEDB88320#32 0xFFFFFFFF#32 bs

/-- CRC-32C with an initial value. -/
def crc32c (init : BitVec 32) (bs : List Byte) : Nat := crcOf 0x82F63B78#32 init bs

end Sys2Proof.Machine
end

