-- ==== Sys2Proof/Machine/MemOps.lean ====
section
/-!
DEFINITION. Check codes of stored words (R122, R126), writes of the lane SRAMs and reads and writes of the comms RAM: the
clone dirty map (R137), poison (R128, R129), cancelled write-backs (R131) and the voted atomic (R132).
-/
namespace Sys2Proof.Machine

/-- Lane `l`. -/
def State.lane (s : State) (l : Nat) : Lane := getAt laneZero s.lanes l

def updLane (l : Nat) (f : Lane → Lane) (s : State) : State := { s with lanes := modAt f s.lanes l }

/-- Words a range of bytes touches, as word indexes. -/
def wordsOf (a n : Nat) : List Nat := if n = 0 then [] else (List.range ((a + n - 1) / 8 - a / 8 + 1)).map (a / 8 + ·)

/-- Lines a range of bytes touches, as line indexes. -/
def linesOf (a n : Nat) : List Nat :=
  if n = 0 then [] else (List.range ((a + n - 1) / 64 - a / 64 + 1)).map (a / 64 + ·)

/-- Put a line into a set kept in rising order. -/
def insertLine : Nat → List Nat → List Nat
  | l, [] => [l]
  | l, x :: xs => if l < x then l :: x :: xs else if l = x then x :: xs else x :: insertLine l xs

/-! ### SECDED check codes (R122, R126, R131) -/

/-- A register of memory page `m` (0 to 2 lanes, 3 MEMX). -/
def memA (m off : Nat) : Nat := pa (P.MEM + m) off

/-- The bank of a byte address (R122). -/
def bankOf (a : Nat) : Nat := a / 8 % 16

/-- Words of a memory (R122, R124). -/
def memWords (m : Nat) : Nat := if m < 3 then 1048576 else 262144

/-- The place of word `w` of memory `m` among the disturbed words. -/
def eccKey (m w : Nat) : Nat := m * 2 ^ 20 + w

/-- What the check code of a stored word shows (R126). -/
def State.eccAt (s : State) (m w : Nat) : Ecc := Sparse.get s.mems.upset (eccKey m w) .good

/-- A double error. -/
def isDouble (e : Ecc) : Bool := match e with | .double _ => true | _ => false

/-- A fault disturbs a stored word. -/
def strikeWord (m w : Nat) (e : Ecc) (s : State) : State :=
  updMems (fun x => { x with upset := Sparse.put x.upset (eccKey m w) e .good }) s

/-- Word `w` holds some byte of a range. -/
def wordIn (a n w : Nat) : Bool := decide (a / 8 ≤ w ∧ 8 * w < a + n)

/-- The words of a range of memory `m` whose check code shows an error, in rising order. -/
def State.eccHits (s : State) (m a n : Nat) : List (Nat × Ecc) :=
  (s.mems.upset.filter fun e => e.1 / 2 ^ 20 == m && wordIn a n (e.1 % 2 ^ 20)).map fun e => (e.1 % 2 ^ 20, e.2)

/-- A write of any master stores valid check codes in the words it touches, and cancels their write-backs
(R122, R131). -/
def freshWords (m a n : Nat) (s : State) : State :=
  updMems (fun x => { x with
    writeBack := x.writeBack.filter fun e => !(e.1 == m && wordIn a n e.2)
    upset := x.upset.filter fun e => !(e.1 / 2 ^ 20 == m && wordIn a n (e.1 % 2 ^ 20)) }) s

/-- The LAST registers of an error at byte address `a` (R141). -/
def loadLastErr (m addrOff infoOff a master syn : Nat) (s : State) : State :=
  (s.setRegN (memA m addrOff) (a / 8 * 8)).setRegN (memA m infoOff) (syn % 256 + 256 * bankOf a + 4096 * (master % 8))

/-- A single error is corrected: counted, and its write-back scheduled (R126, R131). -/
def singleError (m a master syn : Nat) (s : State) : State :=
  let s := (s.bump (memA m R.MEM_SBE_CNT)).bump (memA m (R.MEM_SBE_BANK + 4 * bankOf a))
  let s := loadLastErr m R.MEM_SBE_LAST_ADDR R.MEM_SBE_LAST_INFO a master syn s
  let wbs := if s.mems.writeBack.contains (m, a / 8) then s.mems.writeBack else s.mems.writeBack ++ [(m, a / 8)]
  let s := updMems (fun x => { x with writeBack := wbs }) s
  irqSet (P.MEM + m) 8 s

/-- A memory is the SRAM of a lane in service, a source of a rebuild. -/
def State.cloneSource (s : State) (m : Nat) : Bool := decide (m < 3) && s.inService m

/-- Writes to a source lane mark the clone dirty map (R137). -/
def markClone (a n : Nat) (s : State) : State :=
  match s.voting.clone.lane with
  | none => s
  | some _ => updVoting (fun v => { v with clone := { v.clone with
      marked := (linesOf a n).foldl (fun m l => insertLine l m) v.clone.marked } }) s

/-- Bytes written into one lane's SRAM. -/
def laneBytes (l a : Nat) (bs : List Byte) (s : State) : State :=
  freshWords l a bs.length (updLane l (fun x => { x with sram := Memory.writeN x.sram a bs }) s)

/-- A loader's write: the same bytes to every lane in service (R22, R89). It sets no baton mark (R135). -/
def loaderWrite (a : Nat) (bs : List Byte) (s : State) : State :=
  markClone a bs.length (s.lanesIn.foldl (fun t l => laneBytes l a bs t) s)

/-- A large block that the loaders write to every lane in service. -/
def loaderBlock (a : Nat) (bs : List Byte) (s : State) : State :=
  markClone a bs.length (s.lanesIn.foldl (fun t l =>
    freshWords l a bs.length (updLane l (fun x => { x with sram := Memory.splice x.sram a bs }) t)) s)

/-- The base of the active instance area (R123, R225). -/
def State.instBase (s : State) : Nat := 0x200000 + 0x200000 * s.exec.instArea

/-- The base of the active code area. -/
def State.codeBase (s : State) : Nat := 0x100000 * s.exec.codeArea

/-- The retained line of a lane line: 0 to 32,767 the active instance area, then the I/O image and message window
(R135, R211). -/
def State.retained (s : State) (line : Nat) : Option Nat :=
  let b := s.instBase / 64
  if b ≤ line ∧ line < b + 32768 then some (line - b)
  else if 0x600000 / 64 ≤ line ∧ line < 0x680000 / 64 then some (line - 0x600000 / 64 + 32768)
  else none

/-- The lane address of a retained line. -/
def State.retainedAddr (s : State) (r : Nat) : Nat :=
  if r < 32768 then s.instBase + 64 * r else 0x600000 + 64 * (r - 32768)

/-! ### Comms RAM -/

/-- Some word of a range of the comms RAM is poisoned (R128). -/
def State.poisoned (s : State) (a n : Nat) : Bool := (s.eccHits 3 a n).any fun e => isDouble e.2

/-- A poisoned word is known from now on. -/
def knowPoison (w : Nat) (s : State) : State := updMems (fun m => { m with poison := insertLine w m.poison }) s

/-- A detection of poison in word `w` by a reader: counted, recorded, known (R128, R141). -/
def poisonDetected (master w syn : Nat) (s : State) : State :=
  let s := s.bump (memA 3 R.MEM_DBE_CNT)
  let s := loadLastErr 3 R.MEM_DBE_LAST_ADDR R.MEM_DBE_LAST_INFO (8 * w) master syn s
  recordErr P.MEMX 0x40 srcHardware 0 (irqSet P.MEMX 9 (knowPoison w s))

/-- What a read of one word of the comms RAM does about its check code (R126, R128). -/
def commsWordRead (master w : Nat) (e : Ecc) (s : State) : State :=
  match e with
  | .good => s
  | .single syn => singleError 3 (8 * w) master syn.toNat s
  | .double syn => poisonDetected master w syn.toNat s

/-- A master reads a range of the comms RAM: each word's check code (R126, R128). Whether a word of the range is poisoned
is `State.poisoned`. -/
def commsRead (master a n : Nat) (s : State) : State :=
  (s.eccHits 3 a n).foldl (fun t e => commsWordRead master e.1 e.2 t) s

/-- A write of bytes inside one 64-bit word: whole words clear poison, parts of a poisoned word are discarded and
recorded (R129). -/
def commsPart (src a : Nat) (bs : List Byte) (s : State) : State :=
  let w := a / 8
  if isDouble (s.eccAt 3 w) && bs.length < 8 then recordErr P.MEMX 0x42 src (w % 1024) (knowPoison w s)
  else
    freshWords 3 a bs.length (updMems (fun m => { m with comms := Memory.writeN m.comms a bs,
                                                         poison := m.poison.filter (fun x => x != w) }) s)

/-- Write bytes to the comms RAM, word by word in rising order; `k` bounds the words. -/
def commsWriteK (src : Nat) : Nat → Nat → List Byte → State → State
  | 0, _, _, s => s
  | _ + 1, _, [], s => s
  | k + 1, a, bs, s =>
    let n := min (8 - a % 8) bs.length
    commsWriteK src k (a + n) (bs.drop n) (commsPart src a (bs.take n) s)

/-- Write bytes to the comms RAM. -/
def commsWrite (src a : Nat) (bs : List Byte) (s : State) : State := commsWriteK src (bs.length + 1) a bs s

/-- Bytes of the comms RAM. -/
def State.comms (s : State) (a n : Nat) : List Byte := Memory.readN s.mems.comms a n

/-- A little-endian number in the comms RAM. -/
def State.commsN (s : State) (a n : Nat) : Nat := Memory.readLe s.mems.comms a n

/-- A word of the comms RAM. -/
def State.commsWord (s : State) (w : Nat) : DWord := BitVec.ofNat 64 (s.commsN (8 * w) 8)

/-- The halves of frozen buffers and the relay queues: their layout is internal (R124). -/
def internalComms (a : Nat) : Bool := decide (0x100000 ≤ a ∧ a < 0x180000) || decide (0x18A000 ≤ a ∧ a < 0x1C0000)

/-- The byte a read of the comms RAM shows. In the internal regions it is a free value (log entry 186). -/
def State.commsByte (s : State) (a : Nat) : Byte :=
  if internalComms a then Config.internalByte a s.now else Memory.read s.mems.comms a

/-- The word a read of the comms RAM shows. -/
def State.commsRead64 (s : State) (w : Nat) : DWord :=
  if internalComms (8 * w) then BitVec.ofNat 64 (leNat ((List.range 8).map fun i => s.commsByte (8 * w + i)))
  else s.commsWord w

/-- Bytes of a bundle that its byte enables select. A part of a poisoned word is one discarded write (R91, R129). -/
def commsEnabled (w : Nat) (be : BitVec 8) (data : DWord) (s : State) : State :=
  if be = BitVec.allOnes 8 then commsWrite srcProgram (8 * w) (leBytes 8 data.toNat) s
  else if isDouble (s.eccAt 3 w) then recordErr P.MEMX 0x42 srcProgram (w % 1024) (knowPoison w s)
  else forN 8 (fun i t => if bitOf be i
    then commsWrite srcProgram (8 * w + i) [BitVec.ofNat 8 (data.toNat >>> (8 * i))] t else t) s

/-- What an atomic stores: the sum modulo 2^64, or the operand (R132). -/
def atomValue (swap : Bool) (old opnd : DWord) : DWord := if swap then opnd else old + opnd

/-- An atomic add or swap on one word of the comms RAM; the old value (R132). On a poisoned word it is not performed,
and the reader learns of it (R128). -/
def commsAtomic (master : Nat) (swap : Bool) (w : Nat) (opnd : DWord) (s : State) : DWord × State :=
  let old := s.commsWord w
  let bad := s.poisoned (8 * w) 8
  let s := commsRead master (8 * w) 8 s
  if bad then (0, s)
  else (old, commsWrite srcProgram (8 * w) (leBytes 8 (atomValue swap old opnd).toNat) (s.bump R.MEMX_ATOM_CNT))

end Sys2Proof.Machine
end

