-- ==== Sys2Proof/Machine/Image.lean ====
section
/-!
DEFINITION. The ZVC image (R180, R181, R182) and migration maps (R223) as byte layouts, and what a program is made of.
-/
namespace Sys2Proof.Machine

/-- A little-endian field of an image. -/
def imgN (img : List Byte) (off n : Nat) : Nat := leNat ((img.drop off).take n)

/-- A bit field of an image word. -/
def bitsN (v hi lo : Nat) : Nat := v / 2 ^ lo % 2 ^ (hi + 1 - lo)

/-! ### The header (R180) -/

structure ImageHeader where
  version : Nat
  progId : Nat
  size : Nat
  codeOff : Nat
  codeSize : Nat
  kOff : Nat
  kSize : Nat
  typeOff : Nat
  typeCount : Nat
  instOff : Nat
  instCount : Nat
  taskOff : Nat
  taskCount : Nat
  bindOff : Nat
  bindCount : Nat
  dataOff : Nat
  dataSize : Nat
  msgSize : Nat
  features : Nat
  declWcet : List Nat
  deriving DecidableEq, Repr

def imageHeader (img : List Byte) : ImageHeader :=
  let w (o : Nat) : Nat := imgN img o 4
  { version := imgN img 4 2, progId := imgN img 8 8, size := w 0x14, codeOff := w 0x18, codeSize := w 0x1C,
    kOff := w 0x20, kSize := w 0x24, typeOff := w 0x28, typeCount := w 0x2C, instOff := w 0x30, instCount := w 0x34,
    taskOff := w 0x38, taskCount := w 0x3C, bindOff := w 0x40, bindCount := w 0x44, dataOff := w 0x48,
    dataSize := w 0x4C, msgSize := w 0x50, features := w 0x54,
    declWcet := (List.range 16).map fun i => w (0x58 + 4 * i) }

/-- A section lies in the image at a multiple of 8. -/
def sectionOk (h : ImageHeader) (off size : Nat) : Bool := off % 8 == 0 && decide (off + size ≤ h.size)

/-- The header conditions whose failure is VERSION (R208). -/
def headerOk (img : List Byte) : Bool :=
  let h := imageHeader img
  imgN img 0 4 == 0x0043565A && imgN img 0xFC 4 == crc32 (img.take 0xFC) && imgN img 0x10 4 == 256
    && (h.version == 1 || h.version == 2) && imgN img 6 2 == 0 && (img.drop 0x98 |>.take 100).all (· == 0)
    && decide (h.features < 4) && decide (h.size ≤ img.length)
    && sectionOk h h.codeOff h.codeSize && sectionOk h h.kOff h.kSize && sectionOk h h.typeOff (16 * h.typeCount)
    && sectionOk h h.instOff (16 * h.instCount) && sectionOk h h.taskOff (16 * h.taskCount)
    && sectionOk h h.bindOff (16 * h.bindCount) && sectionOk h h.dataOff h.dataSize
    && h.codeSize % 4 == 0 && h.dataSize % 8 == 0 && decide (1 ≤ h.typeCount ∧ h.typeCount ≤ 65535)

/-! ### Table entries (R181) -/

def imageType (img : List Byte) (a : Nat) : TypeEntry :=
  ⟨imgN img a 4, imgN img (a + 4) 4, imgN img (a + 8) 4, imgN img (a + 12) 2⟩
def imageInst (img : List Byte) (a : Nat) : InstEntry :=
  let w := imgN img (a + 4) 4
  ⟨imgN img a 4, bitsN w 15 0, w.testBit 16, imgN img (a + 8) 8⟩
def imageTask (img : List Byte) (a : Nat) : TaskEntry :=
  let w := imgN img (a + 8) 4
  ⟨imgN img a 4, imgN img (a + 4) 4, bitsN w 3 0, bitsN w 25 16, imgN img (a + 12) 2⟩
def imageBind (img : List Byte) (a : Nat) : Binding :=
  let w0 := imgN img a 4
  let w1 := imgN img (a + 4) 4
  ⟨bitsN w0 1 0, bitsN w0 31 16, bitsN w1 7 0, bitsN w1 31 16, imgN img (a + 8) 4, imgN img (a + 12) 4⟩

/-- A table of 16-byte entries. -/
def imageTable {α : Type} (f : List Byte → Nat → α) (img : List Byte) (off n : Nat) : List α :=
  (List.range n).map fun i => f img (off + 16 * i)

/-- The program an image holds. -/
def imageProgram (img : List Byte) : Program :=
  let h := imageHeader img
  { version := h.version, progId := h.progId, kSize := h.kSize, msgSize := h.msgSize, declWcet := h.declWcet,
    types := imageTable imageType img h.typeOff h.typeCount, insts := imageTable imageInst img h.instOff h.instCount,
    tasks := imageTable imageTask img h.taskOff h.taskCount, binds := imageTable imageBind img h.bindOff h.bindCount,
    code := (img.drop h.codeOff).take h.codeSize, consts := (img.drop h.kOff).take h.kSize,
    data := (img.drop h.dataOff).take h.dataSize, image := img }

/-- Bits of the table entries that are reserved, all 0 (R181): types, instances, tasks, bindings. -/
def typeReserved (img : List Byte) (a : Nat) : Bool := imgN img (a + 14) 2 == 0
def instReserved (img : List Byte) (a : Nat) : Bool := decide (imgN img (a + 4) 4 < 2 ^ 17)
def taskReserved (img : List Byte) (a : Nat) : Bool :=
  let w := imgN img (a + 8) 4
  bitsN w 15 4 == 0 && bitsN w 31 26 == 0 && imgN img (a + 14) 2 == 0
def bindReserved (img : List Byte) (a : Nat) : Bool := bitsN (imgN img a 4) 15 2 == 0 && bitsN (imgN img (a + 4) 4) 15 8 == 0

/-! ### Migration maps (R223) -/

def mapRun (img : List Byte) (a : Nat) : MigRun :=
  let w0 := imgN img a 4
  let w1 := imgN img (a + 4) 4
  let mark := w1.testBit 31
  ⟨mark, if mark then bitsN w0 1 0 else 0, if mark then w0 / 4 else w0, bitsN w1 20 0, bitsN w1 30 21⟩

/-- The map at the start of some bytes: entries follow the header, runs follow the entries. -/
def migMap (img : List Byte) : Option MigMap :=
  let n := imgN img 0x18 4
  let r := imgN img 0x1C 4
  if imgN img 0 4 = 0x504D5753 ∧ imgN img 4 4 = 1 ∧ 1 ≤ n ∧ n ≤ 65536 ∧ r ≤ 262144
      ∧ 32 + 8 * n + 8 * r ≤ img.length then
    let runs := (List.range r).map fun i => mapRun img (32 + 8 * n + 8 * i)
    some ⟨imgN img 8 8, imgN img 0x10 8, (List.range n).map fun i =>
      let w0 := imgN img (32 + 8 * i) 4
      let w1 := imgN img (36 + 8 * i) 4
      ⟨bitsN w0 15 0, bitsN w0 31 16, w1.testBit 31, (runs.drop (bitsN w1 19 0)).take (bitsN w1 30 20)⟩, r⟩
  else none

/-- Bytes of a map. -/
def mapSize (img : List Byte) : Nat := 32 + 8 * imgN img 0x18 4 + 8 * imgN img 0x1C 4

/-- The two maps of an application container follow its image, the reverse map after the forward one (DESIGN CHOICE). -/
def imageMaps (img : List Byte) : Option (MigMap × MigMap) :=
  let rest := img.drop ((imageHeader img).size + (8 - (imageHeader img).size % 8) % 8)
  match migMap rest, migMap (rest.drop (mapSize rest)) with
  | some f, some r => some (f, r)
  | _, _ => none

/-! ### Placing a program in the lanes (R182) -/

/-- Code, then the constants at the next multiple of 8, into a code area. -/
def placeCode (area : Nat) (p : Program) (s : State) : State :=
  let s := loaderWrite (0x100000 * area) p.code s
  loaderWrite (0x100000 * area + (p.code.length + 7) / 8 * 8) p.consts s

/-- The initial data to an instance area. -/
def placeData (area : Nat) (p : Program) (s : State) : State := loaderWrite (0x200000 + 0x200000 * area) p.data s

end Sys2Proof.Machine
end

