-- ==== Sys2Proof/Machine/Float.lean ====
section
/-!
DEFINITION. IEEE 754 binary32 and binary64 on exact integers: decode, round to nearest with ties to even, arithmetic
and comparison as R191, R192 and R194 say.
-/
namespace Sys2Proof.Machine

/-- A binary format: precision, exponent of the last place of a subnormal, and the bits of infinity's exponent. -/
structure Fmt where
  prec : Nat
  qmin : Int
  emax : Nat
  deriving DecidableEq, Repr

def fmt32 : Fmt := ⟨24, -149, 255⟩
def fmt64 : Fmt := ⟨53, -1074, 2047⟩

/-- A decoded number: sign, mantissa and exponent of the last place, an infinity, or NaN. -/
inductive FpNum where
  | fin (neg : Bool) (mant : Nat) (q : Int)
  | inf (neg : Bool)
  | nan
  deriving DecidableEq, Repr

/-- Bits of a format's word. -/
def Fmt.bits (f : Fmt) : Nat := if f.prec = 24 then 32 else 64

/-- Decode a word. -/
def Fmt.decode (f : Fmt) (v : Nat) : FpNum :=
  let frac := v % 2 ^ (f.prec - 1)
  let e := v / 2 ^ (f.prec - 1) % (f.emax + 1)
  let neg := decide (2 ^ (f.bits - 1) ≤ v % 2 ^ f.bits)
  if e = f.emax then (if frac = 0 then .inf neg else .nan)
  else if e = 0 then .fin neg frac f.qmin
  else .fin neg (frac + 2 ^ (f.prec - 1)) (f.qmin + e - 1)

/-- The word of an infinity. -/
def Fmt.infW (f : Fmt) (neg : Bool) : Nat := (if neg then 2 ^ (f.bits - 1) else 0) + f.emax * 2 ^ (f.prec - 1)

/-- The default quiet NaN (R191). -/
def Fmt.nanW (f : Fmt) : Nat := f.emax * 2 ^ (f.prec - 1) + 2 ^ (f.prec - 2)

/-- The word of a zero. -/
def Fmt.zeroW (f : Fmt) (neg : Bool) : Nat := if neg then 2 ^ (f.bits - 1) else 0

/-- `n / d` shifted by `2^s`, rounded to the nearest integer, ties to even. -/
def roundShift (n d : Nat) (s : Int) : Nat :=
  let num := if 0 ≤ s then n * 2 ^ s.toNat else n
  let den := if 0 ≤ s then d else d * 2 ^ (-s).toNat
  let m := num / den
  let r := 2 * (num % den)
  if den < r ∨ (r = den ∧ m % 2 = 1) then m + 1 else m

/-- The value `±(n / d) · 2^e` rounded to the format, to nearest with ties to even; overflow gives infinity. -/
def Fmt.round (f : Fmt) (neg : Bool) (n d : Nat) (e : Int) : Nat :=
  if n = 0 then f.zeroW neg else
  let q0 : Int := (Nat.log2 n : Int) - Nat.log2 d - f.prec + e
  let q1 : Int := max q0 f.qmin
  let q : Int :=
    let num := if 0 ≤ e - q1 then n * 2 ^ (e - q1).toNat else n
    let den := if 0 ≤ e - q1 then d else d * 2 ^ (q1 - e).toNat
    if 2 ^ f.prec ≤ num / den then q1 + 1 else q1
  let m := roundShift n d (e - q)
  let body := if m < 2 ^ (f.prec - 1) then m else (q - f.qmin + 1).toNat * 2 ^ (f.prec - 1) + (m - 2 ^ (f.prec - 1))
  if f.emax * 2 ^ (f.prec - 1) ≤ body then f.infW neg else (if neg then 2 ^ (f.bits - 1) else 0) + body

/-- An integer rounded to the format (R194). -/
def Fmt.ofInt (f : Fmt) (v : Int) : Nat := f.round (decide (v < 0)) v.natAbs 1 0

/-- The exact integer mantissa of a finite number at the exponent `q`, which is no larger than its own. -/
def signedAt (neg : Bool) (m : Nat) (q q0 : Int) : Int :=
  let v : Int := (m * 2 ^ (q - q0).toNat : Nat)
  if neg then -v else v

/-- Result of a REAL operation: its word and V (R191). -/
abbrev RealRes := Nat × Bool

/-- An exact sum; a zero sum of unlike signs is +0. -/
def Fmt.addReal (f : Fmt) (a b : FpNum) : RealRes :=
  match a, b with
  | .nan, _ => (f.nanW, true)
  | _, .nan => (f.nanW, true)
  | .inf x, .inf y => if x == y then (f.infW x, false) else (f.nanW, true)
  | .inf x, .fin .. => (f.infW x, false)
  | .fin .., .inf y => (f.infW y, false)
  | .fin na ma qa, .fin nb mb qb =>
    if ma = 0 ∧ mb = 0 then (f.zeroW (na && nb), false) else
    let q0 := min qa qb
    let v := signedAt na ma qa q0 + signedAt nb mb qb q0
    if v = 0 then (f.zeroW false, false) else
    let w := f.round (decide (v < 0)) v.natAbs 1 q0
    (w, w % 2 ^ (f.bits - 1) == f.emax * 2 ^ (f.prec - 1))

/-- The number with its sign turned. -/
def FpNum.neg : FpNum → FpNum
  | .fin n m q => .fin (!n) m q
  | .inf n => .inf (!n)
  | .nan => .nan

/-- The absolute value. -/
def FpNum.abs : FpNum → FpNum
  | .fin _ m q => .fin false m q
  | .inf _ => .inf false
  | .nan => .nan

def Fmt.mulReal (f : Fmt) (a b : FpNum) : RealRes :=
  match a, b with
  | .nan, _ => (f.nanW, true)
  | _, .nan => (f.nanW, true)
  | .inf x, .inf y => (f.infW (x != y), false)
  | .inf x, .fin y m _ => if m = 0 then (f.nanW, true) else (f.infW (x != y), false)
  | .fin x m _, .inf y => if m = 0 then (f.nanW, true) else (f.infW (x != y), false)
  | .fin x ma qa, .fin y mb qb =>
    let w := f.round (x != y) (ma * mb) 1 (qa + qb)
    (w, w % 2 ^ (f.bits - 1) == f.emax * 2 ^ (f.prec - 1))

def Fmt.divReal (f : Fmt) (a b : FpNum) : RealRes :=
  match a, b with
  | .nan, _ => (f.nanW, true)
  | _, .nan => (f.nanW, true)
  | .inf _, .inf _ => (f.nanW, true)
  | .inf x, .fin y m _ => (f.infW (x != y), m == 0)
  | .fin x _ _, .inf y => (f.zeroW (x != y), false)
  | .fin x ma qa, .fin y mb qb =>
    if mb = 0 then (if ma = 0 then (f.nanW, true) else (f.infW (x != y), true))
    else
      let w := f.round (x != y) ma mb (qa - qb)
      (w, w % 2 ^ (f.bits - 1) == f.emax * 2 ^ (f.prec - 1))

/-- The word of a decoded number of the same format. -/
def Fmt.encode (f : Fmt) : FpNum → Nat
  | .nan => f.nanW
  | .inf n => f.infW n
  | .fin n m q => f.round n m 1 q

/-- `a < b`; false with NaN. -/
def FpNum.lt : FpNum → FpNum → Bool
  | .nan, _ => false
  | _, .nan => false
  | .inf x, .inf y => x && !y
  | .inf x, .fin .. => x
  | .fin .., .inf y => !y
  | .fin na ma qa, .fin nb mb qb =>
    let q0 := min qa qb
    decide (signedAt na ma qa q0 < signedAt nb mb qb q0)

/-- `a = b`, with +0 = −0; false with NaN. -/
def FpNum.eq : FpNum → FpNum → Bool
  | .nan, _ => false
  | _, .nan => false
  | .inf x, .inf y => x == y
  | .inf _, .fin .. => false
  | .fin .., .inf _ => false
  | .fin na ma qa, .fin nb mb qb =>
    let q0 := min qa qb
    signedAt na ma qa q0 == signedAt nb mb qb q0

/-- The number is NaN. -/
def FpNum.isNan : FpNum → Bool
  | .nan => true
  | _ => false

/-- The number is a zero of either sign. -/
def FpNum.isZero : FpNum → Bool
  | .fin _ m _ => m == 0
  | _ => false

/-- Below zero: −0.0 and NaN are not (R191). -/
def FpNum.isNeg : FpNum → Bool
  | .fin n m _ => n && !(m == 0)
  | .inf n => n
  | .nan => false

/-- The sign bit; false for NaN. -/
def FpNum.signBit : FpNum → Bool
  | .fin n _ _ => n
  | .inf n => n
  | .nan => false

/-- MIN and MAX (R191): the other operand when one is NaN; MIN of unlike zeros is −0, MAX +0. -/
def Fmt.minMax (f : Fmt) (isMax : Bool) (a b : FpNum) : RealRes :=
  match a, b with
  | .nan, .nan => (f.nanW, true)
  | .nan, x => (f.encode x, true)
  | x, .nan => (f.encode x, true)
  | a, b =>
    let pickA := if a.isZero && b.isZero then (if isMax then !a.signBit else a.signBit)
                 else if isMax then b.lt a else a.lt b
    (f.encode (if pickA then a else b), false)

/-- A finite number rounded to the nearest integer, ties to even. -/
def FpNum.toIntRne (neg : Bool) (m : Nat) (q : Int) : Int :=
  let v : Int := roundShift m 1 q
  if neg then -v else v

end Sys2Proof.Machine
end

