-- ==== Sys2Proof/Machine/Flags.lean ====
section
/-!
DEFINITION. Results and flags of ZVC arithmetic, logic, comparison and conversion (R184, R187, R189 to R194).
-/
namespace Sys2Proof

open Machine

/-- Nanoseconds in a day: the range of TOD (R184). -/
abbrev dayNs : Nat := 86400000000000

/-- Width of an integer type in bits. -/
def ZTy.width : ZTy → Nat
  | .bool => 1 | .int16 => 16 | .int32 => 32 | .real32 => 32 | _ => 64

/-- Size in memory in bytes (R184). -/
def ZTy.size : ZTy → Nat
  | .bool => 1 | .int16 => 2 | .int32 => 4 | .real32 => 4 | _ => 8

def ZTy.isReal : ZTy → Bool
  | .real32 | .real64 => true
  | _ => false

/-- The format of a REAL type. -/
def ZTy.fmt : ZTy → Fmt
  | .real32 => fmt32
  | _ => fmt64

/-- Lowest and highest value of an integer type (R184). -/
def ZTy.lo : ZTy → Int
  | .bool => 0 | .tod => 0 | t => -(2 ^ (t.width - 1))
def ZTy.hi : ZTy → Int
  | .bool => 1 | .tod => dayNs - 1 | t => 2 ^ (t.width - 1) - 1

/-- The value a register holds as an integer type: the low bits of its width, signed. -/
def ZTy.val (t : ZTy) (w : DWord) : Int :=
  match t with
  | .bool => b2n (bitOf w 0)
  | t => toSigned t.width w.toNat

/-- The value as an unsigned number of its width. -/
def ZTy.uval (t : ZTy) (w : DWord) : Nat := w.toNat % 2 ^ t.width

/-- The REAL a register holds. -/
def ZTy.real (t : ZTy) (w : DWord) : FpNum := t.fmt.decode w.toNat

/-- An integer as a register word, sign-extended. -/
def intWord (v : Int) : DWord := BitVec.ofInt 64 v

/-- The result taken into the type: wrapped, or the nearer limit (R190). -/
def ZTy.fit (t : ZTy) (sat : Bool) (v : Int) : Int :=
  if sat then (if v < t.lo then t.lo else if t.hi < v then t.hi else v)
  else match t with
    | .tod => v % (dayNs : Int)
    | t => toSigned t.width (v % (2 ^ t.width : Int)).toNat

end Sys2Proof

namespace Sys2Proof.Machine

/-- A result with the flags Z, N, V, C. -/
structure Alu where
  res : DWord
  z : Bool
  n : Bool
  v : Bool
  c : Bool
  deriving DecidableEq, Repr

/-- The result of integer arithmetic whose exact value is `v` (R190). -/
def intAlu (t : ZTy) (sat : Bool) (v : Int) (c : Bool) : Alu :=
  let r := t.fit sat v
  ⟨intWord r, r == 0, decide (r < 0), decide (v < t.lo) || decide (t.hi < v), c⟩

/-- The result of REAL arithmetic (R191). -/
def realAlu (t : ZTy) (r : RealRes) : Alu :=
  let x := t.fmt.decode r.1
  ⟨BitVec.ofNat 64 r.1, x.isZero, x.isNeg, r.2, false⟩

/-- ADD and SUB (R190, R191). -/
def aluAdd (t : ZTy) (sat : Bool) (a b : DWord) : Alu :=
  if t.isReal then realAlu t (t.fmt.addReal (t.real a) (t.real b))
  else intAlu t sat (t.val a + t.val b) (decide (2 ^ t.width ≤ t.uval a + t.uval b))
def aluSub (t : ZTy) (sat : Bool) (a b : DWord) : Alu :=
  if t.isReal then realAlu t (t.fmt.addReal (t.real a) (t.real b).neg)
  else intAlu t sat (t.val a - t.val b) (decide (t.uval a < t.uval b))

/-- MUL. -/
def aluMul (t : ZTy) (sat : Bool) (a b : DWord) : Alu :=
  if t.isReal then realAlu t (t.fmt.mulReal (t.real a) (t.real b))
  else intAlu t sat (t.val a * t.val b) false

/-- DIV, with the results the table of R190 defines for a divisor of 0. -/
def aluDiv (t : ZTy) (sat : Bool) (a b : DWord) : Alu :=
  if t.isReal then realAlu t (t.fmt.divReal (t.real a) (t.real b))
  else
    let x := t.val a
    if t.val b = 0 then
      let r : Int := if !sat || x == 0 then 0 else if 0 < x then t.hi else t.lo
      ⟨intWord r, r == 0, decide (r < 0), true, false⟩
    else intAlu t sat (x.tdiv (t.val b)) false

/-- MOD takes the sign of the dividend (R190). -/
def aluMod (t : ZTy) (a b : DWord) : Alu :=
  if t.val b = 0 then ⟨0, true, false, true, false⟩
  else intAlu t false ((t.val a).tmod (t.val b)) false

/-- NEG. -/
def aluNeg (t : ZTy) (sat : Bool) (a : DWord) : Alu :=
  if t.isReal then
    let x := t.real a
    realAlu t (t.fmt.encode x.neg, x.isNan)
  else intAlu t sat (-(t.val a)) false

/-- ABS. -/
def aluAbs (t : ZTy) (sat : Bool) (a : DWord) : Alu :=
  if t.isReal then
    let x := t.real a
    realAlu t (t.fmt.encode x.abs, x.isNan)
  else intAlu t sat (t.val a).natAbs false

/-- MIN and MAX. -/
def aluMinMax (isMax : Bool) (t : ZTy) (a b : DWord) : Alu :=
  if t.isReal then realAlu t (t.fmt.minMax isMax (t.real a) (t.real b))
  else
    let pickA := if isMax then decide (t.val b < t.val a) else decide (t.val a < t.val b)
    intAlu t false (if pickA then t.val a else t.val b) false

/-- Logic: BOOL on bit 0, INT16 and INT32 on their width, sign-extended (R193). -/
def logicWord (t : ZTy) (w : DWord) : DWord :=
  match t with
  | .bool => BitVec.ofNat 64 (b2n (bitOf w 0))
  | t => intWord (t.val w)

/-- The zero and negative flag of a logic or shift result. -/
def zeroFlag (w : DWord) : Bool := w == 0
def negFlag (w : DWord) : Bool := bitOf w 63

/-- A shift's result and the last bit shifted out, at the width of T (R193). -/
def shiftLeft (t : ZTy) (a : DWord) (n : Nat) : DWord × Bool :=
  let w := t.width
  let u := t.uval a
  (intWord (toSigned w (if w ≤ n then 0 else u * 2 ^ n)), decide (0 < n ∧ n ≤ w) && u.testBit (w - n))
def shiftRight (t : ZTy) (a : DWord) (n : Nat) : DWord × Bool :=
  let w := t.width
  let u := t.uval a
  (intWord (toSigned w (if w ≤ n then 0 else u / 2 ^ n)), decide (0 < n ∧ n ≤ w) && u.testBit (n - 1))
def shiftArith (t : ZTy) (a : DWord) (n : Nat) : DWord × Bool :=
  let v := t.val a
  (intWord (v / 2 ^ n), decide (0 < n) && (if t.width ≤ n then decide (v < 0) else (t.uval a).testBit (n - 1)))
def rotateLeft (t : ZTy) (a : DWord) (n0 : Nat) : DWord × Bool :=
  let w := t.width
  let n := n0 % w
  let u := t.uval a
  let r := (u * 2 ^ n) % 2 ^ w + u / 2 ^ (w - n)
  if n = 0 then (intWord (t.val a), false) else (intWord (toSigned w r), r.testBit 0)
def rotateRight (t : ZTy) (a : DWord) (n0 : Nat) : DWord × Bool :=
  let w := t.width
  let n := n0 % w
  let u := t.uval a
  let r := u / 2 ^ n + (u * 2 ^ (w - n)) % 2 ^ w
  if n = 0 then (intWord (t.val a), false) else (intWord (toSigned w r), r.testBit (w - 1))

/-- CMP (R192). -/
def aluCmp (t : ZTy) (a b : DWord) : Alu :=
  if t.isReal then
    let x := t.real a
    let y := t.real b
    ⟨0, x.eq y, x.lt y, x.isNan || y.isNan, false⟩
  else ⟨0, t.val a == t.val b, decide (t.val a < t.val b), false, decide (t.uval a < t.uval b)⟩

/-- A condition over the flags (R187). -/
def condHolds (c : Nat) (z n v cy q : Bool) : Bool :=
  if c = 0 then z else if c = 1 then !z else if c = 2 then n else if c = 3 then !n && !v
  else if c = 4 then !n && !z && !v else if c = 5 then (n || z) && !v else if c = 6 then cy else if c = 7 then !cy
  else if c = 8 then !cy && !z else if c = 9 then cy || z else if c = 10 then v else if c = 11 then !v
  else if c = 12 then q else if c = 13 then !q else true

/-- REAL to an integer type within limits: round to nearest, ties to even (R194). -/
def realToInt (x : FpNum) (lo hi : Int) : Int × Bool :=
  match x with
  | .nan => (0, true)
  | .inf n => (if n then lo else hi, true)
  | .fin n m q =>
    let v := FpNum.toIntRne n m q
    if v < lo then (lo, true) else if hi < v then (hi, true) else (v, false)

/-- CVT from T to T2: the result and V (R194). -/
def convert (t t2 : ZTy) (sat : Bool) (a : DWord) : DWord × Bool :=
  if t2 = .bool then
    if t.isReal then (BitVec.ofNat 64 (b2n (!(t.real a).isZero)), false)
    else (BitVec.ofNat 64 (b2n (!(t.val a == 0))), false)
  else if t.isReal then
    let x := t.real a
    if t2.isReal then
      if x.isNan then (BitVec.ofNat 64 t2.fmt.nanW, true)
      else
        let w := t2.fmt.encode x
        let wasInf := match x with | .inf _ => true | _ => false
        let isInf := match t2.fmt.decode w with | .inf _ => true | _ => false
        (BitVec.ofNat 64 w, isInf && !wasInf)
    else
      let r := realToInt x t2.lo t2.hi
      (intWord r.1, r.2)
  else if t2.isReal then (BitVec.ofNat 64 (t2.fmt.ofInt (t.val a)), false)
  else
    let r := t2.fit sat (t.val a)
    (intWord r, !(r == t.val a))

end Sys2Proof.Machine
end

