-- ==== Sys2Proof/Machine/Lanes.lean ====
section
/-!
DEFINITION. Lanes, photo-finish comparator and the commands of PFC, LANEA to LANEC and XCHG (chapter 04): the vote and
its attribution (R94 to R98), fencing, resync, retirement (R99 to R105), the injection test (R106 to R108).
-/
namespace Sys2Proof.Machine

/-- Address of an offset on the page of lane `l`. -/
def laneA (l off : Nat) : Nat := pa (P.LANE + l) off

/-! ### Kinds of attributed events (R116) -/

abbrev kNone : Nat := 0
abbrev kLane : Nat := 1
abbrev kParity : Nat := 2
abbrev kBeat : Nat := 3
abbrev kVoter : Nat := 4
abbrev kDual : Nat := 5
abbrev kMulti : Nat := 6
abbrev kSecded : Nat := 7
abbrev kRx : Nat := 8

/-- The code an event kind is recorded under on the PFC page (R119, R127). -/
def kindCode (k : Nat) : Nat :=
  if k = kLane then 0x40 else if k = kParity then 0x41 else if k = kBeat then 0x42 else if k = kVoter then 0x43
  else if k = kMulti then 0x44 else if k = kDual then 0x45 else if k = kSecded then 0x47 else 0x48

/-- One lane event: the lane, if one is attributed, its kind, delay stage, and the XOR of the copies (R98, R115). -/
structure LaneEvent where
  lane : Option Nat
  kind : Nat
  stage : Nat
  diff : BitVec 112
  deriving DecidableEq, Repr

/-- The lowest set bit of a bundle difference, or 0x7F (R116). -/
def lowestBit (d : BitVec 112) : Nat := ((List.range 112).find? fun i => bitOf d i).getD 0x7F

/-- How many bits differ. -/
def bitCount (d : BitVec 112) : Nat := (List.range 112).foldl (fun a i => a + b2n (bitOf d i)) 0

/-- LAST_INFO of an event (R116). -/
def lastInfo (e : LaneEvent) : Nat :=
  e.kind + (e.lane.getD 3) * 2 ^ 4 + e.stage * 2 ^ 6 + lowestBit e.diff * 2 ^ 10

/-- Shift a log of `n` entries of `w` words at `base` by one entry and put a new entry first. -/
def pushLog (base n w : Nat) (entry : List Nat) (s : State) : State :=
  let t := forN ((n - 1) * w) (fun i t => t.setReg (base + 4 * (w + i)) (s.reg (base + 4 * i))) s
  (entry.zipIdx).foldl (fun t e => t.setRegN (base + 4 * e.2) e.1) t

/-- LAST_ registers and MISM_LOG of the PFC (R98, R115). -/
def loadLast (e : LaneEvent) (fwd : BitVec 112) (s : State) : State :=
  let s := s.setReg64 R.PFC_LAST_TICK_LO s.now
  let s := s.setRegN R.PFC_LAST_INFO (lastInfo e)
  let s := s.setRegN R.PFC_LAST_ADDR (fld fwd 95 64)
  let s := s.setReg64 R.PFC_LAST_DATA_LO (fld fwd 63 0)
  let s := forN 3 (fun i t => t.setRegN (R.PFC_LAST_DIFF + 4 * i) (fld e.diff (32 * i + 31) (32 * i))) s
  let s := s.setRegN (R.PFC_LAST_DIFF + 12) (fld e.diff 111 96)
  pushLog R.PFC_MISM_TICK 10 4 [s.now % 2 ^ 32, lastInfo e, fld fwd 95 64, bitCount e.diff] s

/-- Ticks of a lane's events in the current hour window (R105). -/
def windowTicks (l : Nat) (s : State) : List Nat :=
  (List.range (s.regF (laneA l R.LANE_ATTR_WIN) 1 0)).map fun i => s.reg64 (laneA l R.LANE_ATTR_TICK_LO + 8 * i)

/-- The hour window in ticks (R105). -/
abbrev hourTicks : Nat := 3600000000

/-- The Stride engine and the supervisor of a lane halt (R96, R105). -/
def haltLane (l : Nat) (s : State) : State :=
  (s.setRegN (laneA l R.LANE_ENGINE_STAT) 0).setRegN (laneA l R.LANE_SUP_STAT) 0

/-- A lane is retired (R105). -/
def retire (l kind : Nat) (s : State) : State :=
  let s := s.setF (laneA l R.LANE_STATE) 2 0 4
  let s := s.setReg64 (laneA l R.LANE_RETIRE_TICK_LO) s.now
  let s := s.setRegN (laneA l R.LANE_RETIRE_CAUSE) kind
  let s := haltLane l (s.setPgState (P.LANE + l) stLocked)
  let s := s.setF (laneA l R.LANE_RESYNC_STAT) 2 0 0
  let s := if s.voting.clone.lane = some l then
      updVoting (fun v => { v with clone := cloneIdle }) s else s
  let s := irqSet P.HEALTH 8 (irqSet (P.LANE + l) 10 s)
  recordErr (P.LANE + l) 0x41 srcHardware l s

/-- From the start of a tick the exchange counts the copies of the lanes in service (R96, R103, R118). -/
def countedLanes (s : State) : State :=
  let s := updVoting (fun v => { v with counted := s.lanesIn }) s
  let s := s.setF R.XCHG_STAT 2 0 (s.lanesIn.foldl (fun a l => a + 2 ^ l) 0)
  let two := s.lanesIn.length == 2
  let s := s.setB R.XCHG_STAT 3 two
  if s.pgState P.XCHG = stFault ∨ s.pgState P.XCHG = stOff then s
  else s.setPgState P.XCHG (if two then 6 else stActive)

/-- A lane is fenced in the clock of the vote (R96). -/
def fenceLane (l kind : Nat) (s : State) : State :=
  let s := (s.setF (laneA l R.LANE_STATE) 2 0 1).setF (laneA l R.LANE_STATE) 7 4 kind
  let s := s.setReg64 (laneA l R.LANE_RESYNC_START_LO) s.now
  let s := s.setPgState (P.LANE + l) 6
  let s := haltLane l (s.setF (laneA l R.LANE_RESYNC_STAT) 2 0 0)
  let s := updVoting (fun v => { v with clone := cloneIdle }) s
  irqSet (P.LANE + l) 8 s

/-- An attributed event is counted, logged and recorded against its lane; a third one within an hour retires it
(R98, R105). An event with no attributed lane (VOTER, and DUAL without a BAD copy) sets MISMATCH, enters the LAST_
registers and MISM_LOG and is recorded with DETAIL 3 too (DESIGN CHOICE, log entry 184). -/
def attributed (e : LaneEvent) (fwd : BitVec 112) (s : State) : State :=
  match e.lane with
  | none => irqSet P.PFC 8 (recordErr P.PFC (kindCode e.kind) srcHardware 3 (loadLast e fwd s))
  | some l =>
    let s := loadLast e fwd (tally (2 + l) (s.bump (R.PFC_MISM_CNT_A + 4 * l)))
    let s := recordErr P.PFC (kindCode e.kind) srcHardware l (irqSet P.PFC 8 s)
    let s := (s.bump (laneA l R.LANE_ATTR_CNT)).setF (laneA l R.LANE_STATE) 7 4 e.kind
    let s := pushLog (laneA l R.LANE_CAUSE_TICK) 10 2 [s.now % 2 ^ 32, lastInfo e] s
    let s := if e.kind = kBeat then s.bump (laneA l R.LANE_BEAT_MISS_CNT)
             else if e.kind = kSecded then
               recordErr (P.LANE + l) 0x40 srcHardware l (s.bump (laneA l R.LANE_SECDED_DBL_CNT))
             else if e.kind = kRx then s.bump (laneA l R.LANE_RX_FAULT_CNT) else s
    let ts := (windowTicks l s).filter (fun t => s.now ≤ t + hourTicks) ++ [s.now]
    let s := s.setF (laneA l R.LANE_ATTR_WIN) 1 0 (min ts.length 3)
    let s := (ts.zipIdx).foldl (fun t x => t.setReg64 (laneA l R.LANE_ATTR_TICK_LO + 8 * x.2) x.1) s
    if 3 ≤ ts.length ∧ !(s.regF (laneA l R.LANE_STATE) 2 0 == 4) then retire l e.kind s else s

/-- A fence, unless the event retired the lane already (R96, R99). -/
def fenceOrRetired (l kind : Nat) (s : State) : State :=
  if s.regF (laneA l R.LANE_STATE) 2 0 = 4 then s else fenceLane l kind s

/-! ### The vote (R94, R95) -/

/-- What a vote decides: the bundle forwarded, the events, the lane fenced, and the reason bit of HALTED. -/
structure VoteResult where
  forward : Option (BitVec 112)
  v1 : BitVec 112
  events : List LaneEvent
  fence : Option (Nat × Nat)
  halt : Option Nat
  deriving DecidableEq, Repr

/-- Bitwise 2-of-3. -/
def majority (a b c : BitVec n) : BitVec n := (a &&& b) ||| (a &&& c) ||| (b &&& c)

/-- The kind of an odd copy: BEAT in a beat vote, LANE otherwise (R90, R95). -/
def oddKind (fwd odd : BitVec 112) : Nat := if bitOf fwd 110 || bitOf odd 110 then kBeat else kLane

/-- An event of a BAD copy. Its kind is that of the row of R95 that decides the vote: DLY_PARITY with three lanes and one
odd copy, MULTI and DUAL otherwise (DEDUCED, log entry 184). A stage is shown for DLY_PARITY only (R116). -/
def badEvent (kind : Nat) (v1 : BitVec 112) (l : Nat) (c : LaneCopy) : LaneEvent :=
  ⟨some l, kind, if kind = kParity then c.bad.getD 0 else 0, c.bundle ^^^ v1⟩

/-- The decision of R95 with three lanes in service: copies in lane order. -/
def voteThree (a b c : LaneCopy) : VoteResult :=
  let v1 := majority a.bundle b.bundle c.bundle
  let odd (fwd : BitVec 112) (l : Nat) (x : LaneCopy) : VoteResult :=
    let e : LaneEvent := if x.bad.isSome then badEvent kParity fwd l x
                         else ⟨some l, oddKind fwd x.bundle, 0, x.bundle ^^^ fwd⟩
    ⟨some fwd, fwd, [e], some (l, e.kind), none⟩
  let good (x : LaneCopy) : Bool := x.bad.isNone
  let ab := good a && good b && a.bundle == b.bundle
  let ac := good a && good c && a.bundle == c.bundle
  let bc := good b && good c && b.bundle == c.bundle
  if ab && ac then ⟨some a.bundle, v1, [], none, none⟩
  else if ab then odd a.bundle 2 c
  else if ac then odd a.bundle 1 b
  else if bc then odd b.bundle 0 a
  else
    let xs := [(0, a), (1, b), (2, c)]
    let goods := xs.filter fun x => good x.2
    let bads := (xs.filter fun x => !good x.2).map fun x => badEvent kMulti v1 x.1 x.2
    let others := if 2 ≤ goods.length then
      goods.map fun x => (⟨some x.1, kMulti, 0, x.2.bundle ^^^ v1⟩ : LaneEvent) else []
    ⟨none, v1, bads ++ others, none, some 9⟩

/-- The decision of R95 with two lanes in service. V1 of copies that differ is the copy of the lower lane (DESIGN CHOICE,
log entry 184). -/
def voteTwo (l m : Nat) (a b : LaneCopy) : VoteResult :=
  if a.bad.isNone && b.bad.isNone && a.bundle == b.bundle then ⟨some a.bundle, a.bundle, [], none, none⟩
  else
    let bads := ((if a.bad.isSome then [badEvent kDual b.bundle l a] else [])
      ++ if b.bad.isSome then [badEvent kDual a.bundle m b] else [])
    ⟨none, a.bundle, if bads.isEmpty then [⟨none, kDual, 0, a.bundle ^^^ b.bundle⟩] else bads, none, some 9⟩

/-- The decision of R95 over the lanes in service; `diff` is V1 XOR V2 and overrides every other row. -/
def voteOutcome (ls : List Nat) (a b c : LaneCopy) (diff : BitVec 112) : VoteResult :=
  let copy (l : Nat) : LaneCopy := if l = 0 then a else if l = 1 then b else c
  let r : VoteResult := match ls with
    | [_, _, _] => voteThree a b c
    | [l, m] => voteTwo l m (copy l) (copy m)
    | _ => ⟨none, 0, [], none, none⟩
  if diff = 0 ∨ ls.length < 2 then r
  else ⟨none, r.v1, [⟨none, kVoter, 0, diff⟩], none, some 8⟩

/-- What the voted side does with a forwarded bundle: a write, an atomic or a read request of the comms RAM; beats are
voted and not forwarded (R90, R91, R132). The addresses of the registers on the voted side are not stated: a supervisor
write to one is a REGISTER_WRITE of the supervisor, and what a voted read of one returns is a free value (R21, R89; log
entry 22). -/
def forward (b : BitVec 112) (s : State) : State :=
  let s := updVoting (fun v => { v with lastBundle := b }) s
  let addr := fld b 95 64
  let typ := fld b 106 104
  if !bitOf b 111 || bitOf b 110 then s
  else if 0x200000 ≤ addr then
    if typ = 3 then (updVoting (fun v => { v with lastReturn := Config.freeValue s.freeCtr }) s).fresh else s
  else if typ = 0 then commsEnabled (addr / 8) (BitVec.ofNat 8 (fld b 103 96)) (BitVec.ofNat 64 (fld b 63 0)) s
  else if typ = 1 ∨ typ = 2 then
    let r := commsAtomic 0 (typ == 2) (addr / 8) (BitVec.ofNat 64 (fld b 63 0)) s
    updVoting (fun v => { v with lastReturn := r.1 }) r.2
  else if typ = 3 then
    let w := if s.poisoned (addr / 8 * 8) 8 then 0 else s.commsRead64 (addr / 8)
    updVoting (fun v => { v with lastReturn := w }) (commsRead 0 (addr / 8 * 8) 8 s)
  else s

/-- Count the PFC's own counters of a vote (R115). -/
def voteCounts (bads : Nat) (r : VoteResult) (s : State) : State :=
  let s := s.bumpBy R.PFC_DLY_PAR_CNT bads
  match r.halt with
  | some 8 => (s.bump R.PFC_VOTER_DIS_CNT).setB R.PFC_CHK_STAT 8 true
  | some _ => s.bump R.PFC_DUAL_MISM_CNT
  | none => s

/-- Carry out what a vote decided (R95 to R98). -/
def applyVote (bads : Nat) (r : VoteResult) (s : State) : State :=
  let s := voteCounts bads r s
  let s := r.events.foldl (fun t e => attributed e (r.forward.getD r.v1) t) s
  let s := match r.fence with
    | some (l, k) =>
      let t := fenceOrRetired l k s
      if t.halted then t else t.setPgState P.PFC 6
    | none => s
  let s := match r.forward with | some b => forward b s | none => s
  match r.halt with | some reason => halt (some reason) s | none => s

/-- The beat of lane `l` in the running tick: the tick number and the lane's cycle count (R90, R91). -/
def State.beat (s : State) (l : Nat) : LaneCopy :=
  ⟨BitVec.ofNat 112 (2 ^ 111 + 2 ^ 110 + 4 * 2 ^ 104 + s.now % 2 ^ 32
    + 2 ^ 32 * s.regN (laneA l R.LANE_CYC_CNT_LO)), none⟩

/-- VOTE: the three copies of one lane cycle (R95). In HALTED every later bundle is discarded (R97). -/
def voteStep (a b c : LaneCopy) (diff : BitVec 112) (s : State) : State :=
  if s.halted then s else
  let ls := s.lanesIn
  let bads := (ls.filter fun l => (if l = 0 then a else if l = 1 then b else c).bad.isSome).length
  applyVote bads (voteOutcome ls a b c diff) s

/-- Every lane in service sends its beat in a tick (R90). -/
def beatTick (s : State) : State := voteStep (s.beat 0) (s.beat 1) (s.beat 2) 0 s

/-- An event of a lane in service fences it with three lanes, and halts with two (R95, R98). `diff` is the XOR of its
copy with the forwarded bundle `fwd`. -/
def laneEvent (l kind : Nat) (fwd diff : BitVec 112) (s : State) : State :=
  if !s.inService l then s else
  let three := s.lanesIn.length == 3
  let s := attributed ⟨some l, kind, 0, diff⟩ fwd s
  if three then
    let s := fenceOrRetired l kind s
    if s.halted then s else s.setPgState P.PFC 6
  else halt none s

/-- A SECDED or RX event (R98). It has no bundle of its own: LAST_ADDR and LAST_DATA show the last forwarded one, and
LAST_DIFF no difference (DESIGN CHOICE, log entry 184). -/
def laneFault (l kind : Nat) (s : State) : State := laneEvent l kind s.voting.lastBundle 0 s

/-! ### Reads of lane SRAM (R126, R127) -/

/-- A double error in a lane's SRAM: an attributed event of kind SECDED where the lane is in service (R127). -/
def doubleError (l a master syn : Nat) (s : State) : State :=
  let s := s.bump (memA l R.MEM_DBE_CNT)
  let s := loadLastErr l R.MEM_DBE_LAST_ADDR R.MEM_DBE_LAST_INFO a master syn s
  laneFault l kSecded (recordErr (P.MEM + l) 0x40 srcHardware 0 (irqSet (P.MEM + l) 9 s))

/-- What a read of one word of a memory does about its check code (R126 to R128). -/
def eccRead (m a master : Nat) (e : Ecc) (s : State) : State :=
  if m = 3 then commsWordRead master (a / 8) e s
  else match e with
    | .good => s
    | .single syn => singleError m a master syn.toNat s
    | .double syn => doubleError m a master syn.toNat s

/-- A master reads a range of a memory: each word's check code. MASTER is the rank less 1, or that of MEMX (R141). -/
def eccReads (m a n master : Nat) (s : State) : State :=
  (s.eccHits m a n).foldl (fun t e => eccRead m (8 * e.1) master e.2 t) s

/-- Every lane in service reads the same range. -/
def lanesRead (a n master : Nat) (s : State) : State := s.lanesIn.foldl (fun t l => eccReads l a n master t) s

/-- The word that a read meets disturbed. -/
def struck (m w : Nat) (e : Ecc) (s : State) : State := if e = .good then s else strikeWord m w e s

/-- The voted write of a lane's decision in which it is odd, and the forwarded one: free values (R113). -/
def decisionDiff (s : State) : BitVec 112 :=
  Config.decisionWrite s.freeCtr ^^^ Config.decisionWrite (s.freeCtr + 1)

/-- A lane whose decision of a tick is outvoted: kind LANE (R113). -/
def decisionFault (l : Nat) (s : State) : State :=
  laneEvent l kLane (Config.decisionWrite s.freeCtr) (decisionDiff s) s.fresh.fresh

/-! ### Resync (R99 to R103) -/

/-- C: lane cycles in a stride of `us` µs at the slowest legal clock (R39). -/
def cyclesC (us : Nat) : Nat := us * 400 * 999898 / 1000000

/-- F: the limit of the final phase in lane cycles (R101). -/
def finalF (us : Nat) : Nat := min (cyclesC us / 10) 80000

/-- L: the lines a final phase can copy (R101). -/
def finalL (us : Nat) : Nat := (finalF us - 8000) * 10 / 128

/-- The configured S (R72). -/
def State.cfgS (s : State) : Nat := s.regF R.STARTER_STRIDE_LEN 16 0

/-- Lines of a later pass not yet reached, and those marked since it began (R100). -/
def laterLines (c : Clone) : List Nat := c.marked.foldl (fun m l => insertLine l m) (c.todo.drop c.reached)

/-- Lines still to copy; during the first pass those not yet reached and those marked behind it (R100). -/
def dirtyCount (c : Clone) : Nat :=
  if c.firstPass then 131072 - c.reached + (c.marked.filter fun l => decide (l < c.reached)).length
  else (laterLines c).length

/-- Lines of the running pass. -/
def passLines (c : Clone) : Nat := if c.firstPass then 131072 else c.todo.length

/-- In a tick the clone DMA copies a number of lines that its rank at the banks leaves, up to 2 GB/s (R100): a free
value (log entry 185). -/
def cloneTick (s : State) : State :=
  let c := s.voting.clone
  match c.lane with
  | none => s
  | some l =>
    if c.armed || !(s.regF (laneA l R.LANE_RESYNC_STAT) 2 0 == 1) then s else
    let n := (Config.freeValue s.freeCtr).toNat % 32
    (updVoting (fun v => { v with clone := { c with reached := min (passLines c) (c.reached + n) } }) s).fresh

/-- The rebuild of a fenced lane starts: first pass over all 8 MiB (R100). -/
def startResync (l : Nat) (s : State) : State :=
  let s := (s.setF (laneA l R.LANE_STATE) 2 0 2).setPgState (P.LANE + l) 7
  let s := s.setRegN (laneA l R.LANE_RESYNC_STAT) (1 + 256)
  let s := s.setReg64 (laneA l R.LANE_CLONE_BYTES_LO) 0
  updVoting (fun v => { v with clone := { v.clone with lane := some l, todo := [], firstPass := true,
                                                       marked := [], armed := false, reached := 0 } }) s

/-- A fenced lane can be rebuilt: idle, its latest march passed, two lanes in service (R117, R139). -/
def canResync (l : Nat) (s : State) : Bool :=
  s.regF (laneA l R.LANE_STATE) 2 0 == 1 && s.voting.clone.lane.isNone && !s.mems.marchBad.contains l
    && s.lanesIn.length == 2

/-- RESYNC_AUTO_START (R99). -/
def resyncAuto (l : Nat) (s : State) : State :=
  if bitOf (s.cfgWord (laneA l R.LANE_CFG)) 0 && canResync l s && !s.halted then startResync l s else s

/-- The clone DMA reads all lines, or some, of both source lanes (R100, R127). -/
def cloneReads (all : Bool) (lines : List Nat) (s : State) : State :=
  if s.mems.upset.isEmpty then s
  else if all then lanesRead 0 8388608 6 s else lines.foldl (fun t ln => lanesRead (64 * ln) 64 6 t) s

/-- Copy all lines of the first source lane, or some, into the lane being rebuilt. -/
def cloneLines (l : Nat) (all : Bool) (lines : List Nat) (s : State) : State :=
  let src := s.lane (s.lanesIn.headD 0)
  if all then freshWords l 0 8388608 (updLane l (fun x => { x with sram := src.sram }) s)
  else lines.foldl (fun t ln => freshWords l (64 * ln) 64 t) (updLane l (fun x =>
    { x with sram := lines.foldl (fun m ln => Memory.copy m (64 * ln) src.sram (64 * ln) 64) x.sram }) s)

/-- The two source lanes hold the same in the lines of the pass (R100). -/
def sourcesAgree (c : Clone) (s : State) : Bool :=
  let line (m ln : Nat) : Nat := Memory.readLe (s.lane m).sram (64 * ln) 64
  match s.lanesIn with
  | [a, b] => if c.firstPass then (s.lane a).sram == (s.lane b).sram else c.todo.all fun ln => line a ln == line b ln
  | _ => true

/-- CLONE_PASS_END: the lines of the pass are copied and the next pass starts on those marked since; two source copies
that differ halt the PFC (R100). They differ where the lanes' memories do, or a copy is misread (`same`, log entry
185). -/
def clonePass (same : Bool) (s : State) : State :=
  let c := s.voting.clone
  match c.lane with
  | none => s
  | some l =>
    if c.armed || s.regF (laneA l R.LANE_STATE) 2 0 == 3 then s else
    let s := cloneReads c.firstPass c.todo s
    if s.halted then s
    else if !same || !sourcesAgree c s then
      let s := recordErr (P.LANE + l) 0x42 srcHardware l s
      halt (some 9) (attributed ⟨none, kDual, 0, 0⟩ s.voting.lastBundle (s.bump R.PFC_DUAL_MISM_CNT))
    else
      let bytes := if c.firstPass then 8388608 else 64 * c.todo.length
      let s := cloneLines l c.firstPass c.todo s
      let s := s.setReg64 (laneA l R.LANE_CLONE_BYTES_LO) (s.reg64 (laneA l R.LANE_CLONE_BYTES_LO) + bytes)
      let s := if c.marked.isEmpty then s.setF (laneA l R.LANE_RESYNC_STAT) 2 0 2
               else (s.setF (laneA l R.LANE_RESYNC_STAT) 2 0 1).bumpF (laneA l R.LANE_RESYNC_STAT) 15 8
      updVoting (fun v => { v with clone := { c with todo := c.marked, firstPass := false, marked := [],
                                                            reached := 0 } }) s

/-- RESYNC_RESERVE_CHECK: the final phase starts if the dirty count is at most L (R101). -/
def reserveCheck (s : State) : State :=
  let c := s.voting.clone
  match c.lane with
  | none => s
  | some l =>
    if c.armed || !(s.regF (laneA l R.LANE_STATE) 2 0 == 2) || decide (finalL s.cfgS < dirtyCount c) then s
    else
      let s := (s.setF (laneA l R.LANE_STATE) 2 0 3).setF (laneA l R.LANE_RESYNC_STAT) 2 0 3
      s.lanesIn.foldl (fun t m => t.setB (laneA m R.LANE_SUP_STAT) 1 true) s

/-- The rebuilt lane enters IN_VOTE and the PFC returns to ACTIVE (R103). -/
def rejoin (s : State) : State :=
  let c := s.voting.clone
  match c.lane with
  | none => s
  | some l =>
    if !c.armed then s else
    let s := (s.setF (laneA l R.LANE_STATE) 2 0 0).setPgState (P.LANE + l) stActive
    let s := (s.bump (laneA l R.LANE_RESYNC_CNT)).setRegN (laneA l R.LANE_RESYNC_LAST_STRIDES) c.strides
    let s := (s.setF (laneA l R.LANE_RESYNC_STAT) 2 0 0).setRegN (laneA l R.LANE_SUP_STAT) 1
    let s := updVoting (fun v => { v with clone := cloneIdle }) s
    let s := if s.halted then s else s.setPgState P.PFC (if s.lanesIn.length = 3 then stActive else 6)
    irqSet (P.LANE + l) 9 s

/-- FINAL_PHASE_END: dirty lines and lane-local state are copied and the lane is armed; with the starter disabled it
rejoins at once (R101, R103). FINAL_LAST_CYC counts whole cycles of 8,000 + 12.8 a line (DESIGN CHOICE, log entry 185). -/
def finalEnd (s : State) : State :=
  let c := s.voting.clone
  match c.lane with
  | none => s
  | some l =>
    if c.armed || !(s.regF (laneA l R.LANE_STATE) 2 0 == 3) then s else
    let s := cloneReads c.firstPass (laterLines c) s
    if s.halted then s else
    let lines := dirtyCount c
    let cyc := (80000 + 128 * lines) / 10
    let src := s.lanesIn.headD 0
    let s := cloneLines l c.firstPass (laterLines c) s
    let s := updLane l (fun x => { x with eng := (s.lane src).eng }) s
    let s := (s.setRegN (laneA l R.LANE_FINAL_LAST_CYC) cyc).maxReg (laneA l R.LANE_FINAL_MAX_CYC) cyc
    let s := s.setReg64 (laneA l R.LANE_CLONE_BYTES_LO)
      (s.reg64 (laneA l R.LANE_CLONE_BYTES_LO) + 64 * lines)
    let s := s.setReg64 (laneA l R.LANE_CYC_CNT_LO) (s.reg64 (laneA src R.LANE_CYC_CNT_LO))
    let s := s.lanesIn.foldl (fun t m => t.setB (laneA m R.LANE_SUP_STAT) 1 false) s
    let s := updVoting (fun v => { v with clone := { c with todo := [], firstPass := false, marked := [],
                                                            armed := true, reached := 0 } }) s
    if s.starter.running then s else rejoin s

/-! ### The injection test (R106 to R108) -/

/-- The test starts: SAFE_OFF on all groups, PFC in INIT (R107). -/
def startInj (s : State) : State :=
  let s := (s.setF R.PFC_INJ_STAT 1 0 3).setF R.PFC_INJ_STAT 15 4 0
  (pfcSafeOff (some 10) s).setPgState P.PFC stInit

/-- PG_STAT.STATE of the PFC without a test (R115). -/
def pfcIdleState (s : State) : Nat :=
  if s.lanesIn.length = 2 then 6 else if s.pgState P.BOOT = stActive then stActive else stReady

/-- The delay stage of a stage-parity case, in lane order: lane and stage (R92). -/
def injStage (j : Nat) : Nat × Nat := if j < 5 then (0, j) else if j < 8 then (1, j - 5) else (2, 0)

/-- The report R106 lists for case `i`: 112 bits in each of 3 lanes, 14 bytes at each of 9 stages, 112 bits at each
voter output, each group in the order of the table's words (log entry 24). -/
def injListed (i : Nat) : InjSeen :=
  if i < 336 then ⟨BitVec.ofNat 4 kLane, BitVec.ofNat 2 (i / 112), 0, BitVec.ofNat 7 (i % 112), false⟩
  else if i < 462 then
    let x := injStage ((i - 336) / 14)
    ⟨BitVec.ofNat 4 kParity, BitVec.ofNat 2 x.1, BitVec.ofNat 4 x.2, 0x7F, false⟩
  else ⟨BitVec.ofNat 4 kVoter, 3, 0, BitVec.ofNat 7 ((i - 462) % 112), true⟩

/-- A report passes its case: the exact report listed for it. For a stage-parity case that is the kind, the lane and the
stage, for a voter case the invalid code (R106, R107). -/
def injPasses (i : Nat) (x : InjSeen) : Bool :=
  let e := injListed i
  if i < 336 then x.kind == e.kind && x.lane == e.lane && x.bit == e.bit
  else if i < 462 then x.kind == e.kind && x.lane == e.lane && x.stage == e.stage
  else x.invalid

/-- The first failing case of a test (R107, R116). -/
def injFirstFail (rep : InjReport) : Option Nat :=
  (rep.odd.filter fun x => !injPasses x.1 x.2).foldl (fun m x => match m with
    | some k => some (min k x.1)
    | none => some x.1) none

/-- INJ_TEST_END: PASS restarts INJ_AGE_S, FAIL halts (R107). The invalid codes that the cases force are not `seen since
release` in CHK_STAT (DEDUCED, log entry 184). -/
def injEnd (rep : InjReport) (s : State) : State :=
  if !(s.regF R.PFC_INJ_STAT 1 0 == 3) then s else
  let fail := injFirstFail rep
  let pass := fail.isNone
  let s := (s.setF R.PFC_INJ_STAT 1 0 (if pass then 1 else 2)).setF R.PFC_INJ_STAT 15 4 686
  let s := s.setF R.PFC_INJ_STAT 27 16 (fail.getD 0xFFF)
  let s := s.setReg64 R.PFC_INJ_TICK_LO s.now
  let s := updVoting (fun v => { v with testOffUntil := s.now + 10 }) s
  let s := s.setPgState P.PFC (pfcIdleState s)
  let s := irqSet P.PFC 10 s
  let s := if pass then s.setRegN R.PFC_INJ_AGE_S 0
           else halt (some 10) (recordErr P.PFC 0x46 srcHardware 0 s)
  if s.busyWith P.PFC 0x10 then finish P.PFC cDone s else s

/-- The test's SAFE_OFF ends 10 µs after it (R107). -/
def injRelease (s : State) : State :=
  if s.regB R.PFC_SAFE_OFF_STAT 10 && !(s.regF R.PFC_INJ_STAT 1 0 == 3)
      && decide (s.voting.testOffUntil ≤ s.now) && !s.halted then
    let s := s.setRegN R.PFC_SAFE_OFF_STAT 0
    forN 4 (fun f t => updF1 f (fun x => { x with toggleSince := t.now }) (t.setB (fldA f R.FLD_SAFEOFF_STAT) 1 false)) s
  else s

/-! ### Commands (R116 to R118, R120) -/

/-- The five pages answer STATE_REJECT to every page command in HALTED (R120). -/
def pfcGate (rest : State → Option Nat) (s : State) : Option Nat := notHalted s (rest s)

/-- Gate of INJ_TEST (R120). -/
def injGate (s : State) : Option Nat :=
  need (s.standby || s.stopped) cState <| need (s.lanesIn.length == 3) cState <|
    need (s.standby || !s.anyReleased) cSafety none

/-- Gate of FENCE (R120). -/
def fenceGate (s : State) : Option Nat :=
  need (s.standby || s.stopped) cState (need (s.lanesIn.length == 3) cState none)

/-- FENCE: for test, with kind none (R117). -/
def fenceForTest (l : Nat) (s : State) : State :=
  let s := fenceLane l kNone s
  if s.halted then s else s.setPgState P.PFC 6

/-- PFC CLR_CNT (R116). -/
def pfcClear (s : State) : State :=
  s.clear ([R.PFC_MISM_CNT_A, R.PFC_MISM_CNT_B, R.PFC_MISM_CNT_C, R.PFC_VOTER_DIS_CNT, R.PFC_DUAL_MISM_CNT,
    R.PFC_DLY_PAR_CNT] ++ regRun R.PFC_MISM_TICK 40 4)

/-- LANE CLR_CNT (R117). -/
def laneClear (l : Nat) (s : State) : State :=
  s.clear ([laneA l R.LANE_RESYNC_CNT, laneA l R.LANE_FINAL_MAX_CYC, laneA l R.LANE_SECDED_DBL_CNT,
    laneA l R.LANE_BEAT_MISS_CNT, laneA l R.LANE_RX_FAULT_CNT] ++ regRun (laneA l R.LANE_CAUSE_TICK) 20 4)

/-- XCHG CLR_CNT: every counter on the page (R118). -/
def xchgClear (s : State) : State := s.clear (regRun R.XCHG_DIS_CNT 28 4)

def cmdInjTest (iss : Issuer) : State → State := command ⟨P.PFC, 0x10, iss⟩ (pfcGate injGate) startInj
def cmdPfcClr (iss : Issuer) : State → State := quick ⟨P.PFC, 0x11, iss⟩ (pfcGate noCheck) pfcClear
def cmdResync (l : Nat) (iss : Issuer) : State → State :=
  quick ⟨P.LANE + l, 0x10, iss⟩ (pfcGate fun s => need (canResync l s) cState none) (startResync l)
def cmdFence (l : Nat) (iss : Issuer) : State → State :=
  quick ⟨P.LANE + l, 0x11, iss⟩ (pfcGate fenceGate) (fenceForTest l)
def cmdLaneClr (l : Nat) (iss : Issuer) : State → State :=
  quick ⟨P.LANE + l, 0x12, iss⟩ (pfcGate noCheck) (laneClear l)
def cmdXchgClr (iss : Issuer) : State → State := quick ⟨P.XCHG, 0x10, iss⟩ (pfcGate noCheck) xchgClear
def cmdClrMargin (iss : Issuer) : State → State :=
  quick ⟨P.XCHG, 0x11, iss⟩ (pfcGate noCheck) fun s => s.setF R.XCHG_MARGIN_MIN_NS 15 0 0xFFFF

/-! ### Meanings -/

def execVote (a b c : LaneCopy) (diff : BitVec 112) (s : State) : Host.Outcome State Fault Refusal :=
  .next (voteStep a b c diff s)
def execResyncAutoStart (l : Fin 3) (s : State) : Host.Outcome State Fault Refusal := .next (resyncAuto l s)
def execClonePassEnd (same : Bool) (s : State) : Host.Outcome State Fault Refusal := .next (clonePass same s)
def execResyncReserveCheck (s : State) : Host.Outcome State Fault Refusal := .next (reserveCheck s)
def execFinalPhaseEnd (s : State) : Host.Outcome State Fault Refusal := .next (finalEnd s)
def execInjTest (iss : Issuer) (_arg : BitVec 16) (s : State) : Host.Outcome State Fault Refusal :=
  .next (cmdInjTest iss s)
def execInjTestEnd (rep : InjReport) (s : State) : Host.Outcome State Fault Refusal := .next (injEnd rep s)
/-- INJ_AGE_S above INJ_AGE_LIMIT sets INJ_AGE and nothing else (R108). -/
def execInjAgeExceeded (s : State) : Host.Outcome State Fault Refusal :=
  .next (if (s.cfgWord R.PFC_INJ_AGE_LIMIT).toNat < s.regN R.PFC_INJ_AGE_S then irqSet P.PFC 11 s else s)
def execPfcClrCnt (iss : Issuer) (_arg : BitVec 16) (s : State) : Host.Outcome State Fault Refusal :=
  .next (cmdPfcClr iss s)
def execResync (l : Fin 3) (iss : Issuer) (_arg : BitVec 16) (s : State) : Host.Outcome State Fault Refusal :=
  .next (cmdResync l iss s)
def execFence (l : Fin 3) (iss : Issuer) (_arg : BitVec 16) (s : State) : Host.Outcome State Fault Refusal :=
  .next (cmdFence l iss s)
def execLaneClrCnt (l : Fin 3) (iss : Issuer) (_arg : BitVec 16) (s : State) : Host.Outcome State Fault Refusal :=
  .next (cmdLaneClr l iss s)
def execXchgClrCnt (iss : Issuer) (_arg : BitVec 16) (s : State) : Host.Outcome State Fault Refusal :=
  .next (cmdXchgClr iss s)
def execClrMargin (iss : Issuer) (_arg : BitVec 16) (s : State) : Host.Outcome State Fault Refusal :=
  .next (cmdClrMargin iss s)

end Sys2Proof.Machine
end

