-- ==== Sys2Proof/Machine/LaneMem.lean ====
section
/-!
DEFINITION. Writes of the Stride engines to their lanes' SRAM: copy on write (R136), the baton dirty map (R135), the clone
dirty map (R137), and an atomic of a lane on its own SRAM (R132).
-/
namespace Sys2Proof.Machine

/-- The 64 bytes of a retained line, from the first lane in service. -/
def State.lineBytes (s : State) (r : Nat) : List Byte :=
  Memory.readN (s.lane (s.lanesIn.headD 0)).sram (s.retainedAddr r) 64

/-- Lane address of copy `k` in the copy-on-write store (R123). -/
def cowAddr (k : Nat) : Nat := 0x700000 + 64 * k

/-- The first engine write to a line of the closed set that is not yet streamed copies it, in every lane in service, to the
copy-on-write store (R136). -/
def copyOnWrite (r : Nat) (s : State) : State :=
  if s.mems.closed.contains r && !s.mems.cow.contains r
      && (decide (32768 ≤ r) || s.baton.closedInst == s.exec.instArea) then
    let a := s.retainedAddr r
    let k := cowAddr s.mems.cow.length
    let s := lanesRead a 64 0 s
    let s := s.lanesIn.foldl (fun t l => laneBytes l k (Memory.readN (t.lane l).sram a 64) t) s
    updMems (fun m => { m with cow := m.cow ++ [r], cowNow := m.cowNow + 1 }) (markClone k 64 s)
  else s

/-- Engine and supervisor writes mark the baton dirty map (R135) after the copy on write. -/
def markBaton (a n : Nat) (s : State) : State :=
  (linesOf a n).foldl (fun t line =>
    match t.retained line with
    | none => t
    | some r => updMems (fun m => { m with batonDirty := insertLine r m.batonDirty }) (copyOnWrite r t)) s

/-- A write of one lane's engine to its own SRAM, unvoted (R21). -/
def engineWriteLane (l a : Nat) (bs : List Byte) (s : State) : State := laneBytes l a bs s

/-- Marks of an engine write, once for the lanes that do it in lockstep. -/
def engineMarks (a n : Nat) (s : State) : State := markClone a n (markBaton a n s)

/-- An atomic of a lane's engine or supervisor on one word of its own SRAM: the old value. On a double error it is not
performed (R132). No ZVC instruction issues one; the supervisor's firmware may (log entry 27). -/
def laneAtomic (l master : Nat) (swap : Bool) (w : Nat) (opnd : DWord) (s : State) : DWord × State :=
  let old : DWord := BitVec.ofNat 64 (Memory.readLe (s.lane l).sram (8 * w) 8)
  let bad := isDouble (s.eccAt l w)
  let s := eccReads l (8 * w) 8 master s
  if bad then (0, s)
  else (old, laneBytes l (8 * w) (leBytes 8 (atomValue swap old opnd).toNat)
    (engineMarks (8 * w) 8 (s.bump (memA l R.MEM_ATOM_CNT))))

end Sys2Proof.Machine
end

