-- ==== Sys2Proof/Machine/Operands.lean ====
section
/-!
DEFINITION. Operand forms of ZVC instructions: what one lane's engine sees, the address spaces (R185), loads and stores
of a type (R184, R195, R196), instance data and the time of time-based built-ins (R201).
-/
namespace Sys2Proof.Machine

/-- What one lane's engine sees: its machine state, its SRAM, the program and where its areas lie. -/
structure ZCtx where
  e : Engine
  mem : List Host.Cell
  prog : Program
  /-- Base of the active instance area, and of the constants pool. -/
  inst : Nat
  kBase : Nat
  deriving DecidableEq, Repr

/-- What an instruction does in one lane. -/
structure ZRes where
  e : Engine
  /-- Bytes written to the lane's own SRAM. -/
  writes : List (Nat × List Byte)
  /-- Output slots written: they leave as voted writes (R151). -/
  outs : List Nat
  /-- A transmit unit: block, bytes and the writing instance (R207). -/
  tx : Option (Nat × List Byte × Nat)
  trap : Option Nat
  /-- The task ends (R199). -/
  ended : Bool
  /-- Ranges of the lane's SRAM that it reads: address and length (R126). -/
  reads : List (Nat × Nat)
  deriving DecidableEq, Repr

/-- A call level of no code. -/
def levelZero : Level := ⟨0, 0, 0, 0, 0, 0, 0, 0, false, []⟩

/-- The current call level. -/
def ZCtx.lvl (c : ZCtx) : Level := c.e.stack.headD levelZero

/-- A working register. -/
def ZCtx.w (c : ZCtx) (r : ZReg) : DWord := getAt 0 c.e.w r

/-- A register used as a BOOL (R184). -/
def ZCtx.wBit (c : ZCtx) (r : ZReg) : Bool := bitOf (c.w r) 0

/-- Write a working register. -/
def Engine.setW (e : Engine) (r : Nat) (v : DWord) : Engine := { e with w := setAt e.w r v }

/-- The five flags. -/
def Engine.setAlu (e : Engine) (x : Alu) : Engine := { e with z := x.z, n := x.n, v := x.v, c := x.c }
def Engine.setQ (e : Engine) (b : Bool) : Engine := { e with q := e.q || b }
def Engine.setV (e : Engine) (b : Bool) : Engine := { e with v := e.v || b }

/-- An engine state as the whole effect. -/
def ZRes.ofEng (e : Engine) : ZRes := ⟨e, [], [], none, none, false, []⟩

/-- A trap: no part of the operation is performed (R209). -/
def ZRes.ofTrap (c : ZCtx) (code : Nat) : ZRes := ⟨c.e, [], [], none, some code, false, []⟩

/-- The effect with the ranges it reads. -/
def ZRes.reading (r : ZRes) (rs : List (Nat × Nat)) : ZRes := { r with reads := rs }

abbrev trapBound : Nat := 0x01
abbrev trapGWrite : Nat := 0x02
abbrev trapType : Nat := 0x03

/-! ### Types an operation takes (R189) -/


/-- INT16, INT32, INT64. -/
def isIntTy : ZTy → Bool
  | .int16 | .int32 | .int64 => true
  | _ => false
/-- Types of ADD and SUB. -/
def tyAdd (t : ZTy) : Bool := !(t == .bool)
/-- Types of MUL, DIV, NEG, ABS, MIN and MAX. -/
def tyMul (t : ZTy) : Bool := !(t == .bool) && !(t == .tod)
/-- Types of MOD. -/
def tyMod (t : ZTy) : Bool := isIntTy t || t == .time
/-- Types of logic. -/
def tyLogic (t : ZTy) : Bool := isIntTy t || t == .bool
/-- Types that S = 1 goes with: integer, TIME and TOD. -/
def tySat (t : ZTy) : Bool := isIntTy t || t == .time || t == .tod
/-- REAL64 needs a version 2 image (R184, R208). -/
def ZCtx.tyOk (c : ZCtx) (t : ZTy) : Bool := !(t == .real64) || c.prog.version == 2
/-- Message operations need a version 2 image (R208). -/
def ZCtx.msgOk (c : ZCtx) : Bool := c.prog.version == 2

/-! ### Address spaces (R185) -/

abbrev gBase : Nat := 0x600000
abbrev mBase : Nat := 0x630000
abbrev lArea : Nat := 0x780000
/-- Quality words of the input slots, at this lane address (R149). -/
abbrev qBase : Nat := 0x606000

/-- Lane address of offset 0 of a space. -/
def ZCtx.spaceBase (c : ZCtx) : ZSpace → Nat
  | .i => c.inst + c.lvl.iBase
  | .g => gBase
  | .k => c.kBase
  | .l => lArea + c.lvl.lBase
  | .m => mBase

/-- Size of a space in bytes. -/
def ZCtx.spaceSize (c : ZCtx) : ZSpace → Nat
  | .i => c.lvl.iSize
  | .g => 0x10000
  | .k => c.prog.kSize
  | .l => c.lvl.lSize
  | .m => 0x50000

/-- A static operand of `n` elements of a type lies in its space and is aligned (R195). -/
def ZCtx.inSpace (c : ZCtx) (sp : ZSpace) (t : ZTy) (off n : Nat) : Bool :=
  decide (off + n * t.size ≤ c.spaceSize sp) && off % t.size == 0 && c.tyOk t

/-- The register value of a type's bytes (R184). -/
def loadValue (t : ZTy) (bs : List Byte) : DWord :=
  let v := leNat bs
  match t with
  | .bool => BitVec.ofNat 64 (b2n (!(v == 0)))
  | .int16 => intWord (toSigned 16 v)
  | .int32 => intWord (toSigned 32 v)
  | _ => BitVec.ofNat 64 v

/-- The bytes a store of a type writes (R184). -/
def storeBytes (t : ZTy) (w : DWord) : List Byte :=
  match t with
  | .bool => [BitVec.ofNat 8 (b2n (bitOf w 0))]
  | t => leBytes t.size w.toNat

/-- Load: the value and whether the access sets Q (R196). -/
def ZCtx.load (c : ZCtx) (sp : ZSpace) (t : ZTy) (off : Nat) : DWord × Bool :=
  let v := loadValue t (Memory.readN c.mem (c.spaceBase sp + off) t.size)
  let bad := sp == .g && decide (off < 0x6000) && !bitOf (Memory.read c.mem (qBase + 2 * (off / 8))) 0
  (v, bad)

/-- The offset of a G store may be written by the program (R196). -/
def gWritable (off : Nat) : Bool := decide (0x8000 ≤ off) && decide (off < 0xE000)

/-- Store: the bytes written, or the trap G_WRITE (R196). -/
def ZCtx.store (c : ZCtx) (e' : Engine) (sp : ZSpace) (t : ZTy) (off : Nat) (w : DWord) : ZRes :=
  if sp == .g && !gWritable off then ZRes.ofTrap c trapGWrite
  else
    ⟨e', [(c.spaceBase sp + off, storeBytes t w)], if sp == .g then [(off - 0x8000) / 8] else [], none, none,
      false, []⟩

/-! ### Data of built-in blocks (R200) -/

/-- Lane address of a built-in's data. -/
def ZCtx.data (c : ZCtx) (off : BitVec 21) : Nat := c.inst + c.lvl.iBase + off.toNat

/-- A little-endian field of `n` bytes of a built-in's data. -/
def ZCtx.dataN (c : ZCtx) (off : BitVec 21) (at_ n : Nat) : Nat := Memory.readLe c.mem (c.data off + at_) n

/-- One instance header overlaps the data of a built-in (R200): the current instance's, or a nested one's; in a task
body that of every instance. -/
def ZCtx.hitsHeader (c : ZCtx) (off n : Nat) : Bool :=
  let a := c.lvl.iBase + off
  c.prog.insts.any fun x => decide (x.off < a + n) && decide (a < x.off + 8)

/-- A built-in's data lies in the I space, aligned, and overlaps no instance header (R186, R200). -/
def ZCtx.blockOk (c : ZCtx) (off : BitVec 21) (n : Nat) : Bool :=
  off.toNat % 8 == 0 && decide (off.toNat + n ≤ c.lvl.iSize) && !c.hitsHeader off.toNat n

/-- NOW of the time-based built-ins (R201). -/
def ZCtx.nowNs (c : ZCtx) : Nat :=
  if c.lvl.tb then
    (Memory.readLe c.mem (gBase + 0x7808) 8 * 1000000000 + Memory.readLe c.mem (gBase + 0x7810) 4) % 2 ^ 64
  else Memory.readLe c.mem (gBase + 0x7800) 8

/-- A time-based built-in of a TB = 1 instance sets Q while train time is not valid (R157, R201). -/
def ZCtx.timeQ (c : ZCtx) : Bool := c.lvl.tb && !bitOf (Memory.read c.mem (gBase + 0x7814)) 0

/-- NOW − START, or 0 when that is negative (R201). -/
def ZCtx.since (c : ZCtx) (start : Nat) : Nat := (toSigned 64 (c.nowNs + (2 ^ 64 - start % 2 ^ 64))).toNat

end Sys2Proof.Machine
end

