-- ==== Sys2Proof/Machine/Zvc.lean ====
section
/-!
DEFINITION. How the Stride engines carry out one ZVC instruction in lockstep (R183, R188): program counter, loops
(R198), voted writes (R151), the end of a task (R155, R199), traps (R170, R209) and breakpoints (R166).
-/
namespace Sys2Proof.Machine

/-- The Stride engines stand at an instruction of a task. -/
def State.engineRuns (s : State) : Bool :=
  s.exec.running && !s.exec.halted && !s.halted && !s.lanesIn.isEmpty && (s.mode == modeRun || s.mode == modeStep)

/-- The lane whose engine decides what the lanes do together: the first in service. -/
def State.lead (s : State) : Nat := s.lanesIn.headD 0

/-- The constants pool follows the code at the next multiple of 8 (R182). -/
def State.kBase (s : State) (p : Program) : Nat := s.codeBase + (p.code.length + 7) / 8 * 8

/-- What lane `l`'s engine sees. -/
def State.zctx (s : State) (p : Program) (l : Nat) : ZCtx :=
  ⟨(s.lane l).eng, (s.lane l).sram, p, s.instBase, s.kBase p⟩

/-! ### Breakpoints (R165, R166) -/

/-- HOLD may be entered (R165); a page in FAULT works on EXEC_CFG's reset value (R179). -/
def State.holdEn (s : State) : Bool := s.regB R.EXEC_CFG 1 && !(s.pgState P.EXEC == stFault)
def State.holdAllowed (s : State) : Bool := s.holdEn && !s.anyReleased

/-- The lowest enabled breakpoint at a code address. -/
def State.bpAt (s : State) (pc : Nat) : Option Nat :=
  (List.range 8).find? fun i => s.exec.bps.any fun b => b.1 == i && b.2 == pc

/-- The engines arrive at an instruction: a breakpoint there halts the stride, or is passed (R166). -/
def arrive (s : State) : State :=
  match s.bpAt (s.lane s.lead).eng.pc with
  | none => s
  | some i =>
    if s.holdAllowed then
      let cyc := (s.lane s.lead).eng.cycles
      let s := updExec (fun e => { e with halted := true, remainder := e.due, due := [], running := false,
                                          executed := false, cyc := e.cyc + (cyc - e.cycBase), cycBase := cyc }) s
      let s := s.setReg R.DEBUG_DBG_STAT (setFld (setFld (setBit (setBit (s.reg R.DEBUG_DBG_STAT) 1 true) 12 true)
        4 2 i) 11 8 (s.exec.remainder.headD 0))
      let s := s.setRegN R.DEBUG_BP_HIT_ADDR (s.lane s.lead).eng.pc
      let s := s.setRegN R.DEBUG_HOLD_TICK (s.now % 2 ^ 32)
      irqSet P.DEBUG 8 (setMode modeHold s)
    else s.bump R.DEBUG_BP_SKIP_CNT

/-! ### Tasks (R155, R183) -/

def taskZero : TaskEntry := ⟨0, 0, 0, 0, 0⟩

/-- The engine at the start of a task (R183): a task body's I space is the whole instance area. -/
def taskEngine (p : Program) (k : Nat) : Engine :=
  let t := getAt taskZero p.tasks k
  { w := List.replicate 16 0, z := false, n := false, v := false, c := false, q := false, pc := t.entry,
    stack := [⟨0, t.entry, t.last, 0, 0, p.data.length, 0, t.lSize, false, []⟩], cycles := 0 }

/-- The first due task starts, or the engines idle until the boundary. -/
def startTask (s : State) : State :=
  match s.exec.due, s.exec.prog with
  | k :: _, some p =>
    let s := s.lanesIn.foldl (fun t l => updLane l (fun x => { x with eng := taskEngine p k }) t) s
    arrive (updExec (fun e => { e with running := true, cycBase := 0 }) s)
  | _, _ => updExec (fun e => { e with running := false }) s

/-- The running task has ended: its cycles and its run are counted, and the next due task starts (R173). -/
def taskEnd (s : State) : State :=
  match s.exec.due with
  | [] => updExec (fun e => { e with running := false }) s
  | k :: rest =>
    let cyc := (s.lane s.lead).eng.cycles
    let s := (s.setRegN (R.EXEC_TASK_LAST + 4 * k) cyc).maxReg (R.EXEC_TASK_MAX + 4 * k) cyc
    let s := s.bump (R.EXEC_TASK_RUNS + 4 * k)
    startTask (updExec (fun e => { e with due := rest, cyc := e.cyc + (cyc - e.cycBase) }) s)

/-- A trap ends the task and the tasks that have not run do not run; what follows comes at the boundary (R170). -/
def trapTask (code pc : Nat) (s : State) : State :=
  let cyc := (s.lane s.lead).eng.cycles
  updExec (fun e => { e with trap := some (e.due.headD 0, code, pc), due := [], running := false,
                             cyc := e.cyc + (cyc - e.cycBase), cycBase := 0 }) s

/-! ### Voted writes (R35, R91, R151) -/

/-- A voted write bundle of the Stride engine. -/
def writeBundle (addr : Nat) (be : Nat) (data : Nat) : BitVec 112 :=
  BitVec.ofNat 112 (data % 2 ^ 64 + addr % 2 ^ 32 * 2 ^ 64 + be % 256 * 2 ^ 96 + 2 ^ 111)

/-- The copies of a value the lanes present are voted: the value forwarded, if any. -/
def voteValue (addr : Nat) (val : Nat → Nat) (s : State) : Option Nat × State :=
  let copy (l : Nat) : LaneCopy := ⟨writeBundle addr 0xFF (val l), none⟩
  let r := voteOutcome s.lanesIn (copy 0) (copy 1) (copy 2) 0
  (r.forward.map fun b => fld b 63 0, applyVote 0 r s)

/-- An output slot leaves the lanes as a voted write into the pending output store (R151). -/
def voteSlot (slot : Nat) (s : State) : State :=
  let a := gBase + 0x8000 + 8 * slot
  match voteValue a (fun l => Memory.readLe (s.lane l).sram a 8) s with
  | (some v, s) => if s.halted then s else
      updExec (fun e => { e with outPend := mapPut e.outPend slot (BitVec.ofNat 64 v) }) s
  | (none, s) => s

/-- The 64-bit words of a transmit unit are voted one by one. -/
def voteUnit (mb : Nat) (unit : Nat → List Byte) : Nat → List Byte → State → List Byte × State
  | 0, acc, s => (acc, s)
  | n + 1, acc, s =>
    let i := acc.length
    let part (l : Nat) : List Byte := (unit l).drop i |>.take 8
    match voteValue (0x800000 + 4096 * mb + i) (fun l => leNat (part l)) s with
    | (some v, s) => voteUnit mb unit n (acc ++ leBytes 8 v) s
    | (none, s) => voteUnit mb unit n (acc ++ List.replicate 8 0) s

/-- A transmit unit leaves the lanes as a voted write into the pending output store (R207). -/
def voteTx (mb : Nat) (unit : Nat → List Byte) (len owner : Nat) (s : State) : State :=
  let (bs, s) := voteUnit mb unit ((len + 7) / 8) [] s
  if s.halted then s
  else updExec (fun e => { e with txPend := mapPut e.txPend mb (bs.take len, owner) }) s

/-! ### One instruction -/

/-- The end of a loop body: the innermost loop whose body ends at `pc` runs again, or is left (R198). -/
def loopEnd (pc : Nat) : List LoopEnt → Nat × List LoopEnt × Option (Nat × Nat)
  | [] => (pc, [], none)
  | x :: xs =>
    if x.last = pc then
      if x.idx + 1 < x.count then (x.first, { x with idx := x.idx + 1 } :: xs, some (x.reg, x.idx + 1))
      else loopEnd pc xs
    else (pc, x :: xs, none)

/-- Change the current call level. -/
def Engine.setLoops (e : Engine) (ls : List LoopEnt) : Engine :=
  match e.stack with
  | [] => e
  | x :: xs => { e with stack := { x with loops := ls } :: xs }

/-- The loops of the current call level. -/
def Engine.loops (e : Engine) : List LoopEnt := (e.stack.headD levelZero).loops

/-- Execution comes to `pc` in sequence: at the end of a loop body the next round begins. -/
def Engine.reach (e : Engine) (pc : Nat) : Engine :=
  let (pc', ls, idx) := loopEnd pc e.loops
  let e := { e.setLoops ls with pc := pc' }
  match idx with
  | some (r, i) => e.setW r (BitVec.ofNat 64 i)
  | none => e

/-- A taken branch leaves every loop that ends at or before its target (R198). -/
def Engine.jumpTo (e : Engine) (pc : Nat) : Engine :=
  { e.setLoops (e.loops.filter fun x => decide (pc < x.last)) with pc := pc }

/-- The next instruction after one of `n` words. -/
def ZCtx.next (c : ZCtx) (n : Nat) (e : Engine) : Engine := e.reach (c.e.pc + 4 * n)

/-- The engines' reads of an instruction: its words, and the data it reads (R126, R127). -/
def engineReads (p : Program) (words : Nat) (f : ZCtx → ZRes) (s : State) : State :=
  if s.mems.upset.isEmpty then s else
  s.lanesIn.foldl (fun t l =>
    let c := s.zctx p l
    ((s.codeBase + c.e.pc, 4 * words) :: (f c).reads).foldl (fun t r => eccReads l r.1 r.2 0 t) t) s

/-- The engines of all lanes in service carry out one instruction of `words` words and documented cost `cost`.
`ok` says that admission would accept the instruction where the engines stand; what it refuses is never executed. -/
def zRun (words cost : Nat) (ok : ZCtx → Bool) (f : ZCtx → ZRes) (s : State) : State :=
  match s.exec.prog with
  | none => s
  | some p =>
    let c0 := s.zctx p s.lead
    if !s.engineRuns || !ok c0 || decide (c0.lvl.last < c0.e.pc + 4 * words) then s else
    let s := engineReads p words f s
    if !s.engineRuns then s else
    let res (l : Nat) : ZRes := f (s.zctx p l)
    let r0 := res s.lead
    match r0.trap with
    | some code => trapTask code c0.e.pc s
    | none =>
      let t := r0.writes.foldl (fun t w => engineMarks w.1 w.2.length t) s
      let t := s.lanesIn.foldl (fun t l =>
        let r := res l
        let t := r.writes.foldl (fun t w => engineWriteLane l w.1 w.2 t) t
        updLane l (fun x => { x with eng := { r.e with cycles := r.e.cycles + cost } }) t) t
      let t := r0.outs.foldl (fun t o => voteSlot o t) t
      let t := match r0.tx with
        | some (mb, bs, owner) =>
          voteTx mb (fun l => match (res l).tx with | some (_, b, _) => b | none => []) bs.length owner t
        | none => t
      if !t.engineRuns then t else if r0.ended then taskEnd t else arrive t

/-- An instruction that only changes the engine and goes on to the next. -/
def zPlain (words cost : Nat) (ok : ZCtx → Bool) (f : ZCtx → Engine) : State → State :=
  zRun words cost ok fun c => ZRes.ofEng (c.next words (f c))

/-- No condition of admission. -/
def zAlways : ZCtx → Bool := fun _ => true

/-- An instruction with a result in D and flags Z, N, V, C. -/
def zAlu (cost : Nat) (ok : ZCtx → Bool) (d : ZReg) (f : ZCtx → Alu) : State → State :=
  zPlain 1 cost ok fun c => let x := f c; (c.e.setAlu x).setW d x.res

end Sys2Proof.Machine
end

