-- ==== Sys2Proof/Machine/ZArith.lean ====
section
/-!
DEFINITION. ZVC arithmetic, logic, shifts, comparison and conversion (R188 to R194).
-/
namespace Sys2Proof.Machine

/-- Cost as integer / REAL32 / REAL64 (R188). -/
def cost3 (t : ZTy) (i r32 r64 : Nat) : Nat := if t == .real32 then r32 else if t == .real64 then r64 else i

/-- Cost of MUL and DIV by width (R188). -/
def costW (t : ZTy) (narrow wide r32 r64 : Nat) : Nat :=
  cost3 t (if t == .int16 || t == .int32 then narrow else wide) r32 r64

/-- S = 1 goes with integer, TIME and TOD only (R189). -/
def satOk (t : ZTy) (sat : Bool) : Bool := !sat || tySat t

def zAdd (d a b : ZReg) (t : ZTy) (sat : Bool) : State → State :=
  zAlu (cost3 t 1 4 5) (fun c => tyAdd t && satOk t sat && c.tyOk t) d fun c => aluAdd t sat (c.w a) (c.w b)
def zSub (d a b : ZReg) (t : ZTy) (sat : Bool) : State → State :=
  zAlu (cost3 t 1 4 5) (fun c => tyAdd t && satOk t sat && c.tyOk t) d fun c => aluSub t sat (c.w a) (c.w b)
def zMul (d a b : ZReg) (t : ZTy) (sat : Bool) : State → State :=
  zAlu (costW t 2 4 4 6) (fun c => tyMul t && satOk t sat && c.tyOk t) d fun c => aluMul t sat (c.w a) (c.w b)
def zDiv (d a b : ZReg) (t : ZTy) (sat : Bool) : State → State :=
  zAlu (costW t 20 36 14 28) (fun c => tyMul t && satOk t sat && c.tyOk t) d fun c => aluDiv t sat (c.w a) (c.w b)
def zMod (d a b : ZReg) (t : ZTy) : State → State :=
  zAlu (costW t 20 36 20 20) (fun _ => tyMod t) d fun c => aluMod t (c.w a) (c.w b)
def zNeg (d a : ZReg) (t : ZTy) (sat : Bool) : State → State :=
  zAlu 1 (fun c => tyMul t && satOk t sat && c.tyOk t) d fun c => aluNeg t sat (c.w a)
def zAbs (d a : ZReg) (t : ZTy) (sat : Bool) : State → State :=
  zAlu 1 (fun c => tyMul t && satOk t sat && c.tyOk t) d fun c => aluAbs t sat (c.w a)
def zMin (d a b : ZReg) (t : ZTy) : State → State :=
  zAlu (cost3 t 1 2 2) (fun c => tyMul t && c.tyOk t) d fun c => aluMinMax false t (c.w a) (c.w b)
def zMax (d a b : ZReg) (t : ZTy) : State → State :=
  zAlu (cost3 t 1 2 2) (fun c => tyMul t && c.tyOk t) d fun c => aluMinMax true t (c.w a) (c.w b)
/-- ADDI changes no flag (R188). -/
def zAddi (d a : ZReg) (imm : BitVec 16) : State → State :=
  zPlain 1 1 zAlways fun c => c.e.setW d (c.w a + imm.signExtend 64)

/-! ### Logic and shifts (R193) -/

/-- A logic result in D, with Z and N; V and C unchanged. -/
def Engine.setLogic (e : Engine) (d : ZReg) (r : DWord) : Engine :=
  { e.setW d r with z := zeroFlag r, n := negFlag r }

/-- A shift result in D, with Z, N and C; V unchanged. -/
def Engine.setShift (e : Engine) (d : ZReg) (r : DWord × Bool) : Engine :=
  { e.setW d r.1 with z := zeroFlag r.1, n := negFlag r.1, c := r.2 }

/-- AND, OR, XOR over the width of T. -/
def zLogic (op : DWord → DWord → DWord) (d a b : ZReg) (t : ZTy) : State → State :=
  zPlain 1 1 (fun _ => tyLogic t) fun c => c.e.setLogic d (logicWord t (op (c.w a) (c.w b)))

/-- A shift or rotation by B[5:0]. -/
def zShift (op : ZTy → DWord → Nat → DWord × Bool) (d a b : ZReg) (t : ZTy) : State → State :=
  zPlain 1 1 (fun _ => isIntTy t) fun c => c.e.setShift d (op t (c.w a) (fld (c.w b) 5 0))

def zAnd (d a b : ZReg) (t : ZTy) : State → State := zLogic (· &&& ·) d a b t
def zOr (d a b : ZReg) (t : ZTy) : State → State := zLogic (· ||| ·) d a b t
def zXor (d a b : ZReg) (t : ZTy) : State → State := zLogic (· ^^^ ·) d a b t
/-- NOT; on BOOL it is 1 − A (R188, R193). -/
def zNot (d a : ZReg) (t : ZTy) : State → State :=
  zPlain 1 1 (fun _ => tyLogic t) fun c => c.e.setLogic d (logicWord t (~~~(c.w a)))
def zShl (d a b : ZReg) (t : ZTy) : State → State := zShift shiftLeft d a b t
def zShr (d a b : ZReg) (t : ZTy) : State → State := zShift shiftRight d a b t
def zSar (d a b : ZReg) (t : ZTy) : State → State := zShift shiftArith d a b t
def zRol (d a b : ZReg) (t : ZTy) : State → State := zShift rotateLeft d a b t
def zRor (d a b : ZReg) (t : ZTy) : State → State := zShift rotateRight d a b t

/-! ### Comparison and conversion (R187, R192, R194) -/

/-- CMP sets Z, N, V and C and writes no register. -/
def zCmp (a b : ZReg) (t : ZTy) : State → State :=
  zPlain 1 (cost3 t 1 2 2) (fun c => c.tyOk t) fun c => c.e.setAlu (aluCmp t (c.w a) (c.w b))

/-- A condition over the engine's flags. -/
def Engine.cond (e : Engine) (k : ZCond) : Bool := condHolds k.val e.z e.n e.v e.c e.q

def zSetc (d : ZReg) (k : ZCond) : State → State :=
  zPlain 1 1 zAlways fun c => c.e.setW d (BitVec.ofNat 64 (b2n (c.e.cond k)))

/-- CVT writes V only. -/
def zCvt (d a : ZReg) (t t2 : ZTy) (sat : Bool) : State → State :=
  zPlain 1 (if t.isReal || t2.isReal then 4 else 2)
    (fun c => c.tyOk t && c.tyOk t2 && (!sat || (tySat t && tySat t2))) fun c =>
      let r := convert t t2 sat (c.w a)
      { c.e.setW d r.1 with v := r.2 }

/-! ### Meanings -/

def execAdd (d a b : ZReg) (t : ZTy) (sat : Bool) (s : State) : Host.Outcome State Fault Refusal := .next (zAdd d a b t sat s)
def execSub (d a b : ZReg) (t : ZTy) (sat : Bool) (s : State) : Host.Outcome State Fault Refusal := .next (zSub d a b t sat s)
def execMul (d a b : ZReg) (t : ZTy) (sat : Bool) (s : State) : Host.Outcome State Fault Refusal := .next (zMul d a b t sat s)
def execDiv (d a b : ZReg) (t : ZTy) (sat : Bool) (s : State) : Host.Outcome State Fault Refusal := .next (zDiv d a b t sat s)
def execMod (d a b : ZReg) (t : ZTy) (s : State) : Host.Outcome State Fault Refusal := .next (zMod d a b t s)
def execNeg (d a : ZReg) (t : ZTy) (sat : Bool) (s : State) : Host.Outcome State Fault Refusal := .next (zNeg d a t sat s)
def execAbs (d a : ZReg) (t : ZTy) (sat : Bool) (s : State) : Host.Outcome State Fault Refusal := .next (zAbs d a t sat s)
def execMin (d a b : ZReg) (t : ZTy) (s : State) : Host.Outcome State Fault Refusal := .next (zMin d a b t s)
def execMax (d a b : ZReg) (t : ZTy) (s : State) : Host.Outcome State Fault Refusal := .next (zMax d a b t s)
def execAddi (d a : ZReg) (imm : BitVec 16) (s : State) : Host.Outcome State Fault Refusal := .next (zAddi d a imm s)
def execAnd (d a b : ZReg) (t : ZTy) (s : State) : Host.Outcome State Fault Refusal := .next (zAnd d a b t s)
def execOr (d a b : ZReg) (t : ZTy) (s : State) : Host.Outcome State Fault Refusal := .next (zOr d a b t s)
def execXor (d a b : ZReg) (t : ZTy) (s : State) : Host.Outcome State Fault Refusal := .next (zXor d a b t s)
def execNot (d a : ZReg) (t : ZTy) (s : State) : Host.Outcome State Fault Refusal := .next (zNot d a t s)
def execShl (d a b : ZReg) (t : ZTy) (s : State) : Host.Outcome State Fault Refusal := .next (zShl d a b t s)
def execShr (d a b : ZReg) (t : ZTy) (s : State) : Host.Outcome State Fault Refusal := .next (zShr d a b t s)
def execSar (d a b : ZReg) (t : ZTy) (s : State) : Host.Outcome State Fault Refusal := .next (zSar d a b t s)
def execRol (d a b : ZReg) (t : ZTy) (s : State) : Host.Outcome State Fault Refusal := .next (zRol d a b t s)
def execRor (d a b : ZReg) (t : ZTy) (s : State) : Host.Outcome State Fault Refusal := .next (zRor d a b t s)
def execCmp (a b : ZReg) (t : ZTy) (s : State) : Host.Outcome State Fault Refusal := .next (zCmp a b t s)
def execSetc (d : ZReg) (k : ZCond) (s : State) : Host.Outcome State Fault Refusal := .next (zSetc d k s)
def execCvt (d a : ZReg) (t t2 : ZTy) (sat : Bool) (s : State) : Host.Outcome State Fault Refusal :=
  .next (zCvt d a t t2 sat s)

end Sys2Proof.Machine
end

