-- ==== Sys2Proof/Machine/Analyse.lean ====
section
/-!
DEFINITION. The admission check of a program (R147, R158 to R160, R186 to R189, R208): the encodings of its code, its
control flow, and the worst case of every stride.
-/
namespace Sys2Proof.Machine

/-! ### Reasons (R174) -/

abbrev admCode : Nat := 0x01
abbrev admData : Nat := 0x02
abbrev admInst : Nat := 0x03
abbrev admTasks : Nat := 0x04
abbrev admVersion : Nat := 0x05
abbrev admOpcode : Nat := 0x06
abbrev admBack : Nat := 0x07
abbrev admTarget : Nat := 0x08
abbrev admLoop : Nat := 0x09
abbrev admDepth : Nat := 0x0A
abbrev admCycle : Nat := 0x0B
abbrev admBinding : Nat := 0x0C
abbrev admBudget : Nat := 0x0D

/-- The status code a reason answers with (R174). -/
def admStatus (r : Nat) : Nat :=
  if r = admCode ∨ r = admData then cLength else if r = admVersion then cVersion
  else if admOpcode ≤ r ∧ r ≤ admCycle then cIntegrity else cResource

/-! ### One instruction -/

/-- What the analysis needs of an instruction (R159). -/
inductive AKind where
  | plain | jump (t : Nat) | branch (t : Nat) | loop (count last : Nat) | call (typ : Nat) | ret
  deriving DecidableEq, Repr

structure AOp where
  pc : Nat
  words : Nat
  cost : Nat
  kind : AKind
  deriving DecidableEq, Repr

/-- A code range with the space sizes it runs under: a type, or `none` for a task body. -/
structure ARange where
  typ : Option Nat
  first : Nat
  last : Nat
  iSize : Nat
  lSize : Nat
  deriving DecidableEq, Repr

/-- The type of a code, field T. -/
def tyOfCode (t : Nat) : ZTy :=
  if t = 0 then .bool else if t = 1 then .int16 else if t = 2 then .int32 else if t = 3 then .int64
  else if t = 4 then .real32 else if t = 5 then .real64 else if t = 6 then .time else .tod

/-- The space of a code, field SPACE; 5 to 7 are reserved. -/
def spOfCode (c : Nat) : Option ZSpace :=
  if c = 0 then some .i else if c = 1 then some .g else if c = 2 then some .k else if c = 3 then some .l
  else if c = 4 then some .m else none

/-- Size of a space for the analysis (R185). -/
def aSize (p : Program) (r : ARange) : ZSpace → Nat
  | .i => r.iSize | .g => 0x10000 | .k => p.kSize | .l => r.lSize | .m => 0x50000

/-- REAL64 needs version 2. -/
def aTy (p : Program) (t : ZTy) : Bool := !(t == .real64) || p.version == 2

/-- A built-in's data lies in the I space and meets no instance header (R200). -/
def aBlock (p : Program) (r : ARange) (off n : Nat) : Bool :=
  off % 8 == 0 && decide (off + n ≤ r.iSize) &&
    match r.typ with
    | none => !p.insts.any fun x => decide (x.off < off + n) && decide (off < x.off + 8)
    | some t => decide (8 ≤ off) && !p.insts.any fun x => x.typ == t && p.insts.any fun y =>
        decide (x.off < y.off) && decide (y.off < x.off + r.iSize) && decide (y.off - x.off < off + n)
          && decide (off < y.off - x.off + 8)

/-- Types and S of an R-format operation, and its cost; `none` where the opcode is not of this form (R188, R189). -/
def aReg (op : Nat) (t : ZTy) : Option (Bool × Bool × Nat) :=
  if op = 0x20 ∨ op = 0x21 then some (tyAdd t, true, cost3 t 1 4 5)
  else if op = 0x22 then some (tyMul t, true, costW t 2 4 4 6)
  else if op = 0x23 then some (tyMul t, true, costW t 20 36 14 28)
  else if op = 0x24 then some (tyMod t, false, costW t 20 36 20 20)
  else if op = 0x25 ∨ op = 0x26 then some (tyMul t, true, 1)
  else if op = 0x27 ∨ op = 0x28 then some (tyMul t, false, cost3 t 1 2 2)
  else if 0x30 ≤ op ∧ op ≤ 0x33 then some (tyLogic t, false, 1)
  else if 0x34 ≤ op ∧ op ≤ 0x38 then some (isIntTy t, false, 1)
  else if op = 0x40 then some (true, false, cost3 t 1 2 2)
  else if op = 0x6D then some (tyAdd t, false, if t.isReal then 4 else 2)
  else none

/-- Data size, types and cost of a built-in with data (R202). -/
def aBuiltin (op : Nat) (t : ZTy) : Option (Nat × Bool × Nat) :=
  let t0 := t == .bool
  if 0x60 ≤ op ∧ op ≤ 0x62 then some (24, t0, 12)
  else if op = 0x63 ∨ op = 0x64 ∨ op = 0x68 ∨ op = 0x69 then some (8, t0, 4)
  else if op = 0x65 ∨ op = 0x66 then some (8, t0, 7)
  else if op = 0x67 then some (8, t0, 9)
  else if op = 0x6A then some (8, isIntTy t || t.isReal || t == .time, if t.isReal then 6 else 5)
  else if op = 0x6B then some (24, t.isReal, if t == .real32 then 20 else 26)
  else if op = 0x6C then some (24, t.isReal, if t == .real32 then 30 else 44)
  else none

/-- A plain instruction of `n` words and a cost, if its encoding is legal. -/
def aPlain (ok : Bool) (n cost : Nat) : Except Nat (Nat × Nat × AKind) :=
  if ok then .ok (n, cost, .plain) else .error admOpcode

/-- A branch of an encoded offset of `bits` bits, from the instruction at `pc`. -/
def aBranch (bits off pc : Nat) (f : Nat → AKind) : Except Nat (Nat × Nat × AKind) :=
  if toSigned bits off < 0 then .error admBack else .ok (1, 2, f (pc + 4 + 4 * off))

/-- A memory access (R195): LD, ST, LDX, STX. -/
def aMem (p : Program) (r : ARange) (op w0 w1 w2 : Nat) : Except Nat (Nat × Nat × AKind) :=
  let indexed := op == 0x12 || op == 0x13
  let store := op == 0x11 || op == 0x13
  let t := tyOfCode (bitsN w0 11 9)
  let off := bitsN w1 23 0
  let count := if indexed then bitsN w2 15 0 else 1
  match spOfCode (bitsN w0 15 13) with
  | none => .error admOpcode
  | some sp =>
    let ok := w0.testBit 12 == false && bitsN w0 8 0 == 0 && bitsN w1 31 24 == 0 && (indexed || bitsN w0 19 16 == 0)
      && (!indexed || bitsN w2 31 16 == 0) && decide (1 ≤ count) && aTy p t && off % t.size == 0
      && decide (off + count * t.size ≤ aSize p r sp) && !(store && (sp == .k || sp == .m))
    let cost := (if op == 0x10 then 1 else if op == 0x11 then 3 else if op == 0x12 then 4 else 5)
      + b2n (!store && sp == .g && decide (off < 0x6000))
    aPlain ok (if indexed then 3 else 2) cost

/-- A message operation (R186, R207). -/
def aMsg (p : Program) (r : ARange) (op w0 w1 w2 : Nat) : Except Nat (Nat × Nat × AKind) :=
  let mb := bitsN w0 11 0
  let kind := if op = 0x70 ∨ op = 0x71 then 2 else 3
  let bound := p.binds.any fun b => b.kind == kind && b.index == mb
  let enc : Bool :=
    if op = 0x70 ∨ op = 0x73 then bitsN w0 19 12 == 0 && (op == 0x73 || decide (bitsN w0 23 20 ≤ 14))
    else
      let sp := spOfCode (bitsN w0 15 13)
      let size := match sp with | some x => aSize p r x | none => 0
      bitsN w0 19 16 == 0 && !w0.testBit 12 && (sp == some .i || sp == some .l) && bitsN w1 31 24 == 0
        && bitsN w2 15 13 == 0 && decide (1 ≤ bitsN w2 12 0 ∧ bitsN w2 12 0 ≤ 4096)
        && decide (bitsN w1 23 0 + bitsN w2 12 0 ≤ size) && (op == 0x71 || bitsN w2 31 16 == 0)
  let n := (bitsN w2 12 0 + 7) / 8
  if p.version ≠ 2 ∨ enc = false then .error admOpcode
  else if !bound then .error admBinding
  else .ok (if op = 0x70 then (1, 3, .plain) else if op = 0x71 then (3, 4 + 2 * n, .plain)
            else if op = 0x72 then (3, 4 + n, .plain) else (1, 48, .plain))

/-- One instruction: its words, cost and kind, or the reason that refuses it (R186 to R189, R208). -/
def aDecode (p : Program) (r : ARange) (pc w0 w1 w2 : Nat) : Except Nat (Nat × Nat × AKind) :=
  let op := bitsN w0 31 24
  let t := tyOfCode (bitsN w0 11 9)
  let s := w0.testBit 8
  let low := bitsN w0 4 0 == 0
  let noT2 := bitsN w0 7 5 == 0
  let t0 := bitsN w0 11 9 == 0
  if op = 0x00 ∨ (0x04 ≤ op ∧ op ≤ 0x06) then aPlain (low && noT2 && !s) 1 1
  else if op = 0x54 then if low && noT2 && !s then .ok (1, 3, .ret) else .error admOpcode
  else if op = 0x01 then aPlain (low && noT2 && !s && t0) 1 1
  else if op = 0x41 then aPlain (low && noT2 && !s && t0 && decide (bitsN w0 19 16 < 15)) 1 1
  else if op = 0x02 ∨ op = 0x03 ∨ op = 0x29 then aPlain true 1 1
  else if 0x10 ≤ op ∧ op ≤ 0x13 then aMem p r op w0 w1 w2
  else if op = 0x48 then
    let t2 := tyOfCode (bitsN w0 7 5)
    aPlain (low && aTy p t && aTy p t2 && (!s || (tySat t && tySat t2))) 1 (if t.isReal || t2.isReal then 4 else 2)
  else if op = 0x50 then
    if bitsN w0 23 20 = 15 then .error admOpcode
    else aBranch 20 (bitsN w0 19 0) pc (if bitsN w0 23 20 = 14 then .jump else .branch)
  else if op = 0x51 then aBranch 24 (bitsN w0 23 0) pc .jump
  else if op = 0x52 then
    let body := bitsN w1 19 0
    if bitsN w0 19 16 = 0 ∧ bitsN w1 31 20 = 0 ∧ 1 ≤ body ∧ body ≤ 262143 then
      .ok (2, 3, .loop (bitsN w0 15 0) (pc + 8 + 4 * body))
    else .error admOpcode
  else if op = 0x53 then
    let off := bitsN w1 20 0
    if bitsN w0 23 16 ≠ 0 ∨ bitsN w1 31 21 ≠ 0 ∨ off % 8 ≠ 0 ∨ r.iSize < off + 8 then .error admOpcode
    else if p.types.length ≤ bitsN w0 15 0 then .error admTarget
    else .ok (2, 6, .call (bitsN w0 15 0))
  else if op = 0x55 then aPlain (bitsN w0 23 8 == 0 && decide (0x80 ≤ bitsN w0 7 0)) 1 1
  else if op = 0x6E then aPlain (low && noT2 && !s && t0) 1 1
  else if op = 0x6F then aPlain (low && noT2 && !s && t0 && decide (bitsN w0 19 16 + bitsN w0 15 12 ≤ 15)) 1 2
  else if 0x70 ≤ op ∧ op ≤ 0x73 then aMsg p r op w0 w1 w2
  else match aReg op t, aBuiltin op (tyOfCode (bitsN w0 23 21)) with
    | some (tyOk, satAllowed, cost), _ =>
      aPlain (low && noT2 && tyOk && aTy p t && (!s || (satAllowed && tySat t))) 1 cost
    | none, some (n, tyOk, cost) =>
      aPlain (tyOk && aTy p (tyOfCode (bitsN w0 23 21)) && aBlock p r (bitsN w0 20 0) n) 1 cost
    | none, none => .error admOpcode

/-! ### A code range -/

/-- A word of the code. -/
def aWord (p : Program) (pc : Nat) : Nat := imgN p.code pc 4

/-- The instructions of a range in order, or a reason with its address. `k` bounds them. -/
def aScan (p : Program) (r : ARange) : Nat → Nat → List AOp → Except (Nat × Nat) (List AOp)
  | 0, _, acc => .ok acc.reverse
  | k + 1, pc, acc =>
    if r.last ≤ pc then .ok acc.reverse
    else match aDecode p r pc (aWord p pc) (aWord p (pc + 4)) (aWord p (pc + 8)) with
      | .error e => .error (e, pc)
      | .ok (n, cost, kind) =>
        if r.last < pc + 4 * n then .error (admOpcode, pc)
        else aScan p r k (pc + 4 * n) (⟨pc, n, cost, kind⟩ :: acc)

/-- The loop bodies of a range: first and last address. -/
def aBodies (ops : List AOp) : List (Nat × Nat) :=
  ops.filterMap fun o => match o.kind with | .loop _ last => some (o.pc + 8, last) | _ => none

/-- An address lies in a body. -/
def inBody (pc : Nat) (b : Nat × Nat) : Bool := decide (b.1 ≤ pc) && decide (pc < b.2)

/-- A branch at `pc` may go to `t` (R198). -/
def aTargetOk (starts : List Nat) (bodies : List (Nat × Nat)) (pc t : Nat) : Bool :=
  let holders := bodies.filter (inBody pc)
  starts.contains t && (bodies.filter (inBody t)).all (fun b => holders.contains b)
    && (holders.all (inBody t) || holders.any fun b => b.2 == t)

/-- The first control-flow fault of an instruction (R198, R208). -/
def aFlow (r : ARange) (starts : List Nat) (bodies : List (Nat × Nat)) (o : AOp) : Option (Nat × Nat) :=
  match o.kind with
  | .jump t | .branch t => if aTargetOk starts bodies o.pc t then none else some (admTarget, o.pc)
  | .loop _ last =>
    let b := (o.pc + 8, last)
    if r.last < last ∨ !(starts.contains last || last == r.last) then some (admTarget, o.pc)
    else if bodies.any fun x => inBody b.1 x && decide (x.2 < last) then some (admTarget, o.pc)
    else if 8 < (bodies.filter (inBody b.1)).length then some (admLoop, o.pc)
    else none
  | _ => none

/-- The range ends with RET, and its control flow is legal. -/
def aRange (p : Program) (r : ARange) : Except (Nat × Nat) (List AOp) :=
  if r.first % 4 ≠ 0 ∨ r.last % 4 ≠ 0 ∨ r.last ≤ r.first ∨ p.code.length < r.last then .error (admTarget, r.first)
  else match aScan p r (r.last - r.first) r.first [] with
    | .error e => .error e
    | .ok ops =>
      let starts := ops.map (·.pc)
      let bodies := aBodies ops
      match ops.getLast? with
      | some ⟨pc, _, _, .ret⟩ =>
        match ops.findSome? (aFlow r starts bodies) with
        | some e => .error e
        | none => if pc + 4 = r.last then .ok ops else .error (admTarget, pc)
      | _ => .error (admTarget, r.first)

/-! ### Worst cases (R159, R160) -/

/-- Longest paths from every instruction to `stop`; what lies at or past it costs nothing more. -/
def aPaths (wcet : Nat → Nat) : Nat → Nat → List AOp → List (Nat × Nat)
  | 0, _, _ => []
  | k + 1, stop, ops => ops.foldr (fun o acc =>
      let at_ (t : Nat) : Nat := if stop ≤ t then 0 else (mapGet acc t).getD 0
      let next := at_ (o.pc + 4 * o.words)
      let p := match o.kind with
        | .plain => o.cost + next
        | .jump t => o.cost + at_ t
        | .branch t => o.cost + max next (at_ t)
        | .loop n last =>
          let first := o.pc + 8
          let body := aPaths wcet k last (ops.filter fun x => decide (first ≤ x.pc) && decide (x.pc < last))
          o.cost + n * ((mapGet body first).getD 0) + at_ last
        | .call t => o.cost + wcet t + next
        | .ret => o.cost
      (o.pc, p) :: acc) []

/-- The worst case of a range. -/
def aWcet (wcet : Nat → Nat) (r : ARange) (ops : List AOp) : Nat :=
  (mapGet (aPaths wcet 10 r.last ops) r.first).getD 0

/-- The types a range calls. -/
def aCalls (ops : List AOp) : List Nat := ops.filterMap fun o => match o.kind with | .call t => some t | _ => none

/-- One round: types all of whose callees are settled get their worst case and CALL depth. -/
def aRound (ranges : List (ARange × List AOp)) (known : List (Nat × (Nat × Nat))) : List (Nat × (Nat × Nat)) :=
  (ranges.zipIdx).foldl (fun acc x =>
    let calls := aCalls x.1.2
    if (mapGet known x.2).isSome || !(calls.all fun t => (mapGet known t).isSome) then acc
    else
      let w (t : Nat) : Nat := match mapGet known t with | some e => e.1 | none => 0
      let d := calls.foldl (fun d t => max d (match mapGet known t with | some e => e.2 | none => 0)) 0
      mapPut acc x.2 (aWcet w x.1.1 x.1.2, d + 1)) known

/-- Rounds until every type that has no call cycle is settled. -/
def aSettle (ranges : List (ARange × List AOp)) : Nat → List (Nat × (Nat × Nat)) → List (Nat × (Nat × Nat))
  | 0, known => known
  | k + 1, known =>
    let next := aRound ranges known
    if next.length = known.length then known else aSettle ranges k next

/-- The types of a list and all that they call, to the depth of the fuel. -/
def aReach (types : List (ARange × List AOp)) : Nat → List Nat → List Nat
  | 0, l => l
  | k + 1, l =>
    let new := (l.flatMap fun t => aCalls (getAt (⟨none, 0, 0, 0, 0⟩, []) types t).2).eraseDups.filter fun t => !l.contains t
    if new.isEmpty then l else aReach types k (l ++ new)

/-- The addresses of the CALLs of a range whose callee satisfies `q`. -/
def aCallsTo (q : Nat → Bool) (ops : List AOp) : List Nat :=
  ops.filterMap fun o => match o.kind with | .call t => if q t then some o.pc else none | _ => none

/-- The CALLs that lie on a call cycle (R159). -/
def aCycleCalls (types : List (ARange × List AOp)) : List Nat :=
  (types.zipIdx).flatMap fun x => aCallsTo (fun t => (aReach types types.length [t]).contains x.2) x.1.2

/-- The offending instruction among several CALLs (R208): which of them it is the spec leaves open. -/
def offendingCall (calls : List Nat) : Nat :=
  if calls.length ≤ 1 then getAt 0 calls 0 else getAt 0 calls (Config.offendingCall calls % calls.length)

/-! ### The whole check -/

/-- What an admission finds. -/
structure Admission where
  reason : Nat
  addr : Nat
  task : Nat
  wcets : List Nat
  worst : Nat
  worstIdx : Nat
  deriving DecidableEq, Repr

/-- A refusal. -/
def Admission.fail (reason addr task : Nat) : Admission := ⟨reason, addr, task, [], 0, 0⟩

/-- Sizes, instances and tasks (R208); none of them concerns the code. -/
def aTables (img : List Byte) (p : Program) : Option Nat :=
  let h := imageHeader img
  let instOk (i : Nat) (x : InstEntry) : Bool :=
    let size := match p.types[x.typ]? with | some t => t.size | none => 0
    instReserved img (h.instOff + 16 * i) && decide (x.typ < p.types.length) && x.off % 8 == 0
      && decide (x.off + size ≤ h.dataSize)
      && imgN p.data x.off 4 == x.typ + 2 ^ 16 * b2n x.tb && imgN p.data (x.off + 4) 4 == x.hash % 2 ^ 32
  let sizeOf (x : InstEntry) : Nat := match p.types[x.typ]? with | some t => t.size | none => 0
  let apart (x y : InstEntry) : Bool :=
    decide (x.off + sizeOf x ≤ y.off) || decide (y.off + sizeOf y ≤ x.off)
      || (decide (x.off + 8 ≤ y.off) && decide (y.off + sizeOf y ≤ x.off + sizeOf x))
      || (decide (y.off + 8 ≤ x.off) && decide (x.off + sizeOf x ≤ y.off + sizeOf y))
  let idx := p.insts.zipIdx
  let taskOk (i : Nat) (t : TaskEntry) : Bool :=
    taskReserved img (h.taskOff + 16 * i) && decide (t.plog ≤ 10) && decide (t.offset < 2 ^ t.plog)
      && t.lSize % 8 == 0 && decide (t.lSize ≤ 16384)
  if 1048576 < (h.codeSize + 7) / 8 * 8 + h.kSize then some admCode
  else if 2097152 < h.dataSize then some admData
  else if h.instCount = 0 ∨ 65536 < h.instCount ∨ !(idx.all fun x => instOk x.2 x.1)
    ∨ !(idx.all fun x => idx.all fun y => x.2 == y.2 || apart x.1 y.1) then some admInst
  else if h.taskCount = 0 ∨ 16 < h.taskCount ∨ !((p.tasks.zipIdx).all fun x => taskOk x.2 x.1) then some admTasks
  else none

/-- The code range of a type, and of a task body. -/
def typeRange (i : Nat) (t : TypeEntry) : ARange := ⟨some i, t.entry, t.last, t.size, t.lSize⟩
def taskRange (p : Program) (t : TaskEntry) : ARange := ⟨none, t.entry, t.last, p.data.length, t.lSize⟩

/-- A type entry's own fields (R181). -/
def typeOk (img : List Byte) (i : Nat) (t : TypeEntry) : Bool :=
  typeReserved img ((imageHeader img).typeOff + 16 * i) && t.size % 8 == 0 && decide (8 ≤ t.size ∧ t.size ≤ 2097152)
    && t.lSize % 8 == 0 && decide (t.lSize ≤ 16384)

/-- Binding rules that the image alone shows (R181, R208). -/
def bindsOk (img : List Byte) (p : Program) : Bool :=
  let h := imageHeader img
  let one (i : Nat) (b : Binding) : Bool :=
    bindReserved img (h.bindOff + 16 * i)
      && (if b.kind < 2 then decide (b.index < 3072) && b.mOff == 0 && b.size == 0
          else decide (b.index < 4096) && (if b.kind = 2 then b.mOff % 8 == 0 && decide (16 ≤ b.size)
            && decide (b.mOff + b.size ≤ p.msgSize) else b.mOff == 0))
  let idx := p.binds.zipIdx
  decide (h.bindCount ≤ 14336) && decide (p.msgSize ≤ 327680) && idx.all (fun x => one x.2 x.1)
    && idx.all fun x => idx.all fun y => x.2 == y.2 || (!(x.1.kind == y.1.kind && x.1.index == y.1.index)
      && !(x.1.kind == 1 && y.1.kind == 1 && x.1.page == y.1.page && x.1.chan == y.1.chan))

/-- The sum of the worst cases of the tasks due at stride index `j` (R160). -/
def strideSum (p : Program) (wcets : List Nat) (j : Nat) : Nat :=
  ((p.tasks.zip wcets).filter fun x => j % 2 ^ x.1.plog == x.1.offset).foldl (fun a x => a + x.2) 0

/-- The largest sum over the hyperperiod and the first index at which it occurs (R160). -/
def worstStride (p : Program) (wcets : List Nat) : Nat × Nat :=
  let period := 2 ^ (p.tasks.foldl (fun m t => max m t.plog) 0)
  (List.range period).foldl (fun b j => let x := strideSum p wcets j; if b.1 < x then (x, j) else b) (0, 0)

/-- Every range of a list, or the first fault. -/
def aRanges (p : Program) : List ARange → Except (Nat × Nat) (List (ARange × List AOp))
  | [] => .ok []
  | r :: rs => match aRange p r with
    | .error e => .error e
    | .ok ops => match aRanges p rs with
      | .error e => .error e
      | .ok l => .ok ((r, ops) :: l)

/-- The admission check of an image with a budget of lane cycles; `targetOk` says whether a binding's target is enabled
and obeys its page's rules (R174). -/
def runAdmission (img : List Byte) (targetOk : Program → Binding → Bool) (budget : Nat) : Admission :=
  let p := imageProgram img
  if !headerOk img then .fail admVersion 0 0
  else match aTables img p with
    | some r => .fail r 0 0
    | none =>
      if !((p.types.zipIdx).all fun x => typeOk img x.2 x.1) then .fail admOpcode 0 0
      else match aRanges p ((p.types.zipIdx).map fun x => typeRange x.2 x.1), aRanges p (p.tasks.map (taskRange p)) with
        | .error (r, a), _ => .fail r a 0
        | .ok _, .error (r, a) => .fail r a ((p.tasks.findIdx? fun t => decide (t.entry ≤ a ∧ a < t.last)).getD 0)
        | .ok types, .ok tasks =>
          let known := aSettle types (types.length + 1) []
          if known.length < types.length then .fail admCycle (offendingCall (aCycleCalls types)) 0
          else
            let w (t : Nat) : Nat := match mapGet known t with | some e => e.1 | none => 0
            let deep (t : Nat) : Bool := match mapGet known t with | some e => decide (16 < e.2) | none => false
            match tasks.findIdx? fun x => (aCalls x.2).any deep with
            | some k =>
              let ops := (getAt (⟨none, 0, 0, 0, 0⟩, []) tasks k).2
              let below := aReach types types.length ((aCalls ops).filter deep)
              .fail admDepth (offendingCall (aCallsTo deep ops
                ++ below.flatMap fun t => aCallsTo (fun _ => true) (getAt (⟨none, 0, 0, 0, 0⟩, []) types t).2)) k
            | none =>
              if !bindsOk img p || !(p.binds.all (targetOk p)) then .fail admBinding 0 0
              else
                let wcets := tasks.map fun x => aWcet w x.1 x.2
                let (worst, idx) := worstStride p wcets
                ⟨if budget < worst then admBudget else 0, 0, 0, wcets, worst, idx⟩

end Sys2Proof.Machine
end

