-- ==== Sys2Proof/Machine/RelayBase.lean ====
section
/-!
DEFINITION. The relay's routing table (R325), and how units and side-band events enter a port (R324, R332).
-/
namespace Sys2Proof.Machine

def updRelay (f : Relay → Relay) (s : State) : State := { s with relay := f s.relay }

abbrev portProg : Nat := 0
abbrev portGrd : Nat := 1
abbrev portCan : Nat := 3
abbrev portEth : Nat := 11
abbrev portHost : Nat := 13

/-- The relay takes units. -/
def State.relayActive (s : State) : Bool := s.pgState P.RELAY == stActive

/-- Word `w` of route entry `i`. -/
def State.routeW (s : State) (i w : Nat) : Nat := Memory.readLe s.relay.routes (16 * i + 4 * w) 4

/-- A route entry (R325). -/
structure Route where
  event : Bool
  srcId : Nat
  srcPort : Nat
  dstPort : Nat
  dstId : Nat
  fdf : Bool
  brs : Bool
  notify : Bool
  swap : Bool
  /-- Its XFORM is none of the reserved codes. -/
  known : Bool
  /-- Fields to swap: first byte, element width in bytes, count. -/
  fields : List (Nat × Nat × Nat)
  deriving DecidableEq, Repr

/-- A field of word 3: offset, width code, count. -/
def routeField (off w cnt : Nat) : List (Nat × Nat × Nat) := if w = 0 then [] else [(off, 2 ^ w, cnt)]

def State.route (s : State) (i : Nat) : Route :=
  let w0 := s.routeW i 0
  let w1 := s.routeW i 1
  let w2 := s.routeW i 2
  let w3 := s.routeW i 3
  { event := w0.testBit 31, srcId := w0 % 2 ^ 31, srcPort := w2 / 2 ^ 24 % 32, dstPort := w2 / 2 ^ 16 % 32,
    dstId := w1 % 2 ^ 30, fdf := w1.testBit 31, brs := w2.testBit 30, notify := w2.testBit 29,
    swap := w2 / 256 % 4 == 1, known := decide (w2 / 256 % 4 < 2),
    fields := routeField (w3 % 256) (w3 / 256 % 4) (w3 / 2 ^ 10 % 64)
      ++ routeField (w3 / 2 ^ 16 % 256) (w3 / 2 ^ 24 % 4) (w3 / 2 ^ 26 % 64) }

/-- The enabled routes, in ascending index. -/
def State.routesOn (s : State) : List Nat :=
  (s.relay.routes.filter fun c => c.1 % 16 == 11 && c.2.getLsbD 7).map fun c => c.1 / 16

/-- The routes whose key equals a unit's (R326); an event's key is its code. -/
def State.routesFor (s : State) (u : RUnit) : List Nat :=
  s.routesOn.filter fun i =>
    let r := s.route i
    r.srcPort == u.port && r.event == u.event && (if u.event then r.srcId % 256 == u.id else r.srcId == u.id)

/-- Largest unit of a port (R324). -/
def portMax (p : Nat) : Nat := if portCan ≤ p ∧ p < portEth then 64 else 240

/-- A unit enters the ingress queue of its port; one that is too long is discarded (R324). -/
def relayIngress (u : RUnit) (s : State) : State :=
  if !s.relayActive then s
  else if portMax u.port < u.data.length then s.bump R.RELAY_ING_LEN_CNT
  else updRelay (fun r => { r with ingress := modAt (fun q => q ++ [u]) r.ingress u.port }) s

abbrev evtStationLost : Nat := 1
abbrev evtStationBack : Nat := 2
abbrev evtBusOff : Nat := 3
abbrev evtOverflow : Nat := 4
abbrev evtPortUp : Nat := 5
abbrev evtPortDown : Nat := 6
abbrev evtDataReady : Nat := 7

/-- A side-band event of a port (R332, R333). -/
def relayEvent (port code detail : Nat) (s : State) : State :=
  if !s.relayActive then s else
  let s := s.bump R.RELAY_EVT_CNT
  let n := s.relay.events
  let data := leBytes 4 (code + 256 * port + 2 ^ 16 * (detail % 2 ^ 16)) ++ leBytes 4 n
  relayIngress ⟨port, code, true, data, 0⟩ (updRelay (fun r => { r with events := (n + 1) % 2 ^ 32 }) s)

/-- An OK frame of a receive buffer that a route names (R324). -/
def relayGrador (ch n : Nat) (data : List Byte) (s : State) : State :=
  let u : RUnit := ⟨portGrd + ch, n, false, data, 0⟩
  if (s.routesFor u).isEmpty then s else relayIngress u s

end Sys2Proof.Machine
end

