-- ==== Sys2Proof/Machine/Can.lean ====
section
/-!
DEFINITION. The CAN controllers (chapter 12): frames (R309), filters and the receive FIFO (R311 to R314), transmit
buffers and FIFO (R315 to R318), fault confinement (R319), and RXF_DATA (R535).
-/
namespace Sys2Proof.Machine

def canA (n off : Nat) : Nat := pa (P.CAN + n) off

abbrev canOff : Nat := 0
abbrev canIntegrating : Nat := 1
abbrev canActive : Nat := 2
abbrev canPassive : Nat := 3
abbrev canBusOff : Nat := 4
abbrev canRecovering : Nat := 5

def State.canOf (s : State) (n : Nat) : CanCtl := getAt canZero s.can n
def updCan (n : Nat) (f : CanCtl → CanCtl) (s : State) : State := { s with can := modAt f s.can n }

/-- CAN_STAT.STATE. -/
def State.canState (s : State) (n : Nat) : Nat := s.regF (canA n R.CAN_STAT) 2 0
def State.tec (s : State) (n : Nat) : Nat := s.regF (canA n R.CAN_STAT) 16 8
def State.rec_ (s : State) (n : Nat) : Nat := s.regF (canA n R.CAN_STAT) 31 24

/-- The controller takes part in the bus, and its page is not in FAULT (R319, R323). -/
def State.canOnBus (s : State) (n : Nat) : Bool :=
  (s.canState n == canActive || s.canState n == canPassive) && !(s.pgState (P.CAN + n) == stFault)

/-- Change the state, with the page state (R320). -/
def setCanState (n st : Nat) (s : State) : State :=
  if s.canState n = st then s else
  let s := irqSet (P.CAN + n) 12 (s.setF (canA n R.CAN_STAT) 2 0 st)
  let pg := if st = canOff then stOff else if st = canActive then stActive else if st = canPassive then 6
            else if st = canBusOff then 7 else stInit
  if s.pgState (P.CAN + n) = stFault then s else s.setPgState (P.CAN + n) pg

/-! ### Frames (R309) -/

/-- Data bytes of a DLC. -/
def canLen (fd : Bool) (dlc : Nat) : Nat :=
  if dlc ≤ 8 then dlc else if !fd then 8 else [12, 16, 20, 24, 32, 48, 64].getD (dlc - 9) 64

/-- A length an FD frame has. -/
def fdLen (n : Nat) : Bool := decide (n ≤ 8) || [12, 16, 20, 24, 32, 48, 64].contains n

def CanFrame.fdf (f : CanFrame) : Bool := bitOf f.id 31
def CanFrame.rtr (f : CanFrame) : Bool := bitOf f.id 30
def CanFrame.ide (f : CanFrame) : Bool := bitOf f.id 29
def CanFrame.len (f : CanFrame) : Nat := fld f.ctl 6 0

/-- Field combinations that R309 allows, with FD_EN for an FD frame. -/
def CanFrame.ok (f : CanFrame) (fdEn : Bool) : Bool :=
  !(f.fdf && f.rtr) && !(bitOf f.ctl 8 && !f.fdf) && (f.ide || fld f.id 28 11 == 0)
    && (if f.fdf then fdEn && fdLen f.len else decide (f.len ≤ 8))

/-- The arbitration field as a number; the lower one wins (R317). -/
def CanFrame.key (f : CanFrame) : Nat :=
  if f.ide then fld f.id 28 18 * 2 ^ 21 + 2 ^ 20 + 2 ^ 19 + fld f.id 17 0 * 2 + b2n f.rtr
  else fld f.id 10 0 * 2 ^ 21 + 2 ^ 20 * b2n f.rtr

/-! ### What the page shows -/

/-- RXF_STAT, RXF_HEAD_ADDR, TXF_STAT and TB_STAT follow the queues (R320). -/
def rxfLevel (s : State) (n : Nat) : Nat := s.regF (canA n R.CAN_RXF_STAT) 6 0

def rxfAddr (n i : Nat) : Nat := 0x180000 + 0x1400 * n + 80 * (i % 64)

def rxfShow (n level : Nat) (s : State) : State :=
  let s := s.setF (canA n R.CAN_RXF_STAT) 6 0 level
  let s := if s.regF (canA n R.CAN_RXF_STAT) 14 8 < level then s.setF (canA n R.CAN_RXF_STAT) 14 8 level else s
  s.setRegN (canA n R.CAN_RXF_HEAD_ADDR) (if level = 0 then 0 else rxfAddr n (s.canOf n).head + 2 ^ 31)

def txShow (n : Nat) (s : State) : State :=
  let c := s.canOf n
  let s := s.setRegN (canA n R.CAN_TXF_STAT) (c.txf.length + 256 * b2n c.tried)
  forN 3 (fun j t =>
    let b := getAt tbZero c.tbs j
    let st := if c.attempt = some j then 2 else if b.pend.isSome then 1 else 0
    let t := t.setF (canA n (R.CAN_TB_STAT + 4 * j)) 2 0 (st + 4 * b2n (t.txBinding (P.CAN + n) j).isSome)
    t.setF (canA n (R.CAN_TB_STAT + 4 * j)) 23 16 b.age) s

/-! ### The choice of R317 and attempts -/

/-- The frame a source holds: transmit buffer 0 to 2, or 3 for the FIFO head. -/
def CanCtl.frame (c : CanCtl) (i : Nat) : Option CanFrame :=
  if i = 3 then c.txf.head? else (getAt tbZero c.tbs i).pend

/-- The better of two candidates: the lower key, and the first at equal keys. -/
def betterOf (c : CanCtl) (a b : Option Nat) : Option Nat :=
  match a, b with
  | some x, some y => match c.frame x, c.frame y with
    | some f, some g => if g.key < f.key then b else a
    | _, _ => a
  | none, y => y
  | x, none => x

/-- The frame of a source may be offered: a committed one from the end of the boundary window on (R38, R315). -/
def CanCtl.ripe (now : Nat) (c : CanCtl) (i : Nat) : Bool :=
  match c.frame i with
  | some f => (match f.start with | some t => decide (t ≤ now) | none => true)
  | none => false

/-- The buffer candidate. -/
def bufferCand (order : Bool) (now : Nat) (c : CanCtl) : Option Nat :=
  let pend := (List.range 3).filter (c.ripe now)
  if order then pend.head? else pend.foldl (fun a j => betterOf c a (some j)) none

/-- An attempt starts where a frame is pending and none runs (R317). -/
def canStart (n : Nat) (s : State) : State :=
  let c := s.canOf n
  if !s.canOnBus n || s.regB (canA n R.CAN_CFG) 1 || c.attempt.isSome || decide (c.leaving ≠ 0) then txShow n s else
  let fifo := if c.ripe s.now 3 then some 3 else none
  let pick := betterOf c (bufferCand (s.regB (canA n R.CAN_CFG) 4) s.now c) fifo
  txShow n (updCan n (fun c => { c with attempt := pick, tried := c.tried || pick == some 3 }) s)

/-- Frames discarded are counted. -/
def canDiscard (n k : Nat) (s : State) : State := s.bumpBy (canA n R.CAN_TX_DISCARD_CNT) k

def updTb (n j : Nat) (f : CanTb → CanTb) : State → State := updCan n fun c => { c with tbs := modAt f c.tbs j }

/-- Frames waiting to be sent. -/
def CanCtl.held (c : CanCtl) : Nat :=
  c.txf.length + c.tbs.foldl (fun a b => a + b2n b.pend.isSome + b2n b.next.isSome) 0

/-- Every transmit frame is discarded. -/
def dropTx (n : Nat) (counted : Bool) (s : State) : State :=
  let k := (s.canOf n).held
  let s := if counted then canDiscard n k s else s
  txShow n (updCan n (fun c => { c with
    txf := [], tried := false, abortHead := false, attempt := none,
    tbs := c.tbs.map fun b => ⟨none, none, false, b.last, b.age⟩ }) s)

/-- A unit as bytes: FRM_ID, FRM_CTL, data (R315). -/
def unitFrame (u : List Byte) : CanFrame :=
  ⟨BitVec.ofNat 32 (leNat (u.take 4)), BitVec.ofNat 32 (leNat ((u.drop 4).take 4)) &&& 0x17F#32, u.drop 8, none⟩

/-- The code a frame is refused with (R315); `unitLen` is the length of the unit it came in. -/
def frameCode (n : Nat) (fifo : Bool) (f : CanFrame) (unitLen : Nat) (s : State) : Nat :=
  if unitLen ≠ 8 + (if f.rtr then 0 else f.len) then cLength
  else if !f.ok (s.regB (canA n R.CAN_CFG) 0) then cRange
  else if s.canState n = canBusOff then 0x40
  else if s.canState n = canOff ∨ s.regB (canA n R.CAN_CFG) 1 = true ∨ s.pgState (P.CAN + n) = stFault then cState
  else if fifo && decide (32 ≤ (s.canOf n).txf.length) then cResource
  else cDone

/-- A frame goes into a transmit buffer (R316). -/
def loadTb (n j : Nat) (f : CanFrame) (s : State) : State :=
  let c := s.canOf n
  let b := getAt tbZero c.tbs j
  if c.attempt = some j then updTb n j (fun x => { x with next := some f }) (canDiscard n (b2n b.next.isSome) s)
  else updTb n j (fun x => { x with pend := some f }) (canDiscard n (b2n b.pend.isSome) s)

/-- A frame goes to the end of the transmit FIFO. -/
def pushTxf (n : Nat) (f : CanFrame) : State → State := updCan n fun c => { c with txf := c.txf ++ [f] }

/-- The record MSTAT reads for a bound transmit block (R207, R315). -/
def canNote (n j status age units : Nat) (s : State) : State :=
  match s.txBinding (P.CAN + n) j with
  | none => s
  | some b =>
    let old := (s.exec.txStat.find? fun x => x.1 == b.index).getD (b.index, 0, 0, 0, 0, 0)
    let new := (b.index, min (2 ^ 32 - 1) (old.2.1 + units), s.now, old.2.2.2.1, status, age)
    updExec (fun e => { e with txStat := new :: e.txStat.filter fun x => x.1 != b.index }) s

/-- The status MSTAT shows for a block: that of its latest commit. -/
def State.noteStatus (s : State) (n j : Nat) : Nat :=
  match s.txBinding (P.CAN + n) j with
  | some b => (match s.exec.txStat.find? fun x => x.1 == b.index with | some x => x.2.2.2.2.1 | none => 0)
  | none => 0

/-- The status of the latest commit or load of a transmit buffer. -/
def tbStatus (n j code : Nat) (s : State) : State := s.setF (canA n (R.CAN_TB_STAT + 4 * j)) 15 8 code

/-- A program unit committed at a boundary to a transmit buffer, or with channel 3 to the FIFO (R315, R316). -/
def canCommit (n j : Nat) (unit : List Byte) (s : State) : State :=
  let f := { unitFrame unit with start := some (s.now + 5) }
  let code := frameCode n (j == 3) f unit.length s
  let s := canNote n j code 0 0 (if j < 3 then tbStatus n j code s else s)
  if code ≠ cDone then s
  else if j = 3 then pushTxf n f s
  else loadTb n j f (updTb n j (fun b => { b with last := some f, age := 0 }) s)

/-- A bound cyclic buffer without a new commit at a boundary sends its latest unit again, where its controller takes one,
and its age counts (R316). -/
def canCyclic (n j : Nat) (s : State) : State :=
  let b := getAt tbZero (s.canOf n).tbs j
  match b.last with
  | some f =>
    if s.regB (canA n R.CAN_CFG) (8 + j) && (s.txBinding (P.CAN + n) j).isSome then
      let age := min 255 (b.age + 1)
      let f := { f with start := some (s.now + 5) }
      let s := canNote n j (s.noteStatus n j) age 0 (updTb n j (fun x => { x with age := age }) s)
      if !s.halted && frameCode n false f (8 + f.data.length) s == cDone then loadTb n j f s else s
    else s
  | none => s

/-! ### Reception (R311 to R314) -/

/-- The receive FIFO takes a frame, or it is lost (R314). -/
def rxfStore (n : Nat) (f : CanFrame) (stamp : Nat) (s : State) : State :=
  let lvl := rxfLevel s n
  if 64 ≤ lvl then
    let s := irqSet (P.CAN + n) 9 (s.bump (canA n R.CAN_RX_OVF_CNT))
    relayEvent (portCan + n) evtOverflow 0xFFFF (recordErr (P.CAN + n) 0x41 srcHardware 0 s)
  else
    let a := rxfAddr n ((s.canOf n).head + lvl)
    let data := (f.data ++ List.replicate 64 0).take 64
    let s := commsWrite srcHardware a (leBytes 4 f.id.toNat ++ leBytes 4 f.ctl.toNat ++ leBytes 8 stamp ++ data) s
    irqSet (P.CAN + n) 8 (rxfShow n (lvl + 1) s)

/-- FILT_ID and FILT_MASK of filter `j`. -/
def filtId (n j : Nat) : Nat := canA n (R.CAN_FILT_ID + 8 * j)
def filtMask (n j : Nat) : Nat := canA n (R.CAN_FILT_MASK + 8 * j)

/-- Filter `j` matches a frame (R311). -/
def filtMatch (n : Nat) (f : CanFrame) (s : State) (j : Nat) : Bool :=
  let id := s.reg (filtId n j)
  let m := s.reg (filtMask n j)
  bitOf id 31 && bitOf id 29 == f.ide && ((id ^^^ f.id) &&& m &&& 0x1FFFFFFF#32) == 0 && (!f.rtr || bitOf m 29)

/-- REC after a good frame (R307, R319): the standard lets a count above 127 fall to any value of 119 to 127. -/
def recGood (n : Nat) (s : State) : State :=
  let r := s.rec_ n
  if s.regB (canA n R.CAN_CFG) 1 then s
  else if 127 < r then
    (s.setF (canA n R.CAN_STAT) 31 24 (119 + (Config.freeValue s.freeCtr).toNat % 9)).fresh
  else s.setF (canA n R.CAN_STAT) 31 24 (r - 1)

/-- The state that the error counters give (R319, R320). -/
def canConfine (n : Nat) (s : State) : State :=
  let high := decide (127 < s.tec n ∨ 127 < s.rec_ n)
  let s := s.setB (canA n R.CAN_STAT) 3 (decide (127 < s.rec_ n))
  if s.canState n = canActive ∧ high = true then setCanState n canPassive s
  else if s.canState n = canPassive ∧ high = false then setCanState n canActive s
  else s

/-- A valid frame is filtered and stored (R311 to R313). Its event has QUAL 0x0001, as R80 states no quality word for a CAN
frame (DESIGN CHOICE, log entry 183). -/
def canDeliver (n : Nat) (id : Word) (ctl len : Nat) (data : List Byte) (stamp : Nat) (s : State) : State :=
  let s := s.bump (canA n R.CAN_RX_OK_CNT)
  let f0 : CanFrame := ⟨id, BitVec.ofNat 32 (ctl + len), if bitOf id 30 then [] else (data ++ List.replicate len 0).take len, none⟩
  let drop (s : State) : State := s.bump (canA n R.CAN_RX_NOMATCH_CNT)
  match (List.range 128).find? (filtMatch n f0 s) with
  | none => if s.regB (canA n R.CAN_CFG) 6 then rxfStore n f0 stamp s else drop s
  | some j =>
    let f := { f0 with ctl := f0.ctl ||| BitVec.ofNat 32 (2 ^ 16 * j) }
    let seen := ((mapGet (s.canOf n).seen j).getD 0 + 1) % 2 ^ 32
    let s := updCan n (fun c => { c with seen := mapPut c.seen j seen }) s
    let dest := s.regF (filtMask n j) 31 30
    let s := if dest < 2 ∧ s.regB (filtId n j) 30 = true then
        raiseAt s.now 7 n stamp (j + 128 * (1 - dest)) 1 s else s
    if dest = 0 then rxfStore n f stamp s
    else if dest = 1 then
      pushUnit (P.CAN + n) j (leBytes 4 f.id.toNat ++ leBytes 4 f.ctl.toNat ++ leBytes 8 stamp ++ f.data) seen 0 s
    else if dest = 2 then
      if !s.relayActive then drop s
      else if f.rtr then s.bump R.RELAY_NOROUTE_CNT
      else relayIngress ⟨portCan + n, fld f.id 29 0, false, f.data, 0⟩ s
    else drop s

/-- CAN_RX_FRAME (R311). -/
def canRx (n : Nat) (id : Word) (brs esi : Bool) (dlc : Nat) (data : List Byte) (stamp : Nat) (s : State) : State :=
  let fd := bitOf id 31
  if !s.canOnBus n || s.regB (canA n R.CAN_CFG) 2 || (fd && !s.regB (canA n R.CAN_CFG) 0) then s else
  canConfine n (recGood n
    (canDeliver n id (512 * b2n (esi && fd) + 256 * b2n (brs && fd)) (canLen fd dlc) data stamp s))

/-- The head entry of the receive FIFO is removed (R314, R535). -/
def rxfPop (n : Nat) (s : State) : State :=
  let lvl := rxfLevel s n
  if lvl = 0 then s else
  let s := updCan n (fun c => { c with head := (c.head + 1) % 64, ptr := 0 }) s
  let s := rxfShow n (lvl - 1) s
  if lvl = 1 then s else irqSet (P.CAN + n) 8 s

/-- A read of RXF_DATA (R535). -/
def rxfRead (n : Nat) (s : State) : State :=
  if rxfLevel s n = 0 then s
  else
    let s := commsRead 3 (rxfAddr n (s.canOf n).head + 4 * (s.canOf n).ptr) 4 s
    if (s.canOf n).ptr = 19 then rxfPop n s else updCan n (fun c => { c with ptr := c.ptr + 1 }) s

/-! ### Attempts and errors (R318, R319) -/

/-- CAN_TX_ATTEMPT_END (R318). -/
def canAttempt (n : Nat) (how : CanEnd) (s : State) : State :=
  let c := s.canOf n
  match c.attempt with
  | none => s
  | some i =>
    match c.frame i with
    | none => s
    | some f =>
      let b := getAt tbZero c.tbs i
      let s := updCan n (fun c => { c with attempt := none }) s
      let s := match how with
        | .sent stamp =>
          let s := irqSet (P.CAN + n) 10 (s.bump (canA n R.CAN_TX_OK_CNT))
          let s := if s.tec n = 0 then s else s.setF (canA n R.CAN_STAT) 16 8 (s.tec n - 1)
          let s := if i = 3 then
              canNote n 3 (s.noteStatus n 3) 0 (b2n f.start.isSome) (updCan n (fun c => { c with txf := c.txf.drop 1, tried := false, abortHead := false }) s)
            else
              let s := updTb n i (fun b => { b with pend := b.next, next := none, abort := false }) s
              let s := s.setReg64 (canA n (R.CAN_TB_TS_LO + 8 * i)) stamp.toNat
              canNote n i (s.noteStatus n i) b.age (b2n f.start.isSome) s
          if s.regB (canA n R.CAN_CFG) 2 then
            canDeliver n f.id (256 * b2n (bitOf f.ctl 8)) f.len f.data stamp.toNat s
          else s
        | _ =>
          if i = 3 then
            if c.abortHead then
              canDiscard n 1 (updCan n (fun c => { c with txf := c.txf.drop 1, tried := false, abortHead := false }) s)
            else s.bump (canA n R.CAN_TX_RETRY_CNT)
          else if b.abort || b.next.isSome then
            canDiscard n 1 (updTb n i (fun b => { b with pend := b.next, next := none, abort := false }) s)
          else s.bump (canA n R.CAN_TX_RETRY_CNT)
      canStart n (canConfine n s)

/-- Entry to BUS_OFF (R319). -/
def goBusOff (n : Nat) (s : State) : State :=
  let s := dropTx n true s
  let s := irqSet (P.CAN + n) 11 (s.bump (canA n R.CAN_BUSOFF_CNT))
  let s := recordErr (P.CAN + n) 0x40 srcHardware 0 s
  let s := relayEvent (portCan + n) evtBusOff (s.regF (canA n R.CAN_BUSOFF_CNT) 15 0) s
  let s := setCanState n canBusOff s
  if s.regB (canA n R.CAN_CFG) 3 then setCanState n canRecovering s else s

/-- CAN_BUS_ERROR: LAST_ERR, the error counters of the standard, and the state they give (R307, R319, R320). -/
def canError (n code : Nat) (dataPhase asTx heavy : Bool) (s : State) : State :=
  if !s.canOnBus n then s else
  let s := tally (9 + n) (s.setRegN (canA n R.CAN_LAST_ERR) (code + 8 * b2n dataPhase + 16 * b2n asTx))
  let s := if asTx then s else s.bump (canA n R.CAN_RX_ERR_CNT)
  if s.regB (canA n R.CAN_CFG) 1 then s
  else if asTx then
    if code = 3 ∧ s.canState n = canPassive then s
    else
      let t := min 256 (s.tec n + 8)
      let s := s.setF (canA n R.CAN_STAT) 16 8 t
      if 255 < t then goBusOff n s else canConfine n s
  else canConfine n (s.setF (canA n R.CAN_STAT) 31 24 (min 255 (s.rec_ n + if heavy then 8 else 1)))

/-- A controller comes on the bus: the relay's port is up (R319, R332). -/
def canUp (n : Nat) (s : State) : State := relayEvent (portCan + n) evtPortUp 0 (setCanState n canActive s)

/-- CAN_INTEGRATION_DONE (R319). -/
def canIntegrated (n : Nat) (s : State) : State :=
  if s.canState n = canIntegrating then canStart n (canUp n s) else s

/-- CAN_RECOVERY_DONE (R319). -/
def canRecovered (n : Nat) (s : State) : State :=
  if s.canState n = canRecovering then
    let s := ((s.setF (canA n R.CAN_STAT) 16 8 0).setF (canA n R.CAN_STAT) 31 24 0).setB (canA n R.CAN_STAT) 3 false
    canStart n (canUp n s)
  else s

/-- EN is set at a boundary: bus integration (R319). -/
def canEnable (n : Nat) (s : State) : State :=
  let s := updCan n (fun c => { c with seen := [], leaving := 0 }) (s.setEn (P.CAN + n) true)
  let s := ((s.setF (canA n R.CAN_STAT) 16 8 0).setF (canA n R.CAN_STAT) 31 24 0).setB (canA n R.CAN_STAT) 3 false
  setCanState n canIntegrating s

/-- What a function reset leaves (R323): queues empty, configuration and filters at reset, page OFF. -/
def canResetDone (n : Nat) (s : State) : State :=
  let s := dropTx n false s
  let s := updCan n (fun c => { c with head := 0, ptr := 0, leaving := 0, tbs := [tbZero, tbZero, tbZero] }) s
  let s := rxfShow n 0 s
  let s := resetRegs (P.CAN + n) s
  let s := setCanState n canOff (s.setEn (P.CAN + n) false)
  let s := s.setPgState (P.CAN + n) stOff
  let s := relayEvent (portCan + n) evtPortDown 0 s
  if s.busyWith (P.CAN + n) 0xA5 then finish (P.CAN + n) cDone s else s

/-- CAN_BUS_IDLE: a controller that waits to leave the bus leaves it (R319, R323). -/
def canIdle (n : Nat) (s : State) : State :=
  let c := s.canOf n
  if c.leaving = 0 then s
  else if c.leaving = 2 then canResetDone n s
  else relayEvent (portCan + n) evtPortDown 0 (updCan n (fun c => { c with leaving := 0 }) (setCanState n canOff (dropTx n true s)))

/-- EN is cleared at a boundary (R319, R535). -/
def canDisable (n : Nat) (s : State) : State :=
  let s := updCan n (fun c => { c with leaving := 1, ptr := 0 }) (s.setEn (P.CAN + n) false)
  if s.canState n = canOff then canIdle n s else s

/-- A function reset takes effect at a boundary (R323). -/
def canReset (n : Nat) (s : State) : State :=
  if s.canState n = canOff then canResetDone n s else updCan n (fun c => { c with leaving := 2, ptr := 0 }) s

/-! ### Commands (R322) -/

def cmdPop (n : Nat) (iss : Issuer) : State → State :=
  quick ⟨P.CAN + n, 0x10, iss⟩ (fun s => need (rxfLevel s n != 0) cState none) fun s => rxfPop n (updCan n (fun c => { c with ptr := 0 }) s)

/-- TX_STAGE as a frame, and the length of the unit it stands for. -/
def stageFrame (s : State) (n : Nat) : CanFrame × Nat :=
  let w (i : Nat) : Word := s.reg (canA n (R.CAN_TX_STAGE + 4 * i))
  let f : CanFrame := ⟨w 0, w 1 &&& 0x17F#32, [], none⟩
  let bytes := (List.range 16).foldl (fun a i => a ++ leBytes 4 (w (2 + i)).toNat) []
  let len := min 64 (if f.rtr then 0 else f.len)
  ({ f with data := bytes.take len }, 8 + len)

/-- The checks of TB_LOAD (R315). -/
def loadCheck (n j : Nat) (s : State) : Option Nat :=
  let (f, len) := stageFrame s n
  let code := frameCode n false f len s
  need (decide (j < 3)) cRange (need (code != cLength && code != cRange) code
    (need (!(s.txBinding (P.CAN + n) j).isSome) cState (need (code == cDone) code none)))

/-- TB_LOAD (R315). TB_STAT keeps the status of a load that its checks refuse as well; a load for a bound buffer, which
is the program's, leaves it as it is. -/
def cmdTbLoad (n j : Nat) (iss : Issuer) (s : State) : State :=
  let c : Call := ⟨P.CAN + n, 0x11, iss⟩
  let judged := s.populated c.page && (precheck c s).isNone && !(s.txBinding c.page j).isSome && decide (j < 3)
  let s := if judged then tbStatus n j ((loadCheck n j s).getD cDone) s else s
  quick c (loadCheck n j) (fun s => canStart n (loadTb n j (stageFrame s n).1 s)) s

/-- TXF_PUSH (R315). -/
def cmdTxfPush (n : Nat) (iss : Issuer) : State → State :=
  quick ⟨P.CAN + n, 0x12, iss⟩ (fun s =>
    let (f, len) := stageFrame s n
    let code := frameCode n true f len s
    need (code == cDone) code none) fun s => canStart n (pushTxf n (stageFrame s n).1 s)

/-- TB_ABORT (R318). -/
def cmdTbAbort (n j : Nat) (iss : Issuer) : State → State :=
  quick ⟨P.CAN + n, 0x13, iss⟩ (fun _ => need (decide (j < 3)) cRange none) fun s =>
    let c := s.canOf n
    let b := getAt tbZero c.tbs j
    if c.attempt = some j then
      updTb n j (fun x => { x with abort := true, next := none }) (canDiscard n (b2n b.next.isSome) s)
    else txShow n (updTb n j (fun x => { x with pend := none }) (canDiscard n (b2n b.pend.isSome) s))

/-- TXF_ABORT_HEAD (R318). -/
def cmdAbortHead (n : Nat) (iss : Issuer) : State → State :=
  quick ⟨P.CAN + n, 0x14, iss⟩ noCheck fun s =>
    let c := s.canOf n
    if c.attempt = some 3 then updCan n (fun c => { c with abortHead := true }) s
    else canStart n (updCan n (fun c => { c with txf := c.txf.drop 1, tried := false })
      (canDiscard n (min 1 c.txf.length) s))

/-- TXF_FLUSH (R318): the head in an attempt is marked, the others go. -/
def cmdTxfFlush (n : Nat) (iss : Issuer) : State → State :=
  quick ⟨P.CAN + n, 0x15, iss⟩ noCheck fun s =>
    let c := s.canOf n
    if c.attempt = some 3 then
      txShow n (updCan n (fun c => { c with txf := c.txf.take 1, abortHead := true }) (canDiscard n (c.txf.length - 1) s))
    else txShow n (updCan n (fun c => { c with txf := [], tried := false }) (canDiscard n c.txf.length s))

def cmdCanRestart (n : Nat) (iss : Issuer) : State → State :=
  quick ⟨P.CAN + n, 0x16, iss⟩ (fun s => need (s.canState n == canBusOff) cState none) (setCanState n canRecovering)

def cmdCanClr (n : Nat) (iss : Issuer) : State → State :=
  quick ⟨P.CAN + n, 0x17, iss⟩ noCheck fun s =>
    (s.clear (regRun (canA n R.CAN_RX_OK_CNT) 8 4)).setF (canA n R.CAN_RXF_STAT) 14 8 (rxfLevel s n)

/-! ### Meanings -/

def execCanRxFrame (n : Fin 8) (id : Word) (brs esi : Bool) (dlc : Fin 16) (data : List (BitVec 8)) (stamp : BitVec 64)
    (s : State) : Host.Outcome State Fault Refusal := .next (canRx n id brs esi dlc data stamp.toNat s)
def execCanTxAttemptEnd (n : Fin 8) (how : CanEnd) (s : State) : Host.Outcome State Fault Refusal :=
  .next (canAttempt n how s)
def execCanBusError (n : Fin 8) (code : Fin 7) (dataPhase asTx heavy : Bool) (s : State) :
    Host.Outcome State Fault Refusal := .next (canError n code dataPhase asTx heavy s)
def execCanIntegrationDone (n : Fin 8) (s : State) : Host.Outcome State Fault Refusal := .next (canIntegrated n s)
def execCanRecoveryDone (n : Fin 8) (s : State) : Host.Outcome State Fault Refusal := .next (canRecovered n s)
def execPop (n : Fin 8) (iss : Issuer) (_arg : BitVec 16) (s : State) : Host.Outcome State Fault Refusal :=
  .next (cmdPop n iss s)
def execTbLoad (n : Fin 8) (iss : Issuer) (arg : BitVec 16) (s : State) : Host.Outcome State Fault Refusal :=
  .next (cmdTbLoad n arg.toNat iss s)
def execTxfPush (n : Fin 8) (iss : Issuer) (_arg : BitVec 16) (s : State) : Host.Outcome State Fault Refusal :=
  .next (cmdTxfPush n iss s)
def execTbAbort (n : Fin 8) (iss : Issuer) (arg : BitVec 16) (s : State) : Host.Outcome State Fault Refusal :=
  .next (cmdTbAbort n arg.toNat iss s)
def execTxfAbortHead (n : Fin 8) (iss : Issuer) (_arg : BitVec 16) (s : State) : Host.Outcome State Fault Refusal :=
  .next (cmdAbortHead n iss s)
def execTxfFlush (n : Fin 8) (iss : Issuer) (_arg : BitVec 16) (s : State) : Host.Outcome State Fault Refusal :=
  .next (cmdTxfFlush n iss s)
def execCanRestart (n : Fin 8) (iss : Issuer) (_arg : BitVec 16) (s : State) : Host.Outcome State Fault Refusal :=
  .next (cmdCanRestart n iss s)
def execCanClrCnt (n : Fin 8) (iss : Issuer) (_arg : BitVec 16) (s : State) : Host.Outcome State Fault Refusal :=
  .next (cmdCanClr n iss s)
def execRxfDataRead (n : Fin 8) (s : State) : Host.Outcome State Fault Refusal := .next (rxfRead n s)
def execCanBusIdle (n : Fin 8) (s : State) : Host.Outcome State Fault Refusal := .next (canIdle n s)

end Sys2Proof.Machine
end

