-- ==== Sys2Proof/Machine/Smsg.lean ====
section
/-!
DEFINITION. Safe messages (R406 to R411): the connection table, the PDU and its CRC, the checks of a copy, the
comparison of two copies, ages and timeouts.
-/
namespace Sys2Proof.Machine

/-! ### Connection table (R420) -/

/-- Word `w` of connection `c`'s entry. -/
def State.connW (s : State) (c w : Nat) : Nat := Memory.readLe s.safety.connTab (32 * c + 4 * w) 4

/-- A field of an entry word. -/
def State.connF (s : State) (c w hi lo : Nat) : Nat := s.connW c w / 2 ^ lo % 2 ^ (hi + 1 - lo)

def State.connEn (s : State) (c : Nat) : Bool := s.connF c 0 31 31 == 1
def State.connTx (s : State) (c : Nat) : Bool := s.connF c 0 30 30 == 1
def State.connGroup (s : State) (c : Nat) : Nat := s.connF c 0 26 24
def State.connDlen (s : State) (c : Nat) : Nat := s.connF c 2 22 16

/-- Connection `c` is a member of group `g` (R392). -/
def State.connMember (s : State) (g c : Nat) : Bool := s.connEn c && s.connGroup c == g && s.sgEn g

/-- The group has connections. -/
def State.hasConns (s : State) (g : Nat) : Bool := (List.range 256).any fun c => s.connMember g c

/-- A connection that has not run. -/
def connZero : Conn :=
  { valid := false, single := false, everDual := false, lastSeq := 0, age := 255, d := 255, txSeq := none,
    copyA := none, copyB := none, codeA := 0, codeB := 0, dual := 0, singles := 0, rejs := 0, tos := 0, data := [],
    bit0 := false, now := false }

def State.conn (s : State) (c : Nat) : Conn := (mapGet s.safety.conns c).getD connZero

def setConn (c : Nat) (x : Conn) : State → State := updSafety fun y => { y with conns := mapPut y.conns c x }

/-- Bit `c` of a map of 256 bits at a register base. -/
def setMap (base c : Nat) (b : Bool) (s : State) : State := s.setB (base + 4 * (c / 32)) (c % 32) b

/-! ### The PDU (R406) -/

/-- A PDU: 16-byte head, data, CRC. -/
def pduBytes (node seq connId dlen : Nat) (safe : Bool) (stamp : Nat) (data : List Byte) (seed : Nat) : List Byte :=
  let head := leBytes 2 (node % 1024 + 4096) ++ leBytes 2 seq ++ leBytes 4 (connId % 2 ^ 24 + dlen * 2 ^ 24
    + 2 ^ 31 * b2n safe) ++ leBytes 6 stamp ++ leBytes 2 0
  let body := head ++ (data ++ List.replicate dlen 0).take dlen
  body ++ leBytes 4 (crc32c (BitVec.ofNat 32 seed) body)

/-- A field of a PDU. -/
def pduN (bs : List Byte) (off n : Nat) : Nat := leNat ((bs.drop off).take n)

/-! ### Transmission (R407) -/

/-- The PDU of transmit connection `c` for an instance whose action point is at train time `stamp`, built by both paths;
`none` where they differ: the cause PATH of every group (R393, R407). `node` is this node's number. -/
def smsgFetch (c node stamp : Nat) (s : State) : Option (List Byte) × State :=
  let x := s.conn c
  let seq := match x.txSeq with | some q => (q + 1) % 65536 | none => 0
  let g := s.connGroup c
  let pdu (rel : Bool) : List Byte :=
    let safe := !rel || x.data.isEmpty
    pduBytes node seq (s.connF c 0 23 0) (s.connDlen c) safe stamp (if safe then [] else x.data) (s.connW c 4)
  let px := pdu (s.released g)
  let py := pdu (getAt 0 s.safety.pathY g == grpReleased)
  if px = py then
    (some px, (setConn c { x with txSeq := some seq, dual := satInc x.dual } s).send (.safeSeq c seq))
  else
    let s := s.bump R.SAFE_PATH_DIS_CNT
    let s := (s.setB R.SAFE_STAT 24 false).setPgState P.SAFE stFault
    let s := recordErr P.SAFE 0x40 srcHardware 0 (irqSet P.SAFE 11 s)
    (none, lockAll causePath 0 s)

/-! ### Reception (R408, R409) -/

abbrev chkNet : Nat := 1
abbrev chkLength : Nat := 2
abbrev chkCrc : Nat := 3
abbrev chkAddr : Nat := 4
abbrev chkSeq : Nat := 5
abbrev chkTime : Nat := 6
abbrev chkSingle : Nat := 7
abbrev chkDiff : Nat := 8

/-- The code of the first check of R408 that a copy fails, 0 for a good copy. `at_` is the own train time at the action
point, if valid. -/
def smsgCheck (c : Nat) (status gLen : Nat) (bs : List Byte) (at_ : Option Nat) (s : State) : Nat :=
  let x := s.conn c
  let dlen := s.connDlen c
  let seq := pduN bs 2 2
  let d := (seq + 65536 - x.lastSeq) % 65536
  let late := match at_ with
    | none => true
    | some t =>
      let e := toSigned 48 (t + (2 ^ 48 - pduN bs 8 6))
      decide (1000 * s.connF c 3 15 8 < e.natAbs)
  if status ≠ 0 then chkNet
  else if gLen < 20 + dlen ∨ pduN bs 4 4 / 2 ^ 24 % 128 ≠ dlen then chkLength
  else if pduN bs (16 + dlen) 4 ≠ crc32c (BitVec.ofNat 32 (s.connW c 4)) (bs.take (16 + dlen)) then chkCrc
  else if pduN bs 0 2 % 1024 ≠ s.connF c 2 9 0 ∨ pduN bs 4 4 % 2 ^ 24 ≠ s.connF c 0 23 0
    ∨ pduN bs 0 2 / 4096 ≠ 1 then chkAddr
  else if x.everDual && !(decide (1 ≤ d ∧ d ≤ 32767)) then chkSeq
  else if (s.connF c 0 28 28 == 1) && late then chkTime
  else 0

/-- A rejected copy is the latest rejection (R422). -/
def noteReject (c ch code : Nat) (s : State) : State :=
  s.setRegN R.SMSG_LAST_REJ_INFO (code + 16 * ch + 256 * c)

/-- The page counter of a code that no copy survived (R409). -/
def countCode (code : Nat) (s : State) : State :=
  if code = chkCrc then s.bump R.SMSG_CRC_CNT else if code = chkAddr then s.bump R.SMSG_ADDR_CNT
  else if code = chkSeq then s.bump R.SMSG_SEQ_CNT else if code = chkTime then s.bump R.SMSG_TIME_CNT else s

/-- An accepted unit (R409, R411): one complete unit for the program; bit 0 of data byte 0 is the reset source. The
answer says whether that bit rose. -/
def smsgAccept (c : Nat) (bs : List Byte) (single : Bool) (s : State) : Bool × State :=
  let x := s.conn c
  let dlen := s.connDlen c
  let safe := pduN bs 4 4 / 2 ^ 31 == 1
  let data := if safe then List.replicate dlen 0 else (bs.drop 16).take dlen
  let seq := pduN bs 2 2
  let b0 := bitOf (data.headD 0) 0
  let x := { x with valid := x.valid || !single, single := single, everDual := x.everDual || !single, lastSeq := seq,
                    age := 0, d := if single then x.d else 0, data := data, bit0 := b0,
                    now := true }
  let x := if single then { x with singles := satInc x.singles } else { x with dual := satInc x.dual }
  let s := s.bump (if single then R.SMSG_ACC_SINGLE_CNT else R.SMSG_ACC_DUAL_CNT)
  let s := setMap R.SMSG_VALID_MAP c x.valid (setMap R.SMSG_SINGLE_MAP c single s)
  let rose := b0 && !(s.conn c).bit0
  (rose, pushUnit P.SMSG c data seq (16 * b2n single) (setConn c x s))

/-- The comparison at the end of the later channel's slot (R409). -/
def smsgCompare (c : Nat) (a b : Nat × List Byte) (s : State) : Bool × State :=
  let x := { s.conn c with codeA := a.1, codeB := b.1, copyA := none, copyB := none }
  let s := setConn c x s
  let miss (s : State) : State :=
    let x := s.conn c
    setConn c { x with rejs := satInc x.rejs } s
  let okA := decide (a.1 = 0)
  let okB := decide (b.1 = 0)
  if okA && okB then
    if a.2 = b.2 then smsgAccept c a.2 false s
    else
      let s := setConn c { s.conn c with codeA := chkDiff, codeB := chkDiff } s
      let s := noteReject c 1 chkDiff (irqSet P.SMSG 9 (s.bump R.SMSG_DIFF_CNT))
      (false, miss s)
  else if okA || okB then
    let bs := if okA then a.2 else b.2
    let s := if okA then noteReject c 1 b.1 s else noteReject c 0 a.1 s
    if x.everDual && decide (x.d + 1 ≤ s.connF c 2 28 24) then smsgAccept c bs true s
    else
      let s := setConn c (if okA then { s.conn c with codeA := chkSingle } else { s.conn c with codeB := chkSingle }) s
      let s := noteReject c (if okA then 0 else 1) chkSingle (s.bump R.SMSG_SINGLE_REJ_CNT)
      (false, miss s)
  else (false, miss (countCode b.1 (noteReject c 1 b.1 (countCode a.1 (noteReject c 0 a.1 s)))))

/-- A copy of connection `c` has a status on channel `ch`; with both the copies are compared. -/
def smsgCopy (c ch status gLen : Nat) (bs : List Byte) (at_ : Option Nat) (s : State) : Bool × State :=
  if !s.connEn c || s.connTx c || !(s.pgState P.SMSG == stActive) then (false, s) else
  let code := smsgCheck c status gLen bs at_ s
  let pdu := bs.take (20 + s.connDlen c)
  let x := s.conn c
  let x := if ch = 0 then { x with copyA := some (code, pdu) } else { x with copyB := some (code, pdu) }
  let s := setConn c x s
  match x.copyA, x.copyB with
  | some a, some b => smsgCompare c a b s
  | _, _ => (false, s)

/-! ### Ages and timeouts (R410) -/

/-- A basic cycle has ended: AGE grows where the cycle carried no accepted unit, D where it carried no dual acceptance
(R409, R410), and copies without a partner are dropped. -/
def smsgCycle (s : State) : State :=
  updSafety (fun y => { y with conns := y.conns.map fun e =>
    (e.1, { e.2 with age := if e.2.now then e.2.age else min 255 (e.2.age + 1), now := false,
                     d := if e.2.now && !e.2.single then e.2.d else min 255 (e.2.d + 1),
                     copyA := none, copyB := none }) }) s

/-- SAFE_MSG_TIMEOUT (R410). -/
def smsgTimeout (c : Nat) (s : State) : State :=
  let x := s.conn c
  if !s.connEn c || !x.valid || decide (x.age ≤ s.connF c 3 7 0) then s
  else
    let s := setConn c { x with valid := false, everDual := false, tos := satInc x.tos } s
    let s := setMap R.SMSG_VALID_MAP c false (irqSet P.SMSG 8 (s.bump R.SMSG_TIMEOUT_CNT))
    if s.connF c 0 29 29 = 1 ∧ s.connMember (s.connGroup c) c then lockGroup (s.connGroup c) causeSmsg c s else s

/-- SMSG CLR_CNT: the counters of the page and of every connection (R422). -/
def smsgClear (s : State) : State :=
  let s := s.clear (regRun R.SMSG_ACC_DUAL_CNT 9 4)
  updSafety (fun y => { y with conns := y.conns.map fun e =>
    (e.1, { e.2 with dual := 0, singles := 0, rejs := 0, tos := 0 }) }) s

def cmdSmsgClr (iss : Issuer) : State → State := quick ⟨P.SMSG, 0x10, iss⟩ noCheck smsgClear

/-! ### Meanings -/

def execSafeMsgTimeout (c : BitVec 8) (s : State) : Host.Outcome State Fault Refusal := .next (smsgTimeout c.toNat s)
def execSmsgClrCnt (iss : Issuer) (_arg : BitVec 16) (s : State) : Host.Outcome State Fault Refusal :=
  .next (cmdSmsgClr iss s)

end Sys2Proof.Machine
end

