-- ==== Sys2Proof/Machine/GradorBase.lean ====
section
/-!
DEFINITION. The Grador schedule memory (R242 to R245), message buffers (R247, R254) and stations (R249).
-/
namespace Sys2Proof.Machine

/-! ### The standby as a listener (R427, R429) -/

/-- PART_CFG as the function works on it: its reset value while PART is in FAULT (R441). -/
def State.partCfg (s : State) : Word := s.cfgWord R.PART_CFG

/-- The module is in one of the STBY roles. -/
def State.stbyRole (s : State) : Bool := s.role == roleSync || s.role == roleArmed || s.role == roleUnarmed

/-- Ticks without a heartbeat that make a path silent (R429). -/
def State.silence (s : State) : Nat := max (3 * s.starter.runS) 3000 + 50

/-- The latest heartbeat of a path lies within the silence time. -/
def State.hears (s : State) (t : Option Nat) : Bool :=
  match t with | some k => decide (s.now < k + s.silence) | none => false

/-- A heartbeat of the active came over a path (R429). -/
def beat (grador : Bool) (s : State) : State :=
  let put (p : Partner) : Partner := if grador then { p with hbGrd := some s.now } else { p with hbLink := some s.now }
  let s := (updPart put s).setB R.PART_STAT 12 false
  if s.hears s.part.hbLink && (s.hears s.part.hbGrd || !bitOf s.partCfg 2) then s.setB R.PART_STAT 13 false else s

def updGrd (f : Grador → Grador) (s : State) : State := { s with grd := f s.grd }

/-- Register of channel `ch`. -/
def grdA (ch off : Nat) : Nat := pa (P.GRD + ch) off

/-! ### Schedule memory -/

def State.schedW (s : State) (a : Nat) : Nat := Memory.readLe s.grd.sched a 4

/-- A slot entry (R243). -/
structure SlotEntry where
  act : Nat
  len : Nat
  use : Nat
  paired : Bool
  sync : Bool
  mux : Bool
  owner : Nat
  deriving DecidableEq, Repr

def State.slotEnt (s : State) (ch slot : Nat) : SlotEntry :=
  let w0 := s.schedW (0x2000 * ch + 8 * slot)
  let w1 := s.schedW (0x2000 * ch + 8 * slot + 4)
  ⟨w0 % 2 ^ 24, 8 * (w0 / 2 ^ 24 % 32), w1 % 4, w1.testBit 2, w1.testBit 3, w1.testBit 4, w1 / 32 % 1024⟩

/-- An instance entry (R244). -/
structure InstanceEntry where
  en : Bool
  tx : Bool
  node : Nat
  base : Nat
  rlog : Nat
  ch : Nat
  slot : Nat
  spare : Bool
  evt : Bool
  deriving DecidableEq, Repr

def State.instEnt (s : State) (n : Nat) : InstanceEntry :=
  let w0 := s.schedW (0x4000 + 8 * n)
  let w1 := s.schedW (0x4004 + 8 * n)
  ⟨w0.testBit 31, w0.testBit 30, w0 / 2 ^ 20 % 1024, w0 / 2 ^ 14 % 64, w0 / 2 ^ 11 % 8, w0 / 2 ^ 10 % 2, w0 % 1024,
    w1.testBit 1, w1.testBit 0⟩

/-- The enabled instances: EN is bit 31 of word 0. -/
def State.instances (s : State) : List Nat :=
  (s.grd.sched.filter fun c => decide (0x4000 ≤ c.1 ∧ c.1 < 0xC000) && c.1 % 8 == 3 && c.2.getLsbD 7).map
    fun c => (c.1 - 0x4000) / 8

/-- The used slots of a channel, in ascending slot number. -/
def State.usedSlots (s : State) (ch : Nat) : List Nat :=
  (s.grd.sched.filter fun c => decide (0x2000 * ch ≤ c.1 ∧ c.1 < 0x2000 * ch + 0x2000) && c.1 % 8 == 4
    && !(c.2 &&& 3#8 == 0#8)).map fun c => (c.1 - 0x2000 * ch) / 8

/-- The monitored stations (R245). -/
def State.monitored (s : State) : List Nat :=
  (s.grd.sched.filter fun c => decide (0xC000 ≤ c.1 ∧ c.1 < 0xE000) && c.1 % 8 == 2 && c.2.getLsbD 0).map
    fun c => (c.1 - 0xC000) / 8

def State.isMonitored (s : State) (node : Nat) : Bool := (s.schedW (0xC000 + 8 * node)).testBit 16

/-- An instance occurs in a cycle (R238). -/
def occurs (base rlog cycle : Nat) : Bool := cycle % 64 % 2 ^ rlog == base

/-- CYCLE_CNT. -/
def State.cycleCnt (s : State) : Nat := s.regN R.GRDS_CYCLE_NOW

/-- Entry `n` occurs in the running cycle. -/
def State.inCycle (s : State) (n : Nat) : Bool := let e := s.instEnt n; occurs e.base e.rlog s.cycleCnt

/-- This node's number, the network version, L and P_RANK. -/
def State.nodeId (s : State) : Nat := s.regF R.GRDS_NODE_CFG 9 0
def State.csEn (s : State) : Bool := s.regB R.GRDS_NODE_CFG 10
def State.csRank (s : State) : Nat := s.regF R.GRDS_NODE_CFG 12 11
def State.netVer (s : State) : Nat := s.regF R.GRDS_NET_CFG 19 16
def State.cycleUs (s : State) : Nat := s.regF R.GRDS_CYCLE_CFG 13 0

/-- The entries of a cycle at a slot of a channel, in ascending order. -/
def State.entriesIn (s : State) (ch slot cycle : Nat) : List Nat :=
  s.instances.filter fun n => let e := s.instEnt n; e.ch == ch && e.slot == slot && occurs e.base e.rlog cycle

/-- The receive entries among them. -/
def State.rxIn (s : State) (ch slot cycle : Nat) : List Nat :=
  (s.entriesIn ch slot cycle).filter fun n => !(s.instEnt n).tx

/-- This node's transmit entry of the running cycle at a slot of a channel; R239 admits one. -/
def State.txHere (s : State) (ch slot : Nat) : Option Nat :=
  (s.entriesIn ch slot s.cycleCnt).find? fun n => (s.instEnt n).tx

/-- D(P) without the guard, and with it, in ns (R237). -/
def frameNs (p : Nat) : Nat := (54 + max p 30) * 8
def State.slotNs (s : State) (p : Nat) : Nat := frameNs p + s.regF R.GRDS_SLOT_CFG 9 0

/-! ### Protocol states (R256) -/

abbrev pocConfig : Nat := 0
abbrev pocListen : Nat := 1
abbrev pocBackoff : Nat := 2
abbrev pocFirst : Nat := 3
abbrev pocWait : Nat := 4
abbrev pocIntegrate : Nat := 5
abbrev pocNormal : Nat := 6
abbrev pocNormalListen : Nat := 7
abbrev pocLost : Nat := 8

/-- GRDS.NODE_STAT.POC. -/
def State.poc (s : State) : Nat := s.regF R.GRDS_NODE_STAT 3 0

/-- NORMAL or NORMAL_LISTEN. -/
def State.pocRuns (s : State) : Bool := s.poc == pocNormal || s.poc == pocNormalListen

/-- A transmitting state. -/
def State.pocSends (s : State) : Bool := s.poc == pocFirst || s.poc == pocWait || s.poc == pocNormal

/-- A channel may transmit by its own page (R252, R271). -/
def State.chTx (s : State) (ch : Nat) : Bool :=
  s.regB (grdA ch R.GRD_CH_CFG) 0 && !(s.pgState (P.GRD + ch) == stFault)

/-- The conditions of R252 on the node, without state and permit (R252, R256, R271, R288). -/
def State.txAllowed (s : State) : Bool :=
  (s.chTx 0 || s.chTx 1) && !s.regB (pa P.GRDS H.CTRL) 1 && s.regB R.PART_STAT 9 && !s.halted
    && !(s.pgState P.GRDS == stFault) && !(s.pgState P.PACER == stFault)

/-! ### Message buffers -/

/-- A buffer that nothing has come to. -/
def bufZero : GrdBuf :=
  { okCnt := 0, errCnt := 0, lastOk := 0, status := 0, ageField := 0, dlen := 0, okTotal := none,
    commits := [], latched := none, latchAge := 255, sentAge := 0, units := 0, commitStat := 0, pairTx := none }

def State.buf (s : State) (n : Nat) : GrdBuf := (mapGet s.grd.bufs n).getD bufZero
def setBuf (n : Nat) (b : GrdBuf) : State → State := updGrd fun g => { g with bufs := mapPut g.bufs n b }

/-- Bit `n` of a map of 4,096 bits at a register base. -/
def setBufMap (base n : Nat) (b : Bool) (s : State) : State := s.setB (base + 4 * (n / 32)) (n % 32) b

/-- A word of buffer `n`'s header in the comms RAM (R254). -/
def bufWord (n off v : Nat) : State → State := commsWrite srcHardware (256 * n + off) (leBytes 4 (v % 2 ^ 32))

/-- Word +0xC of buffer `n`'s header (R254). -/
def bufStatWord (tx : Bool) (b : GrdBuf) : Nat :=
  if tx then b.sentAge + 256 * b.commitStat else b.status + 256 * b.ageField

/-- The status of the latest instance of receive buffer `n` (R247, R254, R268). -/
def bufStatus (n st : Nat) (s : State) : State :=
  let b := { s.buf n with status := st }
  let b := if st = 0 then b else { b with errCnt := satInc b.errCnt }
  let s := setBufMap R.GRDMB_ERR_MAP n (decide (st ≠ 0)) (setBuf n b s)
  bufWord n 0xC (bufStatWord false b) s

/-- An OK frame is written whole into receive buffer `n`, and enters the relay where a route names it (R247, R254,
R324). -/
def bufStore (n cycle age dlen : Nat) (data : List Byte) (s : State) : State :=
  let b := s.buf n
  let b := { b with okCnt := satInc b.okCnt, lastOk := cycle, ageField := age, dlen := dlen,
                    okTotal := some s.grd.total }
  let s := setBuf n b s
  let s := commsWrite srcHardware (256 * n + 16) data s
  let s := bufWord n 8 dlen (bufWord n 4 cycle s)
  let s := setBufMap R.GRDMB_RX_NEW n true (irqSet P.GRDMB 8 s)
  relayGrador (s.instEnt n).ch n (data.take dlen) (pushUnit P.GRDMB n (data.take dlen) cycle (age + 256 * s.grd.total) s)

/-- The transmit record that MSTAT reads (R254): units sent, AGE of the latest send, commit status. -/
def bufNote (n : Nat) (s : State) : State :=
  match s.txBinding P.GRDMB n with
  | none => s
  | some b =>
    let x := s.buf n
    updExec (fun e => { e with
      txStat := (b.index, x.units.toNat, x.lastOk, (x.latched.getD []).length, x.commitStat, x.sentAge)
        :: e.txStat.filter fun y => y.1 != b.index }) s

/-- A unit committed at boundary tick `tb` to transmit buffer `n` (R250, R251). -/
def grdCommit (n tb : Nat) (unit : List Byte) (s : State) : State :=
  let e := s.instEnt n
  let b := s.buf n
  if s.netVer = 1 ∧ unit.length ≠ (s.slotEnt e.ch e.slot).len then
    let s := setBuf n { b with commitStat := cLength, errCnt := satInc b.errCnt } s
    let s := recordErr P.GRDMB 0x40 srcProgram (n % 1024) (s.bump R.GRDMB_TX_LEN_CNT)
    bufNote n (bufWord n 0xC (bufStatWord true (s.buf n)) s)
  else
    let s := setBuf n { b with commitStat := cDone, commits := b.commits ++ [(tb, unit)] } s
    let s := commsWrite srcProgram (256 * n + 16) unit (bufWord n 8 unit.length s)
    bufNote n (bufWord n 0xC (bufStatWord true (s.buf n)) s)

/-- The units a latch takes from a queue: the latest at or before the cycle's start, and those that wait. -/
def latchUnit (start : Nat) (q : List (Nat × List Byte)) : Option (List Byte) × List (Nat × List Byte) :=
  (((q.filter fun x => decide (x.1 ≤ start)).getLast?).map (·.2), q.filter fun x => !decide (x.1 ≤ start))

/-- A unit that the program committed at tick `tb` to the safe connection of transmit entries `a` and `b` waits for the
latch of the cycle as any other does (R250, R407). -/
def pairCommit (a b tb : Nat) (unit : List Byte) (s : State) : State :=
  let add (n : Nat) (t : State) : State := let x := t.buf n; setBuf n { x with commits := x.commits ++ [(tb, unit)] } t
  if a = b then add a s else add b (add a s)

/-- The latch of buffer `n` at 6 µs (R250). -/
def latchBuf (n : Nat) (s : State) : State :=
  let b := s.buf n
  match latchUnit s.grd.cycTick b.commits with
  | (some u, rest) => setBuf n { b with latched := some u, latchAge := 0, commits := rest } s
  | (none, rest) => setBuf n { b with latchAge := min 255 (b.latchAge + 1), commits := rest } s

/-! ### Stations (R245, R249) -/

def State.absent (s : State) (node : Nat) : Bool := (s.schedW (0xC004 + 8 * node)).testBit 0

/-- Word 1 of a station entry. -/
def stationWord (node v : Nat) : State → State := updGrd fun g =>
  { g with sched := Memory.writeLe g.sched (0xC004 + 8 * node) 4 v }

/-- A station becomes absent or present (R249, R266), and the relay hears of it (R332). -/
def setAbsent (node : Nat) (b : Bool) (s : State) : State :=
  if s.absent node = b then s else
  let w := s.schedW (0xC004 + 8 * node)
  let s := stationWord node (w / 2 * 2 + b2n b) s
  let s := s.setB (R.GRDS_ABSENT_MAP + 4 * (node / 32)) (node % 32) b
  let n := s.regN R.GRDS_ABSENT_NOW
  let s := s.setRegN R.GRDS_ABSENT_NOW (if b then n + 1 else n - 1)
  let evt := if b then evtStationLost else evtStationBack
  let s := relayEvent (portGrd + 1) evt node (relayEvent portGrd evt node s)
  if b then irqSet P.GRDS 12 (s.bump R.GRDS_ABSENT_CNT) else s

/-- The nodes whose station entry shows ABSENT. -/
def State.absentList (s : State) : List Nat :=
  (s.grd.sched.filter fun c => decide (0xC000 ≤ c.1 ∧ c.1 < 0xE000) && c.1 % 8 == 4 && c.2.getLsbD 0).map
    fun c => (c.1 - 0xC000) / 8

/-- ABSENT_MAP and ABSENT_NOW show the absent stations (R266). -/
def showAbsent (s : State) : State :=
  let l := s.absentList
  let s := (s.clear (regRun R.GRDS_ABSENT_MAP 32 4)).setRegN R.GRDS_ABSENT_NOW l.length
  l.foldl (fun t n => t.setB (R.GRDS_ABSENT_MAP + 4 * (n / 32)) (n % 32) true) s

/-- The loader has written station entries in CONFIG: every monitored station is absent, and no other (R245, R249). -/
def stationsLoaded (s : State) : State :=
  let s := s.absentList.foldl (fun t n => stationWord n (t.schedW (0xC004 + 8 * n) / 2 * 2) t) s
  showAbsent (s.monitored.foldl (fun t n => stationWord n (t.schedW (0xC004 + 8 * n) / 2 * 2 + 1) t) s)

/-- Bytes that only the controller writes: word 1 of a station entry, the claim table, and what is reserved (R242,
R245). -/
def schedOwn (a : Nat) : Bool := (decide (0xC000 ≤ a ∧ a < 0xE000) && decide (4 ≤ a % 8)) || decide (0xE000 ≤ a)

/-- The configuration loader writes bytes of the schedule memory (R242). -/
def schedLoad (off : Nat) (bs : List Byte) (s : State) : State :=
  let put (m : List Host.Cell) (x : Byte × Nat) : List Host.Cell :=
    if schedOwn (off + x.2) then m else Memory.write m (off + x.2) x.1
  stationsLoaded (updGrd (fun g => { g with sched := bs.zipIdx.foldl put g.sched }) s)

/-- A monitored station of a range of the station table lacks ABSENT_MISS or AGE_LIMIT (R245). -/
def State.stationBad (s : State) (off len : Nat) : Bool :=
  s.monitored.any fun n => decide (off < 0xC008 + 8 * n ∧ 0xC000 + 8 * n < off + len)
    && (s.schedW (0xC000 + 8 * n) % 256 == 0 || s.schedW (0xC000 + 8 * n) / 256 % 256 == 0)

/-- Outside NORMAL and NORMAL_LISTEN every monitored station is absent (R249). -/
def allAbsent (s : State) : State :=
  updGrd (fun g => { g with misses := [] }) (s.monitored.foldl (fun t n => setAbsent n true t) s)

/-- The station that sends the instance of buffer `n`: for a spare, the node whose claim holds it. -/
def State.senderOf (s : State) (n : Nat) : Option Nat :=
  let e := s.instEnt n
  if e.spare then
    (s.grd.claims.find? fun c => c.held && c.ch == e.ch && c.slot == e.slot && c.base == e.base && c.rlog == e.rlog).map
      (·.node)
  else some e.node

/-- STATION_ABSENT of buffer `n`. -/
def State.senderAbsent (s : State) (n : Nat) : Bool :=
  match s.senderOf n with | some k => s.isMonitored k && s.absent k | none => false

/-- The header of a receive buffer that no OK frame has come to (R248, R254). -/
def bufEmpty (n : Nat) (s : State) : State := bufWord n 0 (qualNone + 2 ^ 16 * b2n (s.senderAbsent n)) s

/-- SUPV of the latest good frame from a station (R245). -/
def stationSupv (node supv : Nat) (s : State) : State :=
  let w := s.schedW (0xC004 + 8 * node)
  stationWord node (w % 2 + 2 * (supv % 8)) s

/-- An instance of a monitored station was received or missed (R249). -/
def stationHeard (node : Nat) (ok : Bool) (s : State) : State :=
  if !s.isMonitored node || !s.pocRuns then s
  else if ok then setAbsent node false (updGrd (fun g => { g with misses := mapPut g.misses node 0 }) s)
  else
    let m := min 255 ((mapGet s.grd.misses node).getD 0 + 1)
    let s := updGrd (fun g => { g with misses := mapPut g.misses node m }) s
    if s.schedW (0xC000 + 8 * node) / 256 % 256 ≤ m then setAbsent node true s else s

end Sys2Proof.Machine
end

