-- ==== Sys2Proof/Machine/F1.lean ====
section
/-!
DEFINITION. The SVT-F1 of a field group (chapter 14): frame check, outputs and what overrides them, inputs, cut-off
terms, diagnostics, and the upstream frame.
-/
namespace Sys2Proof.Machine

/-! ### CRC-16 of the barrier links and the exchange (R110, R340) -/

/-- One bit into the CRC-16 of polynomial 0x8BB7. -/
def crc16Step (c : BitVec 16) (b : Bool) : BitVec 16 :=
  if bitOf c 15 == b then c <<< 1 else (c <<< 1) ^^^ 0x8BB7#16

/-- CRC-16 over the bits `n-1 … 0` of a word, the top bit first. -/
def crc16Bits (w : BitVec m) : Nat → BitVec 16 → BitVec 16
  | 0, c => c
  | n + 1, c => crc16Bits w n (crc16Step c (bitOf w n))

/-- The CRC of a frame: the bits below SYNC and above the CRC (R340). -/
def frameCrc (w : BitVec m) : BitVec 16 := crc16Bits (w >>> 16) (m - 32) 0xFFFF#16

/-- A frame carries its CRC. -/
def frameCrcOk (w : BitVec m) : Bool := BitVec.ofNat 16 (fld w 15 0) == frameCrc w

/-- Put the CRC into the low 16 bits of a frame. -/
def withCrc (w : BitVec m) : BitVec m := setFld w 15 0 (frameCrc w).toNat

/-- Put fields (high bit, low bit, value) into a frame. -/
def putFields (w : BitVec m) : List (Nat × Nat × Nat) → BitVec m
  | [] => w
  | (hi, lo, v) :: fs => putFields (setFld w hi lo v) fs

/-! ### The active configuration (R344) -/

/-- Words of a configuration: 0 FLD_CFG, 1 to 16 DI_CFG, 17 to 24 DO_CFG, 25 SBO_CFG, 26 to 29 CUT_TERM, 30 and 32
AI_CFG, 31 and 33 AI_TRIG, 34 FI_CFG, 35 MEAS_CFG, 36 the link version, 37 to 41 and 42 to 46 the other words of the
analogue inputs, 47 to 49 those of the frequency input. -/
def F1.word (f : F1) (i : Nat) : Word := getAt 0 f.cfg i

abbrev cfgDi : Nat := 1
abbrev cfgDo : Nat := 17
abbrev cfgSbo : Nat := 25
abbrev cfgCut : Nat := 26
abbrev cfgAi : Nat := 30
abbrev cfgFi : Nat := 34
abbrev cfgMeas : Nat := 35
abbrev cfgVer : Nat := 36

/-- The image word at an address: 0xFE the link version, 0xFF the CRC over the words below (R344, R346). -/
def imageData (cfg : List Word) (a : Nat) : BitVec 16 :=
  if a = 0xFE then BitVec.ofNat 16 (getAt 0 cfg cfgVer).toNat else Config.imageWord cfg a

/-- Word 0xFF of an image: the CRC-16 over its words 0x00 to 0xFE, each most significant bit first (R344). -/
def imageCrc (cfg : List Word) : BitVec 16 :=
  (List.range 255).foldl (fun c a => crc16Bits (imageData cfg a) 16 c) 0xFFFF#16

/-- The CRC of the shadow image the SVT-F1 reports: that of a full pass, or of a mixture of two images. -/
def F1.shadowCrc (f : F1) : BitVec 16 :=
  if 256 ≤ f.shadow then imageCrc f.shadowCfg
  else BitVec.setWidth 16 (Config.freeValue (f.shadow + 256 * f.cntBad))

/-- DI `c` is enabled. -/
def F1.diEn (f : F1) (c : Nat) : Bool := bitOf (f.word (cfgDi + c)) 31

/-- What the frames command of DO `c`, with EN = 0 off (R360). -/
def F1.doCmd (f : F1) (c : Nat) : Bool := f.doF.testBit c && bitOf (f.word (cfgDo + c)) 31

/-- Cut-off term `j` holds its outputs off (R353). -/
def F1.cutOn (f : F1) (j : Nat) : Bool := bitOf f.cutAct j || bitOf f.cutHold j

/-- Some term cuts DO `c`. -/
def F1.doCut (f : F1) (c : Nat) : Bool :=
  (List.range 4).any fun j => f.cutOn j && bitOf (f.word (cfgCut + j)) (8 + c)

/-- Some term cuts the SBO. -/
def F1.sboCut (f : F1) : Bool := (List.range 4).any fun j => f.cutOn j && bitOf (f.word (cfgCut + j)) 16

/-- Everything that holds every output off: SAFE_OFF, fail-safe, VF_LOW (R362); the gate removes power besides. -/
def F1.outputsOff (f : F1) : Bool := f.safeOff || f.failsafe || f.vfLow

/-- DO `c` is switched on (R361, R362, R364). -/
def F1.doOn (f : F1) (c : Nat) : Bool :=
  f.doCmd c && !f.outputsOff && !f.doCut c && !bitOf f.trip c && !bitOf f.otDo c

/-- The SBO may close a switch. -/
def F1.sboFree (f : F1) : Bool := !f.outputsOff && !f.sboCut && !f.sboLim && !f.otSbo

/-- The high-side and low-side switches of the SBO (R363). -/
def F1.hsOn (f : F1) : Bool := f.hs && f.sboFree
def F1.lsOn (f : F1) : Bool := f.ls && f.sboFree

/-- Thermal state (R364): 0 normal, 1 140 °C, 2 155 °C, 3 a switch. -/
def F1.therm (f : F1) : Nat :=
  if !(f.otDo == 0) || f.otSbo then 3 else if f.hot155 then 2 else if f.hot140 then 1 else 0

/-- SBO fault bit: overcurrent, over-temperature or the 300 µs limit. -/
def F1.sboFault (f : F1) : Bool := f.sboOc || f.otSbo || f.sboLim

/-- FAULT_ANY of LSTAT (R342). -/
def F1.anyFault (f : F1) : Bool :=
  !(f.openWire == 0) || !(f.ovl == 0) || !(f.trip == 0) || !(f.owOff == 0) || !(f.owOn == 0) || decide (2 < f.therm)
    || f.sboFault || (f.ai.any fun a => a.shunt) || f.fi.open_ || f.fi.short

/-- LSTAT (R342). -/
def F1.lstat (f : F1) : Nat :=
  8 * b2n f.failsafe + 4 * b2n (!(f.cutAct == 0) || !(f.cutHold == 0)) + 2 * b2n f.safeOff + b2n f.anyFault

/-! ### The diagnostic rotation (R365, R385) -/

/-- Fail-safe, VF and temperature in field 3. -/
def F1.diagState (f : F1) : Nat := f.therm + 4 * b2n f.vfLow + 8 * b2n f.failsafe + 16 * f.fsCause

/-- Analogue input `n` has delivered no (L + M + 1)th code since its restart (R375). -/
def F1.settling (f : F1) (n tick : Nat) : Bool :=
  let cfg := f.word (cfgAi + 2 * n)
  let span := 1000 * tick + 999 - 1000 * (getAt f1AiZero f.ai n).since
  fld cfg 1 0 == 1 && (decide (span < 1100)
    || decide ((span - 1100) / (100 * 2 ^ fld cfg 7 4) < (2 * fld cfg 9 8 + 1) + (fld cfg 23 16 + 1) + 1))

/-- The value of diagnostic field `i` of group `g` at a tick. -/
def F1.diag (f : F1) (g i tick : Nat) (gated : Bool) : Nat :=
  let m := (Config.measured g i tick).toNat
  if i = 0 then 0x02A2
  else if i = 1 ∨ i = 2 then m
  else if i = 3 then f.diagState
  else if i < 20 then
    let c := i - 4
    b2n (bitOf f.comp c) + 2 * b2n (bitOf f.wet c) + 4 * b2n (bitOf f.openWire c) + 256 * (m % 256)
  else if i < 28 then
    let c := i - 20
    b2n (f.doOn c && !gated) + 2 * b2n (bitOf f.ovl c) + 4 * b2n (bitOf f.trip c) + 8 * b2n (bitOf f.owOff c)
      + 16 * b2n (bitOf f.owOn c) + 32 * b2n (bitOf f.otDo c) + 64 * (m % 1024)
  else if i = 28 then
    b2n f.hsOn + 2 * b2n f.lsOn + 4 * b2n (f.hsOn && !gated) + 8 * b2n (f.lsOn && !gated) + 16 * b2n f.sboOc
      + 32 * b2n f.otSbo + 64 * b2n f.sboLim + 128 * b2n f.sboCut
  else if i = 29 then m % 4096
  else if i = 30 then f.cutAct.toNat + 16 * f.cutHold.toNat
  else if i = 31 ∨ i = 32 then
    let a := getAt f1AiZero f.ai (i - 31)
    m % 2 + 2 * b2n a.shunt + 4 * b2n (f.settling (i - 31) tick) + 8 * b2n a.busy.isSome + 256 * (a.ign % 256)
  else if i = 33 then
    m % 2 + 2 * b2n f.fi.open_ + 4 * b2n f.fi.short + 8 * b2n (decide (tick < f.fi.fastEnd)) + 256 * (f.fi.edges % 256)
  else if i = 34 then f.cntBad % 65536
  else if i = 35 then f.cntRepair % 65536
  else if i = 36 then f.cntFs % 65536
  else if i = 37 then f.shadowCrc.toNat
  else if i = 63 then 0x5A00 + f.pass % 256
  else 0

/-! ### The upstream frame (R342) -/

/-- An edge slot: V, CH, DIR, POS. -/
def edgeSlot (e : Option (Nat × Nat × Nat)) : Nat :=
  match e with
  | none => 0
  | some (ch, dir, pos) => 4096 + 256 * ch + 128 * dir + pos

/-- The AI field of input `n`: the codes a single-cycle conversion delivered, or the continuous stream. -/
def F1.aiField (f : F1) (g n tick : Nat) : Nat :=
  let mode := fld (f.word (cfgAi + 2 * n)) 1 0
  let ws := (getAt f1AiZero f.ai n).words
  if mode = 1 then (Config.aiStream g n tick).toNat
  else match ws with
    | [] => 0
    | w :: _ => 2 ^ 40 + w % 2 ^ 20

/-- The frame with the content of the tick that has just ended. -/
def F1.up (f : F1) (g tick : Nat) (gated : Bool) : BitVec 224 :=
  let e (i : Nat) : Nat := edgeSlot (f.edges[i]?)
  withCrc (putFields (0 : BitVec 224) [
    (223, 208, 0x4A0D), (207, 204, f.upSeq), (203, 200, f.lstat), (199, 184, f.val.toNat),
    (183, 171, e 2), (170, 158, e 1), (157, 145, e 0), (141, 100, f.aiField g 1 tick), (99, 58, f.aiField g 0 tick),
    (57, 48, f.fi.pos),
    (47, 44, 8 * b2n (f.hsOn && !gated) + 4 * b2n (f.lsOn && !gated)
      + 2 * b2n (decide (fld (f.word cfgSbo) 27 16 < (Config.measured g 29 tick).toNat % 4096)) + b2n f.sboFault),
    (43, 38, f.diagIdx), (37, 22, f.diag g f.diagIdx tick gated)])

/-! ### The tick of an SVT-F1 -/

/-- The codes of a tick have left. -/
def F1Ai.noWords (a : F1Ai) : F1Ai := { a with words := [] }

/-- The converter restarts at tick `k` (R375). -/
def F1Ai.restart (k : Nat) (a : F1Ai) : F1Ai := { a with busy := none, since := k }

/-- The channel words of analogue input `n` in a configuration: CFG, TRIG, RLO, RHI, THR_HI, THR_LO, LIM. -/
def aiWordsIn (cfg : List Word) (n : Nat) : List Word :=
  [getAt 0 cfg (cfgAi + 2 * n), getAt 0 cfg (cfgAi + 2 * n + 1)] ++ (List.range 5).map fun j => getAt 0 cfg (37 + 5 * n + j)

/-- New output commands: a DO commanded 1 after 0 clears its trip, and its over-temperature once cool. Fail-safe holds the
outputs off, and no hold stands for a command (R361, R362, R364). -/
def F1.setDo (f : F1) (d : Nat) : F1 :=
  let rise : BitVec 8 := BitVec.ofNat 8 d &&& ~~~(BitVec.ofNat 8 f.cmdDo)
  { f with doF := if f.failsafe then 0 else d, cmdDo := d, trip := f.trip &&& ~~~rise, ovl := f.ovl &&& ~~~(rise &&& f.trip),
           otDo := f.otDo &&& ~~~(rise &&& ~~~f.otHot) }

/-- New SBO codes: both open end the 300 µs limit; a command from open to closed ends a cooled over-temperature. -/
def F1.setSbo (f : F1) (hs ls : Bool) : F1 :=
  let closes := hs && ls && !(f.cmdHs && f.cmdLs)
  { f with hs := hs && !f.failsafe, ls := ls && !f.failsafe, cmdHs := hs, cmdLs := ls, sboLim := f.sboLim && (hs || ls), otSbo := f.otSbo && !(closes && !f.otSboHot) }

/-- The DOs that are switched on, as a mask. -/
def F1.onMask (f : F1) : BitVec 8 := BitVec.ofNat 8 ((List.range 8).foldl (fun a c => a + b2n (f.doOn c) * 2 ^ c) 0)

/-- What is reported of an output only while it is on, or only while it is off, ends with that (R361, R363). -/
def F1.fadeFaults (f : F1) : F1 :=
  let on := f.onMask
  { f with ovl := f.ovl &&& (on ||| f.trip), owOn := f.owOn &&& on, owOff := f.owOff &&& ~~~on,
           sboOc := f.sboOc && f.hsOn && f.lsOn }

/-- Under a new configuration a term that is disabled ends, and one that no longer sees its level goes to HOLD_MS; inputs
and outputs that no longer look for an open wire report none (R353, R359, R361). -/
def F1.reconfigure (f : F1) (tick : Nat) : F1 :=
  let f := (List.range 4).foldl (fun f j =>
    let t := f.word (cfgCut + j)
    if !bitOf t 31 then { f with cutAct := setBit f.cutAct j false, cutHold := setBit f.cutHold j false }
    else if bitOf f.cutAct j && !(bitOf f.comp (fld t 3 0) == bitOf t 4) then
      { f with cutAct := setBit f.cutAct j false, cutHold := setBit f.cutHold j (decide (0 < fld t 27 20)),
               cutEnd := setAt f.cutEnd j (tick + 1000 * fld t 27 20) }
    else f) f
  let f := (List.range 16).foldl (fun f c =>
    if bitOf (f.word (cfgDi + c)) 18 then f else { f with openWire := setBit f.openWire c false }) f
  (List.range 8).foldl (fun f c =>
    let w := f.word (cfgDo + c)
    { f with owOff := setBit f.owOff c (bitOf f.owOff c && bitOf w 0), owOn := setBit f.owOn c (bitOf f.owOn c && bitOf w 1) }) f

/-- Note from when just one switch has been closed (R363). -/
def F1.noteOne (f : F1) (tick : Nat) : F1 :=
  if f.hsOn == f.lsOn then { f with oneFrom := none }
  else if f.oneFrom.isSome then f else { f with oneFrom := some tick }

/-- The start of tick `tick`: the upstream frame of the tick before is formed, then an applied image and the outputs
of the latest frame take effect (R340, R341, R344). -/
def F1.tick (f : F1) (g tick : Nat) (gated : Bool) : F1 :=
  let f := { f with upFrame := f.up g (tick - 1) gated }
  let pass := if f.diagIdx = 63 then f.pass + 1 else f.pass
  let f := { f with upSeq := (f.upSeq + 1) % 16, diagIdx := (f.diagIdx + 1) % 64, pass := pass, edges := [],
                    ai := f.ai.map F1Ai.noWords, fi := { f.fi with pos := 1023 } }
  let f := match f.nextCfg with
    | none => f
    | some c =>
      let next (a : F1Ai × Nat) : F1Ai := if aiWordsIn f.cfg a.2 == aiWordsIn c a.2 then a.1 else a.1.restart tick
      F1.reconfigure { f with cfg := c, applied := true, nextCfg := none, ai := f.ai.zipIdx.map next } tick
  let f := match f.nextOut with
    | none => f
    | some (d, hs, ls) => { (f.setDo d).setSbo hs ls with nextOut := none }
  f.fadeFaults.noteOne tick

/-- The SVT-F1 goes into fail-safe (R347). -/
def F1.enterFailsafe (f : F1) (powerOn : Bool) : F1 :=
  let f := { f with failsafe := true, fsCause := if powerOn then 2 else 1, doF := 0, hs := false, ls := false,
                    nextOut := none, cntFs := f.cntFs + 1, goodRun := 0, shadow := 0 }
  if powerOn then { f with applied := false, dnSeen := false, evs := [], cfg := [] } else f

/-! ### Receiving a downstream frame (R340, R341, R343, R344) -/

/-- The frame is good: CRC, and SEQ and TICK follow the place of the frame before. A frame that was bad or missing has its
place too, or none after it could be good before SEQ and TICK came round (R340, R347; DEDUCED, log entry 193). -/
def F1.goodFrame (f : F1) (w : BitVec 200) : Bool :=
  frameCrcOk w && fld w 199 184 == 0xB5F2
    && (!f.dnSeen || (fld w 183 180 == (f.dnSeq + 1) % 16 && fld w 175 168 == (f.dnTick + 1) % 256))

/-- The timed event a field of a frame carries, on the tick scale. -/
def timedField (tick v : Nat) : Option TimedEv :=
  if v / 2 ^ 19 % 2 = 1 ∧ 2 ≤ v / 128 % 32 then
    some ⟨tick + v / 128 % 32, v % 128, v / 2 ^ 18 % 2, v / 2 ^ 13 % 32, v / 4096 % 2⟩
  else none

/-- Put a timed event into a list kept in the order of time. -/
def insertEv (e : TimedEv) : List TimedEv → List TimedEv
  | [] => [e]
  | x :: xs => if e.tick < x.tick ∨ (e.tick = x.tick ∧ e.pos < x.pos) then e :: x :: xs else x :: insertEv e xs

/-- A good frame of tick `tick`, built from the image `img`. -/
def F1.takeGood (f : F1) (w : BitVec 200) (tick : Nat) (img : List Word) : F1 :=
  let f := { f with badRun := 0, goodRun := f.goodRun + 1, dnSeen := true, dnSeq := fld w 183 180,
                    dnTick := fld w 175 168 }
  let f := { f with nextOut := some (fld w 167 160, fld w 159 156 == 0b1010, fld w 155 152 == 0b0101) }
  let evs := ((timedField tick (fld w 151 132)).toList ++ (timedField tick (fld w 131 112)).toList)
  let f := { f with evs := evs.foldl (fun l e => insertEv e l) f.evs }
  let f := if f.shadowCfg == img then { f with shadow := min (f.shadow + 1) 256 }
           else { f with shadow := 1, shadowCfg := img }
  if bitOf w 179 && decide (256 ≤ f.shadow) then { f with nextCfg := some f.shadowCfg } else f

/-- A bad or missing frame: its place passes, its word is lost to the shadow image. -/
def F1.takeBad (f : F1) (w : Option (BitVec 200)) : F1 :=
  let f := { f with badRun := f.badRun + 1, goodRun := 0, cntBad := f.cntBad + 1, shadow := 0 }
  match w with
  | some w => if frameCrcOk w then { f with dnSeen := true, dnSeq := fld w 183 180, dnTick := fld w 175 168 }
              else { f with dnSeq := (f.dnSeq + 1) % 16, dnTick := (f.dnTick + 1) % 256 }
  | none => { f with dnSeq := (f.dnSeq + 1) % 16, dnTick := (f.dnTick + 1) % 256 }

/-- A received word that differs from the active image between changes is repaired and counted (R344). -/
def F1.repair (f : F1) (w : BitVec 200) (img : List Word) : F1 :=
  if f.cfg == img && !(BitVec.ofNat 16 (fld w 103 88) == imageData img (fld w 111 104)) then
    { f with cntRepair := f.cntRepair + 1 }
  else f

/-! ### Inputs (R353 to R359) -/

/-- Insert an accepted edge in the order of position, then channel (R357). -/
def insertEdge (e : Nat × Nat × Nat) : List (Nat × Nat × Nat) → List (Nat × Nat × Nat)
  | [] => [e]
  | x :: xs => if e.2.2 < x.2.2 ∨ (e.2.2 = x.2.2 ∧ e.1 < x.1) then e :: x :: xs else x :: insertEdge e xs

/-- The comparator of DI `ch` changes at a time; a rising edge starts the wetting pulse, and terms that no longer see
their level go to HOLD_MS (R353 to R355). -/
def F1.compEdge (f : F1) (ch : Nat) (level : Bool) (ns : Nat) : F1 :=
  if bitOf f.comp ch == level then f else
  let f := { f with comp := setBit f.comp ch level, compAt := setAt f.compAt ch ns }
  let f := if level && bitOf (f.word (cfgDi + ch)) 19 && !bitOf f.wet ch then
      { f with wet := setBit f.wet ch true, wetEnd := setAt f.wetEnd ch (ns + 2000000) } else f
  (List.range 4).foldl (fun f j =>
    let t := f.word (cfgCut + j)
    if bitOf f.cutAct j && fld t 3 0 == ch && !(bitOf t 4 == level) then
      let hold := fld t 27 20
      { f with cutAct := setBit f.cutAct j false, cutHold := setBit f.cutHold j (decide (0 < hold)),
               cutEnd := setAt f.cutEnd j (ns / 1000 + 1000 * hold) }
    else f) f

/-- A filtered input stable for DEB_US is accepted (R356); `none` where that does not hold at the time. -/
def F1.accept (f : F1) (ch pos ns : Nat) : Option F1 :=
  let c := f.word (cfgDi + ch)
  let v := bitOf f.comp ch != bitOf c 20
  if bitOf c 31 && decide (getAt 0 f.compAt ch + 250 + 1000 * fld c 15 0 ≤ ns) && !(bitOf f.val ch == v) then
    some { f with val := setBit f.val ch v, edges := insertEdge (ch, b2n v, pos) f.edges }
  else none

end Sys2Proof.Machine
end

