-- ==== Sys2Proof/Machine/Field.lean ====
section
/-!
DEFINITION. Field groups from the SVT-C1 (chapter 14): downstream frames, configuration images, what an agreed upstream
frame tells, and the commands and events of FLD and FDG.
-/
namespace Sys2Proof.Machine

/-- A register of FDG page `g`. -/
def fdgA (g off : Nat) : Nat := pa (P.FDG + g) off

abbrev stFailsafe : Nat := 6
abbrev stLinkLost : Nat := 7

/-! ### What the output store commands -/

/-- What output slot `slot` carries: its force, or the committed value beneath it (R168). -/
def State.outVal (s : State) (slot : Nat) : DWord :=
  match s.exec.forces.find? fun f => f.1 == slot && f.2.1 with
  | some f => f.2.2
  | none => Sparse.get s.exec.outCur slot 0

/-- The same as a BOOL. -/
def State.outBit (s : State) (slot : Nat) : Bool := bitOf (s.outVal slot) 0

/-- The output binding of KIND 1 to a page and channel. -/
def State.outSlot (s : State) (page chan : Nat) : Option Nat :=
  (s.binds.find? fun b => b.kind == 1 && b.page == page && b.chan == chan).map (·.index)

/-- The committed BOOL of the output slot bound to a page and channel; 0 where none is bound. A channel that an
exchange left unbound keeps its value to the next boundary, one that no program drives in STOP stays as it is (R163,
R225). -/
def State.outTo (s : State) (page chan : Nat) : Bool :=
  match s.outSlot page chan with
  | some i => s.outBit i
  | none => match (s.swap.leaving ++ s.exec.kept).find? fun x => x.1 == page && x.2.1 == chan with
    | some x => bitOf x.2.2 0
    | none => false

/-- The program binds timed output `t` (R299). -/
def State.toutBound (s : State) (t : Nat) : Bool :=
  s.binds.any fun b => b.kind == 3 && b.page == P.TCAP && b.chan == t

/-- The timed output that drives DO `i`. -/
def State.doTout (s : State) (i : Nat) : Option Nat :=
  (List.range 32).find? fun t => s.regB (toutA t) 16 && s.regF (toutA t) 4 0 == i && s.toutBound t

/-- The command of DO `i` before safety: the timed output that drives it, or the committed output (R362). -/
def State.doWanted (s : State) (i : Nat) : Bool :=
  match s.doTout i with
  | some t => (s.tout t).cur
  | none => s.outTo (P.FLD + i / 8) (i % 8)

/-- A BOOL as an output word. -/
def outWord (b : Bool) : DWord := BitVec.ofNat 64 (b2n b)

/-- The field output that a binding drives: page and channel of its slot, or of the DO its timed output names. -/
def State.drives (s : State) (b : Binding) : Option (Nat × Nat) :=
  if b.kind = 1 then some (b.page, b.chan)
  else if bindTout b = true ∧ s.regB (toutA b.chan) 16 = true then
    some (P.FLD + s.toutDo b.chan / 8, s.toutDo b.chan % 8)
  else none

/-- The current committed value of an output channel under the program's bindings (R225). -/
def State.committed (s : State) (page chan : Nat) : DWord :=
  if P.FLD ≤ page ∧ page ≤ P.FLD + 3 ∧ (s.doTout (8 * (page - P.FLD) + chan)).isSome then
    outWord (s.doWanted (8 * (page - P.FLD) + chan))
  else match s.outSlot page chan with
    | some i => Sparse.get s.exec.outCur i 0
    | none => match s.exec.kept.find? fun x => x.1 == page && x.2.1 == chan with
      | some x => x.2.2
      | none => outWord (s.outTo page chan)

/-- The current output store under new bindings: a channel keeps its committed value, whatever drove it (R225). -/
def carriedOutputs (s : State) (new : List Binding) : List (Nat × DWord) :=
  new.foldl (fun m b => if b.kind = 1 then Sparse.put m b.index (s.committed b.page b.chan) 0 else m) []

/-- Output channels whose value a force gives, with it (R168). -/
def State.forcedOuts (s : State) : List (Nat × Nat × DWord) :=
  (s.binds.filterMap fun b => if b.kind = 1 then
    (s.exec.forces.find? fun f => f.1 == b.index && f.2.1).map fun f => (b.page, b.chan, f.2.2) else none)
    ++ s.swap.leaving

/-- Output channels with a value other than 0 that new bindings do not drive. -/
def State.keptOutputs (s : State) (new : List Binding) : List (Nat × Nat × DWord) :=
  let chans := (s.binds.filterMap s.drives ++ s.exec.kept.map fun x => (x.1, x.2.1)).eraseDups
  let left := chans.filter fun x => !(new.any fun c => s.drives c == some x)
  (left.map fun x => (x.1, x.2, s.committed x.1 x.2)).filter fun x => !(x.2.2 == 0)

/-- Path X forces a member DO to 0 unless its group is RELEASED (R396). -/
def State.doSafe (s : State) (i : Nat) : Bool :=
  match s.doGroup i with
  | some g => s.released g && s.doWanted i
  | none => s.doWanted i

/-- The DO field of the frame of group `g`; from release to the first output commit every bit is 0 (R474). -/
def State.doField (s : State) (g : Nat) : Nat :=
  if s.boot.outputsHeld then 0 else
  (List.range 8).foldl (fun a c => a + (if s.doSafe (8 * g + c) then 2 ^ c else 0)) 0

/-- Group state as path Y holds it (R393). -/
def State.pathYReleased (s : State) (g : Nat) : Bool := getAt 0 s.safety.pathY g == grpReleased

/-- The condition of R400 as path X (`y = false`) or path Y computes it, before tests. -/
def State.sboWanted (s : State) (i : Nat) (y : Bool) : Bool :=
  match s.sboGroup i with
  | some g => (if y then s.pathYReleased g else s.released g) && s.outTo P.SBO i
  | none => false

/-- The switches SBO `i` is commanded to close, with what a test step does to them (R400, R402, R403). -/
def State.sboCodes (s : State) (i : Nat) : Bool × Bool :=
  let t := s.sboTest i
  let hs := s.sboWanted i false
  let ls := s.sboWanted i true
  if !s.regB (fldA i R.FLD_SBO_CFG) 31 || s.boot.outputsHeld then (false, false)
  else if t.phase = 1 then (if t.energised then (false, ls) else (true, false))
  else if t.phase = 3 then (if t.energised then (hs, false) else (false, true))
  else if t.phase = 11 then (true, false)
  else if t.phase = 12 then (false, true)
  else if t.phase = 13 then (true, true)
  else if t.phase = 14 then (false, false)
  else (hs, ls)

/-- The two code fields of a frame (R341, R400). -/
def sboHsCode (close : Bool) : Nat :=
  if close then 0b1010 else if Config.openCodeX = 0b1010#4 then 0 else Config.openCodeX.toNat
def sboLsCode (close : Bool) : Nat :=
  if close then 0b0101 else if Config.openCodeY = 0b0101#4 then 0 else Config.openCodeY.toNat

/-! ### Configuration images (R344) -/

/-- The register words the image of group `g` is built from now; a page that is off stops its channels (R391). -/
def fieldWords (g : Nat) (s : State) : List Word :=
  let a (off : Nat) : Word := if s.en P.MEASA then s.reg (R.MEASA_AI_CFG + 64 * g + off) else 0
  let f (off : Nat) : Word := if s.en P.MEASF then s.reg (R.MEASF_FI_CFG + 32 * g + off) else 0
  [s.reg (fldA g R.FLD_CFG)] ++ (List.range 16).map (fun c => s.reg (fldA g (R.FLD_DI_CFG + 4 * c)))
    ++ (List.range 8).map (fun c => s.reg (fldA g (R.FLD_DO_CFG + 4 * c)))
    ++ [s.reg (fldA g R.FLD_SBO_CFG)] ++ (List.range 4).map (fun j => s.reg (fldA g (R.FLD_CUT_TERM + 4 * j)))
    ++ [a 0, a 4, a 32, a 36, f 0, if s.en P.MEASA then s.reg R.MEASA_MEAS_CFG else 0,
        BitVec.ofNat 32 (s.regF (fldA g R.FLD_LINK_STAT) 3 0)]
    ++ [a 8, a 12, a 16, a 20, a 24, a 40, a 44, a 48, a 52, a 56, f 4, f 8, f 12]

/-- A new image is adopted, and its pass counted from tick `ta`. -/
def adoptImage (g ta : Nat) (s : State) : State :=
  let s := s.setB (fldA g R.FLD_STAT) 10 true
  updGroup g (fun x => { x with cfgCur := fieldWords g s, cfgTa := some ta, cfgSent := none }) s

/-- The boundary on tick `tb`: a changed image is adopted, a pending one gets APPLY once its pass has been sent; during
bring-up only a pass that APPLY has found wanting is counted anew. -/
def imageBoundary (tb g : Nat) (s : State) : State :=
  let x := s.grp g
  if !x.dnOn then s
  else if x.bringup then
    if s.regB (fldA g R.FLD_STAT) 10 && x.cfgTa.isNone && x.cfgSent.isNone then updGroup g (fun x => { x with cfgTa := some tb }) s
    else s
  else if !(fieldWords g s == x.cfgCur) then adoptImage g tb s
  else match x.cfgTa with
    | some ta => if ta + 256 ≤ tb then updGroup g (fun x => { x with applyNext := true }) s else s
    | none =>
      if s.regB (fldA g R.FLD_STAT) 10 && x.cfgSent.isNone then updGroup g (fun x => { x with cfgTa := some tb }) s
      else s

/-! ### Downstream frames (R340, R341, R343) -/

/-- A timed event as the frame of tick `k` carries it; one that is late goes out with TICKS = 2, POS = 0. -/
def eventField (k : Nat) (e : TimedEv) : Nat :=
  let late := decide (e.tick < k + 2)
  2 ^ 19 + 2 ^ 18 * (e.kind % 2) + 2 ^ 13 * (e.target % 32) + 2 ^ 12 * (e.value % 2)
    + 128 * (if late then 2 else e.tick - k) + (if late then 0 else e.pos % 125)

/-- The events the frame of tick `k` takes from the queue, and those that stay. -/
def takeEvents (k n : Nat) (q : List TimedEv) : List TimedEv × List TimedEv :=
  let ready := (q.filter fun e => decide (e.tick ≤ k + 31)).take n
  (ready, q.filter fun e => !ready.contains e)

/-- The frame of the tick `k` that starts now. -/
def downFrame (k g : Nat) (evs : List TimedEv) (s : State) : BitVec 200 :=
  let x := s.grp g
  let (hs, ls) := s.sboCodes g
  withCrc (putFields (0 : BitVec 200) [
    (199, 184, 0xB5F2), (183, 180, x.dnSeq), (179, 176, 8 * b2n x.applyNext + 4 * b2n x.bringup),
    (175, 168, k % 256), (167, 160, s.doField g), (159, 156, sboHsCode hs), (155, 152, sboLsCode ls),
    (151, 132, match evs[0]? with | some e => eventField k e | none => 0),
    (131, 112, match evs[1]? with | some e => eventField k e | none => 0),
    (111, 104, x.cfgPos), (103, 88, (imageData x.cfgCur x.cfgPos).toNat)])

/-- Tick `k` starts: the SVT-C1 sends the frame of group `g`. During bring-up APPLY follows a full image. -/
def sendDown (k g : Nat) (s : State) : State :=
  if !(s.grp g).dnOn then s else
  let s := match (s.grp g).bringup, (s.grp g).cfgTa with
    | true, some ta => if ta + 256 < k then updGroup g (fun x => { x with applyNext := true }) s else s
    | _, _ => s
  let x := s.grp g
  let ver := s.regF (fldA g R.FLD_LINK_STAT) 3 0
  let (evs, rest) := takeEvents k (min ver 2) x.queue
  let late := (evs.filter fun e => decide (e.tick < k + 2)).length
  let f := downFrame k g evs s
  let codes := s.sboCodes g
  let s := s.bumpBy (fldA g R.FLD_TEV_LATE_CNT) late
  let s := s.setF (fldA g R.FLD_DO_STATE) 7 0 (s.doField g)
  let s := s.setF (fldA g R.FLD_SBO_STAT) 1 0 (b2n codes.1 + 2 * b2n codes.2)
  updGroup g (fun x => { x with dnFrame := f, dnSeq := (x.dnSeq + 1) % 16, cfgPos := (x.cfgPos + 1) % 256,
                                queue := rest, applyNext := false,
                                cfgTa := if x.applyNext then none else x.cfgTa,
                                cfgSent := if x.applyNext then some k else x.cfgSent }) s

/-- The interlock gate removes the output power of the groups (R339). -/
def State.gated (s : State) : Bool := !s.regB R.PART_STAT 9

/-- Tick `k` starts in the SVT-F1 of group `g`. -/
def f1Tick (k g : Nat) (s : State) : State := updF1 g (fun f => f.tick g k s.gated) s

/-! ### Diagnostic fields (R365, R370) -/

/-- A map gains bits: its interrupt (R370). -/
def mapGain (g bit old new : Nat) (s : State) : State :=
  if new &&& ((2 ^ 32 - 1) ^^^ old) = 0 then s else irqSet (P.FDG + g) bit s

/-- FAULT_SUM from the maps. -/
def faultSum (g : Nat) (s : State) : State :=
  let f28 := s.regN (fdgA g R.FDG_SBO_DIAG)
  s.setRegN (fdgA g R.FDG_FAULT_SUM)
    (b2n (!(s.regN (fdgA g R.FDG_DI_OW_MAP) == 0)) + 2 * b2n (!(s.regN (fdgA g R.FDG_DO_FAULT_MAP) == 0))
      + 4 * b2n (!(f28 / 16 % 8 == 0)) + 8 * b2n (!(s.regF (fldA g R.FLD_STAT) 9 8 == 0))
      + 16 * b2n (s.regB (fldA g R.FLD_STAT) 4))

/-- Signed comparison of 16-bit fields. -/
def sGt16 (a b : Nat) : Bool := decide (toSigned 16 b < toSigned 16 a)

/-- Thermal state and VF_LOW from field 3 (R364, R339). -/
def diagField3 (g v : Nat) (s : State) : State :=
  let old := s.regF (fldA g R.FLD_STAT) 9 8
  let t := v % 4
  let s := s.setF (fldA g R.FLD_STAT) 9 8 t
  let s := if old = 0 ∧ t ≠ 0 then irqSet (P.FLD + g) 13 (s.bump (fdgA g R.FDG_THERM_CNT)) else s
  let vf := v / 4 % 2 == 1
  let was := s.regB (fldA g R.FLD_STAT) 4
  let s := s.setB (fldA g R.FLD_STAT) 4 vf
  if vf && !was then recordErr (P.FLD + g) 0x42 srcHardware g (irqSet (P.FLD + g) 12 s) else s

/-- A DO's diagnostic field (R361). -/
def diagDo (g c v : Nat) (s : State) : State :=
  let old := getAt 0 (s.grp g).raw (20 + c)
  let rose (b : Nat) : Bool := v.testBit b && !old.testBit b
  let s := if rose 1 then tally (5 + g) (s.bump (fldA g (R.FLD_DO_OVL_CNT + 4 * c))) else s
  let s := if rose 3 || rose 4 then tally (5 + g) (s.bump (fldA g (R.FLD_DO_OPEN_CNT + 4 * c))) else s
  let s := s.setB (fldA g R.FLD_DO_STATE) (8 + c) (v.testBit 0)
  let s := s.setB (fldA g R.FLD_DO_STATE) (16 + c) (v.testBit 2)
  let was := s.regN (fdgA g R.FDG_DO_FAULT_MAP)
  let s := s.setB (fdgA g R.FDG_DO_FAULT_MAP) c (v.testBit 1 || v.testBit 2)
  let s := s.setB (fdgA g R.FDG_DO_FAULT_MAP) (8 + c) (v.testBit 3 || v.testBit 4)
  let s := s.setB (fdgA g R.FDG_DO_FAULT_MAP) (16 + c) (v.testBit 5)
  mapGain g 9 was (s.regN (fdgA g R.FDG_DO_FAULT_MAP)) s

/-- The SBO's diagnostic field 28. -/
def diagSbo (g v : Nat) (s : State) : State :=
  let old := getAt 0 (s.grp g).raw 28
  let s := s.setRegN (fdgA g R.FDG_SBO_DIAG) v
  let s := forN 3 (fun b t => if v.testBit (4 + b) && !old.testBit (4 + b) then tally (5 + g) t else t) s
  mapGain g 10 (old / 16 % 8) (v / 16 % 8) s

/-- Field 0 during bring-up fixes the link version, and the full image is sent (R345, R346). -/
def diagVersion (g v : Nat) (s : State) : State :=
  let s := s.setRegN (fdgA g R.FDG_F1_ID) v
  let s := if s.regF R.BOOT_STAT 3 0 = 1 ∧ s.regF R.DEV_F1_REV (8 * g + 7) (8 * g) = 0 then
      s.setF R.DEV_F1_REV (8 * g + 7) (8 * g) (v % 256) else s
  let hi := v / 256 % 16
  let s := s.setF (fldA g R.FLD_LINK_STAT) 7 4 hi
  if (s.grp g).bringup && s.regF (fldA g R.FLD_LINK_STAT) 3 0 == 0 then
    if hi = 0 then
      let s := s.setPgState (P.FLD + g) stFault
      recordErr (P.FLD + g) cVersion srcHardware g (updGroup g (fun x => { x with bringup := false }) s)
    else adoptImage g s.now (s.setF (fldA g R.FLD_LINK_STAT) 3 0 (min hi 2))
  else s

/-- Field 37 of content tick `k`: CFG_MATCH, and a new pass after an APPLY that did not match (R344). -/
def diagCrc (g k v : Nat) (s : State) : State :=
  let x := s.grp g
  let same := BitVec.ofNat 16 v == imageCrc x.cfgCur
  let s := s.setB (fldA g R.FLD_STAT) 7 same
  match x.cfgSent with
  | some t =>
    if k < t + 2 then s
    else if same then
      updGroup g (fun x => { x with cfgSent := none }) (s.setB (fldA g R.FLD_STAT) 10 false)
    else recordErr (P.FLD + g) 0x43 srcHardware g (updGroup g (fun x => { x with cfgSent := none }) s)
  | none => s

/-- A diagnostic field reaches FDG from an agreed tick `k` (R365, R370). -/
def takeDiag (g k i v : Nat) (s : State) : State :=
  let old := getAt 0 (s.grp g).raw i
  let s :=
    if i = 0 then diagVersion g v s
    else if i = 1 then
      let s := s.setRegN (fdgA g R.FDG_TEMP_NOW) v
      let s := if sGt16 v (s.regN (fdgA g R.FDG_TEMP_MAX)) then s.setRegN (fdgA g R.FDG_TEMP_MAX) v else s
      if sGt16 (s.regN (fdgA g R.FDG_TEMP_MIN)) v then s.setRegN (fdgA g R.FDG_TEMP_MIN) v else s
    else if i = 2 then
      let s := if v < s.regN (fdgA g R.FDG_VF_MIN) then s.setRegN (fdgA g R.FDG_VF_MIN) v else s
      s.maxReg (fdgA g R.FDG_VF_MAX) v
    else if i = 3 then diagField3 g v s
    else if i < 20 then
      let was := s.regN (fdgA g R.FDG_DI_OW_MAP)
      let s := s.setB (fdgA g R.FDG_DI_OW_MAP) (i - 4) (v.testBit 2)
      let s := if v.testBit 2 && !old.testBit 2 then tally (5 + g) s else s
      mapGain g 8 was (s.regN (fdgA g R.FDG_DI_OW_MAP)) s
    else if i < 28 then diagDo g (i - 20) v s
    else if i = 28 then diagSbo g v s
    else if i = 29 then (s.setRegN (fdgA g R.FDG_VALVE_MA) (v % 4096)).maxReg (fdgA g R.FDG_VALVE_MA_MAX) (v % 4096)
    else if i = 34 then s.bumpBy (fldA g R.FLD_DN_BAD_CNT) ((v + 65536 - old) % 65536)
    else if i = 35 then s.bumpBy (fldA g R.FLD_DN_REPAIR_CNT) ((v + 65536 - old) % 65536)
    else if i = 37 then diagCrc g k v s
    else s
  let s := s.setRegN (fdgA g (R.FDG_DIAG + 4 * i)) v
  let s := updGroup g (fun x => { x with diagTick := setAt x.diagTick i (some s.now), raw := setAt x.raw i v,
                                         seen := setAt x.seen i true }) s
  let s := s.setF (fdgA g R.FDG_ROT_STAT) 5 0 i
  let s := if i = 63 then (s.setF (fdgA g R.FDG_ROT_STAT) 15 8 (v % 256)).bump (fdgA g R.FDG_ROT_PASS_CNT) else s
  faultSum g s

/-! ### An agreed upstream frame (R342, R347, R349, R357, R358) -/

/-- FLDg serves its group: the link is up. -/
def State.fldUp (s : State) (g : Nat) : Bool :=
  s.pgState (P.FLD + g) == stActive || s.pgState (P.FLD + g) == stFailsafe

/-- The page state after the agreed frame of content tick `k` (R347, R349). -/
def fldAgreed (g k lstat : Nat) (s : State) : State :=
  let st := s.pgState (P.FLD + g)
  let fs := lstat / 8 % 2 == 1
  let s := s.setB (fldA g R.FLD_STAT) 1 fs
  let s := updGroup g (fun x => { x with invalid := false, fsSeen := x.fsSeen || fs }) s
  if st = stActive ∨ st = stLinkLost ∨ st = stFailsafe then
    let s := s.setPgState (P.FLD + g) (if fs then stFailsafe else stActive)
    let s := (s.setB (fldA g R.FLD_STAT) 0 true).setB (fldA g R.FLD_STAT) 5 fs
    if fs && !(st == stFailsafe) then
      let s := (tally (5 + g) (s.bump (fldA g R.FLD_FAILSAFE_CNT))).setReg64 (fldA g R.FLD_FS_TICK_LO) k
      recordErr (P.FLD + g) 0x41 srcHardware g (irqSet (P.FLD + g) 8 s)
    else s
  else s

/-- SAFE_OFF, CUT and OUT_GATED on the page (R351, R353). -/
def fldFlags (g lstat : Nat) (s : State) : State :=
  let so := lstat / 2 % 2 == 1
  let cut := lstat / 4 % 2 == 1
  let s := if so && !s.regB (fldA g R.FLD_STAT) 2 then
      irqSet (P.FLD + g) 10 (s.bump (fldA g R.FLD_SAFEOFF_CNT)) else s
  let s := s.setB (fldA g R.FLD_STAT) 2 so
  let s := if cut && !s.regB (fldA g R.FLD_STAT) 3 then irqSet (P.FLD + g) 11 s else s
  s.setB (fldA g R.FLD_STAT) 3 cut

/-- The value of DI `c` may be used: enabled, no open wire, the group valid (R347, R358, R359). -/
def diValid (g c : Nat) (s : State) : Bool :=
  !(s.grp g).invalid && !((s.grp g).lstat / 8 % 2 == 1)
    && !(s.regB (fldA g (R.FLD_DI_CFG + 4 * c)) 18 && (getAt 0 (s.grp g).raw (4 + c)).testBit 2)

/-- The quality word of a DI edge's value. -/
def diEventQual (g c : Nat) (s : State) : Nat :=
  (if diValid g c s then 0x0005 else 0x000C) + 64 * b2n (bitOf (s.grp g).q2 c)

/-- An accepted edge of DI `c` in content tick `k`: counted, and a class 4 event where enabled (R357, R358). -/
def diEdge (g k c : Nat) (rise : Bool) (pos : Option Nat) (s : State) : State :=
  let a := fldA g (R.FLD_DI_CFG + 4 * c)
  let s := s.bump (fldA g (R.FLD_DI_EDGE_CNT + 4 * c))
  let s := if pos.isNone then s.bump (fldA g R.FLD_EDGE_LOST_CNT) else s
  let ts := match pos with
    | some p => s.starter.prevNs + 8 * p + 2 ^ 64 - 1000 * s.regF a 15 0 - 250
    | none => s.starter.prevNs
  if s.regB a 31 && s.regB a (if rise then 21 else 22) && !((s.grp g).lstat / 8 % 2 == 1) then
    raiseAt k 4 (16 * g + c) ts (b2n rise + 2 * b2n pos.isNone) (diEventQual g c s) s
  else s

/-- The edge slots of a frame, in order. -/
def frameEdges (f : BitVec 224) : List (Nat × Bool × Nat) :=
  (List.range 3).filterMap fun j =>
    let v := fld f (157 + 13 * j) (145 + 13 * j)
    if 4096 ≤ v then some (v / 256 % 16, v / 128 % 2 == 1, v % 128) else none

/-- The edge with a slot stands before the start of its tick: its debounce began in an earlier one (R357). -/
def State.edgeEarly (s : State) (g : Nat) (e : Nat × Bool × Nat) : Bool :=
  decide (8 * e.2.2 ≤ 1000 * s.regF (fldA g (R.FLD_DI_CFG + 4 * e.1)) 15 0 + 250)

/-- Edges of content tick `k`: those with a slot, and changes of the DI field beyond them with STAMP_LOST, whose time
is the start of the tick (R357). The edges of a channel come in the order of their time stamps (R77). -/
def takeEdges (g k : Nat) (old new : BitVec 16) (slots : List (Nat × Bool × Nat)) (s : State) : State :=
  let stamped (es : List (Nat × Bool × Nat)) (t : State) : State :=
    es.foldl (fun t e => diEdge g k e.1 e.2.1 (some e.2.2) t) t
  let lost (t : State) : State := forN 16 (fun c t =>
    let n := (slots.filter fun e => e.1 == c).length
    let expect := if n % 2 = 1 then !bitOf old c else bitOf old c
    if expect == bitOf new c then t else diEdge g k c (bitOf new c) none t) t
  stamped (slots.filter fun e => !s.edgeEarly g e) (lost (stamped (slots.filter fun e => s.edgeEarly g e) s))

/-- The levels from which the edges with a slot alone lead to the levels of a frame: before the first agreed frame none are
known. -/
def edgesExplain (new : BitVec 16) (slots : List (Nat × Bool × Nat)) : BitVec 16 :=
  slots.foldl (fun v e => setBit v e.1 (!bitOf v e.1)) new

/-- DI levels, LSTAT, SBO and diagnostic field of the agreed frame of content tick `k`. -/
def takeFrame (g k : Nat) (f : BitVec 224) (q2 : BitVec 16) (s : State) : State :=
  let lstat := fld f 203 200
  let new : BitVec 16 := BitVec.ofNat 16 (fld f 199 184)
  let old := (s.grp g).di
  let first := decide ((s.grp g).age = 256)
  let sbo := fld f 47 44
  let s := updGroup g (fun x => { x with di := new, q2 := q2, fresh := true, lstat := lstat, sboUp := sbo,
                                         age := if x.age = 256 then 255 else x.age }) s
  let s := fldFlags g lstat (fldAgreed g k lstat s)
  let s := s.setRegN (fldA g R.FLD_DI_LEVEL) new.toNat
  let s := s.setF (fldA g R.FLD_SBO_STAT) 5 2 sbo
  let s := takeEdges g k (if first then edgesExplain new (frameEdges f) else old) new (frameEdges f) s
  takeDiag g k (fld f 43 38) (fld f 37 22) s

/-- A held tick of group `g`: its diagnostic field is not taken (R370). -/
def heldFrame (g : Nat) (s : State) : State :=
  if (s.grp g).dnOn then s.bump (fdgA g R.FDG_DIAG_HELD_CNT) else s

/-- HOLD_LIMIT held ticks: the page enters LINK_LOST and the group's values are invalid (R349). -/
def linkLost (g : Nat) (s : State) : State :=
  let s := updGroup g (fun x => { x with invalid := true }) s
  if s.fldUp g then
    let s := (s.setPgState (P.FLD + g) stLinkLost).setB (fldA g R.FLD_STAT) 0 false
    irqSet (P.FLD + g) 9 (s.setB (fldA g R.FLD_STAT) 5 true)
  else s

/-! ### Link events (R340, R345, R347, R348) -/

/-- A downstream frame reaches the SVT-F1 of group `g`, or is missing. -/
def downRx (g : Nat) (w : Option (BitVec 200)) (s : State) : State :=
  let x := s.grp g
  match w with
  | some v => if x.f1.goodFrame v then
        updF1 g (fun f => (if v == x.dnFrame then f else f.repair v x.cfgCur).takeGood v s.now x.cfgCur) s
      else updF1 g (fun f => f.takeBad w) s
  | none => updF1 g (fun f => f.takeBad none) s

/-- FAILSAFE_ENTRY: after four bad or missing frames in a row, or at the SVT-F1's own power-on (R345, R347). -/
def failsafe (g : Nat) (powerOn : Bool) (s : State) : State :=
  let f := (s.grp g).f1
  if powerOn || (decide (4 ≤ f.badRun) && !f.failsafe) then updF1 g (fun f => f.enterFailsafe powerOn) s else s

/-- BRINGUP_COMPLETE: an applied image and 16 good frames end bring-up or, unless latched, fail-safe (R345, R348). -/
def bringupDone (g : Nat) (s : State) : State :=
  let x := s.grp g
  let f := x.f1
  if !(f.applied && decide (16 ≤ f.goodRun) && f.failsafe) then s
  else if bitOf (f.word 0) 1 && !x.bringup then s
  else
    let s := updF1 g (fun f => { f with failsafe := false, ai := f.ai.map (F1Ai.restart (s.now + 1)) }) s
    if x.bringup then
      let s := updGroup g (fun x => { x with bringup := false }) s
      let s := s.setB (fldA g R.FLD_STAT) 0 true
      s.setPgState (P.FLD + g) stActive
    else s

/-- BRINGUP_TIMEOUT: not complete within 10 ms (R345). -/
def bringupLate (g : Nat) (s : State) : State :=
  let x := s.grp g
  if x.bringup && decide (x.enTick + 10000 ≤ s.now) then
    let s := (updGroup g (fun x => { x with bringup := false }) s).setPgState (P.FLD + g) stFault
    recordErr (P.FLD + g) 0x40 srcHardware g s
  else s

/-- Bring-up starts (R345, R348). -/
def bringup (g : Nat) (s : State) : State :=
  let s := s.setF (fldA g R.FLD_LINK_STAT) 3 0 0
  updGroup g (fun x => { x with dnOn := true, bringup := true, enTick := s.now, cfgTa := none, cfgSent := none,
                                applyNext := false }) (s.setPgState (P.FLD + g) stInit)

/-- PG_CTRL.EN of FLDg goes from 0 to 1 (R345): the SVT-F1 starts in fail-safe. -/
def fldStart (g : Nat) (s : State) : State :=
  bringup g (updGroup g (fun x => { x with age := 256, fresh := false, invalid := false, fsSeen := false,
                                           f1 := x.f1.enterFailsafe true }) s)

/-- The downstream link stops and the page goes to a state: OFF at EN = 0 and reset, FAULT at a parity error. The group's
values keep their age and carry Q_VALID = 0 and their substitute (R369). -/
def fldStop (g st : Nat) (s : State) : State :=
  let s := updGroup g (fun x => { x with dnOn := false, bringup := false, cfgTa := none, cfgSent := none,
                                         applyNext := false, queue := [], invalid := true,
                                         fresh := false }) s
  let s := s.setRegN (fldA g R.FLD_STAT) (s.regN (fldA g R.FLD_STAT) / 64 % 2 * 64)
  let s := forN 32 (fun t u => if u.toutDo t / 8 = g then cancelTout t u else u) s
  if s.regB (pa (P.FLD + g) H.PARITY) 0 then s.setPgState (P.FLD + g) st else s.putPgState (P.FLD + g) st

/-! ### Events of the SVT-F1 -/

/-- Nanoseconds on the tick scale. -/
def State.tickTime (s : State) (pos : Nat) : Nat := 1000 * s.now + 8 * pos

/-- An analogue input starts a conversion at `t`, or ignores the trigger (R379, R380). -/
def F1Ai.trigger (a : F1Ai) (t : Nat) : F1Ai :=
  let early := match a.trig with | some x => decide (t < x + 100000) | none => false
  if a.busy.isSome || early then
    if a.trig == some t then a else { a with ign := a.ign + 1 }
  else { a with busy := some t, trig := some t }

/-- Input `n` of a configuration answers a trigger of compare channel `ch` (R380). -/
def aiAnswers (cfg : List Word) (n ch : Nat) : Bool :=
  let w (j : Nat) : Word := getAt 0 cfg j
  let tr := w (cfgAi + 2 * n + 1)
  fld (w (cfgAi + 2 * n)) 1 0 == 2
    && ((bitOf tr 1 && fld tr 12 8 == ch)
        || (bitOf tr 0 && bitOf (w cfgMeas) 7 && fld (w cfgMeas) 4 0 == ch))

/-- Input `n` of an SVT-F1 answers a trigger of compare channel `ch`. -/
def F1.aiListens (f : F1) (n ch : Nat) : Bool := aiAnswers f.cfg n ch

/-- A timed event waits for its frame, in the order of time (R343). -/
def enqueue (g : Nat) (e : TimedEv) : State → State := updGroup g fun x => { x with queue := insertEv e x.queue }

/-- A trigger of compare channel `ch` goes to the groups with an input that answers it (R343, R380). -/
def sendTrigger (tick pos ch : Nat) (s : State) : State :=
  forN 4 (fun g t => if aiAnswers (t.grp g).cfgCur 0 ch || aiAnswers (t.grp g).cfgCur 1 ch then
    enqueue g ⟨tick, pos, 1, ch, 0⟩ t else t) s

/-- TIMED_EVENT: the earliest event the SVT-F1 holds reaches its time (R343). -/
def timedEvent (g : Nat) (s : State) : State :=
  match (s.grp g).f1.evs with
  | [] => s
  | e :: es =>
    if s.now < e.tick then s else
    updF1 g (fun f =>
      let f := { f with evs := es }
      if e.kind = 0 then
        f.setDo (if e.value = 1 then f.cmdDo ||| 2 ^ (e.target % 8) else f.cmdDo &&& (255 ^^^ 2 ^ (e.target % 8)))
      else { f with ai := (List.range 2).map fun n =>
               let a := getAt f1AiZero f.ai n
               if f.aiListens n e.target then a.trigger (1000 * e.tick + 8 * e.pos) else a }) s

/-- The C1 asserts the SAFE_OFF line of group `g`. -/
def State.lineOff (s : State) (g : Nat) : Bool := !(s.regF (fldA g R.FLD_SAFEOFF_STAT) 2 1 == 0)

/-- SAFE_OFF_ASSERTED: the SVT-F1 has seen 200 ns without toggle, by assertion or by a break of the line (R351). -/
def safeOffSeen (g : Nat) (s : State) : State :=
  if (s.grp g).f1.safeOff then s else updF1 g (fun f => { f with safeOff := true }) s

/-- SAFE_OFF_RELEASED: 10 µs of toggle (R351). -/
def safeOffGone (g : Nat) (s : State) : State :=
  let f := (s.grp g).f1
  if f.safeOff && !s.lineOff g && decide (f.toggleSince + 10 ≤ s.now) then updF1 g (fun f => { f with safeOff := false }) s
  else s

/-- SAFE_OFF_TIMED_RELEASE: the safety unit releases the line 10 µs after it asserted it (R351). -/
def safeOffTimed (g : Nat) (s : State) : State :=
  match (s.grp g).offUntil with
  | some t =>
    if t ≤ s.now ∧ !s.halted then
      let s := s.setB (fldA g R.FLD_SAFEOFF_STAT) 2 false
      updGroup g (fun x => { x with offUntil := none, f1 := { x.f1 with toggleSince := s.now } }) s
    else s
  | none => s

/-- A cut acts on a member of a released group: the group takes its safe state at once (R394). -/
def cutGroups (g : Nat) (t : Word) (s : State) : State :=
  forN 8 (fun sg u =>
    if (bitOf t 16 && u.sboMember sg g) || ((List.range 8).any fun c => bitOf t (8 + c) && u.doMember sg (8 * g + c))
    then groupSafe sg u else u) s

/-- CUT_TERM_ACT (R353, R394). -/
def cutAct (g j : Nat) (s : State) : State :=
  let f := (s.grp g).f1
  let t := f.word (cfgCut + j)
  if bitOf t 31 && bitOf f.comp (fld t 3 0) == bitOf t 4 && !bitOf f.cutAct j then
    let s := updF1 g (fun f => { f with cutAct := setBit f.cutAct j true, cutHold := setBit f.cutHold j false }) s
    cutGroups g t (s.bump (fldA g R.FLD_CUT_CNT))
  else s

/-- CUT_HOLD_END (R353). -/
def cutRelease (g j : Nat) (s : State) : State :=
  let f := (s.grp g).f1
  if bitOf f.cutHold j && decide (getAt 0 f.cutEnd j ≤ s.now) then
    updF1 g (fun f => { f with cutHold := setBit f.cutHold j false }) s
  else s

/-- DI_EDGE_ACCEPT (R356). -/
def diAccept (g ch pos : Nat) (s : State) : State :=
  match (s.grp g).f1.accept ch pos (s.tickTime pos) with
  | some f => updF1 g (fun _ => f) s
  | none => s

/-- WETTING_END (R355). -/
def wettingEnd (g ch : Nat) (s : State) : State :=
  let f := (s.grp g).f1
  if bitOf f.wet ch && decide (getAt 0 f.wetEnd ch ≤ 1000 * s.now + 999) then
    updF1 g (fun f => { f with wet := setBit f.wet ch false }) s
  else s

/-- DI_OPEN_WIRE (R359). -/
def diOpenWire (g ch : Nat) (open_ : Bool) (s : State) : State :=
  if bitOf ((s.grp g).f1.word (cfgDi + ch)) 18 then
    updF1 g (fun f => { f with openWire := setBit f.openWire ch open_ }) s
  else s

/-- DO_OVERLOAD (R361): with OVL_TRIP the DO trips. -/
def doOverload (g ch : Nat) (s : State) : State :=
  let f := (s.grp g).f1
  if f.doOn ch then
    updF1 g (fun f => { f with ovl := setBit f.ovl ch true,
                               trip := if bitOf (f.word (cfgDo + ch)) 2 then setBit f.trip ch true else f.trip }) s
  else s

/-- DO_OPEN_WIRE_ON (R361): reported while the DO is on and OW_ON = 1. -/
def doOpenOn (g ch : Nat) (open_ : Bool) (s : State) : State :=
  let f := (s.grp g).f1
  if bitOf (f.word (cfgDo + ch)) 1 && f.doOn ch then
    updF1 g (fun f => { f with owOn := setBit f.owOn ch open_ }) s
  else s

/-- DO_OPEN_WIRE_OFF (R361): reported while the DO is off and OW_OFF = 1. -/
def doOpenOff (g ch : Nat) (open_ : Bool) (s : State) : State :=
  let f := (s.grp g).f1
  if bitOf (f.word (cfgDo + ch)) 0 && !f.doOn ch then
    updF1 g (fun f => { f with owOff := setBit f.owOff ch open_ }) s
  else s

/-- SBO_SWITCH_LIMIT: one switch open for 300 µs while the other is closed (R363). -/
def sboLimit (g : Nat) (s : State) : State :=
  match (s.grp g).f1.oneFrom with
  | some t => if t + 300 ≤ s.now then updF1 g (fun f => { f with sboLim := true, oneFrom := none }) s else s
  | none => s

/-- SBO_OVERCURRENT: 200 ms above 2.5 A; the current limit holds 2.5 A (R363). -/
def sboOver (g : Nat) (s : State) : State :=
  let f := (s.grp g).f1
  if f.hsOn && f.lsOn then updF1 g (fun f => { f with sboOc := true }) s else s

/-- THERMAL_THRESHOLD (R364): 0 die 140 °C, 1 die 155 °C, 2 a DO switch, 3 the SBO switch. -/
def thermal (g kind ch : Nat) (rising : Bool) (s : State) : State :=
  updF1 g (fun f =>
    if kind = 0 then { f with hot140 := rising }
    else if kind = 1 then { f with hot155 := rising }
    else if kind = 2 then { f with otHot := setBit f.otHot ch rising,
                                   otDo := if rising then setBit f.otDo ch true else f.otDo }
    else { f with otSboHot := rising, otSbo := f.otSbo || rising }) s

/-- VF_LOW (R339). -/
def vfChange (g : Nat) (low : Bool) (s : State) : State := updF1 g (fun f => { f with vfLow := low }) s

/-- DI_COMPARATOR_EDGE (R354, R355). -/
def comparator (g ch : Nat) (level : Bool) (pos : Nat) (s : State) : State :=
  updF1 g (fun f => f.compEdge ch level (s.tickTime pos)) s

/-! ### Commands (R368, R371) -/

/-- The group is latched in fail-safe (R348, R368). -/
def failsafeLatched (g : Nat) (s : State) : Bool :=
  s.pgState (P.FLD + g) == stFailsafe && s.regB (fldA g R.FLD_CFG) 1

/-- FLD CLR_CNT: every counter on the page. -/
def fldClear (g : Nat) (s : State) : State :=
  s.clear (([R.FLD_DN_BAD_CNT, R.FLD_UP_BAD_CNT, R.FLD_FAILSAFE_CNT, R.FLD_EDGE_LOST_CNT, R.FLD_CUT_CNT,
    R.FLD_DN_REPAIR_CNT, R.FLD_TEV_LATE_CNT, R.FLD_SAFEOFF_CNT] ++ regRun R.FLD_DI_EDGE_CNT 16 4
    ++ regRun R.FLD_DO_OVL_CNT 8 4 ++ regRun R.FLD_DO_OPEN_CNT 8 4).map (fldA g ·))

/-- FDG CLR_CNT: counters, minima and maxima (R371); extremes restart at their reset values. -/
def fdgClear (g : Nat) (s : State) : State :=
  let as := [R.FDG_ROT_PASS_CNT, R.FDG_DIAG_HELD_CNT, R.FDG_TEMP_MAX, R.FDG_TEMP_MIN, R.FDG_VF_MIN, R.FDG_VF_MAX,
    R.FDG_THERM_CNT, R.FDG_VALVE_MA_MAX].map (fdgA g ·)
  as.foldl (fun t a => t.setReg a (regReset a)) s

def cmdRelink (g : Nat) (iss : Issuer) : State → State :=
  quick ⟨P.FLD + g, 0x10, iss⟩ (fun s => notHalted s (need (failsafeLatched g s) cState none)) (bringup g)
def cmdFldClr (g : Nat) (iss : Issuer) : State → State := quick ⟨P.FLD + g, 0x11, iss⟩ noCheck (fldClear g)
def cmdFdgClr (g : Nat) (iss : Issuer) : State → State := quick ⟨P.FDG + g, 0x10, iss⟩ noCheck (fdgClear g)

/-! ### Meanings -/

def execDownstreamFrameRx (g : Fin 4) (w : Option (BitVec 200)) (s : State) : Host.Outcome State Fault Refusal :=
  .next (downRx g w s)
def execFailsafeEntry (g : Fin 4) (powerOn : Bool) (s : State) : Host.Outcome State Fault Refusal :=
  .next (failsafe g powerOn s)
def execBringupComplete (g : Fin 4) (s : State) : Host.Outcome State Fault Refusal := .next (bringupDone g s)
def execBringupTimeout (g : Fin 4) (s : State) : Host.Outcome State Fault Refusal := .next (bringupLate g s)
def execTimedEvent (g : Fin 4) (s : State) : Host.Outcome State Fault Refusal := .next (timedEvent g s)
def execSafeOffAsserted (g : Fin 4) (s : State) : Host.Outcome State Fault Refusal := .next (safeOffSeen g s)
def execSafeOffReleased (g : Fin 4) (s : State) : Host.Outcome State Fault Refusal := .next (safeOffGone g s)
def execSafeOffTimedRelease (g : Fin 4) (s : State) : Host.Outcome State Fault Refusal := .next (safeOffTimed g s)
def execCutTermAct (g : Fin 4) (j : Fin 4) (s : State) : Host.Outcome State Fault Refusal := .next (cutAct g j s)
def execCutHoldEnd (g : Fin 4) (j : Fin 4) (s : State) : Host.Outcome State Fault Refusal := .next (cutRelease g j s)
def execDiEdgeAccept (g : Fin 4) (ch : Fin 16) (pos : Fin 125) (s : State) : Host.Outcome State Fault Refusal :=
  .next (diAccept g ch pos s)
def execWettingEnd (g : Fin 4) (ch : Fin 16) (s : State) : Host.Outcome State Fault Refusal := .next (wettingEnd g ch s)
def execDiOpenWire (g : Fin 4) (ch : Fin 16) (open_ : Bool) (s : State) : Host.Outcome State Fault Refusal :=
  .next (diOpenWire g ch open_ s)
def execDoOverload (g : Fin 4) (ch : Fin 8) (s : State) : Host.Outcome State Fault Refusal := .next (doOverload g ch s)
def execDoOpenWireOn (g : Fin 4) (ch : Fin 8) (open_ : Bool) (s : State) : Host.Outcome State Fault Refusal :=
  .next (doOpenOn g ch open_ s)
def execSboSwitchLimit (g : Fin 4) (s : State) : Host.Outcome State Fault Refusal := .next (sboLimit g s)
def execThermalThreshold (g : Fin 4) (kind : Fin 4) (ch : Fin 8) (rising : Bool) (s : State) :
    Host.Outcome State Fault Refusal := .next (thermal g kind ch rising s)
def execVfLow (g : Fin 4) (low : Bool) (s : State) : Host.Outcome State Fault Refusal := .next (vfChange g low s)
def execRelink (g : Fin 4) (iss : Issuer) (_arg : BitVec 16) (s : State) : Host.Outcome State Fault Refusal :=
  .next (cmdRelink g iss s)
def execFldClrCnt (g : Fin 4) (iss : Issuer) (_arg : BitVec 16) (s : State) : Host.Outcome State Fault Refusal :=
  .next (cmdFldClr g iss s)
def execFdgClrCnt (g : Fin 4) (iss : Issuer) (_arg : BitVec 16) (s : State) : Host.Outcome State Fault Refusal :=
  .next (cmdFdgClr g iss s)
def execDiComparatorEdge (g : Fin 4) (ch : Fin 16) (level : Bool) (pos : Fin 125) (s : State) :
    Host.Outcome State Fault Refusal := .next (comparator g ch level pos s)
def execSboOvercurrent (g : Fin 4) (s : State) : Host.Outcome State Fault Refusal := .next (sboOver g s)
def execDoOpenWireOff (g : Fin 4) (ch : Fin 8) (open_ : Bool) (s : State) : Host.Outcome State Fault Refusal :=
  .next (doOpenOff g ch open_ s)

end Sys2Proof.Machine
end

