-- ==== Sys2Proof/Machine/Header.lean ====
section
/-!
DEFINITION. The header commands NOP, CLAIM, RELEASE, TAKE and CLR_ERR of every page (R52, R53, R58).
-/
namespace Sys2Proof.Machine

abbrev opNop : Nat := 0x00
abbrev opClaim : Nat := 0x01
abbrev opRelease : Nat := 0x02
abbrev opTake : Nat := 0x03
abbrev opClrErr : Nat := 0x04

/-- What a header command answers when its issuer may not have it (R58): the code, and whether PG_CMDSTAT shows it. -/
def headerOwner (c : Call) (s : State) : Option (Nat × Bool) :=
  let own := s.owner c.page == issuerCode c.iss && isHost c.iss
  let none_ := s.owner c.page == 7
  if c.op = opNop then none
  else if c.op = opClaim then if isHost c.iss && (own || none_) then none else some (cNotOwner, true)
  else if c.op = opRelease then
    if own then none else if none_ && isHost c.iss then some (cState, true) else some (cNotOwner, true)
  else if c.op = opTake then
    if isHost c.iss && s.mgmt == issuerCode c.iss then none else some (cNotOwner, true)
  else if s.mayWrite c.page c.iss then none else some (cNotOwner, false)

/-- The first check of R55 a header command fails. RELEASE of a page without owner fails check 9. NOP passes the lock of
a factory test page (R45). -/
def headerCheck (c : Call) (s : State) : Option (Nat × Bool) :=
  let own := headerOwner c s
  if fieldPage c.page && s.variantN then some (cResource, true)
  else match own with
    | some (code, ch) => if code = cState then
          (if 0xF0 ≤ c.page && s.debugLocked then some (cLocked, true)
           else if s.busy c.page then some (cBusy, false) else own)
        else some (code, ch)
    | none =>
      if 0xF0 ≤ c.page && s.debugLocked && !(c.op == opNop) then some (cLocked, true)
      else if s.busy c.page then some (cBusy, false)
      else none

/-- CLR_ERR (R58). -/
def clearErr (p : Nat) (s : State) : State := s.clear [pa p H.ERRCNT, pa p H.ERRFIRST, pa p H.ERRLAST]

/-- What a header command does when it passes its checks (R58). -/
def headerEffect (c : Call) (s : State) : State :=
  if c.op = opClaim ∨ c.op = opTake then setOwner c.page (issuerCode c.iss) s
  else if c.op = opRelease then setOwner c.page 7 s
  else if c.op = opClrErr then clearErr c.page s
  else s

/-- Any SAFE command other than the confirmation ends an arming (R399). -/
def endArming (s : State) : State :=
  updSafety (fun x => { x with arm := none }) (s.setF R.SAFE_RESET_STAT 7 0 0)

/-- A header command from its write to its answer (R53, R58). -/
def header (c : Call) (s0 : State) : State :=
  let s := commandAccess c s0
  if s.populated c.page then
    match headerCheck c s with
    | some (code, changes) => reject c code changes s
    | none =>
      let s := finish c.page cDone (headerEffect c (answer c cBusy s))
      if c.page = P.SAFE then endArming s else s
  else addressReject c.iss 5 s

/-! ### Meanings -/

def execCmdNop (page : BitVec 8) (iss : Issuer) (_arg : BitVec 16) (s : State) : Host.Outcome State Fault Refusal :=
  .next (header ⟨page.toNat, opNop, iss⟩ s)
def execClaim (page : BitVec 8) (iss : Issuer) (_arg : BitVec 16) (s : State) : Host.Outcome State Fault Refusal :=
  .next (header ⟨page.toNat, opClaim, iss⟩ s)
def execRelease (page : BitVec 8) (iss : Issuer) (_arg : BitVec 16) (s : State) : Host.Outcome State Fault Refusal :=
  .next (header ⟨page.toNat, opRelease, iss⟩ s)
def execTake (page : BitVec 8) (iss : Issuer) (_arg : BitVec 16) (s : State) : Host.Outcome State Fault Refusal :=
  .next (header ⟨page.toNat, opTake, iss⟩ s)
def execClrErr (page : BitVec 8) (iss : Issuer) (_arg : BitVec 16) (s : State) : Host.Outcome State Fault Refusal :=
  .next (header ⟨page.toNat, opClrErr, iss⟩ s)

end Sys2Proof.Machine
end

