-- ==== Sys2Proof/Machine/Safety.lean ====
section
/-!
DEFINITION. The safety unit (chapter 16): causes that follow conditions (R397), the deliberate reset (R399), release at
a commit (R394, R395), the SBO monitor and tests (R401 to R403), two-channel pairs (R404, R405), and the commands and
events of SAFE, SBO and DISC.
-/
namespace Sys2Proof.Machine

/-! ### Conditions (R397) -/

/-- The group has pairs. -/
def State.hasPairs (s : State) (g : Nat) : Bool := (List.range 32).any fun p => s.pairMember g p

/-- The group has SBOs. -/
def State.hasSbos (s : State) (g : Nat) : Bool := (List.range 4).any fun i => s.sboMember g i

/-- Field group `f` is in a state that is a fault of the safety groups that use it (R350). -/
def State.fieldBad (s : State) (f : Nat) : Bool :=
  let st := s.pgState (P.FLD + f)
  st == stFault || st == stFailsafe || st == stLinkLost || s.regB (fldA f R.FLD_STAT) 4

/-- The condition of cause FIELD, with the field group. -/
def State.fieldCond (s : State) (g : Nat) : Option Nat :=
  (List.range 4).find? fun f => s.usesField g f && s.fieldBad f

/-- The condition of cause NETWORK. -/
def State.netCond (s : State) (g : Nat) : Bool :=
  (s.pgState P.GRDS == stFault || s.pgState P.PACER == stFault) && s.hasConns g

/-- The condition of cause CONFIG. -/
def State.cfgCond (s : State) (g : Nat) : Bool :=
  (s.pgState P.SBO == stFault && s.hasSbos g) || (s.pgState P.DISC == stFault && s.hasPairs g)
    || (s.pgState P.SMSG == stFault && s.hasConns g)

/-- TEST_RESULT of an SBO. -/
def State.testRes (s : State) (i : Nat) : Nat := s.regF (sboA i sboStat) 5 4

/-- Hours of the test period of SBO `i`, in seconds with `h` more (R402). -/
def State.testAgeLimit (s : State) (i h : Nat) : Nat := 3600 * (s.regF (sboA i 0) 4 0 + h)

/-- The switch test of SBO `i` is overdue (R402). -/
def State.overdue (s : State) (i : Nat) : Bool := decide (s.testAgeLimit i 1 ≤ s.regN (sboA i sboTestAge))

/-- The page of the SBOs works. -/
def State.sboOn (s : State) : Bool := s.pgState P.SBO == stActive || s.pgState P.SBO == 6

/-- PAIR_STAT of a pair. -/
def pairStatA (p : Nat) : Nat := R.DISC_PAIR_STAT + 8 * p

/-- The latest test that ended failed, also while another one runs (R397). -/
def State.testFailed (s : State) (i : Nat) : Bool :=
  s.testRes i == 2 || (s.testRes i == 3 && (s.sboTest i).prevRes == 2)

/-- A persistent condition of group `g` is present (R397). -/
def State.persists (s : State) (g : Nat) : Bool :=
  s.halted || s.pgState P.SAFE == stFault || (s.fieldCond g).isSome || s.netCond g || s.cfgCond g
    || (List.range 32).any (fun p => s.pairMember g p && s.regB (pairStatA p) 2 && !s.regB (pairStatA p) 3)
    || (List.range 4).any (fun i => s.sboMember g i && (s.testFailed i || s.overdue i || s.regB (sboA i sboStat) 16))
    || (List.range 256).any (fun c => s.connMember g c && !s.connTx c && s.connF c 0 29 29 == 1 && !(s.conn c).valid)

/-! ### The deliberate reset (R399) -/

/-- Every group of a mask is LOCKED. -/
def State.allLocked (s : State) (mask : Nat) : Bool :=
  (List.range 8).all fun g => !mask.testBit g || s.sgState g == grpLocked

/-- HALTED and standby answer STATE_REJECT (R423). -/
def safeGate (s : State) (rest : Option Nat) : Option Nat := notHalted s <| need (!s.standby) cState rest

def armGate (arg : Nat) (s : State) : Option Nat :=
  safeGate s <| need (s.allLocked (arg % 256)) cState none

/-- RESET_ARM: 1,000 ms for the confirmation. -/
def armReset (iss : Issuer) (arg : Nat) (s : State) : State :=
  updSafety (fun x => { x with arm := some (arg % 256, s.now + 1000000, iss) }) (s.setF R.SAFE_RESET_STAT 7 0 (arg % 256))

/-- The confirmation has the key, the mask and the host of the arming, in time. -/
def State.armMatches (s : State) (iss : Issuer) (arg : Nat) : Bool :=
  match s.safety.arm with
  | some (mask, until_, h) => arg / 256 == 0xA5 && arg % 256 == mask && h == iss && decide (s.now ≤ until_)
  | none => false

def confirmGate (arg : Nat) (s : State) : Option Nat := safeGate s <| need (s.allLocked (arg % 256)) cState none

/-- A group waits for its edge, 5 s at most. -/
def waitEdge (g : Nat) (s : State) : State :=
  let s := (setGroup g grpWait s).setB R.SAFE_RESET_STAT (8 + g) true
  updSafety (fun x => { x with waitFrom := setAt x.waitFrom g s.now, waitEnd := setAt x.waitEnd g (s.now + 5000000),
                               edgeSeen := setBit x.edgeSeen g false }) s

/-- RESET_CONFIRM. -/
def confirmReset (arg : Nat) (s : State) : State :=
  let s := updSafety (fun x => { x with arm := none }) (s.setF R.SAFE_RESET_STAT 7 0 0)
  storeLocks (forN 8 (fun g t => if arg.testBit g then waitEdge g t else t) s)

/-- A reset of group `g` fails: back to LOCKED with a RESULT. -/
def resetFails (g result : Nat) (s : State) : State :=
  let s := (s.setB R.SAFE_RESET_STAT (8 + g) false).setF R.SAFE_RESET_STAT 19 16 result
  storeLocks (recordErr P.SAFE 0x41 srcHardware g (setGroup g grpLocked s))

/-- RESET_ARM_EXPIRED. -/
def armExpired (s : State) : State :=
  match s.safety.arm with
  | some (_, until_, _) =>
    if until_ < s.now then updSafety (fun x => { x with arm := none }) (s.setF R.SAFE_RESET_STAT 7 0 0) else s
  | none => s

/-- RESET_WAIT_EXPIRED. -/
def waitExpired (g : Nat) (s : State) : State :=
  if s.sgState g == grpWait && !bitOf s.safety.edgeSeen g && decide (getAt 0 s.safety.waitEnd g ≤ s.now) then
    resetFails g 2 s
  else s

/-- A rising edge of the reset source of group `g` in tick `k`. -/
def resetEdge (g k : Nat) (s : State) : State :=
  if !(s.sgState g == grpWait) || bitOf s.safety.edgeSeen g || decide (k ≤ getAt 0 s.safety.waitFrom g) then s
  else if s.persists g then resetFails g 3 s
  else updSafety (fun x => { x with edgeSeen := setBit x.edgeSeen g true }) (s.setB R.SAFE_RESET_STAT (8 + g) false)

/-- A reset source (R399) rose in tick `k`. -/
def resetSource (src k : Nat) (s : State) : State :=
  forN 8 (fun g t => if t.sgEn g && t.resetSrc g == src then resetEdge g k t else t) s

/-- Rising edges of the agreed DIs of field group `f` in content tick `k`. -/
def resetDis (f k : Nat) (old new : BitVec 16) (s : State) : State :=
  forN 16 (fun c t => if bitOf new c && !bitOf old c && diValid f c t then resetSource (16 * f + c) k t else t) s

/-- The class 3 event of a pair (R404). -/
def pairEvent (p k : Nat) (s : State) : State :=
  if s.regB (pairA p) 15 then
    raiseAt k 3 p (s.tickStart k) (b2n (s.regB (pairStatA p) 0) + 2 * b2n (s.regB (pairStatA p) 2))
      (if s.regB (pairStatA p) 2 then 0x000C else 0x0005) s
  else s

/-- A pair leaves its fault with the reset of its group, once both inputs were seen safe (R405). -/
def pairReset (p : Nat) (s : State) : State :=
  if s.regB (pairStatA p) 2 && s.regB (pairStatA p) 3 then
    pairEvent p s.now ((s.setF (pairStatA p) 3 2 0).setB R.DISC_PAIR_FAULT p false)
  else s

/-- At the boundary after the edge the lock-out of each reset group is cleared (R399). -/
def clearLocks (s : State) : State :=
  forN 8 (fun g t =>
    if t.sgState g == grpWait && bitOf t.safety.edgeSeen g then
      let t := updSafety (fun x => { x with edgeSeen := setBit x.edgeSeen g false }) (setGroup g grpSafe t)
      let t := (List.range 32).foldl (fun u p => if u.pairMember g p then pairReset p u else u) t
      storeLocks (irqSet P.SAFE 10 (t.setF R.SAFE_RESET_STAT 19 16 1))
    else t) s

/-! ### Release at a commit (R394, R395) -/

/-- Every field group that holds a member or the reset source is ACTIVE and not VF_LOW. -/
def State.fieldsReady (s : State) (g : Nat) : Bool :=
  (List.range 4).all fun f => !s.usesField g f ||
    (s.pgState (P.FLD + f) == stActive && !s.regB (fldA f R.FLD_STAT) 4)

/-- Pair `p` is valid and not faulted: both inputs enabled and valid. -/
def State.pairValid (s : State) (p : Nat) : Bool :=
  let di (i : Nat) : Bool := s.regB (fldA (i / 16) (R.FLD_DI_CFG + 4 * (i % 16))) 31 && diValid (i / 16) (i % 16) s
    && decide ((s.grp (i / 16)).age < 256)
  di (s.regF (pairA p) 5 0) && di (s.regF (pairA p) 13 8)

/-- The lowest unmet condition of R395, if any. -/
def State.refuseWhy (s : State) (g : Nat) : Option Nat :=
  let role := s.role
  need (s.mode == modeRun) 1 <|
  need ((role == roleActive || role == roleSingle) && s.regB R.PART_STAT 9) 2 <|
  need (s.regF R.PFC_INJ_STAT 1 0 == 1 && decide (s.regN R.PFC_INJ_AGE_S ≤ (s.cfgWord R.PFC_INJ_AGE_LIMIT).toNat)) 3 <|
  need (s.fieldsReady g) 4 <|
  need ((List.range 32).all fun p => !s.pairMember g p || (s.pairValid p && !s.regB (pairStatA p) 2)) 5 <|
  need ((List.range 256).all fun c => !s.connMember g c || s.connTx c || (s.conn c).valid) 6 <|
  need ((List.range 4).all fun i => !s.sboMember g i || (s.testRes i == 1 && !s.overdue i)) 7 <|
  need ((!s.hasSbos g || s.sboOn) && (!s.hasPairs g || s.pgState P.DISC == stActive)
    && (!s.hasConns g || (s.pgState P.SMSG == stActive && s.pgState P.GRDS == stActive))) 8 none

/-- The release request of group `g` as the current output store holds it. -/
def State.relReq (s : State) (g : Nat) : Bool := s.outTo P.SAFE g

/-- A commit's release request of group `g` (R394). -/
def releaseGroup (g : Nat) (s : State) : State :=
  let req := s.relReq g
  let rising := req && !bitOf s.safety.prevReq g
  let s := s.setB (sgA g sgStat) 3 req
  let s := updSafety (fun x => { x with prevReq := setBit x.prevReq g req }) s
  if !s.sgEn g then s
  else if s.sgState g = grpReleased then if req then s else setGroup g grpSafe s
  else if s.sgState g = grpSafe ∧ rising = true then
    match s.refuseWhy g with
    | some why => ((s.setB (sgA g sgStat) 4 true).setF (sgA g sgStat) 15 8 why).bump R.SAFE_REL_REFUSED_CNT
    | none => irqSet P.SAFE 9 (setGroup g grpReleased ((s.setB (sgA g sgStat) 4 false).setF (sgA g sgStat) 15 8 0))
  else s

/-- Release requests of a commit. -/
def releaseAll (s : State) : State := forN 8 releaseGroup s

/-! ### Tests of the brake outputs (R402, R403) -/

/-- TEST_US of an SBO. -/
def State.testUs (s : State) (i : Nat) : Nat := 10 * s.regF (sboA i 0) 13 8

/-- What defers or aborts a switch test: SAFE_OFF, CUT, FAILSAFE, OUT_GATED, a link that is not up, or frames that carry
both codes open until the first output commit (R402, R474; the last is DEDUCED, log entry 132). -/
def State.testBlocked (s : State) (i : Nat) : Bool :=
  let f := s.reg (fldA i R.FLD_STAT)
  bitOf f 1 || bitOf f 2 || bitOf f 3 || s.boot.outputsHeld || s.gated || !s.fldUp i || !s.regB (fldA i R.FLD_SBO_CFG) 31 || !s.sboOn

/-- The readback of the latest agreed tick: [3] high side, [2] low side, [1] valve, [0] fault. -/
def State.sboBack (s : State) (i : Nat) : Nat := (s.grp i).sboUp

/-- The SBO is commanded on: both codes close (R400). -/
def State.sboCmd (s : State) (i : Nat) : Bool := let c := s.sboCodes i; c.1 && c.2

/-- Put a test into a phase, with the step TEST_STEP shows. -/
def testPhase (i phase step endTick : Nat) (s : State) : State :=
  sboPageState (setTest i { s.sboTest i with phase := phase, endTick := endTick, ok := true, sawOn := false }
    (s.setF (sboA i sboStat) 3 2 step))

/-- A due test is deferred by 10 ms. -/
def testDefer (i : Nat) (s : State) : State :=
  setTest i { s.sboTest i with due := true, retryAt := s.now + 10000 } s

/-- A due switch test starts with its high-side step, or is deferred. -/
def testStart (i : Nat) (s : State) : State :=
  if s.testBlocked i then testDefer i s
  else
    let s := setTest i { s.sboTest i with due := true, energised := s.sboCmd i, prevRes := s.testRes i } s
    testPhase i 1 1 (s.now + s.testUs i) (s.setF (sboA i sboStat) 5 4 3)

/-- The command that asked for the test is answered. -/
def testAnswer (i op : Nat) (s : State) : State :=
  let t := s.sboTest i
  let s := setTest i { t with byCommand := false } s
  if t.byCommand && s.busyWith P.SBO op then finish P.SBO cDone s else s

/-- A lock-out of the group of an SBO. -/
def lockSbo (i cause : Nat) (s : State) : State :=
  match s.sboGroup i with | some g => lockGroup g cause i s | none => s

/-- A switch test ends: nothing of it is left to run. -/
def testOver (i : Nat) (s : State) : State :=
  let s := quiet i (testPhase i 0 0 0 s)
  setTest i { s.sboTest i with due := false } s

/-- A switch test has passed. -/
def testPass (i : Nat) (s : State) : State :=
  let s := testOver i s
  let s := ((s.setF (sboA i sboStat) 5 4 1).setF (sboA i sboStat) 15 12 0).setB (sboA i sboStat) 16 false
  testAnswer i 0x10 ((s.setRegN (sboA i sboTestAge) 0).bump (sboA i sboTestCnt))

/-- A switch test has failed in a step. -/
def testFail (i step : Nat) (s : State) : State :=
  let s := testOver i s
  let s := (s.setF (sboA i sboStat) 5 4 2).setF (sboA i sboStat) 15 12 step
  let s := (s.bump (sboA i sboTestCnt)).bump R.SBO_TEST_FAIL_CNT
  let s := recordErr P.SBO 0x40 srcHardware i (irqSet P.SBO 8 s)
  testAnswer i 0x10 (lockSbo i causeSwitch s)

/-- The passing condition at the end of a step (R402): 1 high side, 2 low side. -/
def State.stepPasses (s : State) (i step : Nat) : Bool :=
  let b := s.sboBack i
  let bit := if step = 1 then 8 else 4
  if (s.sboTest i).energised then b / bit % 2 == 0 else b / 4 == bit / 4 && b / 2 % 2 == 0

/-- SWITCH_TEST_STEP_END. -/
def testStepEnd (i : Nat) (s : State) : State :=
  let t := s.sboTest i
  if s.now < t.endTick then s
  else if t.phase = 1 then
    if s.stepPasses i 1 then testPhase i 2 0 (s.now + 1000) (quiet i s) else testFail i 1 s
  else if t.phase = 2 then
    if s.testBlocked i then testDefer i (testPhase i 0 0 0 (s.setF (sboA i sboStat) 5 4 t.prevRes))
    else testPhase i 3 2 (s.now + s.testUs i) (setTest i { t with energised := s.sboCmd i } s)
  else if t.phase = 3 then if s.stepPasses i 2 then testPass i s else testFail i 2 s
  else s

/-- A switch test is due (R402). -/
def State.testDue (s : State) (i : Nat) : Bool :=
  s.sboOn && ((s.sboTest i).due || !(s.testRes i == 1) || decide (s.testAgeLimit i 0 ≤ s.regN (sboA i sboTestAge)))

/-- SWITCH_TEST_DUE and SWITCH_TEST_RETRY: a due test that is not waiting starts. -/
def testDueNow (i : Nat) (s : State) : State :=
  let t := s.sboTest i
  if s.testDue i && t.phase == 0 && decide (t.retryAt ≤ s.now) then testStart i s else s
def testRetry (i : Nat) (s : State) : State :=
  let t := s.sboTest i
  if s.sboOn && t.due && t.phase == 0 && decide (t.retryAt ≤ s.now) then testStart i s else s

/-- SWITCH_TEST_OVERDUE: not on a standby, nor in the first second after the gate first opens at a takeover (R402). -/
def testOverdue (i : Nat) (s : State) : State :=
  let young := match s.safety.gateFirst with | some t => decide (s.now < t + 1000000) | none => false
  if s.sboOn && s.overdue i && !s.standby && !young then lockSbo i causeSwitch s else s

/-- SWITCH_TEST: stays BUSY until the test ends (R417). -/
def testCommand (i : Nat) (s : State) : State :=
  let t := s.sboTest i
  let s := setTest i { t with due := true, byCommand := true } s
  if t.phase = 0 then testStart i s else s

/-- Gate of BRAKE_TEST (R403, R423). -/
def brakeGate (i : Nat) (s : State) : Option Nat :=
  notHalted s <| need (s.stopped && !s.standby && !s.gated && s.regB (fldA i R.FLD_SBO_CFG) 31 && s.sboOn
    && (match s.sboGroup i with | some g => s.sgState g == grpSafe | none => false)) cState none

/-- BRAKE_TEST starts with the high side alone. -/
def brakeStart (i : Nat) (s : State) : State :=
  let s := abortTest i s
  let t := s.sboTest i
  let s := if t.phase = 2 then s.setF (sboA i sboStat) 5 4 t.prevRes else s
  let s := setTest i { s.sboTest i with byCommand := true } (s.setF (sboA i sboStat) 7 6 3)
  testPhase i 11 3 (s.now + s.testUs i) s

abbrev btOnMs (s : State) (i : Nat) : Nat := s.regF (sboA i 4) 12 0
abbrev btRiseMs (s : State) (i : Nat) : Nat := s.regF (sboA i 4) 21 13
abbrev btFallMs (s : State) (i : Nat) : Nat := s.regF (sboA i 4) 30 22

/-- The brake test ends with a result (R403). -/
def brakeEnd (i failStep : Nat) (s : State) : State :=
  let s := testPhase i 0 0 0 (quiet i s)
  let s := irqSet P.SBO 10 ((s.setF (sboA i sboStat) 7 6 (if failStep = 0 then 1 else 2)).setF (sboA i sboStat) 11 8 failStep)
  let s := testAnswer i 0x11 s
  if failStep = 0 then s.setRegN (sboA i sboBtAge) 0
  else lockSbo i causeBrake (recordErr P.SBO 0x42 srcHardware i s)

/-- BRAKE_TEST_STEP_END. -/
def brakeStepEnd (i : Nat) (s : State) : State :=
  let t := s.sboTest i
  let b := s.sboBack i
  if s.now < t.endTick then s
  else if t.phase = 11 then
    if b / 2 = 0b100 then testPhase i 12 3 (s.now + s.testUs i) s else brakeEnd i 1 s
  else if t.phase = 12 then
    if b / 2 = 0b010 then testPhase i 13 3 (s.now + 1000 * btOnMs s i) s else brakeEnd i 2 s
  else if t.phase = 13 then
    if t.ok && t.sawOn then
      testPhase i 14 3 (s.now + 1000 * btFallMs s i) (s.setRegN (sboA i sboBtMa) (getAt 0 (s.grp i).raw 29 % 4096))
    else brakeEnd i 3 s
  else if t.phase = 14 then if b / 2 = 0 then brakeEnd i 0 s else brakeEnd i 4 s
  else s

/-! ### The monitor (R401) -/

/-- A monitor cause of SBO `i`. -/
def monitorCause (i : Nat) (s : State) : State :=
  if s.regB (sboA i sboStat) 16 then s else
  let s := (s.setB (sboA i sboStat) 16 true).bump R.SBO_MON_FAULT_CNT
  lockSbo i causeMonitor (recordErr P.SBO 0x41 srcHardware i (irqSet P.SBO 9 s))

/-- The expected value in the latest agreed tick. -/
def State.sboExpected (s : State) (i : Nat) : Bool :=
  let f := s.reg (fldA i R.FLD_STAT)
  s.regF (fldA i R.FLD_SBO_STAT) 1 0 == 3 && !bitOf f 1 && !bitOf f 2 && !bitOf f 3 && !bitOf f 6

/-- Step 3 of a brake test in one agreed tick: the switches have had two ticks to follow their codes (R36). -/
def brakeWatch (i k : Nat) (s : State) : State :=
  let t := s.sboTest i
  let start := t.endTick - 1000 * btOnMs s i
  let b := s.sboBack i
  if t.phase = 13 ∧ start + 2 ≤ k then
    let on := b / 2 % 2 == 1
    let bad := !(b / 4 == 3) || b % 2 == 1 || (!on && (t.sawOn || decide (start + 1000 * btRiseMs s i < k)))
    setTest i { t with ok := t.ok && !bad, sawOn := t.sawOn || on } s
  else s

/-- The safety unit looks at the SBO field of the agreed tick `k` (R401 to R403). -/
def sboMonitor (i k : Nat) (s : State) : State :=
  if !s.sboOn then s else
  let b := s.sboBack i
  let s := (s.setB (sboA i sboStat) 1 (b / 4 == 3)).setB (sboA i sboStat) 0 (s.regF (fldA i R.FLD_SBO_STAT) 1 0 == 3)
  let s := if ((s.sboTest i).phase = 1 ∨ (s.sboTest i).phase = 3) ∧ s.testBlocked i = true then abortTest i s else s
  let s := brakeWatch i k s
  let e := s.sboExpected i
  let was := getAt (false, 0) s.safety.enSince i
  let s := if was.1 == e then s else updSafety (fun x => { x with enSince := setAt x.enSince i (e, k) }) s
  if !((s.sboTest i).phase == 0) && !((s.sboTest i).phase == 2) || decide (k < getAt 0 s.safety.quietUntil i) then
    updSafety (fun x => { x with misSince := setAt x.misSince i none }) s
  else
    let since := getAt none s.safety.misSince i
    let bad := !(b / 4 == (if e then 3 else 0))
    let s := updSafety (fun x => { x with misSince := setAt x.misSince i (if bad then some (since.getD k) else none) }) s
    if b % 2 = 1 then monitorCause i s else s

/-- READBACK_MISMATCH: a mismatch lasting RB_US, or a valve current that does not follow (R401). -/
def readbackMismatch (i : Nat) (s : State) : State :=
  if !s.sboOn || !((s.sboTest i).phase == 0) then s else
  let long := match getAt none s.safety.misSince i with
    | some t => decide (t + s.regF (sboA i 0) 27 16 ≤ s.now)
    | none => false
  let (e, t) := getAt (false, 0) s.safety.enSince i
  let on := s.sboBack i / 2 % 2 == 1
  let valve := s.regB (sboA i 0) 31 &&
    (if e then !on && decide (t + 1000 * btRiseMs s i < s.now) else on && decide (t + 1000 * btFallMs s i < s.now))
  if long || valve then monitorCause i s else s

/-! ### Two-channel pairs (R404, R405) -/

/-- RUN_MAX_MS after a discrepancy of `n` ticks. -/
def pairMax (p n : Nat) (s : State) : State :=
  let ms := min 2047 (n / 1000)
  if s.regF (pairStatA p) 26 16 < ms then s.setF (pairStatA p) 26 16 ms else s

/-- The timer of a pair runs from `t`, or stands. -/
def pairTimer (p : Nat) (t : Option Nat) (s : State) : State :=
  let s := (s.setB (pairStatA p) 1 t.isSome).setB R.DISC_PAIR_RUN p t.isSome
  updSafety (fun x => { x with pairStart := setAt x.pairStart p t }) s

/-- The value of a pair. -/
def pairValue (p k : Nat) (v : Bool) (s : State) : State :=
  if s.regB (pairStatA p) 0 = v then s
  else pairEvent p k ((s.setB (pairStatA p) 0 v).setB R.DISC_PAIR_VAL p v)

/-- One enabled pair in content tick `k` (R404, R405). -/
def pairTick (p k : Nat) (s : State) : State :=
  if !s.regB (pairA p) 31 then s
  else if !s.pairValid p then
    let s := match getAt none s.safety.pairStart p with
      | some t => updSafety (fun x => { x with pairStart := setAt x.pairStart p (some (t + 1)) }) s
      | none => s
    pairValue p k false s
  else
    let di (i : Nat) : Bool := bitOf (s.grp (i / 16)).di (i % 16)
    let a := di (s.regF (pairA p) 5 0)
    let b := xor (di (s.regF (pairA p) 13 8)) (s.regB (pairA p) 14)
    let s := if s.regB (pairStatA p) 2 && !a && !b then s.setB (pairStatA p) 3 true else s
    let s := match getAt none s.safety.pairStart p with
      | some t => if a == b then pairTimer p none (pairMax p (k - t) s) else s
      | none => if !(a == b) && !s.regB (pairStatA p) 2 then pairTimer p (some k) s else s
    pairValue p k (a && b && !s.regB (pairStatA p) 2) s

/-- Every enabled pair in content tick `k`. -/
def pairsTick (k : Nat) (s : State) : State :=
  if s.pgState P.DISC = stActive then forN 32 (fun p t => pairTick p k t) s else s

/-- DISCREPANCY_TIMEOUT: the timer has run for DISC_MS (R404). -/
def pairFault (p : Nat) (s : State) : State :=
  match getAt none s.safety.pairStart p with
  | none => s
  | some t =>
    if s.now < t + 1000 * s.regF (pairA p) 26 16 then s
    else
      let s := pairTimer p none (pairMax p (s.now - t) s)
      let s := ((s.setF (pairStatA p) 3 2 1).setB (pairStatA p) 0 false).setB R.DISC_PAIR_VAL p false
      let s := (s.setB R.DISC_PAIR_FAULT p true).bump R.DISC_FAULT_CNT
      let s := (s.setRegN R.DISC_LAST_FAULT_TICK (s.now % 2 ^ 32)).setRegN R.DISC_LAST_FAULT_PAIR p
      let s := pairEvent p s.now (recordErr P.DISC 0x40 srcHardware p (irqSet P.DISC 8 s))
      match (List.range 8).find? fun g => s.pairMember g p with
      | some g => lockGroup g causeDisc p s
      | none => s

/-! ### Every tick (R393, R397) -/

/-- The paths compare their group states: a difference is a cause of every group (R393). -/
def comparePaths (s : State) : State :=
  if (List.range 8).all fun g => getAt 0 s.safety.pathY g == s.sgState g then s
  else
    let s := s.bump R.SAFE_PATH_DIS_CNT
    let s := (s.setB R.SAFE_STAT 24 false).setPgState P.SAFE stFault
    lockAll causePath 0 (recordErr P.SAFE 0x40 srcHardware 0 (irqSet P.SAFE 11 s))

/-- Causes that follow a condition: it locks a group out of SAFE and RELEASED while it stands, and out of RESET_WAIT when
it begins. -/
def condCauses (g : Nat) (s : State) : State :=
  let f := s.fieldCond g
  let cond := f.isSome || s.netCond g || s.cfgCond g
  let new := cond && !bitOf s.safety.condPrev g
  let st := s.sgState g
  let s := updSafety (fun x => { x with condPrev := setBit x.condPrev g cond }) s
  if cond && s.sgEn g && (st == grpSafe || st == grpReleased || (st == grpWait && new)) then
    match f with
    | some i => lockGroup g causeField i s
    | none => if s.netCond g then lockGroup g causeNetwork 0 s else lockGroup g causeConfig 0 s
  else s

/-- The safety unit in one sample tick; `upset` is a group whose state on path Y a fault has changed. -/
def safetyTick (upset : Option (Fin 8)) (s : State) : State :=
  let s := match upset with
    | some g => updSafety (fun x => { x with pathY := setAt x.pathY g ((getAt 0 x.pathY g + 1) % 5) }) s
    | none => s
  forN 8 condCauses (comparePaths s)

/-- Ages counted in seconds: switch tests and brake tests (R402, R403), and the injection test (R108). -/
def secondAges (s : State) : State :=
  let s := forN 4 (fun i t => (t.bump (sboA i sboTestAge)).bump (sboA i sboBtAge)) s
  s.bump R.PFC_INJ_AGE_S

/-! ### Commands -/

def safeClear (s : State) : State :=
  endArming (s.clear ([R.SAFE_PATH_DIS_CNT, R.SAFE_LOCK_CNT, R.SAFE_REL_REFUSED_CNT] ++ (List.range 8).map (sgA · sgCnt)))

def sboClear (s : State) : State :=
  s.clear ([R.SBO_TEST_FAIL_CNT, R.SBO_MON_FAULT_CNT] ++ (List.range 4).map (sboA · sboTestCnt)
    ++ (List.range 4).map (sboA · sboAbortCnt))

def discClear (s : State) : State :=
  forN 32 (fun p t => t.setF (pairStatA p) 26 16 0) (s.clear [R.DISC_FAULT_CNT])

def cmdResetArm (iss : Issuer) (arg : Nat) : State → State :=
  quickKeyed ⟨P.SAFE, 0x10, iss⟩ (fun _ => arg / 256 == 0x5A) (armGate arg) (armReset iss arg)
def cmdResetConfirm (iss : Issuer) (arg : Nat) : State → State :=
  quickKeyed ⟨P.SAFE, 0x11, iss⟩ (fun s => s.armMatches iss arg) (confirmGate arg) (confirmReset arg)
def cmdSafeClr (iss : Issuer) : State → State := quick ⟨P.SAFE, 0x12, iss⟩ noCheck safeClear
def cmdSwitchTest (iss : Issuer) (arg : Nat) : State → State :=
  command ⟨P.SBO, 0x10, iss⟩ (fun s => notHalted s (need s.sboOn cState none)) (testCommand (arg % 4))
def cmdBrakeTest (iss : Issuer) (arg : Nat) : State → State :=
  command ⟨P.SBO, 0x11, iss⟩ (brakeGate (arg % 4)) (brakeStart (arg % 4))
def cmdSboClr (iss : Issuer) : State → State := quick ⟨P.SBO, 0x12, iss⟩ noCheck sboClear
def cmdDiscClr (iss : Issuer) : State → State := quick ⟨P.DISC, 0x10, iss⟩ noCheck discClear

/-! ### Meanings -/

def execDiscrepancyTimeout (p : Fin 32) (s : State) : Host.Outcome State Fault Refusal := .next (pairFault p s)
def execResetArm (iss : Issuer) (arg : BitVec 16) (s : State) : Host.Outcome State Fault Refusal :=
  .next (cmdResetArm iss arg.toNat s)
def execResetConfirm (iss : Issuer) (arg : BitVec 16) (s : State) : Host.Outcome State Fault Refusal :=
  .next (cmdResetConfirm iss arg.toNat s)
def execResetArmExpired (s : State) : Host.Outcome State Fault Refusal := .next (armExpired s)
def execResetWaitExpired (g : Fin 8) (s : State) : Host.Outcome State Fault Refusal := .next (waitExpired g s)
def execSafeClrCnt (iss : Issuer) (_arg : BitVec 16) (s : State) : Host.Outcome State Fault Refusal :=
  .next (cmdSafeClr iss s)
def execSwitchTest (iss : Issuer) (arg : BitVec 16) (s : State) : Host.Outcome State Fault Refusal :=
  .next (cmdSwitchTest iss arg.toNat s)
def execSwitchTestDue (i : Fin 4) (s : State) : Host.Outcome State Fault Refusal := .next (testDueNow i s)
def execSwitchTestStepEnd (i : Fin 4) (s : State) : Host.Outcome State Fault Refusal := .next (testStepEnd i s)
def execSwitchTestRetry (i : Fin 4) (s : State) : Host.Outcome State Fault Refusal := .next (testRetry i s)
def execSwitchTestOverdue (i : Fin 4) (s : State) : Host.Outcome State Fault Refusal := .next (testOverdue i s)
def execBrakeTest (iss : Issuer) (arg : BitVec 16) (s : State) : Host.Outcome State Fault Refusal :=
  .next (cmdBrakeTest iss arg.toNat s)
def execBrakeTestStepEnd (i : Fin 4) (s : State) : Host.Outcome State Fault Refusal := .next (brakeStepEnd i s)
def execReadbackMismatch (i : Fin 4) (s : State) : Host.Outcome State Fault Refusal := .next (readbackMismatch i s)
def execSboClrCnt (iss : Issuer) (_arg : BitVec 16) (s : State) : Host.Outcome State Fault Refusal :=
  .next (cmdSboClr iss s)
def execDiscClrCnt (iss : Issuer) (_arg : BitVec 16) (s : State) : Host.Outcome State Fault Refusal :=
  .next (cmdDiscClr iss s)

end Sys2Proof.Machine
end

