-- ==== Sys2Proof/Machine/Time.lean ====
section
/-!
DEFINITION. Train time, its servo and forced adjustment (R289 to R296), compare channels (R298), timed outputs (R299,
R300) and the commands of TIME and TCAP (R303, R306).
-/
namespace Sys2Proof.Machine

/-- Division to the nearest integer, ties away from zero (R279). -/
def divRound (a : Int) (n : Nat) : Int :=
  let q : Int := ((2 * a.natAbs + n) / (2 * n) : Nat)
  if a < 0 then -q else q

/-! ### TIME_STAT (R293, R302) -/

abbrev servoFree : Nat := 0
abbrev servoAcquiring : Nat := 1
abbrev servoLocked : Nat := 2
abbrev servoHoldover : Nat := 3

def State.servo (s : State) : Nat := s.regF R.TIME_STAT 9 8
def State.refSelf (s : State) : Bool := s.regB R.TIME_CFG 10
def State.refMb (s : State) : Nat := s.regF R.TIME_CFG 23 12
def State.jumpRefused (s : State) : Bool := s.regB R.TIME_STAT 2
def State.timeFault (s : State) : Bool := s.pgState P.TIME == stFault

/-- VALID as the rules of R293 give it. -/
def State.validRule (s : State) : Bool :=
  !s.timeFault && (if s.refSelf then s.time.selfValid
    else (s.servo == servoLocked || s.servo == servoHoldover) && !s.jumpRefused)

/-- VALID, REF_SELF, UNLOCKED and the page state follow (R301, R302). -/
def timeStat (s : State) : State :=
  let v := s.validRule
  let chg := !(s.timeValid == v)
  let s := ((s.setB R.TIME_STAT 0 v).setB R.TIME_STAT 1 s.refSelf).setB R.TIME_STAT 4 s.time.unlock.isSome
  let s := if s.timeFault || s.pgState P.TIME == stOff then s else s.setPgState P.TIME (if v then stActive else stReady)
  if chg then irqSet P.TIME 8 s else s

def setServo (v : Nat) (s : State) : State := timeStat (s.setF R.TIME_STAT 9 8 v)

/-- TT registers show live train time (R301). -/
def showTime (s : State) : State :=
  (s.setReg64 R.TIME_TT_SEC_LO s.time.sec.toNat).setRegN R.TIME_TT_NS s.time.ns

/-- Train time becomes `ns` nanoseconds since the epoch (R294). -/
def setTrain (ns : Nat) (s : State) : State :=
  showTime (updTime (fun x => { x with sec := BitVec.ofNat 64 (ns / 1000000000), ns := ns % 1000000000 }) s)

/-! ### Compare channels (R298) -/

/-- CMP word `w` of channel `j`. -/
def cmpA (j w : Nat) : Nat := R.TCAP_CMP_CFG + 16 * j + w

def State.cmpTime (s : State) (j : Nat) : Nat := s.reg64 (cmpA j 4)

/-- Channel `j` fires at train time `ts` (R298). -/
def cmpFire (j ts : Nat) (s : State) : State :=
  let s := irqSet P.TCAP 8 (s.bump R.TCAP_CMP_FIRE_CNT)
  let x := getAt (none, 0) s.time.cmps j
  let n := x.2 + 1
  let s := updTime (fun y => { y with cmps := setAt y.cmps j (x.1, n) }) s
  let s := if s.regB (cmpA j 0) 2 then
      raiseAt s.now 8 j ts (j + n % 2 ^ 24 * 2 ^ 8) (b2n s.timeValid) s else s
  let s := captures capCompare j ts s
  if s.regB (cmpA j 0) 1 then s.setReg64 (cmpA j 4) ((s.cmpTime j + s.regN (cmpA j 12)) % 2 ^ 64)
  else (s.setB (cmpA j 0) 0 false).setB R.TCAP_CMP_ARMED j false

/-- COMPARE_FIRE: train time reaches TIME of channel `j` at an 8 ns edge of the running tick (R298). After a step in the
tick its edges count from the stepped time (R294). -/
def compareFire (j pos : Nat) (s : State) : State :=
  let t := s.ttNs + 8 * pos
  if s.regB (cmpA j 0) 0 && !(s.pgState P.TCAP == stFault) && decide (s.cmpTime j ≤ t) then cmpFire j t s else s

/-! ### Timed outputs (R300) -/

/-- A timed output switches (R304). -/
def toutSwitch (t : Nat) (s : State) : State :=
  let x := s.tout t
  let s := setTout t { x with pend := false, queued := false, cur := x.value } s
  (toutState t 2 s).bump R.TCAP_TOUT_SWITCH_CNT

/-- A switch to 1 on a DO of a safety group that is not released does not act (R300). -/
def State.toutBlocked (s : State) (t : Nat) : Bool :=
  (s.tout t).value && match s.doGroup (s.toutDo t) with | some g => !s.released g | none => false

/-- The pending switch of output `t` has its time. -/
def toutDue (t : Nat) (s : State) : State := if s.toutBlocked t then cancelTout t s else toutSwitch t s

/-- The status of a committed unit in TOUT_STAT and in the transmit record (R300). -/
def toutStatus (t status : Nat) (s : State) : State :=
  let s := s.setF (R.TCAP_TOUT_STAT + 4 * t) 15 8 status
  match s.txBinding P.TCAP t with
  | some b => txNote b.index status (status == cDone || status == 0x40) s
  | none => s

/-- A unit committed to timed output `t` at a boundary whose train time is `b` ns (R299, R300). -/
def toutCommit (t b : Nat) (unit : List Byte) (s : State) : State :=
  let time := leNat (unit.take 8)
  let w := leNat ((unit.drop 8).take 4)
  let value := w.testBit 0
  let owner := leNat ((unit.drop 12).take 2)
  if unit.length ≠ 16 then toutStatus t cLength s
  else if w.testBit 1 then
    let x := s.tout t
    let s := if x.pend then toutState t 3 (unqueueDo (s.toutDo t) (setTout t { x with pend := false, queued := false } s))
             else s
    toutStatus t cDone s
  else if b + 100000000000 < time then
    toutStatus t cRange (recordErr P.TCAP 0x41 srcProgram t s)
  else if time < b + 4000 then
    let s := unqueueDo (s.toutDo t) (setTout t { s.tout t with pend := false, queued := false, value := value } s)
    let s := s.setB (R.TCAP_TOUT_STAT + 4 * t) 2 value
    let s := irqSet P.TCAP 9 (s.bump R.TCAP_TOUT_LATE_CNT)
    let s := recordErr P.TCAP 0x40 srcProgram t s
    toutStatus t 0x40 (if s.toutBlocked t then toutState t 0 s else toutSwitch t s)
  else
    let s := unqueueDo (s.toutDo t) s
    let s := setTout t { s.tout t with pend := true, time := time, value := value, owner := owner, queued := false } s
    let s := s.setB (R.TCAP_TOUT_STAT + 4 * t) 2 value
    toutStatus t cDone (toutState t 1 s)

/-- The tick and position of a train time ahead, as the SVT-C1 predicts them (R298, R343). -/
def State.placeOf (s : State) (ns : Nat) : Nat × Nat :=
  let d := ns - s.starter.tickNs
  (s.now + d / 1000, d % 1000 / 8)

/-- The group queue takes the switch of output `t` while it lies within 31 ticks (R343). -/
def toutQueue (t : Nat) (s : State) : State :=
  let x := s.tout t
  if !x.pend || x.queued || decide (s.starter.tickNs + 32000 ≤ x.time) then s else
  let (tick, pos) := s.placeOf x.time
  let i := s.toutDo t
  let s := setTout t { x with queued := true } s
  enqueue (i / 8) ⟨tick, pos, 0, i % 8, b2n x.value⟩ s

/-- A pending switch whose time falls into the tick that starts now: from this tick on the DO field carries its value
(R343). -/
def toutTick (t : Nat) (s : State) : State :=
  let x := s.tout t
  if x.pend && decide (x.time < s.starter.tickNs + 1000) then toutDue t s else toutQueue t s

/-- The next firing of a compare channel with FIELD = 1 goes to the groups whose inputs it triggers (R298, R380). -/
def cmpQueue (j : Nat) (s : State) : State :=
  let t := s.cmpTime j
  let x := getAt (none, 0) s.time.cmps j
  let off := s.regB R.MEASA_MEAS_CFG 7 && s.regF R.MEASA_MEAS_CFG 4 0 == j
  if !s.regB (cmpA j 0) 0 || !s.regB (cmpA j 0) 3 || off || x.1 == some t
      || decide (s.starter.tickNs + 32000 ≤ t ∨ t < s.starter.tickNs) then s else
  let (tick, pos) := s.placeOf t
  let s := updTime (fun y => { y with cmps := setAt y.cmps j (some t, x.2) }) s
  sendTrigger tick pos j s

/-- An event of a kind and target waits in a group's queue: it has not been sent. -/
def State.unsent (s : State) (g kind target : Nat) : Bool :=
  (s.grp g).queue.any fun e => e.kind == kind && e.target == target

/-- Channel `j` triggers the field groups, and the event of its next firing has not left (R298, R343, R380). -/
def State.triggerDue (s : State) (j : Nat) : Bool :=
  let off := s.regB R.MEASA_MEAS_CFG 7 && s.regF R.MEASA_MEAS_CFG 4 0 == j
  s.regB (cmpA j 0) 3 && !off
    && (!((getAt (none, 0) s.time.cmps j).1 == some (s.cmpTime j)) || (List.range 4).any fun g => s.unsent g 1 j)

/-- The events not yet sent are planned again; one that has left acts where it was sent (R294, R343). -/
def replan (s : State) : State :=
  let open_ (t : Nat) : Bool := s.unsent (s.toutDo t / 8) 0 (s.toutDo t % 8)
  let tout (x : Tout × Nat) : Tout := if open_ x.2 then { x.1 with queued := false } else x.1
  let cmp (x : (Option Nat × Nat) × Nat) : Option Nat × Nat :=
    if (List.range 4).any fun g => s.unsent g 1 x.2 then (none, x.1.2) else x.1
  updTime (fun y => { y with touts := y.touts.zipIdx.map tout, cmps := y.cmps.zipIdx.map cmp })
    (forN 4 (fun g t => updGroup g (fun x => { x with queue := [] }) t) s)

/-- A conversion trigger that a forward step passes goes out in the next free slot (R294, R298, R343). -/
def triggerNow (j : Nat) (s : State) : State :=
  sendTrigger s.now 0 j s

/-! ### Steps (R294) -/

/-- A step of `d` ns: a forward step makes what it passes act at its edge (R294). -/
def stepTime (d : Int) (s : State) : State :=
  let after := ((s.ttNs : Int) + d).toNat
  let due := (List.range 32).filter fun j => s.triggerDue j
  let s := replan (setTrain after s)
  let s := irqSet P.TIME 11 (s.bump R.TIME_STEP_CNT)
  if d ≤ 0 then s else
  let s := forN 32 (fun j t =>
    if t.regB (cmpA j 0) 0 && !(t.pgState P.TCAP == stFault) && decide (t.cmpTime j ≤ after) then
      let t := if due.contains j then triggerNow j t else t
      cmpFire j after (t.bump R.TCAP_STEPPED_OVER_CNT) else t) s
  forN 32 (fun k t =>
    if (t.tout k).pend && decide ((t.tout k).time ≤ after) then toutDue k (t.bump R.TCAP_STEPPED_OVER_CNT) else t) s

/-! ### The servo (R292) -/

/-- A supervisor write of INCREMENT (R290). -/
def writeIncrement (v : Int) (s : State) : State :=
  if v < 0x07FF9724 ∨ 0x080068DB < v then recordErr P.TIME 0x41 4 0 s
  else s.setRegN R.TIME_INCREMENT v.toNat

/-- RATE_PPB of the pacer. -/
def State.ratePpb (s : State) : Int := toSigned 32 (s.regN R.PACER_RATE_PPB)

/-- The rate term of R292. -/
def State.rateTerm (s : State) : Int := 0x08000000 + divRound (0x08000000 * s.ratePpb) 1000000000

/-- JUMP_REFUSED; its rise is counted and recorded (R301). -/
def setRefused (b : Bool) (s : State) : State :=
  let rise := b && !s.jumpRefused
  let s := s.setB R.TIME_STAT 2 b
  let s := if rise then
    recordErr P.TIME 0x40 srcHardware 0 (irqSet P.TIME 9 (s.bump R.TIME_JUMP_REF_CNT)) else s
  timeStat s

/-- The servo's calculation for an error of `e` ns (R292, R295). -/
def servoRun (e : Int) (s : State) : State :=
  if (s.regF R.TIME_JUMP_LIMIT 19 0 : Int) * 1000 < e.natAbs then
    let s := (setRefused true s).setReg64 R.TIME_JUMP_REQ_LO (ofSigned 64 e)
    writeIncrement s.rateTerm s
  else
    let s := setRefused false s
    if s.regF R.TIME_SLEW_LIMIT 16 0 < e.natAbs then updTime (fun x => { x with carry := 0 }) (stepTime e s)
    else
      let r := e + s.time.carry
      let lim : Int := (s.cycleUs / 10 : Nat)
      let d := if r < -lim then -lim else if lim < r then lim else r
      let s := updTime (fun x => { x with carry := r - d }) s
      writeIncrement (s.rateTerm + divRound (d * 2 ^ 24) (s.cycleUs * 125)) s

/-- The states of the servo for a message that counts (R293, R296). -/
def servoState (e : Int) (s : State) : State :=
  let near := decide (e.natAbs ≤ 100)
  if s.servo = servoFree ∨ s.servo = servoAcquiring then
    let s := setServo servoAcquiring (updTime (fun x => { x with run := if near then x.run + 1 else 0 }) s)
    if 8 ≤ s.time.run then setServo servoLocked (s.setB R.TIME_STAT 3 false) else s
  else if s.servo = servoHoldover then
    if near then setServo servoLocked (s.setB R.TIME_STAT 3 false)
    else setServo servoAcquiring (updTime (fun x => { x with run := 0 }) s)
  else s

/-- A reference change (R296). -/
def refChanged (s : State) : State := irqSet P.TIME 10 ((s.setB R.TIME_STAT 3 true).bump R.TIME_REF_CHG_CNT)

/-- INCREMENT in units of 2⁻²⁴ ns; TIME in FAULT works on its reset value (R290). -/
def State.increment (s : State) : Nat := if s.timeFault then 0x08000000 else s.regN R.TIME_INCREMENT

/-- Train time where the network clock reads `p` in the running cycle: from the running tick at the rate of INCREMENT
(R272, R289, R291). -/
def State.trainAt (s : State) (p : Int) : Nat :=
  ((s.ttNs : Int) + (p - s.grd.pos) * s.increment / 2 ^ 27).toNat

/-- The action point of entry `n` in train time (R291). -/
def State.actionNs (s : State) (n : Nat) : Nat := let e := s.instEnt n; s.trainAt (s.slotEnt e.ch e.slot).act

/-- TIME_MESSAGE: the servo takes the message of the running cycle (R291, R292). -/
def timeMessage (s : State) : State :=
  let n := s.refMb
  let e := s.instEnt n
  let ok := e.en && !e.tx && (s.buf n).okTotal == some s.grd.total
  if s.refSelf || s.timeFault || !ok || s.time.counted then s else
  let a := 256 * n + 16
  let w := s.commsN (a + 8) 4
  let u := s.commsN (a + 12) 4
  let bad := s.poisoned a 16
  let s := commsRead 0 a 16 s
  if bad || !w.testBit 30 then s
  else if u / 2 ^ 16 % 1024 ≠ s.regF R.TIME_CFG 9 0 then
    if s.regB R.TIME_STAT 3 then s else refChanged s
  else
    let err : Int := ((s.commsN a 8 * 1000000000 + w % 2 ^ 30 : Nat) : Int) - (s.time.latched.getD (s.actionNs n) : Nat)
    let s := updTime (fun x => { x with counted := true }) s
    let s := s.setRegN R.TIME_PHASE_ERR (ofSigned 32 (max (-(2 ^ 31 - 1)) (min (2 ^ 31 - 1) err)))
    let s := s.setRegN R.TIME_TAI_UTC (u % 2 ^ 16 + 2 ^ 16 * b2n (w.testBit 31))
    servoRun err (servoState err s)

/-- The network clock passes from `p0` to its position now: own train time is latched at REF_MB's action point (R291). -/
def refLatch (p0 : Int) (s : State) : State :=
  let n := s.refMb
  let e := s.instEnt n
  let act := (s.slotEnt e.ch e.slot).act
  if e.en && !e.tx && s.inCycle n && decide (p0 ≤ act ∧ (act : Int) < s.grd.pos) then
    updTime (fun x => { x with latched := some (s.actionNs n) }) s
  else s

/-- A basic cycle ends: one of REF_MB's instances without a message that counted (R293). -/
def servoCycle (s : State) : State :=
  let n := s.refMb
  let e := s.instEnt n
  let due := e.en && !e.tx && s.inCycle n
  let missed := due && !s.time.counted && !s.refSelf && !s.timeFault
  let s := updTime (fun x => { x with counted := false, latched := none }) s
  if !missed then s
  else if s.servo = servoAcquiring then setServo servoFree (updTime (fun x => { x with run := 0 }) s)
  else if s.servo = servoLocked then
    writeIncrement s.rateTerm (setServo servoHoldover (updTime (fun x => { x with holdFrom := s.now }) s))
  else s

/-- HOLDOVER_EXPIRED (R293). -/
def holdoverExpired (s : State) : State :=
  if s.servo = servoHoldover ∧ s.time.holdFrom + 1000000 * s.regF R.TIME_HOLDOVER 11 0 ≤ s.now then
    setServo servoFree ((updTime (fun x => { x with run := 0 }) s).bump R.TIME_REF_LOSS_CNT)
  else s

/-- The time unit of the reference writes its message into REF_MB at a latch (R291). -/
def refMessage (s : State) : State :=
  let n := s.refMb
  let e := s.instEnt n
  if !s.refSelf || !e.en || !e.tx then s else
  let t := s.actionNs n
  let leap := b2n (s.regB R.TIME_TAI_UTC 16)
  let unit := leBytes 8 (t / 1000000000) ++ leBytes 4 (t % 1000000000 + 2 ^ 30 * b2n s.timeValid + 2 ^ 31 * leap)
    ++ leBytes 4 (s.regN R.TIME_TAI_UTC % 2 ^ 16 + 2 ^ 16 * s.nodeId)
  let s := commsWrite srcHardware (256 * n + 16) unit (bufWord n 8 16 s)
  setBuf n { s.buf n with latched := some unit, latchAge := 0, commits := [] } s

/-! ### TIME_CFG and the forced adjustment (R293, R295, R296) -/

/-- A write of TIME_CFG takes effect (R293, R296). -/
def writeTimeCfg (w : Word) (s : State) : State :=
  let was := s.reg R.TIME_CFG
  let wasValid := s.timeValid
  let s := s.setReg R.TIME_CFG w
  let s := if fld was 23 0 = fld w 23 0 then s else refChanged s
  let s := if bitOf w 10 && !bitOf was 10 then
      let s := if wasValid then updTime (fun x => { x with selfValid := true }) s else s
      s.setF R.TIME_STAT 9 8 servoFree
    else if bitOf was 10 && !bitOf w 10 then
      (updTime (fun x => { x with run := 0, counted := false }) s).setF R.TIME_STAT 9 8 servoFree
    else s
  timeStat s

/-- The unlock ends. -/
def endUnlock (s : State) : State := timeStat (updTime (fun x => { x with unlock := none }) s)

/-- The unlock is in force. -/
def State.adjOpen (s : State) : Bool := match s.time.unlock with | some (t, _) => decide (s.now < t) | none => false

def cmdTimeSnap (iss : Issuer) : State → State :=
  quick ⟨P.TIME, 0x10, iss⟩ noCheck (fun s =>
    let s := (s.setReg64 R.TIME_SNAP_SEC_LO s.time.sec.toNat).setRegN R.TIME_SNAP_NS s.time.ns
    s.setReg R.TIME_SNAP_TICK (s.reg R.STARTER_TICK))

def cmdAdjUnlock (iss : Issuer) (arg : Nat) : State → State :=
  quickKeyed ⟨P.TIME, 0x11, iss⟩ (fun _ => arg == 0x54AD) noCheck (fun s =>
    timeStat (updTime (fun x => { x with unlock := some (s.now + 1000000, iss) }) s))

/-- ADJ_FORCE: mode 0 applies the refused step, mode 1 sets train time (R295). -/
def cmdAdjForce (iss : Issuer) (arg : Nat) (s : State) : State :=
  let mode1 := arg % 2 == 1
  let check (s : State) : Option Nat :=
    need (decide (arg < 2)) cRange (need (if mode1 then s.refSelf else s.jumpRefused) cState
      (need (s.mode == modeNone || s.mode == modeStop || s.standby || s.halted || !s.anyReleased) cSafety none))
  let body (s : State) : State :=
    if mode1 then
      let t := s.reg64 R.TIME_ADJ_SEC_LO * 1000000000 + s.regF R.TIME_ADJ_NS 29 0
      setRefused false (updTime (fun x => { x with selfValid := true }) (stepTime ((t : Int) - (s.ttNs : Nat)) s))
    else
      let e := toSigned 64 (s.reg64 R.TIME_JUMP_REQ_LO)
      setRefused false (updTime (fun x => { x with carry := 0 }) (stepTime e s))
  let open_ := s.adjOpen
  let s := quickKeyed ⟨P.TIME, 0x12, iss⟩ (fun _ => open_) check body s
  if open_ && s.mayWrite P.TIME iss then endUnlock s else s

def adjExpired (s : State) : State :=
  match s.time.unlock with
  | some (t, _) => if t ≤ s.now then endUnlock s else s
  | none => s

def cmdTimeClr (iss : Issuer) : State → State :=
  quick ⟨P.TIME, 0x13, iss⟩ noCheck fun s => s.clear (regRun R.TIME_STEP_CNT 4 4)

/-- TCAP CLR_CNT (R306). -/
def cmdTcapClr (iss : Issuer) : State → State :=
  quick ⟨P.TCAP, 0x10, iss⟩ noCheck fun s => s.clear (regRun R.TCAP_CMP_FIRE_CNT 5 4 ++ regRun R.TCAP_CAP_CNT 32 4)

/-! ### Meanings -/

def execTimeMessage (s : State) : Host.Outcome State Fault Refusal := .next (timeMessage s)
def execHoldoverExpired (s : State) : Host.Outcome State Fault Refusal := .next (holdoverExpired s)
def execTimeSnap (iss : Issuer) (_arg : BitVec 16) (s : State) : Host.Outcome State Fault Refusal := .next (cmdTimeSnap iss s)
def execAdjUnlock (iss : Issuer) (arg : BitVec 16) (s : State) : Host.Outcome State Fault Refusal :=
  .next (cmdAdjUnlock iss arg.toNat s)
def execAdjForce (iss : Issuer) (arg : BitVec 16) (s : State) : Host.Outcome State Fault Refusal :=
  .next (cmdAdjForce iss arg.toNat s)
def execAdjUnlockExpired (s : State) : Host.Outcome State Fault Refusal := .next (adjExpired s)
def execTimeClrCnt (iss : Issuer) (_arg : BitVec 16) (s : State) : Host.Outcome State Fault Refusal := .next (cmdTimeClr iss s)
def execCompareFire (ch : Fin 32) (pos : Fin 125) (s : State) : Host.Outcome State Fault Refusal :=
  .next (compareFire ch pos s)
def execTcapClrCnt (iss : Issuer) (_arg : BitVec 16) (s : State) : Host.Outcome State Fault Refusal := .next (cmdTcapClr iss s)

end Sys2Proof.Machine
end

