-- ==== Sys2Proof/Machine/Bindings.lean ====
section
/-!
DEFINITION. Which binding targets the configuration enables and what each page demands of a binding (R174, R181), and
which bindings belong to a safety group (R168, R170).
-/
namespace Sys2Proof.Machine

/-- An input-slot binding: DI, measurement, safety state or pair value. -/
def State.inputOk (s : State) (b : Binding) : Bool :=
  if P.FLD ≤ b.page ∧ b.page < P.FLD + 4 then
    decide (b.chan < 16) && s.regB (pa b.page (R.FLD_DI_CFG + 4 * b.chan)) 31
  else if b.page = P.MEASA then decide (b.chan < 8) && !(s.regF (R.MEASA_AI_CFG + 32 * b.chan) 1 0 == 0)
  else if b.page = P.MEASF then decide (b.chan < 4) && s.regB (R.MEASF_FI_CFG + 32 * b.chan) 0
  else if b.page = P.SAFE then decide (b.chan < 8) && s.sgEn b.chan
  else if b.page = P.DISC then decide (b.chan < 32) && s.regB (pairA b.chan) 31
  else false

/-- An output-slot binding: DO, release request or SBO; an SBO must be a member of an enabled group (R400). -/
def State.outputOk (s : State) (b : Binding) : Bool :=
  if P.FLD ≤ b.page ∧ b.page < P.FLD + 4 then
    decide (b.chan < 8) && s.regB (pa b.page (R.FLD_DO_CFG + 4 * b.chan)) 31
  else if b.page = P.SAFE then decide (b.chan < 8) && s.sgEn b.chan
  else if b.page = P.SBO then decide (b.chan < 4) && (s.sboGroup b.chan).isSome
  else false

/-- A receive-block binding: captures (R297), CAN filters (R312) and events, Grador buffers, safe messages (R411),
relay messages (R328) and host mailboxes (R448). -/
def State.receiveOk (s : State) (b : Binding) : Bool :=
  if b.page = P.TCAP then decide (b.chan < 32) && b.size == 32
  else if P.CAN ≤ b.page ∧ b.page < P.CAN + 8 then
    if b.chan = 128 then b.size == 32
    else decide (b.chan < 128) && b.size == 96 && s.regB (pa b.page (R.CAN_FILT_ID + 8 * b.chan)) 31
      && s.regF (pa b.page (R.CAN_FILT_MASK + 8 * b.chan)) 31 30 == 1
  else if b.page = P.GRDMB then
    let e := s.instEnt b.chan
    let x := s.slotEnt e.ch e.slot
    decide (b.chan < 4096) && e.en && !e.tx && !x.paired && b.size == 16 + x.len
  else if b.page = P.SMSG then
    decide (b.chan < 256) && s.connEn b.chan && !s.connTx b.chan && b.size == 16 + (s.connDlen b.chan + 7) / 8 * 8
  else if b.page = P.RELAY then
    decide (b.chan < 256) && decide (16 + 256 ≤ b.size ∧ b.size ≤ 16 + 8192) && b.size % 8 == 0
  else if b.page = P.HOST then decide (b.chan < 256) && decide (b.chan % 64 < 55) && decide (16 ≤ b.size ∧ b.size ≤ 1024)
  else false

/-- A DO is bound to an output slot by the program. -/
def Program.bindsDo (p : Program) (i : Nat) : Bool := p.binds.any fun b => bindDo b == some i

/-- A transmit-block binding: timed outputs (R299), CAN buffers (R315), Grador buffers, safe messages (R407), relay
(R328) and host mailboxes (R448). The buffer a reference node's time unit writes (R291) and the pair block's buffer (R429) cannot be bound. -/
def State.transmitOk (s : State) (p : Program) (b : Binding) : Bool :=
  let once := (p.binds.filter fun x => x.kind == 3 && x.page == b.page && x.chan == b.chan).length == 1
  if b.page = P.TCAP then
    decide (b.chan < 32) && b.size == 16 && s.regB (toutA b.chan) 16 && !p.bindsDo (s.toutDo b.chan) && once
  else if P.CAN ≤ b.page ∧ b.page < P.CAN + 8 then decide (b.chan < 4) && b.size == 72
  else if b.page = P.GRDMB then
    let e := s.instEnt b.chan
    let x := s.slotEnt e.ch e.slot
    decide (b.chan < 4096) && e.en && e.tx && !x.paired && b.size == x.len && !(s.refSelf && s.refMb == b.chan)
      && !(bitOf (s.cfgWord R.PART_CFG) 3 && fld (s.cfgWord R.PART_MB) 27 16 == b.chan)
  else if b.page = P.SMSG then
    decide (b.chan < 256) && s.connEn b.chan && s.connTx b.chan && b.size == s.connDlen b.chan
  else if b.page = P.RELAY then decide (b.chan < 256) && decide (8 ≤ b.size ∧ b.size ≤ 240)
  else if b.page = P.HOST then decide (b.chan < 256) && decide (b.chan % 64 < 55) && decide (8 ≤ b.size ∧ b.size ≤ 1008)
  else false

/-- A binding names a target that the configuration enables, and obeys its page's rules (R174, R208). -/
def State.targetOk (s : State) (p : Program) (b : Binding) : Bool :=
  s.populated b.page && s.en b.page &&
    (if b.kind = 0 then s.inputOk b else if b.kind = 1 then s.outputOk b
     else if b.kind = 2 then s.receiveOk b else s.transmitOk p b)

/-! ### Bindings of safety groups -/

/-- The binding of an input (`out = false`) or output slot. -/
def State.slotBinding (s : State) (out : Bool) (slot : Nat) : Option Binding :=
  s.binds.find? fun b => b.kind == b2n out && b.index == slot

/-- A DI (module index) that a group uses: its reset source or a channel of one of its pairs. -/
def State.diSafety (s : State) (i : Nat) : Bool :=
  (List.range 8).any fun g => s.sgEn g && (s.resetSrc g == i ||
    (List.range 32).any fun p => s.pairMember g p && (s.regF (pairA p) 5 0 == i || s.regF (pairA p) 13 8 == i))

/-- The binding's target is an input, an output or a safe function of a safety group (R168). -/
def State.bindSafety (s : State) (b : Binding) : Bool :=
  if P.FLD ≤ b.page ∧ b.page < P.FLD + 4 then
    if b.kind = 0 then s.diSafety (16 * (b.page - P.FLD) + b.chan) else (s.doGroup (8 * (b.page - P.FLD) + b.chan)).isSome
  else if b.page = P.SBO then (s.sboGroup b.chan).isSome
  else if b.page = P.SAFE then s.sgEn b.chan
  else if b.page = P.DISC then (List.range 8).any fun g => s.pairMember g b.chan
  else false

/-- The program drives an output of group `g`: a member DO by a slot or a timed output, a member SBO, or the data of a
transmit connection (R170). -/
def State.drivesGroup (s : State) (g : Nat) : Bool :=
  s.binds.any fun b =>
    match bindDo b with
    | some i => s.doMember g i
    | none => (b.kind == 1 && b.page == P.SBO && s.sboMember g b.chan)
        || (b.kind == 3 && b.page == P.TCAP && s.doMember g (s.toutDo b.chan))
        || (b.kind == 3 && b.page == P.SMSG && s.connMember g b.chan)

end Sys2Proof.Machine
end

