-- ==== Sys2Proof/Machine/Slots.lean ====
section
/-!
DEFINITION. The image slots of the boot record (R470, R471), confirmation of a trial and fallback (R484), and the
anti-rollback thermometer (R468, R469, R485).
-/
namespace Sys2Proof.Machine

/-- SLOT_STAT of slot `k`: 0 and 1 configuration, 2 and 3 firmware, 4 and 5 application. -/
def slotA (k : Nat) : Nat := R.BOOT_SLOT_STAT + 4 * k

abbrev slotEmpty : Nat := 0
abbrev slotInstalled : Nat := 1
abbrev slotTrial : Nat := 2
abbrev slotConfirmed : Nat := 3
abbrev slotBad : Nat := 4

def State.slotState (s : State) (k : Nat) : Nat := s.regF (slotA k) 2 0
def State.slotPreferred (s : State) (k : Nat) : Bool := s.regB (slotA k) 3
def State.slotSelected (s : State) (k : Nat) : Bool := s.regB (slotA k) 4
def State.slotSvn (s : State) (k : Nat) : Nat := s.regF (slotA k) 22 16

/-- The plaintext payload of a slot, and its container header. -/
def State.slotImage (s : State) (k : Nat) : List Byte := getAt [] s.boot.flash k
def State.slotHeader (s : State) (k : Nat) : List Byte := getAt [] s.boot.headers k

/-- The slot can be loaded or staged: TRIAL or CONFIRMED (R175, R222). -/
def State.slotUsable (s : State) (k : Nat) : Bool := s.slotState k == slotTrial || s.slotState k == slotConfirmed

/-- A slot in trial. -/
def State.trialSlot (s : State) : Option Nat := (List.range 6).find? fun k => s.slotState k == slotTrial

/-- A change of a slot raises SLOT_CHG (R486). -/
def slotChanged (s : State) : State := irqSet P.BOOT 8 s

/-- A slot's state with the reason it is BAD for. -/
def setSlot (k st why : Nat) (s : State) : State := slotChanged ((s.setF (slotA k) 2 0 st).setF (slotA k) 31 24 why)

/-- UPD_STAT.STATE and TRIAL_KIND (R489) with the page state (R488). -/
def setUpd (st kind : Nat) (s : State) : State :=
  let s := (s.setF R.UPD_STAT 3 0 st).setF R.UPD_STAT 9 8 kind
  if s.pgState P.UPD = stFault then s else s.setPgState P.UPD (if st = 0 then stReady else stActive)

/-- No slot is in trial any more: UPD is IDLE unless an operation runs (R489). -/
def updIdle (s : State) : State := setUpd (if s.boot.op.isSome then s.regF R.UPD_STAT 3 0 else 0) 0 s

/-- The anti-rollback count: consecutive 1 bits from bit 916 up (R469). -/
def State.arb (s : State) : Nat :=
  ((List.range 64).find? fun i => !bitOf s.fuses (916 + i)).getD 64

/-- Blow a fuse in its three copies. -/
def blowFuse (i : Nat) (s : State) : State :=
  updBoot (fun b => { b with fuse0 := setBit b.fuse0 i true, fuse1 := setBit b.fuse1 i true,
                             fuse2 := setBit b.fuse2 i true }) s

/-- The thermometer follows a confirmed container with ROLLBACK_COMMIT (R485). -/
def advanceArb (k : Nat) (s : State) : State :=
  let svn := s.slotSvn k
  if (imgN (s.slotHeader k) 8 4).testBit 1 && decide (s.arb < svn) then
    let s := (List.range (svn - s.arb)).foldl (fun t i => blowFuse (916 + s.arb + i) t) s
    s.setF R.BOOT_FUSE_STAT 22 16 s.arb
  else s

/-- A trial slot becomes CONFIRMED (R484). -/
def confirmSlot (k : Nat) (s : State) : State :=
  if s.slotState k = slotTrial then
    advanceArb k (irqSet P.UPD 9 (updIdle (setSlot k slotConfirmed 0 (s.setF (slotA k) 11 8 0))))
  else s

/-- A trial slot falls back: it becomes BAD with a reason, the trial ends, and the fallback is counted (R484, R488). -/
def fallBack (k why : Nat) (s : State) : State :=
  let s := setSlot k slotBad why (s.setF (slotA k) 11 8 0)
  irqSet P.UPD 10 (irqSet P.UPD 9 ((updIdle (s.setB (slotA k) 3 false)).bump R.UPD_FALLBACK_CNT))

end Sys2Proof.Machine
end

