-- ==== Sys2Proof/Machine/Exec.lean ====
section
/-!
DEFINITION. EXEC and DEBUG (chapter 06): admission (R158, R174), loading (R162, R175), mode commands (R162, R169, R178),
forces and breakpoints (R166, R168, R177), and what the boundary does with modes, traps and steps (R163 to R170).
-/
namespace Sys2Proof.Machine

/-! ### State tests -/

/-- SWAP_STAT.STATE (R230). -/
def State.swapState (s : State) : Nat := s.regF R.SWAP_STAT 2 0
abbrev swIdle : Nat := 0
abbrev swStaging : Nat := 1
abbrev swStaged : Nat := 2
abbrev swArmed : Nat := 3
abbrev swTrial : Nat := 4
abbrev swReverting : Nat := 5

/-- FORCE_EN, and STOP_OUT; a page in FAULT works on the reset value (R179). -/
def State.forceEn (s : State) : Bool := s.regB R.EXEC_CFG 2 && !(s.pgState P.EXEC == stFault)

/-- The mode is RUN, HOLD or STEP. -/
def State.active (s : State) : Bool := s.mode == modeRun || s.mode == modeHold || s.mode == modeStep

/-- The largest sum of a stride without migration (R39). -/
def budgetE (us : Nat) : Nat := cyclesC us * 9 / 10 - 2000

/-! ### Admission (R158, R174) -/

/-- The admission check of an image for the configured S. -/
def State.admission (s : State) (img : List Byte) : Admission := runAdmission img s.targetOk (budgetE s.cfgS)

/-- A declared worst case differs from the device's (R160). -/
def declaredDiff (img : List Byte) (a : Admission) : Bool :=
  a.wcets.zipIdx.any fun x => !(getAt 0 (imageHeader img).declWcet x.2 == x.1)

/-- The outcome of an admission stands in the ADM registers; a failure raises ADMIT_FAIL (R173, R174). -/
def admRecord (img : List Byte) (a : Admission) (s : State) : State :=
  let ok := a.reason == 0
  let s := s.setRegN R.EXEC_ADM_STAT ((if ok then 1 else 2) + 2 ^ 8 * a.reason
    + 2 ^ 16 * b2n (declaredDiff img a) + 2 ^ 20 * (a.task % 16))
  let s := (s.setRegN R.EXEC_ADM_FAIL_ADDR a.addr).setRegN R.EXEC_ADM_STRIDE_US s.cfgS
  let s := s.setRegN R.EXEC_ADM_BUDGET (budgetE s.cfgS)
  let s := (s.setRegN R.EXEC_ADM_WORST a.worst).setRegN R.EXEC_ADM_WORST_IDX a.worstIdx
  if ok then s else recordErr P.EXEC 0x41 srcHardware a.reason (irqSet P.EXEC 10 s)

/-- The worst cases of the loaded program's tasks, and the S they hold for. -/
def admPassed (a : Admission) (s : State) : State :=
  let s := forN 16 (fun k t => t.setRegN (R.EXEC_TASK_WCET + 4 * k) (getAt 0 a.wcets k)) s
  updExec (fun e => { e with admS := s.cfgS }) s

/-! ### Loading (R148, R149, R162, R175) -/

/-- The registers that describe the loaded program (R173). -/
def showProgram (p : Option Program) (s : State) : State :=
  match p with
  | some p =>
    let s := s.setReg64 R.EXEC_PROG_ID_LO p.progId
    let s := s.setRegN R.EXEC_PROG_INFO (p.version + 2 ^ 8 * p.tasks.length)
    let s := (s.setRegN R.EXEC_INST_COUNT p.insts.length).setRegN R.EXEC_CODE_BYTES p.code.length
    let s := s.setRegN R.EXEC_DATA_BYTES p.data.length
    forN 16 (fun k t => t.setRegN (R.EXEC_TASK_CFG + 4 * k)
      (match p.tasks[k]? with | some x => x.plog + 2 ^ 16 * x.offset + 2 ^ 31 | none => 0)) s
  | none =>
    s.clear ([R.EXEC_PROG_ID_LO, R.EXEC_PROG_ID_HI, R.EXEC_PROG_INFO, R.EXEC_INST_COUNT, R.EXEC_CODE_BYTES,
      R.EXEC_DATA_BYTES] ++ regRun R.EXEC_TASK_CFG 16 4 ++ regRun R.EXEC_TASK_WCET 16 4)

/-- The areas in use change (R225). -/
def setAreas (code inst : Nat) (s : State) : State :=
  updExec (fun e => { e with codeArea := code, instArea := inst })
    ((s.setB R.SWAP_STAT 8 (code == 1)).setB R.SWAP_STAT 9 (inst == 1))

/-- DBG_STAT counts the forces in force (R176). -/
def showForces (s : State) : State :=
  let n := s.exec.forces.length
  (s.setF R.DEBUG_DBG_STAT 22 16 n).setB R.DEBUG_DBG_STAT 23 (s.exec.forces.any fun f => f.2.1)

/-- TGT of force entry `j`. -/
def forceA (j : Nat) : Nat := R.DEBUG_FORCE_TGT + 16 * j

/-- Every force entry is disabled. -/
def disableForces (s : State) : State := forN 64 (fun j t => t.setB (forceA j) 31 false) s

/-- Every force is removed: the entries are disabled (R168). -/
def dropForces (s : State) : State := showForces (updExec (fun e => { e with forces := [] }) (disableForces s))

/-- The input half of G is 0 with every quality word 0xFF00 (R149). -/
def blankInputs (s : State) : State :=
  loaderBlock 0x600000 (List.replicate 0x6000 0#8 ++ (List.range 3072).flatMap fun _ => [0x00#8, 0xFF#8]) s

/-- The program's bindings change in STOP (R25, R162, R163): every output channel keeps its value beneath a force, as its
new slot's, as its new timed output's, or by itself where the new bindings do not drive it; a forced one shows its forced
value to the next boundary (R168). -/
def rebind (new : List Binding) (s : State) : State :=
  let forced := s.forcedOuts
  let kept := s.keptOutputs new
  let cur := carriedOutputs s new
  let slotOf (x : Nat × Nat × DWord) : Option Nat :=
    (new.find? fun b => b.kind == 1 && b.page == x.1 && b.chan == x.2.1).map (·.index)
  let touts := (new.filter bindTout).map fun b =>
    (b.chan, bitOf (s.committed (P.FLD + s.toutDo b.chan / 8) (s.toutDo b.chan % 8)) 0)
  let s := touts.foldl (fun t x => setTout x.1 { t.tout x.1 with cur := x.2 } t) s
  let s := updSwap (fun x => { x with leaving := forced.filter fun y => (slotOf y).isNone }) s
  let again := forced.filterMap fun y => (slotOf y).map fun i => (i, true, y.2.2)
  updExec (fun e => { e with outCur := cur, kept := kept, forces := again }) s

/-- A new program: its image in the inactive areas, which become active; forces cleared; PTIME 0 (R156, R162, R182). -/
def installProgram (slot : Nat) (p : Program) (s : State) : State :=
  let code := 1 - s.exec.codeArea
  let inst := 1 - s.exec.instArea
  let s := placeData inst p (placeCode code p s)
  let s := setAreas code inst s
  let s := updMems (fun m => { m with batonDirty := m.batonDirty.filter fun r => decide (32768 ≤ r) }) s
  let s := rebind p.binds (blankInputs s)
  let fresh (e : Exec) : Exec :=
    { e with prog := some p, slot := slot, outPend := [], txPend := [],
             due := [], remainder := [], halted := false, running := false, trap := none, txStat := [] }
  let s := showForces (updExec fresh (disableForces s))
  let s := (s.setReg64 R.EXEC_PTIME_LO 0).setReg64 R.EXEC_PSTRIDE_LO 0
  (showProgram (some p) s).setB R.EXEC_MODE 4 true

/-- The end of a LOAD, an ADMIT or the admission of a START (R158). -/
def admitDone (s : State) : State :=
  match s.exec.admitting with
  | none => s
  | some (kind, arg) =>
    let img := if kind = 1 then s.slotImage arg else (match s.exec.prog with | some p => p.image | none => [])
    let a := s.admission img
    let s := updExec (fun e => { e with admitting := none }) s
    let s := if s.pgState P.EXEC = stInit then s.setPgState P.EXEC (execPageState s.mode) else s
    let s := admRecord img a s
    if !(a.reason == 0) then finishErr P.EXEC (admStatus a.reason) s
    else if kind = 1 then finish P.EXEC cDone (setMode modeStop (admPassed a (installProgram arg (imageProgram img) s)))
    else if kind = 3 then finish P.EXEC cDone (admPassed a s)
    else updExec (fun e => { e with waiting := e.waiting ++ [(.start (arg == 1), P.EXEC)] }) (admPassed a s)

/-! ### EXEC commands (R175, R178) -/

/-- In HALTED every page command answers STATE_REJECT (R178). -/
def execGate (rest : State → Option Nat) (s : State) : Option Nat := notHalted s (rest s)

/-- A command whose admission runs: BUSY, with PG_STAT INIT and ADM_STAT RUNNING (R173). -/
def admStart (kind arg : Nat) (s : State) : State :=
  let s := updExec (fun e => { e with admitting := some (kind, arg) }) (s.setF R.EXEC_ADM_STAT 1 0 3)
  if s.pgState P.EXEC = stFault ∨ kind = 4 then s else s.setPgState P.EXEC stInit

def loadGate (arg : Nat) (s : State) : Option Nat :=
  need (s.stopped || s.standby) cState (need (s.swapState == swIdle) cState
    (need (s.slotUsable (4 + arg % 2)) cState none))

def cmdLoad (iss : Issuer) (arg : Nat) : State → State :=
  command ⟨P.EXEC, 0x10, iss⟩ (execGate (loadGate arg)) (admStart 1 (4 + arg % 2))

/-- A mode command waits for the boundary, BUSY (R162). -/
def waitMode (m : ModeCmd) (page : Nat) : State → State := updExec fun e => { e with waiting := e.waiting ++ [(m, page)] }

/-- START is possible: STOP on a module that is no standby; a warm one only where nothing demands a cold one (R220). -/
def startGate (arg : Nat) (s : State) : Option Nat :=
  need (s.mode == modeStop && !s.standby && (arg % 2 == 1 || !s.exec.needCold)) cState none

/-- START: at once its admission where S differs from that of the latest passing one (R158). -/
def cmdStart (iss : Issuer) (arg : Nat) : State → State :=
  command ⟨P.EXEC, 0x11, iss⟩ (execGate (startGate arg)) fun s =>
    if s.exec.admS = s.cfgS then waitMode (.start (arg % 2 == 1)) P.EXEC s else admStart 4 (arg % 2) s

def cmdStop (iss : Issuer) : State → State :=
  command ⟨P.EXEC, 0x12, iss⟩ (execGate fun s => need (s.active && !s.standby) cState none) (waitMode .stop P.EXEC)

def cmdAdmit (iss : Issuer) : State → State :=
  command ⟨P.EXEC, 0x13, iss⟩ (execGate fun s => need (s.mode == modeStop) cState none) (admStart 3 0)

/-- SWAP_STAT.STATE with the page state of R229. -/
def setSwap (st : Nat) (s : State) : State :=
  let s := s.setF R.SWAP_STAT 2 0 st
  if s.pgState P.SWAP = stFault then s
  else s.setPgState P.SWAP (if st = swStaging then stInit else if st = swIdle then stReady else stActive)

/-- UNLOAD: the program is removed (R162); every exchange with it ends. Outputs stay as entry to STOP set them (R163). -/
def unload (s : State) : State :=
  let s := showProgram none (rebind [] s)
  let bare (e : Exec) : Exec :=
    { e with prog := none, admS := 0, txStat := [], outPend := [], txPend := [] }
  let s := updSwap (fun x => { x with staging := none, staged := none, revertReady := false }) (updExec bare s)
  let s := setSwap swIdle s
  let s := (setMode modeNone s).setF R.EXEC_MODE 15 12 6
  s.setB R.EXEC_MODE 4 false

def cmdUnload (iss : Issuer) : State → State :=
  quick ⟨P.EXEC, 0x14, iss⟩ (execGate fun s => need (s.mode == modeStop) cState none) unload

def cmdExecClr (iss : Issuer) : State → State :=
  quick ⟨P.EXEC, 0x15, iss⟩ (execGate noCheck) fun s =>
    s.clear (R.EXEC_TRAP_CNT :: (regRun R.EXEC_TASK_MAX 16 4 ++ regRun R.EXEC_TASK_RUNS 16 4))

/-! ### DEBUG commands (R177, R178) -/

/-- HOLD is refused with STATE_REJECT without HOLD_EN, and with SAFETY_HOLD while a group is released (R165). -/
def holdGate (s : State) : Option Nat :=
  need (s.mode == modeRun && !s.standby) cState (need s.holdEn cState (need (!s.anyReleased) cSafety none))

def cmdHold (iss : Issuer) : State → State :=
  command ⟨P.DEBUG, 0x10, iss⟩ (execGate holdGate) (waitMode .hold P.DEBUG)

def stepGate (s : State) : Option Nat := need (s.mode == modeHold && !s.standby) cState none

def cmdStep (iss : Issuer) : State → State :=
  command ⟨P.DEBUG, 0x11, iss⟩ (execGate stepGate) (waitMode .step P.DEBUG)
def cmdContinue (iss : Issuer) : State → State :=
  command ⟨P.DEBUG, 0x12, iss⟩ (execGate stepGate) (waitMode .cont P.DEBUG)

/-- CLR_FORCE acts at the next boundary and stays BUSY until then (R25, R53). -/
def cmdClrForce (iss : Issuer) : State → State :=
  command ⟨P.DEBUG, 0x13, iss⟩ (execGate noCheck) fun s => { s with deferred := s.deferred ++ [.clrForce] }

def cmdDebugClr (iss : Issuer) : State → State :=
  quick ⟨P.DEBUG, 0x14, iss⟩ (execGate noCheck) fun s => s.clear [R.DEBUG_STEP_CNT, R.DEBUG_BP_SKIP_CNT]

/-! ### Writes to BP and FORCE (R177, R178) -/

/-- The checks of a write to BP with the word `w`. -/
def bpGate (w : Word) (s : State) : Option Nat :=
  let inCode := match s.exec.prog with | some p => decide (4 * fld w 19 2 < p.code.length) | none => false
  need (!bitOf w 31 || inCode) cRange
    (need (!s.halted && !s.standby && !(s.mode == modeNone) && s.holdEn) cState none)

/-- The checks of a write to TGT of force entry `j` with the word `w`: order of R55. -/
def tgtGate (j : Nat) (w : Word) (s : State) : Option Nat :=
  let en := bitOf w 31
  let slot := fld w 11 0
  let out := bitOf w 12
  let taken := (List.range 64).any fun k => !(k == j) && s.regB (forceA k) 31
    && s.regF (forceA k) 12 0 == fld w 12 0
  let b := s.slotBinding out slot
  need (!en || (b.isSome && !taken)) cRange
    (need (!s.halted && !s.standby && !(s.mode == modeNone) && s.forceEn) cState
      (need (!en || (match b with | some b => !s.bindSafety b | none => true)) cSafety none))

/-- The checks of a write to another word of a force entry. -/
def forceGate (s : State) : Option Nat :=
  need (!s.halted && !s.standby && !(s.mode == modeNone) && s.forceEn) cState none

/-- The forces the table enables now: slot, output, value (R168, R177); a bound safety slot is never forced. -/
def State.forceTable (s : State) : List (Nat × Bool × DWord) :=
  (List.range 64).filterMap fun j =>
    let w := s.reg (forceA j)
    let b := s.slotBinding (bitOf w 12) (fld w 11 0)
    if bitOf w 31 && (match b with | some b => !s.bindSafety b | none => false) then
      some (fld w 11 0, bitOf w 12, BitVec.ofNat 64 (s.reg64 (forceA j + 4)))
    else none

/-- The breakpoints the table enables now. -/
def State.bpTable (s : State) : List (Nat × Nat) :=
  (List.range 8).filterMap fun j =>
    let w := s.reg (R.DEBUG_BP + 4 * j)
    if bitOf w 31 then some (j, 4 * fld w 19 2) else none

/-- At a boundary the written forces and breakpoints take effect; without FORCE_EN every force goes (R168). -/
def debugBoundary (s : State) : State :=
  let s := if s.forceEn then s else dropForces s
  showForces (updExec (fun e => { e with forces := s.forceTable, bps := s.bpTable }) s)

/-- CLR_FORCE at its boundary. -/
def clrForceNow (s : State) : State :=
  let s := dropForces s
  if s.busyWith P.DEBUG 0x13 then finish P.DEBUG cDone s else s

/-! ### Modes at the boundary (R162, R163, R169, R170) -/

/-- The trap of the closing stride: registers, interrupt, error, and lock-out of every group the program drives
(R170). -/
def applyTrap (s : State) : State :=
  match s.exec.trap with
  | none => s
  | some (task, code, addr) =>
    let s := updExec (fun e => { e with trap := none }) s
    let s := s.setRegN R.EXEC_TRAP_INFO (task % 16 + 2 ^ 8 * (code % 256) + 2 ^ 16)
    let s := (s.setRegN R.EXEC_TRAP_ADDR addr).bump R.EXEC_TRAP_CNT
    let s := recordErr P.EXEC 0x40 srcProgram task (irqSet P.EXEC 9 s)
    forN 8 (fun g t => if s.drivesGroup g then lockGroup g causeTrap 0 t else t) s

/-- Start running: cold with the image's instance data and time 0, warm with both kept (R162). -/
def startRun (cold : Bool) (s : State) : State :=
  let s := (setMode modeRun s).setF R.EXEC_MODE 15 12 0
  let s := updExec (fun e => { e with flagStart := true, flagCold := cold, kept := [] }) s
  if cold then
    let s := match s.exec.prog with | some p => placeData s.exec.instArea p s | none => s
    let s := updExec (fun e => { e with needCold := false, restored := none }) s
    (s.setReg64 R.EXEC_PTIME_LO 0).setReg64 R.EXEC_PSTRIDE_LO 0
  else s

/-- The first executed stride after a restore counts the strides missed (R220). -/
def restoredStride (s : State) : State :=
  match s.exec.restored with
  | none => s
  | some (n, p, tk, tkValid) =>
    let valid := tkValid && s.timeValid
    let t1 := s.starter.boundNs
    let len := 1000 * s.starter.runS
    let missed := if valid && decide (tk ≤ t1) then (t1 - tk) / len else 0
    let s := s.setReg64 R.EXEC_PSTRIDE_LO ((n + 1 + missed) % 2 ^ 64)
    let s := s.setReg64 R.EXEC_PTIME_LO ((p + missed * len) % 2 ^ 64)
    let s := (s.setReg64 R.BATON_RESTORE_ADV_LO missed).setB R.BATON_RESTORE_STAT 2 (!valid)
    updExec (fun e => { e with restored := none, restoreAdded := missed, flagRestore := true }) s

/-- Every waiting mode command but the winner's is answered STATE_REJECT (R169). -/
def rejectWaiting (s : State) : State :=
  let ws := s.exec.waiting
  ws.foldl (fun t w => finishErr w.2 cState t) (updExec (fun e => { e with waiting := [] }) s)

/-- A waiting command wins: it is answered and the others lose. -/
def winWaiting (m : ModeCmd) (s : State) : State :=
  let page := match s.exec.waiting.find? fun w => w.1 == m with | some w => w.2 | none => P.EXEC
  let s := updExec (fun e => { e with waiting := e.waiting.filter fun w => !(w.1 == m) }) s
  rejectWaiting (finish page cDone s)

/-- A waiting command of a kind. -/
def State.waits (s : State) (m : ModeCmd) : Bool := s.exec.waiting.any fun w => w.1 == m

/-- START, STEP and CONTINUE are held BUSY until a chain is committed (R216). -/
def State.chainRuns (s : State) : Bool := match s.baton.closing with | some (_, c) => c | none => false

/-- An injection test runs: the lanes execute no application code, and a START waits (R107). -/
def State.injRuns (s : State) : Bool := s.regF R.PFC_INJ_STAT 1 0 == 3

/-- The remainder of a halted stride becomes the work of the stride that opens (R166). -/
def resumeRemainder (s : State) : State :=
  let s := s.setB R.DEBUG_DBG_STAT 12 false
  let s := s.setB R.DEBUG_DBG_STAT 1 false
  updExec (fun e => { e with due := e.remainder, remainder := [], running := !e.remainder.isEmpty, halted := false }) s

/-- The decision of R169 at a boundary, after step 1. `trapped`: the closing stride ended in a trap. -/
def modeDecide (trapped : Bool) (s : State) : State :=
  if s.exec.cause1 then rejectWaiting (updExec (fun e => { e with cause1 := false }) s)
  else if trapped && !s.stopped then rejectWaiting (enterStop 3 s)
  else if s.waits .stop && s.active then winWaiting .stop (enterStop 1 s)
  else if s.waits .hold && s.mode == modeRun then
    if s.holdAllowed then
      winWaiting .hold ((setMode modeHold s).setRegN R.DEBUG_HOLD_TICK (s.now % 2 ^ 32))
    else rejectWaiting (finishErr P.DEBUG (if s.holdEn then cSafety else cState)
      (updExec (fun e => { e with waiting := e.waiting.filter fun w => !(w.1 == .hold) }) s))
  else if s.waits .hold && s.mode == modeHold then winWaiting .hold s
  else if s.chainRuns || s.injRuns then s
  else if s.waits .step && s.mode == modeHold then winWaiting .step (setMode modeStep s)
  else if s.waits .cont && s.mode == modeHold then winWaiting .cont (setMode modeRun s)
  else if s.waits (.start true) && s.mode == modeStop then winWaiting (.start true) (startRun true s)
  else if s.waits (.start false) && s.mode == modeStop then winWaiting (.start false) (startRun false s)
  else if s.role == roleTaking && s.part.restored && s.mode == modeStop then
    rejectWaiting (startRun false (updPart (fun p => { p with restored := false }) s))
  else if s.boot.autoStart && s.mode == modeStop && (s.role == roleActive || s.role == roleSingle) then
    rejectWaiting (startRun false (updBoot (fun b => { b with autoStart := false }) s))
  else rejectWaiting s

/-- The mode after a boundary: a STEP stride is back in HOLD, unless an entry of R169 decides otherwise (R167, R176). -/
def modeBoundary (trapped : Bool) (s : State) : State :=
  let step := s.mode == modeStep
  let s := modeDecide trapped (if step then setMode modeHold s else s)
  if step && s.mode == modeHold then s.setRegN R.DEBUG_HOLD_TICK (s.now % 2 ^ 32) else s

/-- Tasks due in executed stride `n`, in ascending number (R154, R155). -/
def dueTasks (p : Program) (n : Nat) : List Nat :=
  (p.tasks.zipIdx.filter fun x => n % 2 ^ x.1.plog == x.1.offset).map (·.2)

/-- Step 6 of R34: what the stride that opens runs (R163, R166, R167). -/
def dispatch (s : State) : State :=
  if s.mode = modeRun ∨ s.mode = modeStep then
    let s := updExec (fun e => { e with executed := true, cyc := 0 }) s
    if s.exec.halted then resumeRemainder s
    else
      let due := match s.exec.prog with | some p => dueTasks p (s.reg64 R.EXEC_PSTRIDE_LO) | none => []
      startTask (updExec (fun e => { e with due := due }) s)
  else updExec (fun e => { e with executed := false, cyc := 0 }) s

/-! ### Meanings -/

def execLoad (iss : Issuer) (arg : BitVec 16) (s : State) : Host.Outcome State Fault Refusal := .next (cmdLoad iss arg.toNat s)
def execLoadDone (s : State) : Host.Outcome State Fault Refusal := .next (admitDone s)
def execStart (iss : Issuer) (arg : BitVec 16) (s : State) : Host.Outcome State Fault Refusal := .next (cmdStart iss arg.toNat s)
def execStop (iss : Issuer) (_arg : BitVec 16) (s : State) : Host.Outcome State Fault Refusal := .next (cmdStop iss s)
def execAdmitImage (iss : Issuer) (_arg : BitVec 16) (s : State) : Host.Outcome State Fault Refusal := .next (cmdAdmit iss s)
def execUnload (iss : Issuer) (_arg : BitVec 16) (s : State) : Host.Outcome State Fault Refusal := .next (cmdUnload iss s)
def execExecClrStat (iss : Issuer) (_arg : BitVec 16) (s : State) : Host.Outcome State Fault Refusal := .next (cmdExecClr iss s)
def execHold (iss : Issuer) (_arg : BitVec 16) (s : State) : Host.Outcome State Fault Refusal := .next (cmdHold iss s)
def execStepCmd (iss : Issuer) (_arg : BitVec 16) (s : State) : Host.Outcome State Fault Refusal := .next (cmdStep iss s)
def execContinueCmd (iss : Issuer) (_arg : BitVec 16) (s : State) : Host.Outcome State Fault Refusal := .next (cmdContinue iss s)
def execClrForce (iss : Issuer) (_arg : BitVec 16) (s : State) : Host.Outcome State Fault Refusal := .next (cmdClrForce iss s)
def execDebugClrStat (iss : Issuer) (_arg : BitVec 16) (s : State) : Host.Outcome State Fault Refusal := .next (cmdDebugClr iss s)

end Sys2Proof.Machine
end

