-- ==== Sys2Proof/Machine/Swap.lean ====
section
/-!
DEFINITION. SWAP (R221 to R227, R229 to R231): the checks of a migration map, its cost, staging, the exchange and the
revert at their boundary.
-/
namespace Sys2Proof.Machine

/-! ### Migration maps (R223, R224) -/

abbrev stageNoMap : Nat := 1
abbrev stageProgId : Nat := 2
abbrev stageHash : Nat := 3
abbrev stageRange : Nat := 4
abbrev stageLimit : Nat := 5
abbrev stageNew : Nat := 6
abbrev stageOld : Nat := 7
abbrev stageAdm : Nat := 8
abbrev stageJfmt : Nat := 9

/-- No number occurs twice. -/
def noRepeat : List Nat → Bool
  | [] => true
  | x :: xs => !xs.contains x && noRepeat xs

/-- Words the copy runs of a map copy. -/
def MigMap.words (m : MigMap) : Nat :=
  m.entries.foldl (fun a e => e.runs.foldl (fun a r => if r.mark then a else a + r.len) a) 0

/-- The cost of a migration in lane cycles (R224). -/
def MigMap.cost (m : MigMap) : Nat := 2000 + 24 * m.entries.length + 8 * m.runs + 2 * m.words

/-- M_LIMIT for S (R222). -/
def migLimit (us : Nat) : Nat := min (100 * us) 100000

def instZero : InstEntry := ⟨0, 0, false, 0⟩
def Program.inst (p : Program) (i : Nat) : InstEntry := getAt instZero p.insts i
def Program.instSize (p : Program) (i : Nat) : Nat :=
  match p.types[(p.inst i).typ]? with | some t => t.size | none => 0

/-- Two runs of new ranges that do not meet. -/
def runsApart : List MigRun → Bool
  | [] => true
  | r :: rs => (r.mark || rs.all fun q => q.mark
      || decide (r.newOff + 8 * r.len ≤ q.newOff) || decide (q.newOff + 8 * q.len ≤ r.newOff)) && runsApart rs

/-- One run of an entry (R223). -/
def runOk (old new : Program) (e : MigEntry) (r : MigRun) : Bool :=
  let n := new.instSize e.new
  if r.mark then
    r.len == 0 && decide (r.kind < 2) && r.oldOff == 0 && r.newOff % 8 == 0 && decide (8 ≤ r.newOff ∧ r.newOff + 8 ≤ n)
  else
    decide (1 ≤ r.len ∧ r.len ≤ 1023) && !e.newOnly && r.oldOff % 8 == 0 && r.newOff % 8 == 0
      && decide (8 ≤ r.oldOff ∧ r.oldOff + 8 * r.len ≤ old.instSize e.old)
      && decide (8 ≤ r.newOff ∧ r.newOff + 8 * r.len ≤ n)

/-- The checks of a map; 0 where it passes (R223). -/
def mapCheck (m : MigMap) (old new : Program) : Nat :=
  let paired := m.entries.filter fun e => !e.newOnly
  if m.oldId ≠ old.progId ∨ m.newId ≠ new.progId then stageProgId
  else if !(m.entries.all fun e => decide (e.new < new.insts.length))
      || !(paired.all fun e => decide (e.old < old.insts.length))
      || !noRepeat (m.entries.map (·.new)) || !noRepeat (paired.map (·.old)) then stageRange
  else if !(paired.all fun e => (old.inst e.old).hash == (new.inst e.new).hash) then stageHash
  else if !(m.entries.all fun e => e.runs.all (runOk old new e) && runsApart e.runs) then stageRange
  else 0

/-- One run at work in a memory: the old data at `o`, the new at `n` (R224). -/
def runMove (o n : Nat) (r : MigRun) (m : List Host.Cell) : List Host.Cell :=
  let a := n + r.newOff
  let first (k : Nat) (m : List Host.Cell) : List Host.Cell := Memory.write m (a + k) (Memory.read m (a + k) ||| 2#8)
  if r.mark then (if r.kind = 0 then first 0 m else first 5 (first 4 m))
  else Memory.writeN m a (Memory.readN m (o + r.oldOff) (8 * r.len))

/-- A migration in a memory from the instance area at `ob` to that at `nb`. -/
def migrate (mp : MigMap) (old new : Program) (ob nb : Nat) (m : List Host.Cell) : List Host.Cell :=
  mp.entries.foldl (fun m e => e.runs.foldl (fun m r =>
    runMove (ob + (old.inst e.old).off) (nb + (new.inst e.new).off) r m) m) m

/-- The new instance of an old one, as an owner of timed outputs (index + 1); `none` without an entry (R226). -/
def MigMap.newOwner (mp : MigMap) (owner : Nat) : Option Nat :=
  if owner = 0 then none
  else (mp.entries.find? fun e => !e.newOnly && e.old + 1 == owner).map fun e => e.new + 1

/-! ### Staging (R222) -/

/-- The answer of a failed STAGE (R231). -/
def stageStatus (reason adm : Nat) : Nat :=
  if reason ≤ stageRange then cIntegrity else if reason ≤ stageOld then cResource
  else if reason = stageAdm then admStatus adm else cVersion

/-- What STAGE finds: its reason, 0 for a pass, and the maps. -/
def stageCheck (s : State) (old new : Program) (a : Admission) (maps : Option (MigMap × MigMap)) :
    Nat × Option (MigMap × MigMap) :=
  let lim := migLimit s.cfgS
  if s.regF R.BATON_STAT 15 12 = 1 then (stageJfmt, none)
  else if !(a.reason == 0) then (stageAdm, none)
  else match maps with
    | none => (stageNoMap, none)
    | some (f, r) =>
      let c := mapCheck f old new
      let d := mapCheck r new old
      let e := budgetE s.cfgS
      if c ≠ 0 then (c, none) else if d ≠ 0 then (d, none)
      else if lim < f.cost ∨ lim < r.cost then (stageLimit, none)
      else if e < a.worst + f.cost then (stageNew, none)
      else if e < (s.admission old.image).worst + r.cost then (stageOld, none)
      else (0, some (f, r))

/-- STAGE ends (R221, R222). -/
def stageDone (s : State) : State :=
  match s.swap.staging, s.exec.prog with
  | some slot, some old =>
    let img := s.slotImage slot
    let new := imageProgram img
    let a := s.admission img
    let s := admRecord img a (updSwap (fun x => { x with staging := none }) s)
    let (why, maps) := stageCheck s old new a (imageMaps img)
    let s := s.setF R.SWAP_STAGE_FAIL 7 0 why
    match maps with
    | some (f, r) =>
      let s := placeData (1 - s.exec.instArea) new (placeCode (1 - s.exec.codeArea) new s)
      let s := updSwap (fun x => { x with staged := some ⟨slot, new, s.exec.slot, old, f, r⟩ }) s
      let s := (s.setRegN R.SWAP_MIG_CYC f.cost).setRegN R.SWAP_MIG_REV_CYC r.cost
      let s := (s.setRegN R.SWAP_MAP_ENTRIES f.entries.length).setRegN R.SWAP_MAP_RUNS f.runs
      let s := (s.setRegN R.SWAP_MAP_WORDS f.words).setReg64 R.SWAP_NEW_PROG_ID_LO new.progId
      finish P.SWAP cDone (irqSet P.SWAP 8 (setSwap swStaged s))
    | none =>
      let s := recordErr P.SWAP (if why ≤ stageRange ∨ why = stageJfmt then 0x40 else 0x41) srcHardware why s
      finishErr P.SWAP (stageStatus why a.reason) (setSwap swIdle s)
  | _, _ => s

/-! ### Commands (R231) -/

/-- HALTED and standby refuse every command but CLR_STAT. -/
def swapGate (ok : State → Bool) (s : State) : Option Nat :=
  notHalted s (need (!s.standby) cState (need (ok s) cState none))

/-- The inactive areas are released. -/
def releaseStaged (s : State) : State :=
  setSwap swIdle (updSwap (fun x => { x with staging := none, staged := none, revertReady := false }) s)

def cmdStage (iss : Issuer) (arg : Nat) : State → State :=
  command ⟨P.SWAP, 0x10, iss⟩ (swapGate fun s => !(s.mode == modeNone) && s.swapState == swIdle
      && !s.regB R.BATON_STAT 8 && s.slotUsable (4 + arg % 2)) fun s =>
    setSwap swStaging (updSwap (fun x => { x with staging := some (4 + arg % 2) }) s)

def cmdArm (iss : Issuer) : State → State :=
  quick ⟨P.SWAP, 0x11, iss⟩ (swapGate fun s => s.mode == modeRun && s.swapState == swStaged
    && !(s.pgState P.SWAP == stFault)) (setSwap swArmed)

def cmdDisarm (iss : Issuer) : State → State :=
  quick ⟨P.SWAP, 0x12, iss⟩ (swapGate fun s => s.swapState == swArmed) (setSwap swStaged)

def cmdCancel (iss : Issuer) : State → State :=
  quick ⟨P.SWAP, 0x13, iss⟩ (swapGate fun s => s.swapState == swStaged) releaseStaged

/-- CONFIRM accepts the trial, and confirms a trial slot the exchange went to (R221, R484). -/
def confirmTrial (s : State) : State :=
  let slot := match s.swap.staged with | some x => x.slot | none => s.exec.slot
  irqSet P.SWAP 11 (confirmSlot slot (releaseStaged s))

def cmdConfirm (iss : Issuer) : State → State :=
  quick ⟨P.SWAP, 0x14, iss⟩ (swapGate fun s => s.swapState == swTrial) confirmTrial

/-- A revert begins: 1 window expired, 2 command (R227). -/
def startRevert (cause : Nat) (s : State) : State :=
  updSwap (fun x => { x with revertReady := false }) (setSwap swReverting (s.setF R.SWAP_STAT 15 12 cause))

def cmdRevert (iss : Issuer) : State → State :=
  quick ⟨P.SWAP, 0x15, iss⟩ (swapGate fun s => s.swapState == swTrial && (s.mode == modeRun || s.mode == modeStop))
    (startRevert 2)

def cmdSwapClr (iss : Issuer) : State → State :=
  quick ⟨P.SWAP, 0x16, iss⟩ noCheck fun s => s.clear [R.SWAP_EXCH_CNT, R.SWAP_REVERT_CNT]

/-- TRIAL_LEFT has reached 0 without a CONFIRM (R227). -/
def trialExpired (s : State) : State :=
  if s.swapState = swTrial ∧ s.regN R.SWAP_TRIAL_LEFT = 0 then startRevert 1 s else s

/-- The old image's initial data, from its slot, stands in the inactive instance area (R227). A slot that no longer holds
the old image fails the revert, which then waits (REVERT_FAIL, R231; DESIGN CHOICE, log entry 187). -/
def revertLoaded (s : State) : State :=
  match s.swap.staged with
  | some x =>
    if s.swapState = swReverting && !s.swap.revertReady then
      if (imageProgram (s.slotImage x.oldSlot)).progId = x.old.progId then
        updSwap (fun y => { y with revertReady := true }) (placeData (1 - s.exec.instArea) x.old s)
      else recordErr P.SWAP 0x42 srcHardware x.oldSlot s
    else s
  | none => s

/-! ### The exchange at its boundary (R225, R226) -/

/-- CONFIRM_WIN; a page in FAULT works on the reset value. -/
def State.confirmWin (s : State) : Nat :=
  if s.pgState P.SWAP = stFault then 600000 else s.regN R.SWAP_CONFIRM_WIN

/-- The negotiated journal format (R233). -/
def State.jfmt (s : State) : Nat := s.regF R.BATON_STAT 15 12

/-- An exchange is due at a boundary that opens stride `n`, or a revert, but for the baton's set. JFMT 1 allows none
(R213, R225, R227). -/
def State.exchangeWanted (s : State) (n : Nat) : Bool :=
  !(s.jfmt == 1) && ((s.swapState == swArmed && s.mode == modeRun && decide (s.reg64 R.SWAP_AT_LO ≤ n))
    || (s.swapState == swReverting && s.swap.revertReady && (s.mode == modeRun || s.mode == modeStop)))

/-- Output channels the old program drives and the new one does not, with what they carry (R225). -/
def leavingOutputs (s : State) (new : Program) : List (Nat × Nat × DWord) :=
  (s.binds.filterMap s.drives).filterMap fun x =>
    if new.binds.any fun c => s.drives c == some x then none else some (x.1, x.2, s.committed x.1 x.2)

/-- Timed output `t` crosses the exchange: it moves with its paired owner, or is cancelled (R226). -/
def crossTout (mp : MigMap) (new : Program) (t : Nat) (s : State) : State :=
  let x := s.tout t
  if !x.pend then s else
  match mp.newOwner x.owner with
  | some o =>
    if new.binds.any fun b => b.kind == 3 && b.page == P.TCAP && b.chan == t then setTout t { x with owner := o } s
    else
      let s := updSwap (fun y => { y with leavingTouts := t :: y.leavingTouts }) (cancelTout t s)
      s.bump R.SWAP_TOUT_CANCEL
  | none =>
    let s := updSwap (fun y => { y with leavingTouts := t :: y.leavingTouts }) (cancelTout t s)
    s.bump R.SWAP_TOUT_CANCEL

/-- The new bindings take over for the freeze of the boundary: code that switches nothing yet (R225). -/
def switchBindings (new : Program) (slot : Nat) (mp : MigMap) (s : State) : State :=
  let leave := leavingOutputs s new
  let carry := carriedOutputs s new.binds
  let s := forN 32 (crossTout mp new) (s.setReg R.SWAP_TOUT_CANCEL 0)
  let s := updSwap (fun x => { x with leaving := leave }) s
  let e := s.exec
  let s := { s with exec := { e with prog := some new, slot := slot, outCur := carry, txStat := [] } }
  admPassed (s.admission new.image) (showProgram (some new) s)

/-- The words a migration reads and writes: from, where, and how many bytes. A MARK run works on one word (R224). -/
def MigMap.moves (mp : MigMap) (old new : Program) (ob nb : Nat) : List (Nat × Nat × Nat) :=
  mp.entries.flatMap fun e => e.runs.map fun r =>
    let n := nb + (new.inst e.new).off + r.newOff
    if r.mark then (n, n, 8) else (ob + (old.inst e.old).off + r.oldOff, n, 8 * r.len)

/-- The check codes of a migration in the lanes in service: the supervisor reads the old words and stores new ones
(R126, R131). -/
def migrateCodes (moves : List (Nat × Nat × Nat)) (s : State) : State :=
  if s.mems.upset.isEmpty && s.mems.writeBack.isEmpty then s else
  moves.foldl (fun t m => t.lanesIn.foldl (fun u l => freshWords l m.2.1 m.2.2 u) (lanesRead m.1 m.2.2 2 t)) s

/-- The migration in every lane in service, then the areas switch (R224, R225). -/
def migrateLanes (mp : MigMap) (old new : Program) (s : State) : State :=
  let ob := s.instBase
  let nb := 0x200000 + 0x200000 * (1 - s.exec.instArea)
  let s := migrateCodes (mp.moves old new ob nb) s
  let s := s.lanesIn.foldl (fun t l => updLane l (fun x => { x with sram := migrate mp old new ob nb x.sram }) t) s
  let s := markClone nb 0x200000 s
  setAreas (1 - s.exec.codeArea) (1 - s.exec.instArea) s

/-- The exchange or revert that a boundary opening stride `n` makes; `closed` says whether the baton closed a set there.
The bindings change before the freeze, the areas after it. -/
def exchangeBindings (n : Nat) (closed : Bool) (s : State) : State :=
  let s := s.setB R.SWAP_STAT 3 (s.exchangeWanted n && !closed)
  match s.swap.staged with
  | some x =>
    if s.exchangeWanted n && closed then
      if s.swapState = swArmed then switchBindings x.new x.slot x.fwd s else switchBindings x.old x.oldSlot x.rev s
    else s
  | none => s

/-- Step 6 of an exchange: migration, switch and bookkeeping (R225 to R228). -/
def exchangeAreas (n : Nat) (s : State) : State :=
  match s.swap.staged with
  | some x =>
    if s.swapState = swArmed then
      let s := migrateLanes x.fwd x.old x.new s
      let s := (s.setRegN R.SWAP_TRIAL_LEFT s.confirmWin).setReg64 R.SWAP_EXCH_PSTRIDE_LO n
      let s := updBaton (fun b => { b with exchNext := 1 }) s
      irqSet P.SWAP 9 (setSwap swTrial (s.bump R.SWAP_EXCH_CNT))
    else
      let s := migrateLanes x.rev x.new x.old s
      let s := updBaton (fun b => { b with exchNext := 2 }) s
      let s := if s.slotState x.slot = slotTrial then fallBack x.slot 0x12 s else s
      irqSet P.SWAP 10 (releaseStaged (s.bump R.SWAP_REVERT_CNT))
  | none => s

/-- The off value of an output channel: that of the timed output that names the DO, else 0 (R226, R304). -/
def State.offValue (s : State) (page chan : Nat) : Bool :=
  (List.range 32).any fun t => s.regB (toutA t) 16 && s.regB (toutA t) 8
    && decide (P.FLD + s.toutDo t / 8 = page ∧ s.toutDo t % 8 = chan)

/-- What an exchange left open until the next boundary takes its off value there (R225, R226). -/
def exchangeLeft (s : State) : State :=
  let s := s.swap.leavingTouts.foldl (fun u t => setTout t { u.tout t with cur := u.regB (toutA t) 8 } u) s
  let left := (s.swap.leaving.filter fun y => s.offValue y.1 y.2.1).map fun y => (y.1, y.2.1, outWord true)
  updSwap (fun x => { x with leavingTouts := [], leaving := left }) s

/-! ### Meanings -/

def execStage (iss : Issuer) (arg : BitVec 16) (s : State) : Host.Outcome State Fault Refusal :=
  .next (cmdStage iss arg.toNat s)
def execStageDone (s : State) : Host.Outcome State Fault Refusal := .next (stageDone s)
def execArm (iss : Issuer) (_arg : BitVec 16) (s : State) : Host.Outcome State Fault Refusal := .next (cmdArm iss s)
def execDisarm (iss : Issuer) (_arg : BitVec 16) (s : State) : Host.Outcome State Fault Refusal := .next (cmdDisarm iss s)
def execCancel (iss : Issuer) (_arg : BitVec 16) (s : State) : Host.Outcome State Fault Refusal := .next (cmdCancel iss s)
def execConfirm (iss : Issuer) (_arg : BitVec 16) (s : State) : Host.Outcome State Fault Refusal := .next (cmdConfirm iss s)
def execRevert (iss : Issuer) (_arg : BitVec 16) (s : State) : Host.Outcome State Fault Refusal := .next (cmdRevert iss s)
def execSwapClrStat (iss : Issuer) (_arg : BitVec 16) (s : State) : Host.Outcome State Fault Refusal := .next (cmdSwapClr iss s)
def execTrialLeftExpired (s : State) : Host.Outcome State Fault Refusal := .next (trialExpired s)
def execRevertDataLoaded (s : State) : Host.Outcome State Fault Refusal := .next (revertLoaded s)

end Sys2Proof.Machine
end

