-- ==== Sys2Proof/Machine/Baton.lean ====
section
/-!
DEFINITION. The baton (R211 to R220, R228, R232 to R234): journal entries, closing and committing sets, sweeps, power
failure, and the restore of the latest commit.
-/
namespace Sys2Proof.Machine

abbrev ringBase : Nat := 0x280000
abbrev ringSize : Nat := 0x800000
abbrev retainedLines : Nat := 40960
/-- The model's own places of the two copies of the baton's control block (DESIGN CHOICE, log entry 72). -/
def controlAt (k : Nat) : Nat := 0xC80000 + 64 * k
/-- Bytes of a control block. -/
abbrev controlLen : Nat := 40

/-! ### Entries (R212) -/

/-- Groups of 64 lines that some lines fall in, rising. -/
def lineGroups (lines : List Nat) : List Nat := lines.foldl (fun gs l => insertLine (l / 64) gs) []

/-- The map of an entry. -/
def entryMap (lines : List Nat) : List Byte :=
  let gs := lineGroups lines
  let mask (g : Nat) : Nat := lines.foldl (fun a l => if l / 64 = g then a + 2 ^ (l % 64) else a) 0
  leBytes 80 (gs.foldl (fun a g => a + 2 ^ g) 0) ++ gs.flatMap fun g => leBytes 8 (mask g)

/-- Bytes padded with 0 to a multiple of 64. -/
def padTo64 (bs : List Byte) : List Byte := bs ++ List.replicate ((64 - bs.length % 64) % 64) 0

/-- An entry's bytes: header, map, lines, trailer with its CRC. -/
def entryBytes (typ jfmt seq : Nat) (lines : List (Nat × List Byte)) (t : Trailer) : List Byte :=
  let map := entryMap (lines.map (·.1))
  let head := padTo64 (leBytes 4 0x4E544142 ++ leBytes 4 (typ + 256 * jfmt) ++ leBytes 8 seq
    ++ leBytes 4 lines.length ++ leBytes 4 map.length)
  let tail := leBytes 8 seq ++ leBytes 8 t.pstride ++ leBytes 8 t.ptime ++ leBytes 8 t.sec ++ leBytes 4 t.ns
    ++ leBytes 4 t.flags ++ leBytes 8 t.progId ++ leBytes 4 t.trialLeft ++ List.replicate 8 0
  let all := head ++ padTo64 map ++ lines.flatMap (·.2) ++ tail
  all ++ leBytes 4 (crc32 all)

/-- Bytes into the ring from a position, wrapping at its end. -/
def ringPut (pos : Nat) (bs : List Byte) (m : List Host.Cell) : List Host.Cell :=
  let n := ringSize - pos
  Memory.writeN (Memory.writeN m (ringBase + pos) (bs.take n)) ringBase (bs.drop n)

/-- `n` bytes of the ring from a position. -/
def ringGet (pos n : Nat) (m : List Host.Cell) : List Byte :=
  let p := pos % ringSize
  let k := min n (ringSize - p)
  Memory.readN m (ringBase + p) k ++ Memory.readN m ringBase (n - k)

/-! ### Writing the MRAM -/

/-- Every MRAM write of the baton goes over the partner link too (R215, R428). A page in FAULT works on the reset value
(R234). -/
def mirrorOut (addr len : Nat) (s : State) : State :=
  if bitOf (s.cfgWord R.BATON_CFG) 0 && s.regB R.BATON_STAT 9 && s.role == roleActive then s.send (.mirror addr len) else s

/-- A control block whose CRC verifies: its number, and its bytes (R211). -/
def controlCopy (k : Nat) (m : List Host.Cell) : Option (Nat × List Byte) :=
  let bs := Memory.readN m (controlAt k) controlLen
  if imgN bs (controlLen - 4) 4 = crc32 (bs.take (controlLen - 4)) then some (imgN bs 28 8, bs) else none

/-- The newest of the two control blocks. -/
def newestControl (m : List Host.Cell) : Option (Nat × List Byte) :=
  match controlCopy 0 m, controlCopy 1 m with
  | some a, some b => if a.1 < b.1 then some b else some a
  | some a, none => some a
  | none, b => b

/-- The control block: restore start, the SEQ there, wraps, PFAIL_CNT, whether the base image is not read and whether a
ring sweep is due, and its number. Each write replaces the older of the two copies (R211, R219, R228). -/
def writeControl (s : State) : State :=
  let n := match newestControl s.baton.mram with | some c => c.1 + 1 | none => 0
  let body := leBytes 4 (s.regN R.BATON_RING_START) ++ leBytes 8 s.baton.startSeq ++ leBytes 4 (s.regN R.BATON_RING_WRAPS)
    ++ leBytes 4 (s.regN R.BATON_PFAIL_CNT) ++ leBytes 8 (b2n s.baton.baseBad + 2 * b2n s.baton.ringDue) ++ leBytes 8 n
  let put (b : Baton) : Baton := { b with mram := Memory.writeN b.mram (controlAt (n % 2)) (body ++ leBytes 4 (crc32 body)) }
  mirrorOut (controlAt (n % 2)) controlLen (updBaton put s)

/-- Write an entry at the head of the ring (R212). -/
def putEntry (typ : Nat) (lines : List (Nat × List Byte)) (t : Trailer) (s : State) : State :=
  let seq := s.baton.seq + 1
  let pos := s.regN R.BATON_RING_HEAD
  let bs := entryBytes typ s.jfmt seq lines t
  let next := pos + bs.length
  let s := updBaton (fun b => { b with mram := ringPut pos bs b.mram, seq := seq, written := b.written + bs.length }) s
  let s := s.setRegN R.BATON_RING_HEAD (next % ringSize)
  mirrorOut (ringBase + pos) bs.length (if ringSize ≤ next then s.bump R.BATON_RING_WRAPS else s)

/-- Bytes an entry of some lines takes. -/
def entrySize (lines : List Nat) : Nat :=
  128 + (80 + 8 * (lineGroups lines).length + 63) / 64 * 64 + 64 * lines.length

/-- A run of at most 8,192 lines after another (R216). -/
def chainParts {α : Type} : Nat → List α → List (List α)
  | 0, _ => []
  | n + 1, lines => if lines.length ≤ 8192 then [lines] else lines.take 8192 :: chainParts n (lines.drop 8192)

/-! ### Closing a set (R214, R216) -/

def trailerZero : Trailer := ⟨0, 0, 0, 0, 0, 0, 0⟩

/-- The trailer of a set that closes at the running boundary (R212): the stride it names and its program time there. JFMT 1
has no EXCH, REVERT and TRIAL (R213). -/
def setTrailer (executed : Bool) (s : State) : Trailer :=
  let n := s.reg64 R.EXEC_PSTRIDE_LO
  let p := s.reg64 R.EXEC_PTIME_LO
  let trial := s.swapState == swTrial
  { pstride := if executed then n else (n + 2 ^ 64 - 1) % 2 ^ 64,
    ptime := if executed then (p + 1000 * s.starter.runS) % 2 ^ 64 else p,
    sec := s.starter.boundNs / 1000000000, ns := s.starter.boundNs % 1000000000,
    flags := min 255 s.baton.joined + (if s.jfmt = 1 then 0 else 2 ^ 8 * b2n (s.baton.exchNext == 1)
      + 2 ^ 9 * b2n (s.baton.exchNext == 2) + 2 ^ 10 * b2n trial) + 2 ^ 11 * b2n s.timeValid,
    progId := match s.exec.prog with | some x => x.progId | none => 0,
    trialLeft := if trial then s.regN R.SWAP_TRIAL_LEFT else 0 }

/-- BATON_STAT.COALESCED and OVERSIZE of the boundary with their counters, interrupts and error (R232, R234). -/
def batonFlags (coalesced oversize : Bool) (s : State) : State :=
  let was := s.regB R.BATON_STAT 5
  let s := (s.setB R.BATON_STAT 4 coalesced).setB R.BATON_STAT 5 oversize
  let s := if coalesced then irqSet P.BATON 8 (s.bump R.BATON_COALESCE_CNT) else s
  if oversize then
    let s := irqSet P.BATON 9 (s.bump R.BATON_OVERSIZE_CNT)
    if was then s else recordErr P.BATON 0x40 srcHardware 0 s
  else s

/-- The baton closes sets: an enabled page on a module that is no standby, before PFAIL and outside a restore. -/
def State.batonCloses (s : State) : Bool :=
  s.en P.BATON && !s.halted && !s.standby && !s.regB R.BATON_STAT 10 && s.baton.restoring.isNone

/-- BATON_STAT.PHASE. -/
def setPhase (p : Nat) (s : State) : State := s.setF R.BATON_STAT 2 0 p

/-- Copy-on-write counters of the stride that closes (R136). -/
def cowStats (s : State) : State :=
  let s := forN 3 (fun m t => if t.inService m then
    (t.setF (pa (P.MEM + m) R.MEM_COW_LAST) 15 0 t.mems.cowNow).maxReg (pa (P.MEM + m) R.MEM_COW_MAX) t.mems.cowNow
    else t) s
  updMems (fun m => { m with cowNow := 0 }) s

/-- The open map becomes the closed set (R214). -/
def closeSet (executed chain : Bool) (s : State) : State :=
  let lines := s.mems.batonDirty
  let t := setTrailer executed s
  let s := forN 3 (fun m u => if u.inService m then u.maxReg (pa (P.MEM + m) R.MEM_BDIRTY_MAX) lines.length else u) s
  let s := updMems (fun m => { m with batonDirty := [], closed := lines, cow := [] }) s
  setPhase 1 (updBaton (fun b => { b with closing := some (t, chain), closedInst := s.exec.instArea,
                                          closedLines := lines, closedAt := s.now, streamed := [],
                                          joined := 0, exchNext := 0 }) s)

/-- Step 3 of R34 (R214): the first row that applies. `writes` says whether the stride that opens runs the Stride engine;
the answer says whether a set closed. -/
def batonBoundary (overrun executed writes : Bool) (s : State) : Bool × State :=
  let s := cowStats s
  let s := s.setF R.BATON_LAG 15 0 (min 0xFFFF (s.regF R.BATON_LAG 15 0 + 1))
  let join (u : State) : State := updBaton (fun b => { b with joined := b.joined + 1 }) u
  if !s.batonCloses || overrun then (false, batonFlags false false s)
  else if s.baton.closing.isSome then (false, join (batonFlags true false s))
  else if 8192 < s.mems.batonDirty.length ∧ (writes = true ∨ s.jfmt = 1) then (false, join (batonFlags true true s))
  else (true, closeSet executed (decide (8192 < s.mems.batonDirty.length)) (batonFlags false false s))

/-- LAG has reached LAG_LIMIT; a page in FAULT works on its reset value (R216, R234). -/
def batonStale (s : State) : State :=
  let limit := if s.pgState P.BATON = stFault then 0x20 else s.regF R.BATON_CFG 15 8
  if limit ≤ s.regF R.BATON_LAG 15 0 ∧ s.regB R.BATON_STAT 6 = false then irqSet P.BATON 10 (s.setB R.BATON_STAT 6 true)
  else s

/-! ### Streaming (R21, R215) -/

/-- One line at lane address `a` leaves the lanes over the PFC, its eight words voted (R21): its bytes. Where the lanes
hold the same, the vote decides nothing else. -/
def streamLine (a : Nat) (s : State) : List Byte × State :=
  let s := lanesRead a 64 3 s
  let lead := Memory.readN (s.lane s.lead).sram a 64
  if s.lanesIn.all fun l => Memory.readN (s.lane l).sram a 64 == lead then (lead, s)
  else (List.range 8).foldl (fun x i =>
    match voteValue (0x1000000 + a + 8 * i) (fun l => Memory.readLe (x.2.lane l).sram (a + 8 * i) 8) x.2 with
    | (some v, t) => (x.1 ++ leBytes 8 v, t)
    | (none, t) => (x.1 ++ List.replicate 8 0#8, t)) ([], s)

/-- Where a line of the closed set is read: in the copy-on-write store, or at its own address in the areas that were
active when the set closed (R136). -/
def State.closedAddr (s : State) (r : Nat) : Nat :=
  match s.mems.cow.findIdx? fun x => x == r with
  | some k => cowAddr k
  | none => if r < 32768 then 0x200000 + 0x200000 * s.baton.closedInst + 64 * r else 0x600000 + 64 * (r - 32768)

/-- The next `k` lines of the closed set are streamed, in ascending order. -/
def streamLines : Nat → State → State
  | 0, s => s
  | k + 1, s =>
    match s.mems.closed with
    | [] => s
    | r :: rest =>
      let (bs, s) := streamLine (s.closedAddr r) s
      streamLines k (updBaton (fun b => { b with streamed := (r, bs) :: b.streamed })
        (updMems (fun m => { m with closed := rest }) s))

/-- The ring has room for the closed set: bytes at and after the restore start are never written (R217). -/
def State.ringRoom (s : State) : Bool :=
  decide (s.baton.written + (chainParts 6 s.baton.closedLines).foldl (fun a p => a + entrySize p) 0 ≤ ringSize)

/-- Lines that have left `us` µs after the set closed, at 4,096 per millisecond (R215). -/
def streamDue (us : Nat) : Nat := us * 4096 / 1000

/-- A tick of the stream: lines leave at the interface's rate, unless the ring has no room (R215, R217). With the last
line the trailer is next (R233). -/
def streamTick (s : State) : State :=
  if s.baton.closing.isNone || s.halted || !s.ringRoom then s else
  let s := streamLines (streamDue (s.now - s.baton.closedAt) - s.baton.streamed.length) s
  if s.mems.closed.isEmpty && s.regF R.BATON_STAT 2 0 == 1 then setPhase 2 s else s

/-! ### Sweeps (R217, R228) -/

/-- Lines in the open map or in a closed set not yet streamed. -/
def State.unsettled (s : State) (r : Nat) : Bool := s.mems.batonDirty.contains r || s.mems.closed.contains r

/-- Lines are streamed with their bytes. -/
def streamAll (lines : List Nat) (s : State) : List (Nat × List Byte) × State :=
  lines.foldl (fun x r => let y := streamLine (x.2.retainedAddr r) x.2; (x.1 ++ [(r, y.1)], y.2)) ([], s)

/-- The lane copies of some lines into the base image. -/
def baseWrite (lines : List Nat) (s : State) : State :=
  lines.foldl (fun t r =>
    let x := streamLine (t.retainedAddr r) t
    mirrorOut (64 * r) 64 (updBaton (fun b => { b with mram := Memory.writeN b.mram (64 * r) x.1 }) x.2)) s

/-- The lane copies of some lines into the ring as SWEEP entries. -/
def ringSweepWrite (lines : List Nat) (s : State) : State :=
  (chainParts 5 lines).foldl (fun t p => let x := streamAll p t; putEntry 2 x.1 trailerZero x.2) s

/-- A sweep writes lines where it writes. -/
def sweepWrite (lines : List Nat) (s : State) : State :=
  if lines.isEmpty then s
  else if s.regB R.BATON_STAT 8 then ringSweepWrite lines s else baseWrite lines s

/-- A ring sweep can write some lines: JFMT 2, and room before the restore start (R213, R217). -/
def State.sweepRoom (s : State) (lines : List Nat) : Bool :=
  !s.regB R.BATON_STAT 8 || (!(s.jfmt == 1)
    && decide (s.baton.written + (chainParts 5 lines).foldl (fun a p => a + entrySize p) 0 ≤ ringSize))

/-- A sweep starts at line 0 (R217). -/
def startSweep (ring : Bool) (s : State) : State :=
  let at_ := (s.regN R.BATON_RING_HEAD, s.baton.seq + 1)
  updBaton (fun b => { b with sweepAt := some at_, sweepPos := 0, sweepTodo := [] })
    ((s.setB R.BATON_STAT 7 true).setB R.BATON_STAT 8 ring)

/-- An exchange is not yet committed: the lane copies of unmarked lines are not yet committed values (R228). -/
def State.exchangeOpen (s : State) : Bool :=
  !(s.baton.exchNext == 0)
    || (match s.baton.closing with | some (t, _) => t.flags.testBit 8 || t.flags.testBit 9 | none => false)

/-- The sweep visits its next `n` lines: those whose lane copy is the committed value are written, the others are passed
over until a commit carries them. Between an exchange and its commit it waits (R217, R228; DEDUCED, log entry 188). -/
def sweepVisit (n : Nat) (s : State) : State :=
  if s.baton.sweepAt.isNone || s.halted || s.exchangeOpen then s else
  let pos := s.baton.sweepPos
  let lines := (List.range (min n (retainedLines - pos))).map fun i => pos + i
  let ready := lines.filter fun r => !s.unsettled r
  if !s.sweepRoom ready then s else
  let pass (b : Baton) : Baton :=
    { b with sweepPos := pos + lines.length, sweepTodo := b.sweepTodo ++ lines.filter s.unsettled }
  sweepWrite ready (updBaton pass s)

/-- A tick of the running sweep, at the lowest MRAM priority: how many lines it visits is a free value (log entry 188). -/
def sweepTick (s : State) : State :=
  if s.baton.sweepAt.isNone then s else (sweepVisit ((Config.freeValue s.freeCtr).toNat % 8) s).fresh

/-- A tick of the baton (R215, R217). -/
def batonTick (s : State) : State := sweepTick (streamTick s)

/-- A sweep that stops where it is. -/
def stopSweep (s : State) : State :=
  updBaton (fun b => { b with sweepAt := none, sweepPos := 0, sweepTodo := [] })
    ((s.setB R.BATON_STAT 7 false).setB R.BATON_STAT 8 false)

/-- SWEEP_COMPLETE: the sweep has visited every line. When each line it passed over is in a commit since its start, it is
complete and the restore start moves. After a ring sweep the base image is not read until the next sweep is complete
(R217, R228). -/
def sweepComplete (s : State) : State :=
  let s := sweepVisit retainedLines s
  match s.baton.sweepAt with
  | some (pos, seq) =>
    if s.halted || decide (s.baton.sweepPos < retainedLines) || !s.baton.sweepTodo.isEmpty then s else
    let ring := s.regB R.BATON_STAT 8
    let s := stopSweep s
    let s := (s.setRegN R.BATON_RING_START pos).bump R.BATON_SWEEP_CNT
    let w := (s.regN R.BATON_RING_HEAD + ringSize - pos) % ringSize
    writeControl (updBaton (fun b => { b with startSeq := seq, written := w, baseBad := ring,
                                              ringDue := if ring then false else b.ringDue }) s)
  | none => s

/-! ### Commits (R213, R215, R216) -/

/-- The entries of the closed set: PART entries and a COMMIT. -/
def putSet (t : Trailer) (s : State) : State :=
  let parts := chainParts 6 s.baton.streamed.reverse
  let n := parts.length
  (parts.zipIdx).foldl (fun u p => if p.2 + 1 = n then putEntry 1 p.1 t u else putEntry 3 p.1 trailerZero u) s

/-- The closed set is committed (R213): registers, then sweeps (R217, R228). -/
def batonCommit (s : State) : State :=
  match s.baton.closing with
  | some (t, _) =>
    if s.halted || !s.ringRoom then s else
    let s := streamLines s.mems.closed.length s
    if s.halted then s else
    let lines := s.baton.closedLines
    let s := putSet t s
    let s := updBaton (fun b => { b with closing := none, closedLines := [], streamed := [],
                                         sweepTodo := b.sweepTodo.filter fun r => !lines.contains r }) s
    let s := updMems (fun m => { m with closed := [], cow := [] }) s
    let s := (s.setReg64 R.BATON_COMMIT_SEQ_LO s.baton.seq).setReg64 R.BATON_COMMIT_PSTRIDE_LO t.pstride
    let s := ((s.setF R.BATON_LAG 15 0 0).setB R.BATON_STAT 6 false).setF R.BATON_SET_LINES_LAST 15 0 lines.length
    let s := setPhase (if s.regB R.BATON_STAT 10 then 3 else 0) (s.maxReg R.BATON_SET_LINES_MAX lines.length)
    if s.regB R.BATON_STAT 10 then s
    else if t.flags.testBit 8 || t.flags.testBit 9 then
      startSweep true (updBaton (fun b => { b with ringDue := true }) (stopSweep s))
    else if s.baton.sweepAt.isNone && (s.baton.ringDue || decide (0x400000 ≤ s.baton.written)) then
      startSweep s.baton.ringDue s
    else s
  | none => s

/-! ### Power failure (R219) -/

/-- PFAIL asserts: no set closes, a streaming set completes, a sweep stops. -/
def pfailNow (s : State) : State :=
  if s.regB R.BATON_STAT 10 then s else
  let s := captures capPfail 0 s.ttNs ((s.setB R.BATON_STAT 10 true).setB R.ENV_STAT 0 true)
  setPhase 3 (stopSweep (irqSet P.ENV 10 (saveCounts s)))

/-- The flush ends: the streaming set is committed, the control block written, and an active withdraws (R219, R430). -/
def flushEnd (us : Nat) (s : State) : State :=
  if s.regB R.BATON_STAT 10 && s.regF R.BATON_STAT 2 0 == 3 then
    let s := setPhase 0 (batonCommit s)
    let s := (tally 19 (s.bump R.BATON_PFAIL_CNT)).maxReg R.BATON_FLUSH_US_MAX us
    withdrawNow 3 (irqSet P.BATON 11 (writeControl s))
  else s

/-! ### Restore (R218, R220, R228) -/

/-- An entry as a restore reads it. -/
structure RingEntry where
  typ : Nat
  seq : Nat
  lines : List (Nat × List Byte)
  trailer : Trailer
  size : Nat
  deriving DecidableEq, Repr

/-- Lines a map names, in order. -/
def mapLines (map : List Byte) : List Nat :=
  let gs := (List.range 640).filter fun g => (leNat (map.take 80)).testBit g
  (gs.zipIdx).flatMap fun x =>
    let w := imgN map (80 + 8 * x.2) 8
    ((List.range 64).filter fun i => w.testBit i).map fun i => 64 * x.1 + i

/-- The entry with SEQ `seq` at a ring position, if it exists: its trailer CRC verifies, in a format that the device reads
(R213). -/
def readEntry (m : List Host.Cell) (pos seq : Nat) : Option RingEntry :=
  let head := ringGet pos 64 m
  let n := imgN head 0x10 4
  let mb := imgN head 0x14 4
  let padded := (mb + 63) / 64 * 64
  let size := 128 + padded + 64 * n
  if imgN head 0 4 ≠ 0x4E544142 ∨ imgN head 5 1 < 1 ∨ 2 < imgN head 5 1 ∨ imgN head 8 8 ≠ seq ∨ 8192 < n ∨ 5200 < mb ∨ mb < 80 then none
  else
    let bs := ringGet pos size m
    let lines := mapLines ((bs.drop 64).take mb)
    let t := bs.drop (size - 64)
    if imgN bs (size - 4) 4 ≠ crc32 (bs.take (size - 4)) ∨ imgN t 0 8 ≠ seq ∨ lines.length ≠ n then none
    else some ⟨imgN head 4 1, seq,
      (lines.zipIdx).map fun x => (x.1, (bs.drop (64 + padded + 64 * x.2)).take 64),
      ⟨imgN t 8 8, imgN t 0x10 8, imgN t 0x18 8, imgN t 0x20 4, imgN t 0x24 4, imgN t 0x28 8, imgN t 0x30 4⟩, size⟩

/-- Entries from a position while SEQ runs without a gap, at most one turn of the ring. -/
def readRing (m : List Host.Cell) : Nat → Nat → Nat → Nat → List RingEntry
  | 0, _, _, _ => []
  | k + 1, pos, seq, left =>
    match readEntry m pos seq with
    | some e => if left < e.size then [] else e :: readRing m k ((pos + e.size) % ringSize) (seq + 1) (left - e.size)
    | none => []

/-- Entries after the latest commit take no part (R213). -/
def upToCommit (es : List RingEntry) : List RingEntry := (es.reverse.dropWhile fun e => !(e.typ == 1)).reverse

/-- PART entries belong to the commit that directly follows their run; the others are disregarded (R213). -/
def ownParts (es : List RingEntry) : List RingEntry :=
  (es.foldr (fun e acc => if e.typ = 3 then (if acc.2 then (e :: acc.1, true) else acc) else (e :: acc.1, e.typ == 1))
    (([], false) : List RingEntry × Bool)).1

/-- Restore start, the SEQ there and whether the base image is not read, from the newest control block; else from the
registers. -/
def ringStart (s : State) : Nat × Nat × Bool :=
  match newestControl s.baton.mram with
  | some (_, bs) => (imgN bs 0 4, imgN bs 4 8, (imgN bs 20 8).testBit 0)
  | none => (s.regN R.BATON_RING_START, s.baton.startSeq, s.baton.baseBad)

/-- A control region that holds something but no copy that verifies is an MRAM error (R211, R234; DESIGN CHOICE, log entry
188). -/
def State.controlLost (s : State) : Bool :=
  (newestControl s.baton.mram).isNone
    && s.baton.mram.any fun c => decide (controlAt 0 ≤ c.1 ∧ c.1 < controlAt 1 + controlLen)

/-- Lines into a retained image laid out by line index. -/
def putLines (ls : List (Nat × List Byte)) (d : List Host.Cell) : List Host.Cell :=
  ls.foldl (fun m l => Memory.writeN m (64 * l.1) l.2) d

/-- The image of the slots whose migration map leads from one program to another. -/
def exchangeMap (from_ next_ : Nat) (s : State) : Option (MigMap × Program × Program) :=
  let ps := [4, 5].map fun k => (s.slotImage k, imageProgram (s.slotImage k))
  let prog (id : Nat) : Option Program := (ps.find? fun x => x.2.progId == id).map (·.2)
  match prog from_, prog next_ with
  | some a, some b =>
    let maps := ps.flatMap fun x => match imageMaps x.1 with | some (f, r) => [f, r] | none => []
    (maps.find? fun m => m.oldId == from_ && m.newId == next_).map fun m => (m, a, b)
  | _, _ => none

/-- One entry applied: an EXCH or REVERT commit first rebuilds the target image's data from the state before it
(R228). The instance data lies below 0x20_0000 of the retained image. -/
def applyEntry (s : State) (acc : List Host.Cell × Nat) (e : RingEntry) : List Host.Cell × Nat :=
  let (d, prog) := acc
  if e.typ = 1 ∧ (e.trailer.flags.testBit 8 || e.trailer.flags.testBit 9) = true then
    match exchangeMap prog e.trailer.progId s with
    | some (mp, a, b) =>
      let both := Memory.copy d 0x1000000 d 0 0x200000
      let fresh := Memory.writeN (Memory.clear both 0 0x200000) 0 b.data
      let d := Memory.clear (migrate mp a b 0x1000000 0 fresh) 0x1000000 0x200000
      (putLines e.lines d, e.trailer.progId)
    | none => (putLines e.lines d, e.trailer.progId)
  else (putLines e.lines d, if e.typ = 1 then e.trailer.progId else prog)

/-- The base image, or where it is not read the admitted image's initial data (R228). -/
def restoreBase (bad : Bool) (s : State) : List Host.Cell :=
  if bad then Memory.writeN [] 0 (match s.exec.prog with | some p => p.data | none => [])
  else s.baton.mram.filter fun c => decide (c.1 < 0x280000)

/-- Put a retained image into the lanes in service through the loaders (R218). -/
def loadRetained (d : List Host.Cell) (s : State) : State :=
  let put (x : Lane) : Lane :=
    { x with sram := Memory.copy (Memory.copy x.sram s.instBase d 0 0x200000) 0x600000 d 0x200000 0x80000 }
  let s := s.lanesIn.foldl (fun t l =>
    freshWords l 0x600000 0x80000 (freshWords l s.instBase 0x200000 (updLane l put t))) s
  markClone 0x600000 0x80000 (markClone s.instBase 0x200000 s)

/-- A restore starts (R220, R431): 1 boot, 2 takeover. -/
def startRestore (kind : Nat) (s : State) : State :=
  let s := if s.pgState P.BATON = stFault then s else s.setPgState P.BATON 6
  setPhase 4 (updBaton (fun b => { b with restoring := some (kind, s.now) }) s)

/-- BATON_STAT and page state outside a restore (R232). -/
def batonIdle (s : State) : State :=
  let s := setPhase (if s.standby then 5 else if s.baton.closing.isSome then 1 else 0) s
  if s.pgState P.BATON = stFault then s
  else s.setPgState P.BATON (if s.standby then 7 else if s.en P.BATON then stActive else stOff)

/-- No restore: the next START must be cold; 2 NO_DATA, 3 MISMATCH (R220). -/
def restoreFails (result : Nat) (s : State) : State :=
  let s := updExec (fun e => { e with needCold := true }) (s.setRegN R.BATON_RESTORE_STAT result)
  recordErr P.BATON 0x42 srcHardware result s

/-- A trial that the trailer names goes on, where the slots still hold both programs and their maps. -/
def restoreTrial (t : Trailer) (s : State) : State :=
  if !t.flags.testBit 10 then s else
  let s := s.setRegN R.SWAP_TRIAL_LEFT t.trialLeft
  let other := if s.exec.slot = 4 then 5 else 4
  let old := imageProgram (s.slotImage other)
  match imageMaps (s.slotImage s.exec.slot), s.exec.prog with
  | some (f, r), some new =>
    if f.oldId = old.progId ∧ f.newId = new.progId then
      setSwap swTrial (updSwap (fun x => { x with staged := some ⟨s.exec.slot, new, other, old, f, r⟩ }) s)
    else s
  | _, _ => s

/-- The program of the state before the first commit of the window: that commit's own, or where it is an EXCH or REVERT
commit the one its map leads from (R228). -/
def firstProgram (good : List RingEntry) (s : State) : Nat :=
  match good.find? fun e => e.typ == 1 with
  | none => 0
  | some e =>
    let id := e.trailer.progId
    if e.trailer.flags.testBit 8 || e.trailer.flags.testBit 9 then
      let maps := [4, 5].flatMap fun k => match imageMaps (s.slotImage k) with | some (f, r) => [f, r] | none => []
      match maps.find? fun m => m.newId == id && (exchangeMap m.oldId id s).isSome with | some m => m.oldId | none => id
    else id

/-- RESTORE_COMPLETE: the latest commit stands in the lanes, if its program is the admitted one (R218, R220). -/
def restoreNow (us : Nat) (s : State) : State :=
  let (pos, seq, bad) := ringStart s
  let es := readRing s.baton.mram 131072 pos seq ringSize
  let good := ownParts (upToCommit es)
  let s := if s.controlLost then recordErr P.BATON 0x43 srcHardware 0 s else s
  let s := updBaton (fun b => { b with restoring := none }) (s.setRegN R.BATON_RESTORE_US us)
  let s := batonIdle s
  let s := match es.getLast? with
    | some e => updBaton (fun b => { b with seq := max b.seq e.seq }) s
    | none => s
  match good.getLast?, s.exec.prog with
  | some c, some p =>
    if c.trailer.progId ≠ p.progId then restoreFails 3 s else
    let first := firstProgram good s
    let through := good.any fun e => e.typ == 1 && (e.trailer.flags.testBit 8 || e.trailer.flags.testBit 9)
    let d := (good.foldl (applyEntry s) (restoreBase bad s, first)).1
    let tv := c.trailer.flags.testBit 11
    let size := (upToCommit es).foldl (fun a e => a + e.size) 0
    let s := loadRetained d s
    let s := s.setRegN R.BATON_RESTORE_STAT (1 + 4 * b2n (!tv) + 8 * b2n through)
    let s := (s.setReg64 R.BATON_COMMIT_SEQ_LO c.seq).setReg64 R.BATON_COMMIT_PSTRIDE_LO c.trailer.pstride
    let s := (s.setRegN R.BATON_RING_START pos).setRegN R.BATON_RING_HEAD ((pos + size) % ringSize)
    let s := updBaton (fun b => { b with written := size, startSeq := seq, baseBad := bad, ringDue := through,
                                         seq := c.seq }) s
    let tk := c.trailer.sec * 1000000000 + c.trailer.ns
    let mark (e : Exec) : Exec := { e with needCold := false, restored := some (c.trailer.pstride, c.trailer.ptime, tk, tv) }
    let s := updExec mark s
    irqSet P.BATON 12 (restoreTrial c.trailer s)
  | some _, none => restoreFails 3 s
  | none, _ => restoreFails 2 s

/-! ### Commands (R234) -/

def cmdBatonClr (iss : Issuer) : State → State :=
  quick ⟨P.BATON, 0x10, iss⟩ noCheck fun s =>
    s.clear [R.BATON_SET_LINES_MAX, R.BATON_COALESCE_CNT, R.BATON_OVERSIZE_CNT, R.BATON_SWEEP_CNT,
      R.BATON_MIRROR_ERR_CNT, R.BATON_FLUSH_US_MAX]

/-- DISCARD: no entry and no base image is valid any more (R234). -/
def discard (s : State) : State :=
  let s := stopSweep (s.setReg R.BATON_RING_START (s.reg R.BATON_RING_HEAD))
  let s := updBaton (fun b => { b with startSeq := b.seq + 2, seq := b.seq + 1, written := 0, baseBad := true,
                                       ringDue := false, closing := none, closedLines := [], streamed := [] }) s
  let s := updMems (fun m => { m with closed := [], cow := [] }) s
  writeControl (setPhase 0 (updExec (fun e => { e with needCold := true, restored := none }) s))

def cmdDiscard (iss : Issuer) : State → State :=
  quick ⟨P.BATON, 0x11, iss⟩ (fun s => notHalted s (need (s.stopped && !s.standby) cState none)) discard

/-! ### Meanings -/

def execSweepComplete (s : State) : Host.Outcome State Fault Refusal := .next (sweepComplete s)
def execBatonStale (s : State) : Host.Outcome State Fault Refusal := .next (batonStale s)
def execPfail (s : State) : Host.Outcome State Fault Refusal := .next (pfailNow s)
def execBatonClrCnt (iss : Issuer) (_arg : BitVec 16) (s : State) : Host.Outcome State Fault Refusal := .next (cmdBatonClr iss s)
def execDiscard (iss : Issuer) (_arg : BitVec 16) (s : State) : Host.Outcome State Fault Refusal := .next (cmdDiscard iss s)

end Sys2Proof.Machine
end

