-- ==== Sys2Proof/Machine/HostMem.lean ====
section
/-!
DEFINITION. Hosts on memory and links (chapter 18): writes through BAR2, mailbox commits, re-arming, host transmit
blocks, PCI Express and Ethernet links, and the commands of HOST, PCIE and ETH.
-/
namespace Sys2Proof.Machine

/-- Places in a host region (R448). -/
abbrev offCommit : Nat := 0xDC00
abbrev offRearm : Nat := 0xDC04

/-- Channel of mailbox block `b` of host `n` on HOST (R448). -/
def hostChan (n b : Nat) : Nat := 64 * n + b

/-- The host's link or session is up (R462). -/
def State.hostUp (s : State) (n : Nat) : Bool := s.regB R.HOST_STAT n

/-- The COMMIT word of host `n`. -/
def State.commitWord (s : State) (n : Nat) : Nat := s.commsN (hostBase n + offCommit) 4

/-- Two byte ranges hostOverlap. -/
def hostOverlap (a n b m : Nat) : Bool := decide (a < b + m ∧ b < a + n)

/-- Some bytes of a range lie in a block that the program binds as a transmit block of host `n` (R446). -/
def State.hitsTxBlock (s : State) (n a len : Nat) : Bool :=
  s.binds.any fun b => b.kind == 3 && b.page == P.HOST && b.chan / 64 == n
    && hostOverlap a len (hostBase n + 0x400 * (b.chan % 64)) 0x400

/-- A host may write a range of BAR2 (R446, R449): inside its own region, no transmit block, no COMMIT with GO = 1. -/
def State.mayStore (s : State) (n a len : Nat) : Bool :=
  decide (hostBase n ≤ a ∧ a + len ≤ hostBase n + 0x10000) && !s.hitsTxBlock n a len
    && !(hostOverlap a len (hostBase n + offCommit) 4 && (s.commitWord n).testBit 31)

/-- A host write discarded whole (R446). -/
def regionReject (n a : Nat) (s : State) : State :=
  recordErr P.HOST 0x40 n (a / 4 % 1024) (irqSet P.HOST 10 (s.bump R.HOST_REGION_REJ_CNT))

/-- The host is armed again while it is up (R450). With a summary that is not 0 the next MSI is sent; with 0, INTA is
deasserted. -/
def rearmPcie (n : Nat) (s : State) : State :=
  if !s.hostUp n then s
  else if s.summary n then signalHost n s
  else
    let s := s.setB R.HOST_STAT (4 + n) true
    if s.regB R.PCIE_STAT (8 * n + 4) then (s.setB R.PCIE_STAT (8 * n + 4) false).send (.inta n false) else s

/-- The bytes of a host write stand in its region. -/
def hostStore (n a : Nat) (bs : List Byte) (s : State) : State := msiCheck s (commsWrite n a bs s)

/-- A write covered IRQ_REARM and left bit 0 at 1: the device acts and writes 0 (R448). -/
def State.rearmAsked (s : State) (n a len : Nat) : Bool :=
  hostOverlap a len (hostBase n + offRearm) 4 && (s.commsN (hostBase n + offRearm) 4).testBit 0

/-- IRQ_REARM is written back as 0. -/
def clearRearm (n : Nat) : State → State := commsWrite srcHardware (hostBase n + offRearm) (leBytes 4 0)

/-- A PCI Express write through BAR2 (R446). -/
def bar2Write (n a : Nat) (bs : List Byte) (s : State) : State :=
  if bs.isEmpty then s
  else if !s.mayStore n a bs.length then regionReject n a s
  else
    let s := hostStore n a bs s
    if s.rearmAsked n a bs.length then rearmPcie n (clearRearm n s) else s

/-! ### Mailbox commits (R449) -/

/-- The status of the COMMIT that stands in a region. -/
def commitStatus (n : Nat) (s : State) : Nat :=
  let w := s.commitWord n
  match s.binds.find? fun x => x.kind == 2 && x.page == P.HOST && x.chan == hostChan n (w / 2 ^ 16 % 64) with
  | none => cRange
  | some x => if x.size - 16 < w % 1024 then cLength else cDone

/-- The device latches a COMMIT with GO = 1. No class 9 event is raised here or at any command: no page gives that class an
enable and no chapter defines its DETAIL (DESIGN CHOICE, log entry 183). -/
def commitLatch (n : Nat) (s : State) : State :=
  let w := s.commitWord n
  if !w.testBit 31 then s else
  let st := commitStatus n s
  let b := w / 2 ^ 16 % 64
  let len := w % 1024
  let s := if st = cDone then
      let data := s.comms (hostBase n + 0x400 * b + 0x10) len
      let seq := nextSeq (s.block P.HOST (hostChan n b))
      let bad := s.poisoned (hostBase n + 0x400 * b + 0x10) len
      let s := commsRead 1 (hostBase n + 0x400 * b + 0x10) len s
      pushUnit P.HOST (hostChan n b) data seq (b2n bad) (s.bump (R.HOST_COMMIT_CNT + 4 * n))
    else s
  commsWrite srcHardware (hostBase n + offCommit) (leBytes 4 (w % 2 ^ 24 + st % 128 * 2 ^ 24)) s

/-- A COMMIT still unlatched is latched before the next tick. -/
def commitLatchAll (s : State) : State := forN 4 commitLatch s

/-- HOST_COMMIT: the write of COMMIT, and its latch within 100 ns. -/
def hostCommit (n : Nat) (v : Word) (s : State) : State :=
  let a := hostBase n + offCommit
  if !s.mayStore n a 4 then regionReject n a s else commitLatch n (hostStore n a (leBytes 4 v.toNat) s)

/-! ### Host transmit blocks (R448) -/

/-- The header of a host transmit block in the comms RAM. -/
def hostTxHeader (chan units tick len status age : Nat) : State → State :=
  commsWrite srcHardware (hostBase (chan / 64) + 0x400 * (chan % 64))
    (leBytes 4 units ++ leBytes 4 tick ++ leBytes 4 len ++ leBytes 4 (age + 256 * status))

/-- What a transmit block's record holds: units, tick, length, status, age. -/
def State.txRecord (s : State) (mb : Nat) : Nat × Nat × Nat × Nat × Nat :=
  ((s.exec.txStat.find? fun x => x.1 == mb).map fun x => x.2).getD (0, 0, 0, 0, 0)

def setTxRecord (mb : Nat) (r : Nat × Nat × Nat × Nat × Nat) : State → State :=
  updExec fun e => { e with txStat := (mb, r) :: e.txStat.filter fun x => x.1 != mb }

/-- At an output commit, a block bound as host transmit block is written with its unit, or ages. -/
def hostTxCommit (b : Binding) (unit : Option (List Byte)) (s : State) : State :=
  let (units, tick, len, st, age) := s.txRecord b.index
  match unit with
  | some bs =>
    let r := (min 0xFFFFFFFF (units + 1), s.now % 2 ^ 32, bs.length, cDone, 0)
    let s := setTxRecord b.index r s
    commsWrite srcHardware (hostBase (b.chan / 64) + 0x400 * (b.chan % 64) + 0x10) bs
      (hostTxHeader b.chan r.1 r.2.1 r.2.2.1 cDone 0 s)
  | none =>
    let age := min 255 (age + 1)
    hostTxHeader b.chan units tick len st age (setTxRecord b.index (units, tick, len, st, age) s)

/-- At a boundary without an output commit the block's age counts on. -/
def hostTxAge (b : Binding) (s : State) : State :=
  let (units, tick, len, st, age) := s.txRecord b.index
  setTxRecord b.index (units, tick, len, st, min 255 (age + 1)) s

/-! ### Links (R447, R450, R458) -/

/-- EPn_EN; both stay enabled in FAULT (R467). -/
def State.epOn (s : State) (n : Nat) : Bool := s.regB R.PCIE_CFG n || s.pgState P.PCIE == stFault

/-- PCIE_LINK_UP: link training ends on an enabled endpoint; its host is up and armed. -/
def pcieLinkUp (n rate : Nat) (msi : Bool) (s : State) : State :=
  if !s.epOn n || s.hostUp n then s else
  let s := s.setF R.PCIE_STAT (8 * n + 7) (8 * n) (1 + 2 * rate + 8 * b2n msi)
  let s := (s.setB R.HOST_STAT n true).setB R.HOST_STAT (4 + n) true
  relayEvent (portHost + n) evtPortUp 0 (irqSet P.HOST 8 (irqSet P.PCIE 8 s))

/-- PCIE_LINK_RESET: only the link and its configuration space (R447). -/
def pcieLinkReset (n : Nat) (s : State) : State :=
  if !s.hostUp n then s else
  let s := s.setF R.PCIE_STAT (8 * n + 7) (8 * n) 0
  let s := (s.setB R.HOST_STAT n false).setB R.HOST_STAT (4 + n) false
  let s := s.bump ((if n = 0 then R.PCIE_EP0_CNT else R.PCIE_EP1_CNT) + 16)
  relayEvent (portHost + n) evtPortDown 0 (irqSet P.HOST 9 (irqSet P.PCIE 8 s))

/-- A session closes (R458): its cache goes, ownership stays. -/
def closeSession (j : Nat) (s : State) : State :=
  match getAt none s.shp.sess j with
  | none => s
  | some _ =>
    let s := { s with shp := { s.shp with sess := setAt s.shp.sess j none } }
    let s := s.setF R.SHP_STAT (2 * j + 1) (2 * j) 0
    let s := (s.setB R.HOST_STAT (2 + j) false).setB R.HOST_STAT (6 + j) false
    relayEvent (portHost + 2 + j) evtPortDown 0 (irqSet P.HOST 9 (irqSet P.SHP 8 s))

/-- Every session bound to an Ethernet port closes. -/
def closePort (p : Nat) (s : State) : State :=
  forN 2 (fun j t => match getAt none t.shp.sess j with
    | some x => if x.eth = p then closeSession j t else t
    | none => t) s

def ethA (p off : Nat) : Nat := pa (P.ETH + p) off

/-- PG_STAT.STATE of an Ethernet page (R465). -/
def ethState (p : Nat) (s : State) : State :=
  if s.pgState (P.ETH + p) = stFault then s
  else s.setPgState (P.ETH + p)
    (if !s.en (P.ETH + p) then stOff else if s.regB (ethA p R.ETH_STAT) 0 then stActive else stReady)

/-- The link of an enabled Ethernet port goes up or down (R458, R465). -/
def ethLink (p : Nat) (up : Bool) (s : State) : State :=
  if s.regB (ethA p R.ETH_STAT) 0 = up ∨ (up && !s.en (P.ETH + p)) = true then s else
  let s := irqSet (P.ETH + p) 8 (s.setB (ethA p R.ETH_STAT) 0 up)
  let s := relayEvent (portEth + p) (if up then evtPortUp else evtPortDown) 0 s
  let s := if up then s else closePort p (s.bump (ethA p R.ETH_LINK_DOWN_CNT))
  ethState p s

/-! ### Commands (R460, R466) -/

/-- DROP releases every page a host owns. -/
def cmdDrop (iss : Issuer) (arg : Nat) : State → State :=
  quick ⟨P.HOST, 0x10, iss⟩ (fun s => need (s.mgmt == issuerCode iss) cNotOwner none) fun s =>
    pageList.foldl (fun t p => if t.populated p && t.owner p == arg % 4 then setOwner p 7 t else t) s

def cmdHostClr (iss : Issuer) : State → State :=
  quick ⟨P.HOST, 0x11, iss⟩ noCheck fun s =>
    s.clear (R.HOST_REGION_REJ_CNT :: (regRun R.HOST_ACC_CNT 4 4 ++ regRun R.HOST_OWN_REJ_CNT 4 4
      ++ regRun R.HOST_COMMIT_CNT 4 4))

def cmdPcieClr (iss : Issuer) : State → State :=
  quick ⟨P.PCIE, 0x10, iss⟩ noCheck fun s => s.clear (regRun R.PCIE_EP0_CNT 5 4 ++ regRun R.PCIE_EP1_CNT 5 4)

def cmdEthClr (p : Nat) (iss : Issuer) : State → State :=
  quick ⟨P.ETH + p, 0x10, iss⟩ noCheck fun s =>
    s.clear ([R.ETH_RX_FRM_CNT, R.ETH_TX_FRM_CNT, R.ETH_RX_DROP_CNT, R.ETH_LINK_DOWN_CNT].map (ethA p ·))

def cmdShpClose (iss : Issuer) (arg : Nat) : State → State :=
  quick ⟨P.SHP, 0x10, iss⟩ (fun s => need (getAt none s.shp.sess (arg % 2)).isSome cState none) (closeSession (arg % 2))

def cmdShpClr (iss : Issuer) : State → State :=
  quick ⟨P.SHP, 0x11, iss⟩ noCheck fun s =>
    s.clear ([R.SHP_AUTH_FAIL_CNT, R.SHP_LEN_REJ_CNT, R.SHP_VER_REJ_CNT, R.SHP_SRC_REJ_CNT, R.SHP_HELLO_CNT]
      ++ [R.SHP_REQ_CNT, R.SHP_RETRY_CNT, R.SHP_SEQ_REJ_CNT, R.SHP_EVT_CNT].flatMap fun a => regRun a 2 32)

/-! ### Meanings -/

def execBar2Write (n : Fin 2) (off : BitVec 23) (bs : List Byte) (s : State) : Host.Outcome State Fault Refusal :=
  .next (bar2Write n off.toNat bs s)
def execHostCommit (n : Fin 4) (v : Word) (s : State) : Host.Outcome State Fault Refusal := .next (hostCommit n v s)
def execPcieLinkReset (ep : Fin 2) (s : State) : Host.Outcome State Fault Refusal := .next (pcieLinkReset ep s)
def execPcieLinkUp (ep : Fin 2) (rate : BitVec 2) (msi : Bool) (s : State) : Host.Outcome State Fault Refusal :=
  .next (pcieLinkUp ep rate.toNat msi s)
def execEthLinkChange (p : Fin 2) (up : Bool) (s : State) : Host.Outcome State Fault Refusal := .next (ethLink p up s)
def execDrop (iss : Issuer) (arg : BitVec 16) (s : State) : Host.Outcome State Fault Refusal := .next (cmdDrop iss arg.toNat s)
def execHostClrCnt (iss : Issuer) (_arg : BitVec 16) (s : State) : Host.Outcome State Fault Refusal := .next (cmdHostClr iss s)
def execPcieClrCnt (iss : Issuer) (_arg : BitVec 16) (s : State) : Host.Outcome State Fault Refusal := .next (cmdPcieClr iss s)
def execEthClrCnt (p : Fin 2) (iss : Issuer) (_arg : BitVec 16) (s : State) : Host.Outcome State Fault Refusal :=
  .next (cmdEthClr p iss s)
def execShpClose (iss : Issuer) (arg : BitVec 16) (s : State) : Host.Outcome State Fault Refusal :=
  .next (cmdShpClose iss arg.toNat s)
def execShpClrCnt (iss : Issuer) (_arg : BitVec 16) (s : State) : Host.Outcome State Fault Refusal := .next (cmdShpClr iss s)

end Sys2Proof.Machine
end

