-- ==== Sys2Proof/Machine/Measure.lean ====
section
/-!
DEFINITION. The measurement chain (R372 to R391): conversions, shunts and edges in the SVT-F1, the measurement stages
over the agreed words, and what the input freeze delivers.
-/
namespace Sys2Proof.Machine

/-! ### In the SVT-F1 (R373, R379, R383) -/

/-- D of an AI_CFG word. -/
def aiD (cfg : Word) : Nat := 2 ^ fld cfg 7 4

/-- AI_CONVERSION_END: D samples after the trigger and 1,200 ns of pipeline, one code (R379). -/
def conversionEnd (g n : Nat) (code : Nat) (s : State) : State :=
  let f := (s.grp g).f1
  let a := getAt f1AiZero f.ai n
  match a.busy with
  | some t =>
    if fld (f.word (cfgAi + 2 * n)) 1 0 = 2 ∧ t + 100 * (aiD (f.word (cfgAi + 2 * n)) - 1) + 1200 < 1000 * s.now + 1000 then
      updF1 g (fun f => { f with ai := setAt f.ai n { a with busy := none, words := [code] } }) s
    else s
  | none => s

/-- SHUNT_OPEN: more than 30 mA for 10 ms in the current range (R373). -/
def shuntOpens (g n : Nat) (s : State) : State :=
  let f := (s.grp g).f1
  let a := getAt f1AiZero f.ai n
  if bitOf (f.word (cfgAi + 2 * n)) 2 && !(fld (f.word (cfgAi + 2 * n)) 1 0 == 0) && !a.shunt then
    updF1 g (fun f => { f with ai := setAt f.ai n { a with shunt := true, shuntAt := s.now } }) s
  else s

/-- SHUNT_RECLOSE: every 1 s; it stays closed if the current has fallen (R373). -/
def shuntCloses (g n : Nat) (fallen : Bool) (s : State) : State :=
  let a := getAt f1AiZero (s.grp g).f1.ai n
  if a.shunt && decide (a.shuntAt + 1000000 ≤ s.now) then
    updF1 g (fun f => { f with ai := setAt f.ai n { a with shunt := !fallen, shuntAt := s.now } }) s
  else s

/-- FI_EDGE: an active edge is timed, or discarded within 16 µs of the accepted one before it (R383). -/
def fiEdge (g : Nat) (rising : Bool) (ns : Nat) (s : State) : State :=
  let f := (s.grp g).f1
  let cfg := f.word cfgFi
  let t := 1000 * s.now + ns
  if !bitOf cfg 0 || rising == bitOf cfg 2 then s else
  match f.fi.last with
  | some l =>
    if t < l + 16000 then updF1 g (fun f => { f with fi := { f.fi with fastEnd := s.now + 1000 } }) s
    else updF1 g (fun f => { f with fi := { f.fi with edges := f.fi.edges + 1, last := some t, pos := ns } }) s
  | none => updF1 g (fun f => { f with fi := { f.fi with edges := f.fi.edges + 1, last := some t, pos := ns } }) s

/-- FI_OPEN_SHORT of a two-wire sensor (R383). -/
def fiOpenShort (g : Nat) (open_ short : Bool) (s : State) : State :=
  if bitOf ((s.grp g).f1.word cfgFi) 1 && bitOf ((s.grp g).f1.word cfgFi) 0 then
    updF1 g (fun f => { f with fi := { f.fi with open_ := open_, short := short && !open_ } }) s
  else s

/-! ### Stride triggers (R380) -/

/-- The extended tick of the latest boundary. -/
def State.boundAt (s : State) : Nat := s.now - (s.now + 2 ^ 32 - s.regN R.STARTER_BOUND_TICK) % 2 ^ 32

/-- The tick of the next boundary as the starter predicts it. -/
def State.nextBoundary (s : State) : Nat :=
  let len := max 1 s.starter.runS
  let b := max (s.boundAt + len) s.now
  let u := s.starter.tickNs / 1000 + (b - s.now)
  b + (s.starter.runP + len - u % len) % len

/-- The trigger of the boundary on tick `b` is sent to the groups that it triggers, 31 to 2 ticks before its time. -/
def strideTrigger (b : Nat) (s : State) : State :=
  let t := b + s.regF R.MEASA_MEAS_CFG 24 8
  let ch := s.regF R.MEASA_MEAS_CFG 4 0
  if s.en P.MEASA && s.regB R.MEASA_MEAS_CFG 7 && s.starter.started && decide (s.time.strideTrig < b)
      && decide (t ≤ s.now + 31) && decide (s.now < t) then
    let s := updTime (fun y => { y with strideTrig := b }) s
    sendTrigger t 0 ch s
  else s

/-- The stride triggers of a tick: the running stride's and the predicted one's. -/
def strideTriggers (s : State) : State :=
  let s := strideTrigger s.boundAt s
  strideTrigger s.nextBoundary s

/-! ### The stages -/

def State.aiChan (s : State) (i : Nat) : AiChan := getAt aiZero s.meas.ai i
def State.fiChan (s : State) (g : Nat) : FiChan := getAt fiZero s.meas.fi g
def setAi (i : Nat) (c : AiChan) (s : State) : State := { s with meas := { s.meas with ai := setAt s.meas.ai i c } }
def setFi (g : Nat) (c : FiChan) (s : State) : State := { s with meas := { s.meas with fi := setAt s.meas.fi g c } }

/-- Word `w` of analogue input `i` and of frequency input `g`. -/
def aiA (i w : Nat) : Nat := R.MEASA_AI_CFG + 32 * i + w
def fiA (g w : Nat) : Nat := R.MEASF_FI_CFG + 32 * g + w
abbrev aiStat : Nat := 28
abbrev fiStat : Nat := 16

/-- The channel words of input `n` that a group has applied. -/
def F1.aiWords (f : F1) (n : Nat) : List Word := aiWordsIn f.cfg n

/-- The channel words of the frequency input: CFG, THR_HI, THR_LO, LIM. -/
def F1.fiWords (f : F1) : List Word := f.word cfgFi :: (List.range 3).map fun j => f.word (47 + j)

def AiChan.word (c : AiChan) (j : Nat) : Word := getAt 0 c.cfg j
def AiChan.mode (c : AiChan) : Nat := fld (c.word 0) 1 0
def AiChan.d (c : AiChan) : Nat := aiD (c.word 0)
def AiChan.l (c : AiChan) : Nat := 2 * fld (c.word 0) 9 8 + 1
def AiChan.m (c : AiChan) : Nat := fld (c.word 0) 23 16 + 1
def FiChan.word (c : FiChan) (j : Nat) : Word := getAt 0 c.cfg j

/-- The start of tick `k` at the stage of input `i`: a restart at an applied change and at the exit from fail-safe
(R375); an accepted trigger is noted. -/
def aiTick (k i : Nat) (s : State) : State :=
  let f := (s.grp (i / 2)).f1
  let c := s.aiChan i
  let ws := f.aiWords (i % 2)
  let a := getAt f1AiZero f.ai (i % 2)
  let c := match a.trig with
    | some t => if c.trigs.head? == some t then c else { c with trigs := (t :: c.trigs).take 2 }
    | none => c
  if c.cfg == ws && (!c.failsafe || f.failsafe) then setAi i { c with failsafe := f.failsafe } s
  else
    let c := { c with out := if c.mode = 0 then none else c.out }
    let c := { c with cfg := ws, failsafe := f.failsafe, restart := 1000 * k, codes := [], ranks := [], settled := false }
    let s := (setAi i c s).setB (aiA i aiStat) 2 (c.mode == 1)
    let s := s.setB R.MEASA_MEAS_STAT (8 + i) (c.mode == 1)
    s.setRegN (R.MEASA_AI_SMP_CNT + 4 * i) 0

/-- The same at the stage of frequency input `g`: until two edges have come the value before the restart is invalid
(R384). -/
def fiTick (g : Nat) (s : State) : State :=
  let f := (s.grp g).f1
  let c := s.fiChan g
  if c.cfg == f.fiWords && (!c.failsafe || f.failsafe) then setFi g { c with failsafe := f.failsafe } s
  else
    let s := s.setB (fiA g fiStat) 2 false
    let out := if bitOf (c.word 0) 0 then c.out else none
    setFi g { c with cfg := f.fiWords, failsafe := f.failsafe, edges := [], out := out, still := false } s

/-- The start of tick `k` at every stage. -/
def measTick (k : Nat) (s : State) : State := forN 4 fiTick (forN 8 (aiTick k) s)

/-- The group's values can be used: agreed, not in fail-safe, not off (R381). -/
def State.groupGood (s : State) (g : Nat) : Bool :=
  !(s.grp g).invalid && !((s.grp g).lstat / 8 % 2 == 1) && !(s.pgState (P.FLD + g) == stOff)

/-! ### Analogue values (R373 to R378) -/

/-- Insert into a sorted list. -/
def insertInt (x : Int) : List Int → List Int
  | [] => [x]
  | y :: ys => if x ≤ y then x :: y :: ys else y :: insertInt x ys

/-- The rank filter over the latest codes: median, minimum or maximum (R376). -/
def rankOf (kind : Nat) (xs : List Int) : Int :=
  let ys := xs.foldl (fun acc x => insertInt x acc) []
  let pick := if kind = 1 then 0 else if kind = 2 then ys.length - 1 else ys.length / 2
  getAt 0 ys pick

/-- A mean rounded to the nearest code, ties away from zero (R377). -/
def meanOf (xs : List Int) : Int :=
  let t := xs.foldl (· + ·) 0
  let m : Int := (2 * t.natAbs + xs.length) / (2 * xs.length)
  if t < 0 then -m else m

/-- Code × LSB in REAL32: 25 × 2⁻²⁰ V or 30 × 2⁻¹⁹ mA a code (R373). -/
def aiValue (current : Bool) (code : Int) : Word :=
  let neg := decide (code < 0)
  BitVec.ofNat 32 (if current then fmt32.round neg (30 * code.natAbs) 1 (-19) else fmt32.round neg (25 * code.natAbs) 1 (-20))

/-- τ in ns (R378, R379). -/
def AiChan.tau (c : AiChan) : Nat :=
  if c.mode = 2 then 1200 + 50 * (c.d - 1)
  else 1200 + 150 * (c.d - 1) + 100 * c.d * (c.l - 1) / 2 + 100 * c.d * (c.m - 1) / 2

/-- A REAL32 word is above, or below, another. -/
def real32Lt (a b : Word) : Bool := (fmt32.decode a.toNat).lt (fmt32.decode b.toNat)

/-- The code of an output lies in RANGE_LO to RANGE_HI (R381). -/
def AiChan.inRange (c : AiChan) (code : Int) : Bool :=
  decide (toSigned 20 (fld (c.word 2) 19 0) ≤ code ∧ code ≤ toSigned 20 (fld (c.word 3) 19 0))

/-- An output of input `i` is valid, but for its age (R381). -/
def aiValid (i : Nat) (o : MeasOut) (s : State) : Bool :=
  let c := s.aiChan i
  c.settled && c.inRange o.code && !s.regB (aiA i aiStat) 4 && s.groupGood (i / 2) && !c.bad

/-- The ABOVE rule of HYST (R382, R205). -/
def aboveOf (v hi lo : Word) (old : Bool) : Bool := if real32Lt hi v then true else if real32Lt v lo then false else old

/-- The ABOVE state follows an output of content tick `k`, with its class 5 event (R382). -/
def aiAbove (k i : Nat) (o : MeasOut) (s : State) : State :=
  let c := s.aiChan i
  if !aiValid i o s then s else
  let old := s.regB (aiA i aiStat) 3
  let new := aboveOf o.val (c.word 4) (c.word 5) old
  let s := s.setB (aiA i aiStat) 3 new
  if new != old && bitOf (c.word 0) 3 then raiseAt k 5 i o.stamp (b2n new) (0x0005 + 64 * b2n o.two) s else s

/-- A code of input `i` with its stamp (ns on the tick scale) in content tick `k` (R375 to R378). Before the filters
are full their output is a free value. -/
def aiCode (k i stamp count : Nat) (code : Int) (two : Bool) (s : State) : State :=
  let c := s.aiChan i
  let codes := (code :: c.codes).take c.l
  let rank := if codes.length < c.l then toSigned 20 (fld (Config.freeValue s.freeCtr) 19 0)
              else if c.l = 1 then code else rankOf (fld (c.word 0) 11 10) codes
  let ranks := (rank :: c.ranks).take c.m
  let out := if codes.length < c.l ∨ ranks.length < c.m then toSigned 20 (fld (Config.freeValue s.freeCtr) 19 0)
             else meanOf ranks
  let train := s.starter.prevNs + stamp - 1000 * k
  let o : MeasOut := ⟨aiValue (bitOf (c.word 0) 2) out, out, train, (train : Int) - c.tau, two⟩
  let settled := c.mode == 2 || decide (c.l + c.m + 1 ≤ count)
  let s := setAi i { c with codes := codes, ranks := ranks, settled := settled, out := some o, fresh := true } s.fresh
  let s := (s.setB (aiA i aiStat) 2 (!settled)).setB R.MEASA_MEAS_STAT (8 + i) (!settled)
  let s := (s.setReg (R.MEASA_AI_LAST + 4 * i) o.val).bump (R.MEASA_AI_SMP_CNT + 4 * i)
  aiAbove k i o s

/-- The codes of a frame's AI field, in order: N words (R342, R374). -/
def aiWordsOf (v : Nat) : List Int :=
  let n := v / 2 ^ 40 % 4
  ((List.range (min n 2)).map fun j => toSigned 20 (v / 2 ^ (20 * j) % 2 ^ 20))

/-- The agreed AI field of input `i` in content tick `k`: in continuous mode the codes are the last ones stamped in the
tick, in single-cycle mode the one of the trigger whose stamp lies in it (R374, R379). -/
def aiField (k i v : Nat) (two : Bool) (s : State) : State :=
  let c := s.aiChan i
  if !s.en P.MEASA || c.mode = 0 then s else
  let ws := aiWordsOf v
  if c.mode = 2 then
    let stampOf (t : Nat) : Nat := t + 100 * (c.d - 1) + 1200
    match ws, c.trigs.find? fun t => stampOf t / 1000 == k with
    | w :: _, some t => aiCode k i (stampOf t) 1 w two s
    | _, _ => s
  else
    let span := 1000 * k + 999 - c.restart
    let last := if span < 1100 then 0 else (span - 1100) / (100 * c.d)
    let n := ws.length
    (ws.zipIdx).foldl (fun t w =>
      let j := last + w.2 + 1 - n
      if j = 0 then t else aiCode k i (c.restart + 100 * (j * c.d) + 1100) j w.1 two t) s

/-! ### Frequency values (R383, R384) -/

/-- n × 10⁹ over a span of ns, in REAL32. -/
def hertz (n span : Nat) : Word := BitVec.ofNat 32 (fmt32.round false (n * 1000000000) (max 1 span) 0)

/-- An accepted edge at a train time, in content tick `k` (R384). -/
def fiTakeEdge (k g t : Nat) (two : Bool) (s : State) : State :=
  let c := s.fiChan g
  let old := if c.still then c.edges.take 1 else c.edges
  let edges := (t :: old).take 65
  let n := min (fld (c.word 0) 13 8 + 1) (edges.length - 1)
  let out := if n = 0 then c.out else
    let t0 := getAt 0 edges n
    some (hertz n (t - t0), ((t0 + t : Nat) : Int) / 2, two)
  let s := if n = 0 then s else s.setRegN (fiA g 24) (min (2 ^ 32 - 1) (t - getAt 0 edges 1))
  let s := s.bump (fiA g 28)
  let s := (s.setB (fiA g fiStat) 2 false).setB R.MEASF_STAT (4 + g) false
  let s := setFi g { c with edges := edges, out := out, fresh := true, still := false } s
  match out with
  | some (v, _, _) =>
    let s := if n = 0 then s else s.setReg (fiA g 20) v
    let valid := decide (0 < n) && !(s.regB (fiA g fiStat) 4 || s.regB (fiA g fiStat) 5 || s.regB (fiA g fiStat) 1)
      && s.groupGood g && !c.bad
    if !valid then s else
    let was := s.regB (fiA g fiStat) 3
    let new := aboveOf v (c.word 1) (c.word 2) was
    let s := s.setB (fiA g fiStat) 3 new
    if new != was && bitOf (c.word 0) 3 then raiseAt k 5 (8 + g) t (b2n new) (0x0005 + 64 * b2n two) s else s
  | none => s

/-- The agreed FI position of content tick `k` (R342, R383). -/
def fiField (k g pos : Nat) (two : Bool) (s : State) : State :=
  if !s.en P.MEASF || !bitOf ((s.fiChan g).word 0) 0 || 1000 ≤ pos then s
  else fiTakeEdge k g (s.starter.prevNs + pos) two s

/-- T_open at a train time: the time since the latest edge. -/
def FiChan.tOpen (c : FiChan) (t : Nat) : Option Nat := c.edges.head?.map fun e => t - e

/-- T_open has reached TIMEOUT_MS: the value is 0.0 and STILL is set (R384). -/
def fiStand (g t : Nat) (s : State) : State :=
  let c := s.fiChan g
  match c.tOpen t with
  | some d =>
    if s.en P.MEASF && bitOf (c.word 0) 0 && !c.still && decide (2 ≤ c.edges.length) && decide (1000000 * fld (c.word 0) 29 16 ≤ d) then
      let s := setFi g { c with still := true, fresh := true, out := c.out.map fun o => (0, o.2) } s
      let s := ((s.setB (fiA g fiStat) 2 true).setB R.MEASF_STAT (4 + g) true).setReg (fiA g 20) 0
      irqSet P.MEASF 8 s
    else s
  | none => s

/-- The agreed measurement fields of a frame of content tick `k`; `two hi lo` says whether bits [hi:lo] carry
Q_AGREED_2. -/
def measFrame (g k : Nat) (f : BitVec 224) (two : Nat → Nat → Bool) (s : State) : State :=
  let s := aiField k (2 * g) (fld f 99 58) (two 99 58) s
  let s := aiField k (2 * g + 1) (fld f 141 100) (two 141 100) s
  fiField k g (fld f 57 48) (two 57 48) s

/-! ### Diagnostic fields (R385) -/

/-- Field 31 or 32 of group `g`, before the FDG page takes it: status of analogue input `i` (R385, R386). -/
def aiDiag (i old v : Nat) (s : State) : State :=
  let ign := (v / 256 + 256 - old / 256 % 256) % 256
  let s := if 0 < ign then
      recordErr P.MEASA 0x40 srcHardware i (irqSet P.MEASA 9 (s.bumpBy R.MEASA_TRIG_IGN_CNT ign)) else s
  let was := s.regB (aiA i aiStat) 4
  let s := (s.setB (aiA i aiStat) 4 (v.testBit 1)).setB (aiA i aiStat) 5 (v.testBit 0)
  if v.testBit 1 && !was then recordErr P.MEASA 0x41 srcHardware i (irqSet P.MEASA 10 (s.bump R.MEASA_SHUNT_CNT)) else s

/-- Field 33 of group `g`: status of its frequency input (R385, R388). -/
def fiDiag (g v : Nat) (s : State) : State :=
  let st := s.reg (fiA g fiStat)
  let bad := v.testBit 1 || v.testBit 2
  let wasBad := bitOf st 4 || bitOf st 5
  let s := ((s.setB (fiA g fiStat) 4 (v.testBit 1)).setB (fiA g fiStat) 5 (v.testBit 2)).setB (fiA g fiStat) 1 (v.testBit 3)
  let s := s.setB R.MEASF_STAT (8 + g) (v.testBit 3)
  let s := if v.testBit 3 && !bitOf st 1 then irqSet P.MEASF 9 (s.bump R.MEASF_FAST_CNT) else s
  if bad && !wasBad then recordErr P.MEASF 0x40 srcHardware g (irqSet P.MEASF 10 s) else s

/-- The measurement part of a diagnostic field. -/
def measDiag (g i v : Nat) (s : State) : State :=
  if i = 31 ∨ i = 32 then aiDiag (2 * g + i - 31) (getAt 0 (s.grp g).raw i) v s
  else if i = 33 then fiDiag g v s
  else s

/-! ### The input freeze (R372, R381, R384) -/

/-- A 64-bit slot: a REAL32 value and LAG_NS. -/
def measSlot (val : Word) (lag : Nat) : DWord := BitVec.ofNat 64 (val.toNat + 2 ^ 32 * min lag 0xFFFFFFFF)

/-- Quality bits (R16, R17): valid, range, fresh, substitute, two copies, AGE. -/
def qualWord (valid range fresh two : Bool) (age : Nat) : Nat :=
  b2n valid + 2 * b2n range + 4 * b2n fresh + 8 * b2n (!valid) + 64 * b2n two + 256 * min 255 age

/-- AGE and Q_FRESH at a freeze. -/
def frozenAge (fresh : Bool) (age : Nat) : Nat := if fresh then 0 else min 255 (age + 1)

/-- Analogue input `i` at the freeze of a boundary: the slot, its quality word, and the registers (R381, R387). -/
def freezeAi (i : Nat) (s : State) : DWord × Nat × State :=
  let c := s.aiChan i
  if !s.en P.MEASA || c.mode = 0 then
    let s := (s.setF (aiA i aiStat) 1 0 0).setF (aiA i aiStat) 15 8 0xFF
    let s := (s.setB R.MEASA_MEAS_STAT i false).setB R.MEASA_MEAS_STAT (16 + i) false
    (0, 0xFF00, setAi i { c with fresh := false, age := 255, out := none } s)
  else
    let age := frozenAge c.fresh c.age
    let s := setAi i { c with fresh := false, age := age } s
    match c.out with
    | none =>
      let s := (s.setF (aiA i aiStat) 1 0 0).setF (aiA i aiStat) 15 8 age
      (measSlot 0 0xFFFFFFFF, 0xFF00, (s.setB R.MEASA_MEAS_STAT i false).setB R.MEASA_MEAS_STAT (16 + i) false)
    | some o =>
      let range := c.settled && !c.inRange o.code
      let valid := aiValid i o s && !(s.grp (i / 2)).fsSeen && decide (age ≤ fld (c.word 6) 7 0)
      let was := s.regB (aiA i aiStat) 1
      let s := (s.setF (aiA i aiStat) 1 0 (b2n valid + 2 * b2n range)).setF (aiA i aiStat) 15 8 age
      let s := (s.setB R.MEASA_MEAS_STAT i valid).setB R.MEASA_MEAS_STAT (16 + i) range
      let s := if range && !was then irqSet P.MEASA 8 (s.bump R.MEASA_RANGE_CNT) else s
      let lag := ((s.starter.boundNs : Int) - o.eff).toNat
      (measSlot (if valid then o.val else 0) (if valid then lag else 0xFFFFFFFF),
        qualWord valid range c.fresh o.two age, s)

/-- Frequency input `g` at the freeze: decay, standstill, thresholds, slot and quality (R384). -/
def freezeFi (g : Nat) (s : State) : DWord × Nat × State :=
  let t := s.starter.boundNs
  let s := fiStand g t s
  let c := s.fiChan g
  if !s.en P.MEASF || !bitOf (c.word 0) 0 then
    let s := ((s.setB (fiA g fiStat) 0 false).setF (fiA g fiStat) 15 8 0xFF).setB R.MEASF_STAT g false
    (0, 0xFF00, setFi g { c with fresh := false, age := 255, out := none, edges := [] } s)
  else
    let age := frozenAge c.fresh c.age
    let s := setFi g { c with fresh := false, age := age } s
    match c.out with
    | none =>
      let s := ((s.setB (fiA g fiStat) 0 false).setF (fiA g fiStat) 15 8 age).setB R.MEASF_STAT g false
      (measSlot 0 0xFFFFFFFF, 0xFF00, s)
    | some (f, eff, two) =>
      let open_ := (c.tOpen t).getD 0
      let period := getAt 0 c.edges 0 - getAt 0 c.edges 1
      let slow := hertz 1 open_
      let v := if !c.still && decide (period < open_) && real32Lt slow f then slow else f
      let fast := s.regB (fiA g fiStat) 1
      let sound := !(fast || s.regB (fiA g fiStat) 4 || s.regB (fiA g fiStat) 5) && s.groupGood g && !(s.grp g).fsSeen
        && !c.bad && decide (2 ≤ c.edges.length)
      let valid := sound && (c.still || decide (age ≤ fld (c.word 3) 7 0))
      let was := s.regB (fiA g fiStat) 3
      let new := if valid then aboveOf v (c.word 1) (c.word 2) was else was
      let s := s.setB (fiA g fiStat) 3 new
      let s := if new != was && bitOf (c.word 0) 3 then
          raise 5 (8 + g) (b2n new) (qualWord valid fast c.fresh two age) s else s
      let s := ((s.setB (fiA g fiStat) 0 valid).setF (fiA g fiStat) 15 8 age).setB R.MEASF_STAT g valid
      let lag := ((t : Int) - eff).toNat
      (measSlot (if valid then v else 0) (if valid then lag else 0xFFFFFFFF), qualWord valid fast c.fresh two age, s)

/-! ### Resets and commands (R390, R391) -/

/-- Every channel of MEASA, or of MEASF, stops. -/
def measaStop (s : State) : State := { s with meas := { s.meas with ai := List.replicate 8 aiZero } }
def measfStop (s : State) : State := { s with meas := { s.meas with fi := List.replicate 4 fiZero } }

def cmdMeasaClr (iss : Issuer) : State → State :=
  quick ⟨P.MEASA, 0x10, iss⟩ noCheck fun s =>
    s.clear ([R.MEASA_TRIG_IGN_CNT, R.MEASA_RANGE_CNT, R.MEASA_SHUNT_CNT] ++ regRun R.MEASA_AI_SMP_CNT 8 4)

def cmdMeasfClr (iss : Issuer) : State → State :=
  quick ⟨P.MEASF, 0x10, iss⟩ noCheck fun s => s.clear (R.MEASF_FAST_CNT :: regRun (R.MEASF_FI_CFG + 28) 4 32)

/-! ### Meanings -/

def execAiConversionEnd (g : Fin 4) (n : Fin 2) (code : BitVec 20) (s : State) : Host.Outcome State Fault Refusal :=
  .next (conversionEnd g n code.toNat s)
def execShuntOpen (g : Fin 4) (n : Fin 2) (s : State) : Host.Outcome State Fault Refusal := .next (shuntOpens g n s)
def execShuntReclose (g : Fin 4) (n : Fin 2) (fallen : Bool) (s : State) : Host.Outcome State Fault Refusal :=
  .next (shuntCloses g n fallen s)
def execFiEdge (g : Fin 4) (rising : Bool) (ns : Fin 1000) (s : State) : Host.Outcome State Fault Refusal :=
  .next (fiEdge g rising ns s)
def execFiStandstill (g : Fin 4) (s : State) : Host.Outcome State Fault Refusal := .next (fiStand g s.ttNs s)
def execMeasaClrCnt (iss : Issuer) (_arg : BitVec 16) (s : State) : Host.Outcome State Fault Refusal :=
  .next (cmdMeasaClr iss s)
def execMeasfClrCnt (iss : Issuer) (_arg : BitVec 16) (s : State) : Host.Outcome State Fault Refusal :=
  .next (cmdMeasfClr iss s)
def execFiOpenShort (g : Fin 4) (open_ short : Bool) (s : State) : Host.Outcome State Fault Refusal :=
  .next (fiOpenShort g open_ short s)

end Sys2Proof.Machine
end

