-- ==== Sys2Proof/Machine/Grador.lean ====
section
/-!
DEFINITION. The Grador controller (chapter 09): schedule validation (R239), frames (R240, R241), reception (R246 to
R249), transmission (R250 to R253), protocol states (R256 to R258) and spare-slot claims (R259 to R261).
-/
namespace Sys2Proof.Machine

/-! ### Claims (R259 to R261) -/

/-- Two instances of one slot and channel overlap (R259). -/
def overlap (b1 r1 b2 r2 : Nat) : Bool := b1 % 2 ^ min r1 r2 == b2 % 2 ^ min r1 r2

/-- A claim covers an instance of a slot. -/
def Claim.meets (c : Claim) (ch slot base rlog : Nat) : Bool :=
  c.ch == ch && c.slot == slot && overlap c.base c.rlog base rlog

/-- OWN_CLAIM register `j`. -/
def ownA (j : Nat) : Nat := R.GRDS_OWN_CLAIM + 4 * j
def State.ownHeld (s : State) (j : Nat) : Bool := s.regB (ownA j) 31
def State.ownInst (s : State) (j : Nat) : Nat := s.regF (ownA j) 11 0
def State.ownReleasing (s : State) (j : Nat) : Bool := s.regB (ownA j) 30

/-- This node holds its claim on spare instance `n`. -/
def State.holds (s : State) (n : Nat) : Bool := (List.range 4).any fun j => s.ownHeld j && s.ownInst j == n

/-- The claims this node holds. -/
def State.ownClaims (s : State) : List Nat := (List.range 4).filter fun j => s.ownHeld j

def claimStat (phase : Nat) (inst : Nat) (s : State) : State := s.setRegN R.GRDS_CLAIM_STAT (phase + 256 * inst)

/-- The claim procedure ends (R260, R266). -/
def claimEnd (phase : Nat) (s : State) : State :=
  match s.grd.claiming with
  | none => s
  | some (n, _, _) =>
    let s := updGrd (fun g => { g with claiming := none }) (claimStat phase n s)
    let s := irqSet P.GRDS 11 s
    if phase = 4 then recordErr P.GRDS 0x44 srcHardware (n % 1024) s else s

/-- Own claims are lost (R256, R261). -/
def loseClaims (s : State) : State :=
  let s := claimEnd 4 s
  let own := s.ownClaims
  if own.isEmpty then s else
  let s := claimStat 4 (s.ownInst (own.headD 0)) s
  let s := updGrd (fun g => { g with relEnd := [] }) (s.clear (regRun R.GRDS_OWN_CLAIM 4 4))
  recordErr P.GRDS 0x44 srcHardware (s.ownInst (own.headD 0) % 1024) (irqSet P.GRDS 11 s)

/-- The number of claims known. -/
def claimCount (s : State) : State := s.setRegN R.GRDS_CLAIM_KNOWN s.grd.claims.length

/-- A claim word arrives in a good frame (R259, R260). -/
def claimWord (node h3 : Nat) (s : State) : State :=
  let rel := h3.testBit 31
  let ch := h3 / 2 ^ 30 % 2
  let rlog := h3 / 2 ^ 27 % 8
  let base := h3 / 2 ^ 21 % 64
  let slot := h3 / 2 ^ 11 % 1024
  let held := h3 % 4 == 1
  let sameAs (c : Claim) : Bool := c.node == node && c.ch == ch && c.slot == slot && c.base == base && c.rlog == rlog
  let s := match s.grd.claiming with
    | some (n, laps, _) =>
      let e := s.instEnt n
      let hits := e.ch == ch && e.slot == slot && overlap e.base e.rlog base rlog
      if !hits || rel then s
      else if laps = 2 then (if held || decide (node < s.nodeId) then claimEnd 4 s else s)
      else if laps = 1 then updGrd (fun g => { g with claiming := some (n, laps, true) }) s
      else s
    | none => s
  if rel then
    let mark (c : Claim) : Claim := if sameAs c && c.relAt.isNone then { c with relAt := some s.grd.total } else c
    updGrd (fun g => { g with claims := g.claims.map mark }) s
  else if s.grd.claims.any sameAs || decide (256 ≤ s.grd.claims.length) then s
  else
    let idx := ((List.range 256).find? fun i => !(s.grd.claims.any fun c => c.idx == i)).getD 0
    let c : Claim := ⟨idx, held, base, rlog, slot, ch, node, if held then s.cycleCnt / 64 else 0, true, 0, none⟩
    claimCount (updGrd (fun g => { g with claims := g.claims ++ [c] }) s)

/-- Announces become held at a lap start, the lowest node ID of overlapping ones (R259); the laps of silence count. -/
def lapClaims (s : State) : State :=
  let lap := s.cycleCnt / 64
  let all := s.grd.claims
  let beaten (c : Claim) : Bool := !c.held && all.any fun d =>
    !d.held && decide (d.node < c.node) && d.meets c.ch c.slot c.base c.rlog
  let next := (all.filter fun c => !beaten c).map fun c =>
    if c.held then { c with silent := if c.heard then 0 else min 255 (c.silent + 1), heard := false }
    else { c with held := true, lap := lap, heard := false, silent := 0 }
  claimCount (updGrd (fun g => { g with claims := next }) s)

/-- The own procedure at a lap start (R260). -/
def lapOwn (s : State) : State :=
  match s.grd.claiming with
  | none => s
  | some (n, laps, bad) =>
    let e := s.instEnt n
    let known := s.grd.claims.any fun c => c.meets e.ch e.slot e.base e.rlog
    if laps = 0 then updGrd (fun g => { g with claiming := some (n, 1, false) }) s
    else if laps = 1 then
      if bad || known then claimEnd 5 s
      else claimStat 2 n (updGrd (fun g => { g with claiming := some (n, 2, false) }) s)
    else
      match (List.range 4).find? fun j => !s.ownHeld j with
      | some j => claimEnd 3 (s.setRegN (ownA j) (n + 2 ^ 31))
      | none => claimEnd 4 s

/-- Released claims whose announcing lap is over stop (R261). -/
def endReleases (s : State) : State :=
  (s.grd.relEnd.filter fun x => decide (x.2 ≤ s.grd.total)).foldl (fun t x =>
    let t := claimStat 6 (t.ownInst x.1) t
    let t := irqSet P.GRDS 11 (t.setReg (ownA x.1) 0)
    updGrd (fun g => { g with relEnd := g.relEnd.filter fun y => y.1 != x.1 }) t) s

/-- CLAIM_TIMEOUT: a held claim silent for 4 laps, or one lap after its release, is removed (R259). -/
def claimTimeout (idx : Nat) (s : State) : State :=
  let due (c : Claim) : Bool := c.idx == idx && c.held
    && (decide (4 ≤ c.silent) || match c.relAt with | some t => decide (t + 64 ≤ s.grd.total) | none => false)
  if s.grd.claims.any due then
    claimCount (updGrd (fun g => { g with claims := g.claims.filter fun c => !due c }) s)
  else s

/-- The claim table as the schedule memory shows it: word `w` of entry `i` (R259). -/
def State.claimTable (s : State) (i w : Nat) : Nat :=
  match s.grd.claims.find? fun c => c.idx == i with
  | none => 0
  | some c => if w = 1 then c.lap else
      c.node + 2 ^ 10 * c.ch + 2 ^ 11 * c.slot + 2 ^ 21 * c.rlog + 2 ^ 24 * c.base + 2 ^ 30 * (if c.held then 2 else 1)

/-- A byte of the schedule memory as a read shows it: the claim table stands in its region (R242, R259). -/
def State.schedByte (s : State) (a : Nat) : Byte :=
  if 0xE000 ≤ a ∧ a < 0xE800 then
    BitVec.ofNat 8 (s.claimTable ((a - 0xE000) / 8) (a % 8 / 4) / 2 ^ (8 * (a % 4)))
  else Memory.read s.grd.sched a

/-! ### Protocol state (R256) -/

/-- PG_STAT.STATE of GRDS and PACER, and PACER_STAT.PHASE (R266, R285, R286). -/
def grdsPage (p : Nat) : Nat := if p = pocConfig then 0 else if p = pocNormal then 3 else if p = pocNormalListen then 6 else 1
def pacerPage (p : Nat) : Nat :=
  if p = pocConfig then 0 else if p = pocNormal ∨ p = pocNormalListen then 3 else if p = pocLost then 6 else 1
def pacerPhase (p : Nat) : Nat :=
  if p = pocConfig then 0 else if p = pocIntegrate then 2 else if p = pocNormal ∨ p = pocNormalListen then 3
  else if p = pocLost then 4 else 1

/-- A link measurement of a channel starts (R275). -/
def startProbe (ch : Nat) : State → State := updGrd fun g => { g with probes := setAt g.probes ch (some []) }

/-- Enter a protocol state. -/
def setPoc (p : Nat) (s : State) : State :=
  if s.poc = p then s else
  let ran := s.pocRuns
  let s := s.setF R.GRDS_NODE_STAT 3 0 p
  let s := updGrd (fun g => { g with phase := 0, quiet := 0, noise := decide (0 < g.pos), placed := false }) s
  let s := if s.pgState P.GRDS = stFault then s else s.setPgState P.GRDS (grdsPage p)
  let s := if s.pgState P.PACER = stFault then s else s.setPgState P.PACER (pacerPage p)
  let s := s.setF R.PACER_STAT 3 0 (pacerPhase p)
  let s := if ran && !s.pocRuns then allAbsent (loseClaims (s.setB R.GRDS_NODE_STAT 9 false)) else s
  let bar (s : State) : State := updGrd (fun g => { g with barred := [true, true] }) s
  let s := if p = pocListen then bar (startProbe 1 (startProbe 0 (s.setF R.PACER_STAT 9 8 0))) else s
  irqSet P.GRDS 8 s

def lostCause (c : Nat) (s : State) : State := if s.pocRuns then s.setF R.GRDS_NODE_STAT 7 4 c else s

/-- The node goes to CONFIG: cause 2 EN cleared, 3 function reset (R256, R267). -/
def grdsStop (cause : Nat) (s : State) : State := setPoc pocConfig (lostCause cause s)

/-- The GRDS function reset (R270). -/
def grdsReset (s : State) : State :=
  let s := grdsStop 3 s
  allAbsent (claimCount (updGrd (fun g => { g with claims := [] }) s))

/-- A node that may no longer transmit leaves NORMAL (R256, R267, R271). -/
def pocCheck (s : State) : State :=
  if s.poc = pocNormal && !s.txAllowed then
    let s := if s.pgState P.GRDS = stFault ∨ s.pgState P.PACER = stFault then lostCause 4 s else s
    setPoc pocNormalListen s
  else s

/-- A cold start begins cycle 0 (R256): at the start of a cycle of the node's own timing, or of the running tick. -/
def coldBegin (s : State) : State :=
  let s := (setPoc pocFirst s).setRegN R.GRDS_CYCLE_NOW 0
  let s := s.setF R.GRDS_NODE_STAT 21 16 0
  updGrd (fun g => { g with pos := min g.pos 0, cycTick := s.now, cycNs := s.starter.tickNs, aborted := false, syncs := [],
                            csSeen := false, vals := [], corrected := false, spread := 0 }) s

/-- COLD_START (R256). -/
def coldStart (s : State) : State :=
  if s.poc = pocListen ∧ s.csEn ∧ s.txAllowed ∧ 2 + s.csRank ≤ s.grd.quiet then coldBegin s else s

/-- CS_BACKOFF_END (R256). -/
def backoffEnd (s : State) : State :=
  if s.poc = pocBackoff ∧ s.txAllowed ∧ 2 + s.csRank ≤ s.grd.quiet then coldBegin s else s

/-- COLD_RETRY (R256). -/
def coldRetry (s : State) : State :=
  if s.poc = pocWait ∧ 64 ≤ s.grd.phase then setPoc pocListen (s.bump R.GRDS_COLD_RETRY_CNT) else s

/-- A cold start is aborted (R256, R266). -/
def falseStart (s : State) : State :=
  let s := irqSet P.GRDS 10 (s.bump R.GRDS_FALSE_START_CNT)
  let s := setPoc pocBackoff (recordErr P.GRDS 0x41 srcHardware 0 s)
  updGrd (fun g => { g with aborted := true }) s

/-! ### The frame (R240, R241) -/

/-- A frame's fields; `len` is its length from the destination address to the FCS. -/
structure GFrame where
  dest : Nat
  etype : Nat
  h0 : Nat
  h1 : Nat
  h2 : Nat
  h3 : Nat
  len : Nat
  fcs : Bool
  body : List Byte
  deriving DecidableEq, Repr

def gFrame (bs : List Byte) : GFrame :=
  let be (o n : Nat) : Nat := beNat ((bs.drop o).take n)
  let n := bs.length - 4
  { dest := be 0 6, etype := be 12 2, h0 := be 14 4, h1 := be 18 4, h2 := be 22 4, h3 := be 26 4, len := bs.length,
    fcs := decide (34 ≤ bs.length) && leNat (bs.drop n) == crc32 (bs.take n), body := bs.drop 30 }

def GFrame.ver (f : GFrame) : Nat := f.h0 / 2 ^ 28 % 16
def GFrame.sync (f : GFrame) : Bool := f.h0.testBit 27
def GFrame.cs (f : GFrame) : Bool := f.h0.testBit 26
def GFrame.clm (f : GFrame) : Bool := f.h0.testBit 24
def GFrame.ch (f : GFrame) : Nat := f.h0 / 2 ^ 23 % 2
def GFrame.slot (f : GFrame) : Nat := f.h0 / 2 ^ 10 % 1024
def GFrame.node (f : GFrame) : Nat := f.h0 % 1024
def GFrame.dlen (f : GFrame) : Nat := f.h1 % 256
def GFrame.age (f : GFrame) : Nat := f.h1 / 256 % 256

/-- The destination of a channel. -/
def gDest (ch : Nat) : Nat := 0x03475200000A + ch

/-- A frame as it leaves: from the destination address to the FCS. -/
def gBytes (ch node etype h0 h1 h2 h3 p : Nat) (data : List Byte) : List Byte :=
  let pay := (data ++ List.replicate p 0).take p
  let body := beBytes 6 (gDest ch) ++ beBytes 6 (0x024752000000 + node) ++ beBytes 2 etype
    ++ beBytes 4 h0 ++ beBytes 4 h1 ++ beBytes 4 h2 ++ beBytes 4 h3 ++ pay ++ List.replicate (30 - p) 0
  body ++ leBytes 4 (crc32 body)

/-! ### Reception (R246) -/

abbrev gOk : Nat := 0
abbrev gSilent : Nat := 1
abbrev gFcs : Nat := 2
abbrev gFormat : Nat := 3
abbrev gBoundary : Nat := 4
abbrev gVersion : Nat := 5
abbrev gSched : Nat := 6
abbrev gCycle : Nat := 7
abbrev gSender : Nat := 8
abbrev gUnclaimed : Nat := 9
abbrev gCollision : Nat := 10

/-- FORMAT (R246): destination, EtherType, length for P, reserved bits, CH, SLOT, DLEN. -/
def formatBad (ch slot : Nat) (f : GFrame) (s : State) : Bool :=
  let p := (s.slotEnt ch slot).len
  f.dest != gDest ch || f.etype != s.regF R.GRDS_NET_CFG 15 0 || f.len != 34 + max p 30
    || f.h3 / 4 % 512 != 0 || (!f.clm && f.h3 != 0) || decide (2 ≤ f.h3 % 4)
    || (s.netVer == 1 && f.h3.testBit 31) || (f.cs && !f.sync)
    || f.ch != ch || f.slot != slot || decide (p < f.dlen) || (s.netVer == 1 && f.dlen != p)

/-- The sender a slot instance must have, if the schedule says (R246). -/
def State.sender (s : State) (ch slot cycle : Nat) : Option Nat :=
  let e := s.slotEnt ch slot
  if e.use == 2 then none
  else if !e.mux then some e.owner
  else ((s.rxIn ch slot cycle).find? fun n => !(s.instEnt n).spare).map fun n => (s.instEnt n).node

/-- A cycle's instance of a slot is spare. -/
def State.spareHere (s : State) (ch slot cycle : Nat) : Bool :=
  (s.slotEnt ch slot).use == 2 || (s.entriesIn ch slot cycle).any fun n => (s.instEnt n).spare

/-- LINK_DLY and NET_DLY of a channel. -/
def State.linkDly (s : State) (ch : Nat) : Nat := s.regF (R.PACER_LINK_DLY_A + 4 * ch) 15 0
def State.netDly (s : State) (ch : Nat) : Nat := s.regF R.PACER_NET_DLY (16 * ch + 15) (16 * ch)

/-- The deviation of a frame (R276). -/
def State.deviation (s : State) (ch slot : Nat) (stamp : Int) : Int :=
  stamp - ((s.slotEnt ch slot).act + s.netDly ch + s.linkDly ch : Nat)

/-- The half-width of the receive window (R277). -/
def State.window (s : State) : Nat :=
  if s.poc = pocIntegrate then s.regF R.PACER_WIN_CFG 29 16 else s.regF R.PACER_WIN_CFG 9 0 + 25

/-- The status of a frame: the first check of R246 that fails. `timed` is false where the node adopts timing. -/
def frameStatus (timed : Bool) (ch slot : Nat) (f : GFrame) (dev : Int) (second : Bool) (cycle : Nat) (s : State) : Nat :=
  let here := if timed then cycle else f.h2
  if !f.fcs then gFcs
  else if formatBad ch slot f s then gFormat
  else if timed && decide (s.window < dev.natAbs) then gBoundary
  else if f.ver ≠ s.netVer then gVersion
  else if f.h1 / 2 ^ 16 ≠ s.regF R.GRDS_SCHED_ID 15 0 then gSched
  else if timed && f.h2 != cycle then gCycle
  else if (match s.sender ch slot here with | some n => n != f.node | none => false) then gSender
  else if s.spareHere ch slot here && !(s.grd.claims.any fun c =>
      c.held && c.node == f.node && c.ch == ch && c.slot == slot && occurs c.base c.rlog f.h2) then gUnclaimed
  else if second then gCollision
  else gOk

/-- The counter of a status on a channel's page (R264). -/
def statusCnt (st : Nat) : Nat := R.GRD_RX_OK_CNT + 4 * st

/-- The channel page counts a status; `mine` says whether this node receives the instance (R264, R265). -/
def countStatus (ch st slot node : Nat) (mine : Bool) (s : State) : State :=
  let s := if st ≠ gSilent ∨ mine then s.bump (grdA ch (statusCnt st)) else s
  let s := s.setF (grdA ch R.GRD_CH_STAT) 7 4 st
  let s := if st = gOk ∨ st = gSilent then s else
    (s.setRegN (grdA ch R.GRD_LAST_ERR_CYCLE) s.cycleCnt).setRegN (grdA ch R.GRD_LAST_ERR_INFO)
      (st + 16 * slot + 2 ^ 14 * node)
  let s := if mine && decide (st ≠ gOk ∧ st ≠ gSilent) then irqSet (P.GRD + ch) 9 (tally ch s) else s
  if st = gCollision then irqSet (P.GRD + ch) 10 s else s

/-- What a good frame tells beside its data: SUPV and claims (R245, R259). -/
def frameTells (f : GFrame) (s : State) : State :=
  let s := stationSupv f.node (f.h0 / 2 ^ 20 % 8) s
  if f.clm then claimWord f.node f.h3 s else s

/-- Expected arrival of a slot's frame, from the cycle's start (R276). -/
def State.expected (s : State) (ch slot : Nat) : Nat := (s.slotEnt ch slot).act + s.netDly ch + s.linkDly ch

/-- Timing is adopted from a sync frame: CYCLE_CNT, and the clock placed so that the frame stands at E, its deviation 0
(R256, R278, R282). `stamp` is on the node's clock before; `join` says whether the node integrates. -/
def adopt (ch slot : Nat) (f : GFrame) (stamp : Int) (join : Bool) (s : State) : State :=
  let cs := f.cs || s.poc == pocBackoff
  let e := s.expected ch slot
  let s := if join then setPoc pocIntegrate s else s
  let s := (s.setRegN R.GRDS_CYCLE_NOW f.h2).setF R.GRDS_NODE_STAT 21 16 (f.h2 % 64)
  let pos := s.grd.pos + e - stamp
  let back := ((max 0 pos + 999) / 1000).toNat
  updGrd (fun g => { g with fullCycle := false, adoptedCs := cs, integBad := false, syncs := [(ch, f.node)],
                            csSeen := f.cs, vals := [⟨f.node, ch, slot, 0, false, e⟩], prevMeasured := false,
                            measured := false, pos := pos, cycTick := s.now - back,
                            cycNs := ((s.starter.tickNs : Int) - pos).toNat, placed := true, corrected := false,
                            spread := 0 }) s

/-- The cycle is not a silent one (R256). -/
def noisy : State → State := updGrd fun g => { g with quiet := 0, noise := true }

/-- A good sync frame before the node has timing (R256, R275, R282): in LISTEN it starts an integration; in CS_BACKOFF a
CS frame does, and any other places the clock once. -/
def mayAdopt (ch slot : Nat) (f : GFrame) (stamp : Int) (s : State) : State :=
  let bar := (getAt none s.grd.probes ch).isSome && getAt false s.grd.barred ch
  let join := s.poc == pocListen || f.cs
  if f.sync && !bar && (join || !s.grd.placed) then adopt ch slot f stamp join s else s

/-- A frame, or energy, heard before the node has timing (R256). -/
def rxListen (ch : Nat) (heard : Heard) (s : State) : State :=
  match heard with
  | .silent => s
  | .energy =>
    let s := countStatus ch gCollision 0 0 false s
    if s.poc = pocListen then noisy s else s
  | .frame bs stamp second =>
    let f := gFrame bs
    let slot := f.slot
    let st := if (s.slotEnt ch slot).use == 0 then (if f.fcs then gFormat else gFcs)
              else frameStatus false ch slot f 0 second 0 s
    let s := countStatus ch st slot (if f.fcs then f.node else 0) false s
    let s := if s.poc = pocListen ∨ st = gOk then noisy s else s
    if st = gOk then mayAdopt ch slot f stamp (frameTells f s) else s

/-- The connections of the safe message unit. -/
def State.conns (s : State) : List Nat :=
  (s.safety.connTab.filter fun c => c.1 % 32 == 3 && c.2.getLsbD 7).map fun c => c.1 / 32

/-- The connection that an instance of a paired slot serves (R420). -/
def State.connOf (s : State) (ch n : Nat) (tx : Bool) : Option Nat :=
  s.conns.find? fun c => s.connTx c == tx && s.connF c 1 (12 * ch + 11) (12 * ch) == n

/-- A good frame in its instance: what it tells, and the pacer's value of a sync frame (R257, R278). -/
def goodFrame (ch slot : Nat) (f : GFrame) (dev : Int) (s : State) : State :=
  let s := frameTells f s
  let v : PVal := ⟨f.node, ch, slot, dev, false, dev + s.expected ch slot⟩
  if f.sync then
    updGrd (fun g => { g with syncs := if g.syncs.contains (ch, f.node) then g.syncs else g.syncs ++ [(ch, f.node)],
                              csSeen := g.csSeen || f.cs,
                              vals := if g.vals.length < 30 then g.vals ++ [v] else g.vals }) s
  else s

/-- The receive entry of an instance takes its status and data (R247, R253). -/
def rxEntry (n ch slot st : Nat) (f : GFrame) (s : State) : State :=
  let e := s.instEnt n
  let s := if st = gOk then bufStore n f.h2 f.age f.dlen (f.body.take (s.slotEnt ch slot).len) s else s
  let s := bufStatus n st s
  let s := if e.evt then raise 6 (slot + 1024 * ch) (n + 4096 * st) (b2n (st == gOk)) s else s
  if (s.slotEnt ch slot).paired then
    match s.connOf ch n false with
    | some c =>
      let at_ := if s.timeValid then some (s.actionNs n) else none
      let r := smsgCopy c ch st f.dlen f.body at_ s
      if r.1 then resetSource (256 + c) s.now r.2 else r.2
    | none => s
  else s

/-- The empty frame of a silent instance. -/
def gNone : GFrame := ⟨0, 0, 0, 0, 0, 0, 0, false, []⟩

/-- A cold-starting node meets another's start (R256). -/
def startMeets (st : Nat) (f : GFrame) (s : State) : State :=
  let cs := f.fcs && st != gFormat && f.cs && f.node != s.nodeId
  if s.poc = pocFirst ∧ (cs ∨ st = gFcs ∨ st = gFormat ∨ st = gCollision) then falseStart s
  else if s.poc = pocWait ∧ cs then falseStart s
  else s

/-- The stations from which a slot instance comes (R249): the NODE of its receive entries, or its OWNER. -/
def State.stationsOf (s : State) (ch slot : Nat) : List Nat :=
  let se := s.slotEnt ch slot
  let named := ((s.rxIn ch slot s.cycleCnt).filter fun n => !(s.instEnt n).spare).map fun n => (s.instEnt n).node
  let owner := if !se.mux && se.use == 1 then [se.owner] else []
  (named ++ owner).eraseDups

/-- An instance that this node does not send completes, with the status of what it brought (R246 to R249, R256). -/
def rxDone (ch slot st : Nat) (f : GFrame) (dev : Int) (s : State) : State :=
  let rx := s.rxIn ch slot s.cycleCnt
  let s := countStatus ch st slot (if f.fcs then f.node else 0) (!rx.isEmpty) s
  let s := if st = gBoundary ∧ f.sync then s.bump R.PACER_SYNC_REJ_CNT else s
  let s := if s.poc = pocIntegrate ∧ f.sync ∧ (st = gCycle ∨ st = gSched ∨ st = gVersion) then
      updGrd (fun g => { g with integBad := true }) s else s
  let s := if st = gSilent then s else
    let hear (c : Claim) : Claim :=
      if c.ch == ch && c.slot == slot && occurs c.base c.rlog s.cycleCnt then { c with heard := true } else c
    let spoil (x : Nat × Nat × Bool) : Nat × Nat × Bool :=
      if x.2.1 == 1 && s.txHere ch slot == some x.1 then (x.1, x.2.1, true) else x
    updGrd (fun g => { g with claims := g.claims.map hear, claiming := g.claiming.map spoil }) s
  let s := if st = gOk then goodFrame ch slot f dev s else s
  let s := startMeets st f s
  let s := (s.stationsOf ch slot).foldl (fun t k => stationHeard k (st == gOk) t) s
  rx.foldl (fun t n => rxEntry n ch slot st f t) s

/-- The status of what a slot instance brings, with its frame and deviation (R246, R276). -/
def heardStatus (ch slot : Nat) (heard : Heard) (s : State) : Nat × GFrame × Int :=
  match heard with
  | .silent => (gSilent, gNone, 0)
  | .energy => (gCollision, gNone, 0)
  | .frame bs stamp second =>
    let f := gFrame bs
    let dev := s.deviation ch slot stamp
    (frameStatus true ch slot f dev second s.cycleCnt s, f, dev)

/-- The instance is the transmit instance in which a standby hears the active's heartbeats (R429). -/
def State.beatHere (s : State) (ch slot : Nat) : Bool :=
  s.stbyRole && bitOf s.partCfg 2 && s.txHere ch slot == some (fld (s.cfgWord R.PART_MB) 11 0)

/-- A slot instance completes; its time stamp refers to the MDI (R246, R273). -/
def rxInstance (ch slot : Nat) (heard0 : Heard) (s0 : State) : State :=
  let s := pocCheck s0
  let heard := if s.regB (grdA ch R.GRD_CH_STAT) 0 then heard0 else .silent
  if s.poc = pocConfig then s
  else if s.poc = pocListen ∨ s.poc = pocBackoff then rxListen ch heard s
  else
    let ownTx := match s.txHere ch slot with | some n => !(s.instEnt n).spare || s.holds n | none => false
    if (s.slotEnt ch slot).use == 0 then s else
    let (st, f, dev) := heardStatus ch slot heard s
    if ownTx then (if decide (st = gOk) && s.beatHere ch slot then beat true s else s) else
    rxDone ch slot st f dev s

/-- The trim fuses (R468). -/
def State.trim (s : State) : BitVec 128 := s.fuses.extractLsb' 0 128

/-- A raw time stamp of a channel's PHY less the latency that the trim fuses give (R273). -/
def State.mdiStamp (s : State) (ch : Nat) (rx : Bool) (raw : Int) : Int := raw - (Config.phyLatency s.trim ch rx : Nat)

/-- What an instance brings, with its stamp referred to the MDI. -/
def atMdi (ch : Nat) (heard : Heard) (s : State) : Heard :=
  match heard with
  | .frame bs raw second => .frame bs (s.mdiStamp ch true raw) second
  | h => h

/-- GRADOR_RX_INSTANCE (R246, R273). -/
def rxRaw (ch slot : Nat) (heard : Heard) (s : State) : State := rxInstance ch slot (atMdi ch heard s) s

/-! ### Transmission (R250 to R253) -/

/-- TX_LATCH at 6 µs into the cycle (R250). -/
def txLatch (s : State) : State :=
  if s.poc = pocConfig then s else
  let s := (s.instances.filter fun n => (s.instEnt n).tx).foldl (fun t n =>
    let t := latchBuf n t
    let e := t.instEnt n
    if (t.slotEnt e.ch e.slot).paired && (t.buf n).latchAge == 0 then
      match t.connOf e.ch n true with
      | some c => setConn c { t.conn c with data := (t.buf n).latched.getD [] } t
      | none => t
    else t) s
  refMessage s

/-- The claim word of the next frame: CLM and H3 (R260, R261). -/
def nextClaim (s : State) : Nat × Nat × State :=
  let word (n phase rel : Nat) : Nat :=
    let e := s.instEnt n
    phase + 2 ^ 11 * e.slot + 2 ^ 21 * e.base + 2 ^ 27 * e.rlog + 2 ^ 30 * e.ch + 2 ^ 31 * rel
  match s.grd.claiming with
  | some (n, 2, _) => (1, word n 0 0, s)
  | _ =>
    let own := s.ownClaims
    if own.isEmpty then (0, 0, s) else
    let j := own.getD (s.grd.rotate % own.length) 0
    (1, word (s.ownInst j) 1 (b2n (s.ownReleasing j)), updGrd (fun g => { g with rotate := g.rotate + 1 }) s)

/-- The safe message unit writes its PDU into the transmit buffers of both channels (R253, R254). -/
def pduStore (c : Nat) (pdu : List Byte) (s : State) : State :=
  let put (n : Nat) (t : State) : State := bufWord n 8 pdu.length (commsWrite srcHardware (256 * n + 16) pdu t)
  put (s.connF c 1 23 12) (put (s.connF c 1 11 0) s)

/-- The PDU of connection `c` in this cycle: fetched once, for both channels (R253, R407). -/
def pairData (c n : Nat) (s : State) : Option (List Byte) × State :=
  let a := s.connF c 1 11 0
  match (s.buf a).pairTx.filter fun x => x.1 == s.grd.total with
  | some x => (x.2, s)
  | none =>
    let r := smsgFetch c s.nodeId (s.actionNs n % 2 ^ 48) s
    let t := setBuf a { r.2.buf a with pairTx := some (s.grd.total, r.1) } r.2
    (r.1, match r.1 with | some d => pduStore c d t | none => t)

/-- The payload of transmit instance `n`: its data, if it sends at all (R250, R253, R407). The fetch reads the buffer; a
unit with a poisoned word is not sent, and the channel's page counts it (R128). -/
def txData (n ch : Nat) (s : State) : Option (List Byte) × State :=
  let e := s.instEnt n
  if (s.slotEnt e.ch e.slot).paired then
    match s.connOf ch n true with
    | none => (none, s)
    | some c => pairData c n s
  else
    let d := (s.buf n).latched.getD []
    let bad := s.poisoned (256 * n + 16) d.length
    let s := commsRead 2 (256 * n + 16) d.length s
    if bad then (none, recordErr (P.GRD + ch) cIntegrity srcHardware (n % 1024) s) else (some d, s)

/-- Two of the three lanes' windows are open (R252). -/
def twoOf (v : BitVec 3) : Bool := decide (2 ≤ b2n (bitOf v 0) + b2n (bitOf v 1) + b2n (bitOf v 2))

/-- A frame has left (R254, R264). -/
def txSent (n ch : Nat) (s : State) : State :=
  let b := s.buf n
  let b := { b with units := satInc b.units, lastOk := s.cycleCnt, okCnt := satInc b.okCnt, sentAge := b.latchAge }
  let s := (setBuf n b s).bump (grdA ch R.GRD_TX_OK_CNT)
  let s := if b.latchAge = 0 then s else s.bump (grdA ch R.GRD_TX_AGED_CNT)
  let s := bufWord n 0 b.units.toNat (bufWord n 4 s.cycleCnt s)
  bufNote n (bufWord n 0xC (bufStatWord true b) s)

/-- Duration of a frame with payload length `p`, from its first preamble bit to the end of its FCS, ns (R237). -/
def wireNs (p : Nat) : Nat := (42 + max p 30) * 8

/-- A permit window of a slot is open where the network clock reads `p`: 1 µs around the frame (R252). -/
def State.windowAt (s : State) (ch slot : Nat) (p : Int) : Bool :=
  let e := s.slotEnt ch slot
  decide ((e.act : Int) - 1000 ≤ p ∧ p ≤ (e.act + wireNs e.len + 1000 : Nat))

/-- This node's schedule has it send entry `n` in the running cycle. -/
def State.sendsNow (s : State) (n : Nat) : Bool :=
  let e := s.instEnt n
  e.tx && s.inCycle n && (!e.spare || s.holds n)

/-- PERMIT of a channel: the window of one of this node's instances is open (R252, R265). -/
def State.permitOpen (s : State) (ch : Nat) : Bool :=
  !(s.poc == pocConfig) && s.instances.any fun n =>
    let e := s.instEnt n
    e.ch == ch && s.sendsNow n && s.windowAt ch e.slot s.grd.pos

/-- Where a frame that the controller starts in the running tick begins: at its action point, or as near to it as the
tick allows. -/
def State.startAt (s : State) (ch slot : Nat) : Int :=
  max s.grd.pos (min ((s.slotEnt ch slot).act : Int) (s.grd.pos + 999))

/-- The header words H0 to H3 of instance `n`'s frame with `dlen` data bytes (R241). -/
def txHead (n ch slot dlen clm : Nat) (s : State) : Nat × Nat :=
  let se := s.slotEnt ch slot
  let sync := se.sync && !se.mux && se.owner == s.nodeId
  let cs := sync && !(s.poc == pocNormal)
  (s.nodeId + 2 ^ 10 * slot + 2 ^ 20 * 2 + 2 ^ 23 * ch + 2 ^ 24 * clm + 2 ^ 25 * b2n se.paired
    + 2 ^ 26 * b2n cs + 2 ^ 27 * b2n sync + 2 ^ 28 * s.netVer,
   dlen + 256 * (s.buf n).latchAge + 2 ^ 16 * s.regF R.GRDS_SCHED_ID 15 0)

/-- The frame of instance `n` leaves whole, or is cut where the permit closes before its end (R240, R252, R278). -/
def txPut (n ch slot : Nat) (whole : Bool) (data : List Byte) (s : State) : State :=
  let se := s.slotEnt ch slot
  let sync := se.sync && !se.mux && se.owner == s.nodeId
  let (clm, h3, s) := nextClaim s
  let dlen := if s.netVer = 1 then se.len else min data.length se.len
  let (h0, h1) := txHead n ch slot dlen clm s
  if !whole then s.bump (grdA ch R.GRD_TX_CUT_CNT)
  else
    let bs := gBytes ch s.nodeId (s.regF R.GRDS_NET_CFG 15 0) h0 h1 s.cycleCnt h3 se.len data
    let s := txSent n ch (s.send (.grador ch slot bs))
    if sync then updGrd (fun g => { g with vals := g.vals ++ [⟨s.nodeId, ch, slot, 0, true, se.act⟩] }) s else s

/-- TX_FRAME (R252): the controller starts the frame of a slot in the running tick. `permit` and `atEnd`: the lanes whose
own copy of the schedule and count of time are right at its start and at its end. -/
def txFrame (ch slot : Nat) (permit atEnd : BitVec 3) (s0 : State) : State :=
  let s := pocCheck s0
  match s.txHere ch slot with
  | none => s
  | some n =>
    let start := s.startAt ch slot
    let open_ := twoOf permit && s.windowAt ch slot start
    let whole := twoOf atEnd && s.windowAt ch slot (start + wireNs (s.slotEnt ch slot).len)
    if !s.sendsNow n || !s.pocSends || !s.txAllowed || !s.chTx ch || !open_ || !s.regB (grdA ch R.GRD_CH_STAT) 0 then s
    else match txData n ch s with
    | (none, s) => s
    | (some data, s) => txPut n ch slot whole data s

/-! ### Cycles (R236, R256, R257) -/

/-- Distinct sync nodes heard on a channel in the running cycle. -/
def State.syncsOn (s : State) (ch : Nat) : Nat := (s.grd.syncs.filter fun x => x.1 == ch).length

/-- The full cycle of an integration meets R257. -/
def integOk (s : State) : Bool :=
  !s.grd.integBad && (decide (2 ≤ s.syncsOn 0 ∨ 2 ≤ s.syncsOn 1)
    || (s.grd.adoptedCs && s.csEn && s.grd.csSeen))

/-- The protocol state at the end of a cycle (R256). -/
def pocCycle (s : State) : State :=
  let p := s.poc
  if p = pocListen ∨ p = pocBackoff then
    let count (g : Grador) : Nat := if g.noise || (p == pocBackoff && g.aborted) then 0 else g.quiet + 1
    updGrd (fun g => { g with quiet := count g, noise := false, aborted := g.aborted && p != pocBackoff }) s
  else if p = pocFirst then setPoc pocWait s
  else if p = pocWait then
    if s.grd.syncs.isEmpty then updGrd (fun g => { g with phase := g.phase + 1 }) s
    else (setPoc pocNormal s).setB R.GRDS_NODE_STAT 9 true
  else if p = pocIntegrate then
    if !s.grd.fullCycle then updGrd (fun g => { g with fullCycle := true, integBad := false }) s
    else if integOk s then
      setPoc (if s.txAllowed then pocNormal else pocNormalListen) (s.bump R.GRDS_INTEG_CNT)
    else setPoc pocListen (recordErr P.GRDS 0x42 srcHardware 0 (s.bump R.GRDS_INTEG_FAIL_CNT))
  else if p = pocNormalListen ∧ s.txAllowed then setPoc pocNormal s
  else if p = pocLost then setPoc pocListen s
  else s

/-- The network clock has counted L since the cycle's start, `at_` ns into the running tick (R236). -/
def State.cycleDue (s : State) (at_ : Nat) : Bool := decide ((1000 * s.cycleUs : Nat) ≤ s.grd.pos + at_)

/-- The clock goes on from the start of the next cycle, with what was left of the offset correction; the rate step takes
effect (R236, R280, R282). -/
def nextPos (s : State) : State :=
  let p := s.grd.pos + s.grd.spread - (1000 * s.cycleUs : Nat)
  let back := ((max 0 p + 999) / 1000).toNat
  let s := updGrd (fun g => { g with pos := p, spread := 0, corrected := false, cycTick := s.now - back }) s
  let s := match s.grd.rateNext with
    | some r => updGrd (fun g => { g with rateNext := none }) (s.setRegN R.PACER_RATE_PPB (ofSigned 32 r))
    | none => s
  updGrd (fun g => { g with cycNs := s.trainAt 0 }) s

/-- The next basic cycle begins (R236). -/
def cycleBegin (s0 : State) : State :=
  let s := pocCheck s0
  let s := forN 2 (fun ch t => t.setF (grdA ch R.GRD_CH_STAT) 23 16 (min 15 (t.syncsOn ch))) s
  let s := pocCycle (nextPos (servoCycle s))
  let c := (s.cycleCnt + 1) % 2 ^ 32
  let s := (s.setRegN R.GRDS_CYCLE_NOW c).setF R.GRDS_NODE_STAT 21 16 (c % 64)
  let s := updGrd (fun g => { g with total := g.total + 1, syncs := [], csSeen := false,
                                     prev := g.vals, vals := [], prevOc := g.oc, prevMeasured := g.measured,
                                     measured := false }) s
  let s := smsgCycle s
  let ns := s.grd.cycNs
  let s := captures capCycle 0 ns s
  let s := if c % 64 = 0 then captures capLap 0 ns (lapOwn (lapClaims s)) else s
  endReleases s

/-- CYCLE_START (R236): at `at_` ns into the running tick, if the network clock has counted L. -/
def cycleStart (at_ : Nat) (s : State) : State := if s.cycleDue at_ then cycleBegin s else s

/-- Nanoseconds that a rate of `r` ppb gains or loses while the time base runs `el` ns: one every round(10⁹ / |r|) ns
(R282). The answer: their number, and the time since the latest. -/
def rateGain (r : Int) (acc el : Nat) : Nat × Nat :=
  let every := (2 * 1000000000 + r.natAbs) / (2 * r.natAbs)
  if r = 0 ∨ every = 0 then (0, 0) else ((acc + el) / every, (acc + el) % every)

/-- The part of an offset correction of `oc` ns that falls into `el` ns from position `p`: spread evenly from 1 µs after
the start of the NIT to the cycle's end (R282). -/
def spreadStep (oc p : Int) (el : Nat) (nitEnd nit : Int) : Int :=
  let from_ := max p (nit + 1000)
  let run := p + el - from_
  if run ≤ 0 then 0
  else if nitEnd - from_ ≤ run then oc
  else if oc < 0 then -((oc.natAbs : Int) * run / (nitEnd - from_)) else oc * run / (nitEnd - from_)

/-- The network clock runs with the time base for `edges` edges of 8 ns (R272, R282). -/
def netTick (edges : Nat) (s : State) : State :=
  let el := 8 * edges
  let p := s.grd.pos
  let r := s.ratePpb
  let (k, acc) := rateGain r s.grd.rateAcc el
  let nitEnd : Int := (1000 * s.cycleUs : Nat)
  let d := spreadStep s.grd.spread p el nitEnd (nitEnd - (1000 * s.regF R.GRDS_CYCLE_CFG 25 16 : Nat))
  let gain : Int := if r < 0 then -(k : Int) else k
  refLatch p (updGrd (fun g => { g with pos := p + el + gain + d, rateAcc := acc, spread := g.spread - d }) s)

/-! ### Validation (R239) -/

/-- A failing row of R239: reason, slot or instance, channel. -/
abbrev SchedFail := Nat × Nat × Nat

def schedOrder (ch : Nat) (s : State) : List Nat → Option SchedFail
  | a :: b :: rest =>
    let x := s.slotEnt ch a
    let y := s.slotEnt ch b
    if x.act < y.act ∧ x.act + s.slotNs x.len ≤ y.act then schedOrder ch s (b :: rest) else some (1, b, ch)
  | _ => none

/-- The first failure among candidates. -/
def firstFail {α : Type} (xs : List α) (bad : α → Bool) (f : α → SchedFail) : Option SchedFail := (xs.find? bad).map f

/-- Validation of the schedule: the first row of R239 that fails. -/
def schedCheck (s : State) : Option SchedFail :=
  let used (ch : Nat) : List (Nat × Nat) := (s.usedSlots ch).map fun x => (ch, x)
  let slots := used 0 ++ used 1
  let ents := s.instances
  let txs := ents.filter fun n => (s.instEnt n).tx
  let slotOf (n : Nat) : SlotEntry := let e := s.instEnt n; s.slotEnt e.ch e.slot
  let chOf (n : Nat) : Nat := (s.instEnt n).ch
  let endNs := 1000 * (s.cycleUs - s.regF R.GRDS_CYCLE_CFG 25 16)
  let syncs (ch : Nat) : List Nat := (s.usedSlots ch).filter fun x => (s.slotEnt ch x).sync
  let ownSync (ch : Nat) : Bool := (syncs ch).any fun x => (s.slotEnt ch x).owner == s.nodeId
  (schedOrder 0 s (s.usedSlots 0))
  <|> (schedOrder 1 s (s.usedSlots 1))
  <|> (firstFail slots (fun x => let e := s.slotEnt x.1 x.2; decide (endNs < e.act + s.slotNs e.len)) fun x => (2, x.2, x.1))
  <|> (firstFail slots (fun x => let e := s.slotEnt x.1 x.2; decide (e.len < 16 ∨ 240 < e.len)) fun x => (3, x.2, x.1))
  <|> (firstFail txs (fun n => decide ((slotOf n).act < 8000)) fun n => (4, n, chOf n))
  <|> (firstFail ents (fun n =>
        let e := s.instEnt n
        decide (6 < e.rlog ∨ 2 ^ e.rlog ≤ e.base) || (slotOf n).use == 0
          || (e.tx && txs.any fun m => let d := s.instEnt m
               m != n && d.ch == e.ch && d.slot == e.slot && overlap d.base d.rlog e.base e.rlog))
        fun n => (5, n, chOf n))
  <|> (firstFail slots (fun x => let e := s.slotEnt x.1 x.2; e.sync && e.mux) fun x => (6, x.2, x.1))
  <|> (if 15 < (syncs 0).length then some (6, 0, 0) else if 15 < (syncs 1).length then some (6, 0, 1)
       else if s.csEn && !ownSync 0 then some (6, 0, 0) else if s.csEn && !ownSync 1 then some (6, 0, 1) else none)
  <|> (if s.netVer = 1 ∨ s.netVer = 2 then none else some (7, 0, 0))
  <|> (firstFail txs (fun n => let e := slotOf n; !e.mux && !(e.use == 2) && !(e.owner == s.nodeId))
        fun n => (8, n, chOf n))

/-- The failing row goes to SCHED_ERR, with the error (R239). -/
def schedInvalid (f : SchedFail) (iss : Nat) (s : State) : State :=
  recordErr P.GRDS 0x40 iss f.1 (s.setRegN R.GRDS_SCHED_ERR (f.1 + 256 * f.2.1 + 2 ^ 20 * f.2.2))

/-- EN is set with a valid schedule: the node listens (R256, R268). -/
def grdsStart (s : State) : State :=
  let rx := (s.instances.filter fun n => !(s.instEnt n).tx).length
  let s := (s.setRegN R.GRDMB_RX_BUF_CNT rx).setRegN R.GRDMB_TX_BUF_CNT (s.instances.length - rx)
  let s := updGrd (fun g => { g with syncs := [], csSeen := false, vals := [], prev := [], measured := false,
                                     prevMeasured := false, pos := 0, rateAcc := 0, spread := 0, corrected := false,
                                     cycTick := s.now, cycNs := s.starter.tickNs }) s
  let s := (s.instances.filter fun n => !(s.instEnt n).tx && (s.buf n).okTotal.isNone).foldl (fun t n => bufEmpty n t) s
  setPoc pocListen (allAbsent (s.setEn P.GRDS true))

/-! ### Safe connections are enabled (R421) -/

/-- An enabled entry of the connection table passes R421. -/
def connOk (c : Nat) (s : State) : Bool :=
  let a := s.connF c 1 11 0
  let b := s.connF c 1 23 12
  let x := s.instEnt a
  let y := s.instEnt b
  let sx := s.slotEnt 0 x.slot
  let sy := s.slotEnt 1 y.slot
  let dlen := s.connDlen c
  x.en && y.en && x.ch == 0 && y.ch == 1 && x.slot == y.slot && sx.paired && sy.paired && sx.act == sy.act
    && sx.len == sy.len && x.base == y.base && x.rlog == y.rlog && x.tx == s.connTx c && y.tx == s.connTx c
    && (!s.connTx c || sx.mux || sx.use == 2 || sx.owner == s.nodeId) && decide (20 + dlen ≤ sx.len)
    && decide (1 ≤ dlen ∧ dlen ≤ 64) && s.sgEn (s.connGroup c)
    && (s.connTx c || !(s.conns.any fun d => d != c && !s.connTx d && s.connF d 2 9 0 == s.connF c 2 9 0
      && s.connF d 0 23 0 == s.connF c 0 23 0))

/-- The first entry that fails R421. -/
def connFail (s : State) : Option Nat := s.conns.find? fun c => !connOk c s

/-- SMSG is enabled: every connection starts afresh (R408, R410). -/
def smsgStart (s : State) : State :=
  let s := updSafety (fun y => { y with conns := s.conns.map fun c => (c, connZero) }) s
  let s := s.clear (regRun R.SMSG_VALID_MAP 16 4)
  (s.setEn P.SMSG true).setPgState P.SMSG stActive

/-! ### Links and commands -/

/-- PHY_LINK_CHANGE (R264, R275). -/
def phyLink (ch : Nat) (up : Bool) (s : State) : State :=
  if s.regB (grdA ch R.GRD_CH_STAT) 0 = up then s else
  let s := irqSet (P.GRD + ch) 8 (s.setB (grdA ch R.GRD_CH_STAT) 0 up)
  let s := if s.pgState (P.GRD + ch) = stFault then s else s.setPgState (P.GRD + ch) (if up then stActive else stReady)
  let s := relayEvent (portGrd + ch) (if up then evtPortUp else evtPortDown) 0 s
  if up then (if s.pocRuns then s else startProbe ch s)
  else recordErr (P.GRD + ch) 0x40 srcHardware 0 (s.bump (grdA ch R.GRD_LINK_DOWN_CNT))

def cmdSlotClaim (iss : Issuer) : State → State :=
  quick ⟨P.GRDS, 0x10, iss⟩ (fun s =>
    let n := s.regF R.GRDS_CLAIM_REQ 11 0
    let e := s.instEnt n
    need (e.en && e.tx && e.spare) cRange (need (s.poc == pocNormal) cState
      (need (decide (s.ownClaims.length < 4) && s.grd.claiming.isNone) cResource none))) fun s =>
    let n := s.regF R.GRDS_CLAIM_REQ 11 0
    updGrd (fun g => { g with claiming := some (n, 0, false) }) (claimStat 1 n s)

def cmdSlotRelease (iss : Issuer) (arg : Nat) : State → State :=
  let j := arg % 4
  quick ⟨P.GRDS, 0x11, iss⟩ (fun s =>
    need (s.pocRuns && s.ownHeld j) cState none) fun s =>
    if s.ownReleasing j then s
    else if s.netVer = 2 then
      updGrd (fun g => { g with relEnd := g.relEnd ++ [(j, g.total + 64)] }) (s.setB (ownA j) 30 true)
    else irqSet P.GRDS 11 ((claimStat 6 (s.ownInst j) s).setReg (ownA j) 0)

def cmdGrdsClr (iss : Issuer) : State → State := quick ⟨P.GRDS, 0x12, iss⟩ noCheck fun s =>
  s.clear (regRun R.GRDS_FALSE_START_CNT 5 4 ++ [R.GRDS_ABSENT_CNT])

def cmdGrdClr (ch : Nat) (iss : Issuer) : State → State := quick ⟨P.GRD + ch, 0x10, iss⟩ noCheck fun s =>
  s.clear (regRun (grdA ch R.GRD_RX_OK_CNT) 17 4)

/-- GRDMB CLR_CNT (R268). -/
def mbClear (s : State) : State :=
  updGrd (fun g => { g with bufs := g.bufs.map fun b => (b.1, { b.2 with okCnt := 0, errCnt := 0 }) })
    (s.setReg R.GRDMB_TX_LEN_CNT 0)

def cmdMbClr (iss : Issuer) : State → State := quick ⟨P.GRDMB, 0x10, iss⟩ noCheck mbClear

/-! ### Meanings -/

def execCycleStart (at_ : Fin 1000) (s : State) : Host.Outcome State Fault Refusal := .next (cycleStart at_ s)
def execClaimTimeout (idx : BitVec 8) (s : State) : Host.Outcome State Fault Refusal := .next (claimTimeout idx.toNat s)
def execTxFrame (ch : Fin 2) (slot : BitVec 10) (permit atEnd : BitVec 3) (s : State) : Host.Outcome State Fault Refusal :=
  .next (txFrame ch slot.toNat permit atEnd s)
def execGradorRxInstance (ch : Fin 2) (slot : BitVec 10) (heard : Heard) (s : State) : Host.Outcome State Fault Refusal :=
  .next (rxRaw ch slot.toNat heard s)
def execColdStart (s : State) : Host.Outcome State Fault Refusal := .next (coldStart s)
def execCsBackoffEnd (s : State) : Host.Outcome State Fault Refusal := .next (backoffEnd s)
def execColdRetry (s : State) : Host.Outcome State Fault Refusal := .next (coldRetry s)
def execPhyLinkChange (ch : Fin 2) (up : Bool) (s : State) : Host.Outcome State Fault Refusal := .next (phyLink ch up s)
def execSlotClaim (iss : Issuer) (_arg : BitVec 16) (s : State) : Host.Outcome State Fault Refusal := .next (cmdSlotClaim iss s)
def execSlotRelease (iss : Issuer) (arg : BitVec 16) (s : State) : Host.Outcome State Fault Refusal :=
  .next (cmdSlotRelease iss arg.toNat s)
def execGrdsClrCnt (iss : Issuer) (_arg : BitVec 16) (s : State) : Host.Outcome State Fault Refusal := .next (cmdGrdsClr iss s)
def execGrdChClrCnt (ch : Fin 2) (iss : Issuer) (_arg : BitVec 16) (s : State) : Host.Outcome State Fault Refusal :=
  .next (cmdGrdClr ch iss s)
def execGrdmbClrCnt (iss : Issuer) (_arg : BitVec 16) (s : State) : Host.Outcome State Fault Refusal := .next (cmdMbClr iss s)

end Sys2Proof.Machine
end

