-- ==== Sys2Proof/Machine/Memories.lean ====
section
/-!
DEFINITION. Memory controllers (chapter 05): SECDED errors, scrubbing, write-backs, march tests, host atomics and the
commands of MEMA to MEMC and MEMX.
-/
namespace Sys2Proof.Machine

/-! ### Scrubbing (R130, R131) -/

/-- The scrub period in ticks; a page in FAULT works on the reset value (R145). -/
def scrubPeriod (m : Nat) (s : State) : Nat :=
  (if s.pgState (P.MEM + m) = stFault then 10 else s.regF (memA m R.MEM_CFG) 3 0) * 1000000

/-- The running pass restarts at word 0. -/
def scrubRestart (m : Nat) (s : State) : State :=
  updMems (fun x => { x with scrubStart := setAt x.scrubStart m s.now }) (s.setRegN (memA m R.MEM_SCRUB_POS) 0)

/-- SCRUB_READ: the scrubber reads the word at SCRUB_POS, which a fault has disturbed where `e` says so; at the end of a pass the next one starts. A poisoned word
stays poisoned and is detected again (R128). -/
def scrubRead (m : Nat) (e : Ecc) (s : State) : State :=
  if !s.regB (memA m R.MEM_STAT) 0 then s else
  let pos := s.regN (memA m R.MEM_SCRUB_POS)
  let s := eccReads m (8 * pos) 8 5 (struck m pos e s)
  if pos + 1 < memWords m then s.setRegN (memA m R.MEM_SCRUB_POS) (pos + 1)
  else scrubRestart m ((s.bump (memA m R.MEM_SCRUB_PASS_CNT)).setB (memA m R.MEM_STAT) 1 false)

/-- SCRUB_LATE: a pass that takes longer than its period is flagged and the next starts at once. -/
def scrubLate (m : Nat) (s : State) : State :=
  if s.regB (memA m R.MEM_STAT) 0 && decide (getAt 0 s.mems.scrubStart m + scrubPeriod m s < s.now) then
    scrubRestart m (irqSet (P.MEM + m) 11 (s.setB (memA m R.MEM_STAT) 1 true))
  else s

/-- ECC_WRITE_BACK: the corrected word is stored with valid check bits, where it still waits; the contents the model
holds are the corrected ones. It marks the clone dirty map like every write (R126, R131, R137). -/
def eccWriteBack (m w : Nat) (s : State) : State :=
  if s.mems.writeBack.contains (m, w) then
    let s := freshWords m (8 * w) 8 s
    if s.cloneSource m then markClone (8 * w) 8 s else s
  else s

/-! ### March tests (R138, R139, R144) -/

/-- Lane `l` is FENCED. -/
def State.fenced (s : State) (l : Nat) : Bool := s.regF (laneA l R.LANE_STATE) 2 0 == 1

/-- The test MARCH_CFG sets: algorithm and preserving; reset values in FAULT (R145). -/
def marchCfg (m : Nat) (s : State) : Nat × Bool :=
  if s.pgState (P.MEM + m) = stFault then (0, false)
  else (s.regF (memA m R.MEM_MARCH_CFG) 1 0, s.regB (memA m R.MEM_MARCH_CFG) 4)

/-- The lanes a march commanded on lane `m` runs on. -/
def marchLanes (m : Nat) (s : State) : List Nat := if s.fenced m then [m] else s.lanesIn

/-- Gate of MARCH (R144). -/
def marchGate (m : Nat) (s : State) : Option Nat :=
  notHalted s <| need (m < 3) cState <| need s.mems.march.isNone cState <|
    need (s.fenced m || ((marchCfg m s).2 && s.inService m && (s.stopped || s.standby))) cState none

/-- The march starts on each of its lanes. -/
def marchStart (m : Nat) (s : State) : State :=
  let (alg, pres) := marchCfg m s
  let s := (marchLanes m s).foldl (fun t l =>
    let t := (t.setB (memA l R.MEM_STAT) 2 true).setB (memA l R.MEM_STAT) 0 false
    let t := t.setRegN (memA l R.MEM_MARCH_STAT) 3
    if t.pgState (P.MEM + l) = stFault then t else t.setPgState (P.MEM + l) 6) s
  updMems (fun x => { x with march := some (m, alg, pres, s.now) }) s

/-- The registers of one memory when its march ends (R140, R141). -/
def marchResult (l start : Nat) (f : Option MarchFail) (s : State) : State :=
  let s := (s.setB (memA l R.MEM_STAT) 2 false).setB (memA l R.MEM_STAT) 0 true
  let s := s.setRegN (memA l R.MEM_MARCH_TIME_US) (s.now - start)
  let s := if s.pgState (P.MEM + l) = stFault then s else s.setPgState (P.MEM + l) stActive
  let s := match f with
    | none => s.setRegN (memA l R.MEM_MARCH_STAT) (1 + 256 * 100)
    | some x =>
      let s := s.setRegN (memA l R.MEM_MARCH_STAT) (2 + 16 * x.elem.toNat + 256 * 100)
      let s := s.setRegN (memA l R.MEM_MARCH_FAIL_ADDR) (x.addr / 8 * 8)
      let s := s.setReg64 (memA l R.MEM_MARCH_FAIL_XOR_LO) x.xor.toNat
      let s := s.setRegN (memA l R.MEM_MARCH_FAIL_CHK) x.chk.toNat
      recordErr (P.MEM + l) 0x41 srcHardware 0 s
  irqSet (P.MEM + l) 10 (scrubRestart l s)

/-- A destructive test leaves every word 0 with valid check bits (R138). -/
def marchClears (m : Nat) (s : State) : State :=
  freshWords m 0 (8 * memWords m) (if m < 3 then updLane m (fun x => { x with sram := Memory.clear x.sram 0 8388608 }) s
  else updMems (fun x => { x with comms := [], poison := [] }) s)

/-- A preserving test writes every word back with valid check bits, and so marks every line of a source lane
(R137, R138). -/
def marchKeeps (m : Nat) (s : State) : State :=
  let s := freshWords m 0 (8 * memWords m) s
  if s.cloneSource m then markClone 0 (8 * memWords m) s else s

/-- MARCH_END: results, and what a failure does to a lane (R139). -/
def marchEnd (fails : List MarchFail) (s : State) : State :=
  match s.mems.march with
  | none => s
  | some (m, _, pres, start) =>
    let lanes := (List.range 3).filter fun l => s.regF (memA l R.MEM_MARCH_STAT) 1 0 == 3
    let failOf (l : Nat) : Option MarchFail := fails.find? fun f => f.mem == l
    let bad := lanes.filter fun l => (failOf l).isSome
    let s := updMems (fun x => { x with march := none }) s
    let s := lanes.foldl (fun t l => if pres then marchKeeps l t else marchClears l t) s
    let s := lanes.foldl (fun t l => marchResult l start (failOf l) t) s
    let inVote := bad.filter fun l => s.inService l
    let s := lanes.foldl (fun t l => if t.fenced l then
        updMems (fun x => { x with marchBad := if bad.contains l then insertLine l x.marchBad
                                               else x.marchBad.filter fun y => y != l }) t else t) s
    let s := match inVote with
      | [] => s
      | [l] => laneFault l kSecded s
      | ls => halt (some 9) ((ls.foldl (fun t l => attributed ⟨some l, kMulti, 0, 0⟩ t.voting.lastBundle t) s).bump
          R.PFC_DUAL_MISM_CNT)
    if s.busyWith (P.MEM + m) 0x10 then finish (P.MEM + m) cDone s else s

/-! ### Commands (R134, R143) -/

/-- MEM CLR_CNT: every counter, maximum and LAST register on the page (R143). -/
def memClear (m : Nat) (s : State) : State :=
  let common := [R.MEM_SBE_CNT, R.MEM_DBE_CNT, R.MEM_SBE_LAST_ADDR, R.MEM_SBE_LAST_INFO, R.MEM_DBE_LAST_ADDR,
    R.MEM_DBE_LAST_INFO, R.MEM_SCRUB_PASS_CNT, R.MEM_ATOM_CNT, R.MEM_WAIT_MAX] ++ regRun R.MEM_SBE_BANK 16 4
  let lane := if m < 3 then [R.MEM_BDIRTY_MAX, R.MEM_COW_LAST, R.MEM_COW_MAX] else []
  updMems (fun x => { x with waitFrom := setAt x.waitFrom m s.now }) (s.clear ((common ++ lane).map (memA m ·)))

/-- Gate of a host atomic (R134, R143, R145). -/
def atomGate (m : Nat) (s : State) : Option Nat :=
  need (m == 3) cUnknown <|
    need (0x1C0000 ≤ s.regN R.MEMX_ATOM_ADDR && s.regN R.MEMX_ATOM_ADDR ≤ 0x1FFFF8
      && s.regN R.MEMX_ATOM_ADDR % 8 == 0) cRange <|
    need (!(s.pgState P.MEMX == stFault)) cState none

/-- A host atomic on the word at ATOM_ADDR; on a poisoned word it is not performed and answers INTEGRITY. -/
def atomRun (swap : Bool) (s : State) : State :=
  let w := s.regN R.MEMX_ATOM_ADDR / 8
  let bad := s.poisoned (8 * w) 8
  let r := commsAtomic 3 swap w (BitVec.ofNat 64 (s.reg64 R.MEMX_ATOM_OPND_LO)) s
  if bad then finishErr P.MEMX cIntegrity r.2
  else finish P.MEMX cDone (r.2.setReg64 R.MEMX_ATOM_OLD_LO r.1.toNat)

def cmdMarch (m : Nat) (iss : Issuer) : State → State := command ⟨P.MEM + m, 0x10, iss⟩ (marchGate m) (marchStart m)
def cmdMemClr (m : Nat) (iss : Issuer) : State → State := quick ⟨P.MEM + m, 0x11, iss⟩ noCheck (memClear m)
def cmdAtomAdd (m : Nat) (iss : Issuer) : State → State := command ⟨P.MEM + m, 0x12, iss⟩ (atomGate m) (atomRun false)
def cmdAtomSwap (m : Nat) (iss : Issuer) : State → State := command ⟨P.MEM + m, 0x13, iss⟩ (atomGate m) (atomRun true)

/-! ### Meanings -/

def execEccWriteBack (m : Fin 4) (w : Nat) (s : State) : Host.Outcome State Fault Refusal := .next (eccWriteBack m w s)
def execScrubRead (m : Fin 4) (e : Ecc) (s : State) : Host.Outcome State Fault Refusal := .next (scrubRead m e s)
def execScrubLate (m : Fin 4) (s : State) : Host.Outcome State Fault Refusal := .next (scrubLate m s)
def execMarch (m : Fin 4) (iss : Issuer) (_arg : BitVec 16) (s : State) : Host.Outcome State Fault Refusal :=
  .next (cmdMarch m iss s)
def execMarchEnd (fails : List MarchFail) (s : State) : Host.Outcome State Fault Refusal := .next (marchEnd fails s)
def execMemClrCnt (m : Fin 4) (iss : Issuer) (_arg : BitVec 16) (s : State) : Host.Outcome State Fault Refusal :=
  .next (cmdMemClr m iss s)
def execAtomAdd (m : Fin 4) (iss : Issuer) (_arg : BitVec 16) (s : State) : Host.Outcome State Fault Refusal :=
  .next (cmdAtomAdd m iss s)
def execAtomSwap (m : Fin 4) (iss : Issuer) (_arg : BitVec 16) (s : State) : Host.Outcome State Fault Refusal :=
  .next (cmdAtomSwap m iss s)

end Sys2Proof.Machine
end

