-- ==== Sys2Proof/Machine/Partner.lean ====
section
/-!
DEFINITION. The partner unit (R425 to R441): the interlock, roles, the mirror, heartbeats, takeover, withdrawal and the
health reports.
-/
namespace Sys2Proof.Machine

def State.pairEn (s : State) : Bool := bitOf s.partCfg 0
def State.autoTake (s : State) : Bool := bitOf s.partCfg 1 && s.pairEn

/-! ### Claims and roles (R425, R426) -/

/-- BOTH_CLAIM (R426, R436). -/
def bothClaim (s : State) : State :=
  recordErr P.PART 0x40 srcHardware 0 (irqSet P.PART 9 (s.bump R.PART_BOTH_CLAIM_CNT))

/-- A module that has just claimed meets ACT_IN: the claim is dropped, and the wait starts when ACT_IN clears. -/
def backOff (s : State) : State :=
  let s := bothClaim (dropClaim s)
  setRole roleBackoff (updPart (fun p => { p with waitStart := none }) s)

/-- Toggling starts: the gate holds the claim (R425). -/
def holdClaim (s : State) : State :=
  let was := s.part.held
  let t := s.now
  let put (p : Partner) : Partner :=
    { p with toggling := true, held := true, lastToggle := t, claimTick := t, waitStart := none,
             clearSince := if p.actIn then none else if was then p.clearSince else some t }
  let s := (updPart put s).setB R.PART_STAT 7 true
  if was then s else raise 2 1 1 0 s

/-- Claim in a role; an ACTIVE or SINGLE that meets ACT_IN at once backs off (R426). -/
def claimAs (r : Nat) (s : State) : State :=
  let s := setRole r (holdClaim s)
  if s.part.actIn && (r == roleActive || r == roleSingle) then backOff s else s

/-- A standby asks the active for the mirror copy (R426, R428). -/
def requestCopy (s : State) : State :=
  let s := updPart (fun p => { p with copying := true, copied := false }) (s.setRegN R.PART_SYNC_PROGRESS 0)
  if s.regB R.PART_STAT 10 then s.send .copyRequest else s

/-- The module becomes a standby (R426, R427). -/
def toSync (s : State) : State :=
  let put (p : Partner) : Partner := { p with waitStart := none, silenceFrom := s.now, hbLink := none, hbGrd := none }
  batonIdle (requestCopy (setRole roleSync (updPart put s)))

/-- Release (R426): PAIR_EN = 0 claims, unless the PFC is HALTED (R97), ACT_IN makes a standby, else the claim wait starts. -/
def partRelease (s : State) : State :=
  if !s.pairEn then (if s.halted then s else claimAs roleSingle s)
  else if s.part.actIn then toSync s
  else setRole roleClaiming (updPart (fun p => { p with waitStart := some s.now }) s)

/-! ### Takeover (R431, R433) -/

/-- Word 0 of the tx instance that a held claim of this node names. -/
def State.claimInst (s : State) (c : Claim) : Option Nat :=
  s.instances.find? fun n =>
    let e := s.instEnt n
    e.tx && e.spare && e.ch == c.ch && e.slot == c.slot && e.base == c.base && e.rlog == c.rlog

/-- The new active holds the claims of the shared NODE_ID; with PLV 1 it holds none (R433). -/
def takeClaims (s : State) : State :=
  if s.regF R.PART_STAT 19 16 < 2 then loseClaims s else
  let mine := (s.grd.claims.filter fun c => c.held && c.node == s.nodeId).filterMap s.claimInst
  (mine.filter fun n => !s.holds n).foldl (fun t n =>
    match (List.range 4).find? fun j => !t.ownHeld j with
    | some j => t.setRegN (ownA j) (n + 2 ^ 31)
    | none => t) s

/-- Safety groups at a takeover: LOCKED where the mirrored lock-out state says so, else SAFE; the previous release
request counts as 0 (R431). -/
def takeGroups (s : State) : State :=
  let m := s.reg R.PART_LOCK_MIRROR
  let s := forN 8 (fun g t =>
    if t.sgEn g then setGroup g (if bitOf m g || bitOf m (8 + g) then grpLocked else grpSafe) t else t) s
  updSafety (fun x => { x with prevReq := 0 }) s

/-- Transmit connections go on at the mirrored SEQ + 1,024 (R433). -/
def takeSeqs (s : State) : State :=
  s.part.mirrorSeq.foldl (fun t e => setConn e.1 { t.conn e.1 with txSeq := some ((e.2 + 1023) % 65536) } t) s

/-- Grador transmit buffers send nothing until the first commit (R433, R250). -/
def emptyBuffers (s : State) : State :=
  updGrd (fun g => { g with bufs := g.bufs.map fun e => (e.1, { e.2 with commits := [], latched := none, latchAge := 255 }) }) s

/-- A running march stops after its block (R431): it ends without a verdict; RESULT is a free value. -/
def marchStop (s : State) : State :=
  match s.mems.march with
  | none => s
  | some (m, _, _, _) =>
    let lanes := (List.range 3).filter fun l => s.regF (memA l R.MEM_MARCH_STAT) 1 0 == 3
    let r := fld (Config.freeValue s.freeCtr) 1 0
    let s := (updMems (fun x => { x with march := none }) s).fresh
    let s := lanes.foldl (fun t l =>
      let t := ((t.setB (memA l R.MEM_STAT) 2 false).setB (memA l R.MEM_STAT) 0 true).setF (memA l R.MEM_MARCH_STAT) 1 0 r
      if t.pgState (P.MEM + l) = stFault then t else t.setPgState (P.MEM + l) stActive) s
    if s.busyWith (P.MEM + m) 0x10 then finish (P.MEM + m) cDone s else s

/-- A takeover starts (R431): claim, restore, groups, claims and sequence numbers. A running march stops. -/
def startTakeover (cause : Nat) (s : State) : State :=
  let t := s.now
  let s := (s.setF R.PART_STAT 27 24 cause).setReg64 R.PART_TAKE_TICK_LO t
  let put (p : Partner) : Partner :=
    { p with takeTick := some t, restored := false, noData := false, copying := false }
  let s := claimAs roleTaking (updPart put s)
  let s := marchStop s
  let s := emptyBuffers (takeSeqs (takeClaims (takeGroups s)))
  startRestore 2 s

/-- An automatic trigger (R430): an armed standby takes over if PAIR_EN and AUTO_TAKE are set. -/
def trigger (cause : Nat) (s : State) : State :=
  if s.role == roleArmed && s.autoTake then startTakeover cause s else s

/-- At a boundary: the first commit after a takeover makes the module ACTIVE (R426, R431). `executed`: the stride that
closes was executed. A module that found no data commits nothing and is ACTIVE at once (R440). -/
def takeBoundary (executed : Bool) (s : State) : State :=
  if s.role == roleTaking && (executed || s.part.noData) then
    let us := match s.part.takeTick with | some t => s.now - t | none => 0
    let s := updPart (fun p => { p with noData := false, takeTick := none }) s
    let s := (s.bump R.PART_TAKEOVER_CNT).setRegN R.PART_TAKE_US_LAST us
    setRole roleActive (s.maxReg R.PART_TAKE_US_MAX us)
  else s

/-- The restore of a takeover ends: RUN, warm, at the next boundary, or STOP (R431, R440, R220). -/
def takeRestored (s : State) : State :=
  let found := s.exec.restored.isSome
  updPart (fun p => { p with restored := found, noData := !found }) s

/-! ### ACT_IN and the gate -/

/-- ACT_IN changes (R425, R426). Its event has QUAL 0: an interlock change has no quality word (DESIGN CHOICE, log entry
183). -/
def actInChange (level : Bool) (s : State) : State :=
  if s.part.actIn == level then s else
  let s := raise 2 0 (b2n level) 0 (s.setB R.PART_STAT 8 level)
  if level then
    let s := closeGate (updPart (fun p => { p with actIn := true, clearSince := none }) s)
    if s.role == roleClaiming || s.role == roleBackoff then toSync s
    else if (s.role == roleActive || s.role == roleSingle) && s.part.toggling then
      if s.now ≤ s.part.claimTick + 1000 then backOff s
      else if s.role == roleActive then bothClaim s else s
    else s
  else
    let put (p : Partner) : Partner :=
      { p with actIn := false, clearSince := if p.held then some s.now else none,
               waitStart := if s.role == roleBackoff then some s.now else p.waitStart }
    let s := updPart put s
    if s.regB R.PART_STAT 12 then trigger 4 s else s

/-- GATE_OPEN: the claim has been held with ACT_IN clear for 100 µs (R425). -/
def gateOpens (s : State) : State :=
  match s.part.clearSince with
  | some t =>
    if s.part.held && !s.part.actIn && !s.regB R.PART_STAT 9 && decide (t + 100 ≤ s.now) then
      let s := forN 4 (fun f u => u.setB (fldA f R.FLD_STAT) 6 false) (s.setB R.PART_STAT 9 true)
      if s.role == roleTaking then updSafety (fun x => { x with gateFirst := some s.now }) s else s
    else s
  | none => s

/-- CLAIM_HOLD_EXPIRED: 50 µs after the last toggle the held claim drops (R425). -/
def claimHoldEnds (s : State) : State :=
  if s.part.held && !s.part.toggling && decide (s.part.lastToggle + 50 ≤ s.now) then
    let s := closeGate (updPart (fun p => { p with held := false, clearSince := none }) s)
    let s := raise 2 1 0 0 (s.setB R.PART_STAT 7 false)
    if s.busyWith P.PART 0x10 then finish P.PART cDone s else s
  else s

/-- T_W in ticks: 5 ms or 25 ms by the agreed SLOT_ID bit 0 (R426). -/
def State.claimWait (s : State) : Nat := if s.regB R.XCHG_DISC_AGREED 1 then 25000 else 5000

/-- CLAIM_WAIT_EXPIRED: T_W ends with ACT_IN clear throughout, and the module claims (R426). -/
def claimWaitEnds (s : State) : State :=
  match s.part.waitStart with
  | some t =>
    if (s.role == roleClaiming || s.role == roleBackoff) && !s.part.actIn && !s.halted
        && decide (t + s.claimWait ≤ s.now) then claimAs roleActive s
    else s
  | none => s

/-! ### Readiness (R428, R434) -/

/-- On the active itself the baton is not current while STALE is set or the mirror is down (R216; DEDUCED, log entry
188: R428 names the bit for the standby, and R216 has the active's own report show it). -/
def State.batonBehind (s : State) : Bool :=
  ((s.role == roleActive || s.role == roleSingle) && s.regB R.BATON_STAT 6) || (s.role == roleActive && !s.regB R.BATON_STAT 9)

/-- The bits of NOT_READY (R428). -/
def State.notReady (s : State) : Nat :=
  let inj := s.regF R.PFC_INJ_STAT 1 0 == 1 && decide (s.regN R.PFC_INJ_AGE_S ≤ (s.cfgWord R.PFC_INJ_AGE_LIMIT).toNat)
  let field := (List.range 4).all fun f => !s.en (P.FLD + f) || s.pgState (P.FLD + f) == stActive
  let fault := [P.PART, P.BATON, P.SAFE].any fun p => s.pgState p == stFault
  b2n (!s.regB R.PART_STAT 10) + 2 * b2n (!s.part.copied)
    + 4 * b2n (!(s.exec.prog.isSome && s.regB R.EXEC_MODE 4)) + 8 * b2n (!inj)
    + 16 * b2n (decide (s.lanesIn.length < 2) || s.halted) + 32 * b2n (!(s.poc == pocNormalListen))
    + 64 * b2n (!field) + 128 * b2n (s.part.partnerMirrorBad || s.batonBehind) + 256 * b2n fault

/-- The variant code of a health report: 0 SVT330-PM-A, 1 SVT330-PM-N (R439). -/
def State.variantCode (s : State) : Nat := b2n s.variantN

/-- Word `i` of what the partner's latest report said: 0 is word 0, 1 and 2 its PROG_ID, 3 its configuration CRC. -/
def State.peerW (s : State) (i : Nat) : Word := getAt 0 s.part.peer i

/-- INCOMPAT (R434): the link's facts while it is up, the report's once one has come. -/
def State.incompat (s : State) : Nat :=
  let up := s.regB R.PART_STAT 10
  let told := !s.part.peer.isEmpty
  let peerProg := (s.peerW 1).toNat + 2 ^ 32 * (s.peerW 2).toNat
  let ownProg := match s.exec.prog with | some p => p.progId | none => 0
  b2n (told && !(fld (s.peerW 0) 27 24 == s.variantCode))
    + 2 * b2n (up && s.regF R.PART_STAT 19 16 == 0) + 4 * b2n (up && s.regF R.PART_STAT 23 20 == 0)
    + 8 * b2n (told && s.exec.prog.isSome && !(peerProg == 0) && !(peerProg == ownProg))
    + 16 * b2n (told && !(s.peerW 3 == s.reg R.BOOT_CFG_CRC))
    + 32 * b2n (up && !(s.part.peerNode == s.nodeId))
    + 64 * b2n (up && s.part.peerSlot % 2 == b2n (s.regB R.XCHG_DISC_AGREED 1))

/-- NOT_READY, INCOMPAT and the armed state follow their conditions (R428, R434). -/
def partTick (s : State) : State :=
  let inc := s.incompat
  let s := s.setRegN R.PART_NOT_READY s.notReady
  let s := if inc ≠ 0 ∧ s.regB R.PART_STAT 6 = false then irqSet P.PART 12 s else s
  let s := (s.setRegN R.PART_INCOMPAT inc).setB R.PART_STAT 6 (!(inc == 0))
  let ready := s.regN R.PART_NOT_READY == 0 && inc == 0
  if s.role == roleUnarmed && ready then irqSet P.PART 11 (setRole roleArmed s)
  else if s.role == roleArmed && !ready then irqSet P.PART 11 (setRole roleUnarmed s)
  else s

/-! ### The partner link (R428) -/

/-- A write that the partner link does not carry is an error (MIRROR_ERR, R232, R234). The model sees one where the link
goes down while the active streams a set (DESIGN CHOICE, log entry 188). -/
def mirrorError (s : State) : State := recordErr P.BATON 0x41 srcHardware 0 (s.bump R.BATON_MIRROR_ERR_CNT)

/-- The link comes up, with a negotiation, or goes down (R428, R434). -/
def linkChange (up : Bool) (plv jfmt node slot : Nat) (s : State) : State :=
  let s := if !up && s.regB R.BATON_STAT 9 && s.baton.closing.isSome && s.role == roleActive then mirrorError s else s
  let s := (s.setB R.PART_STAT 10 up).setB R.BATON_STAT 9 up
  let s := updPart (fun p => { p with copied := false, copying := false, negotiated := up }) s
  if up then
    let s := ((s.setF R.PART_STAT 19 16 (min 2 plv)).setF R.PART_STAT 23 20 (min 2 jfmt)).setF R.BATON_STAT 15 12 (min 2 jfmt)
    let s := updPart (fun p => { p with peerNode := node, peerSlot := slot }) s
    partTick (if s.stbyRole then requestCopy s else s)
  else partTick s

/-- The active starts the copy of 10.5 MiB (R428). -/
def startCopy (s : State) : State :=
  if (s.role == roleActive || s.role == roleSingle) && s.regB R.PART_STAT 10 then s.send (.mirror 0 0xA80000) else s

/-- SEQ of a COMMIT entry whose header leads these bytes (R212). -/
def commitSeq (bs : List Byte) : Option Nat :=
  if imgN bs 0 4 = 0x4E544142 ∧ imgN bs 4 1 = 1 ∧ 24 ≤ bs.length then some (imgN bs 8 8) else none

/-- Words arrive for the standby's MRAM (R215, R428); a copy starts at address 0, also one that the active restarts. -/
def mirrorWrite (copy : Bool) (addr : Nat) (bs : List Byte) (s : State) : State :=
  if !s.stbyRole || !s.regB R.PART_STAT 10 then s else
  let s := updBaton (fun b => { b with mram := Memory.writeN b.mram addr bs }) s
  if copy then
    let s := if addr = 0 then updPart (fun p => { p with copying := true }) s else s
    if s.part.copying then s.setRegN R.PART_SYNC_PROGRESS (min 100 ((addr + bs.length) * 100 / 0xA80000)) else s
  else
    match commitSeq bs with
    | some q => s.setReg64 R.BATON_COMMIT_SEQ_LO q
    | none => s

/-- The copy is complete (R426, R428). -/
def copyEnd (s : State) : State :=
  if s.stbyRole && s.part.copying then
    let s := updPart (fun p => { p with copying := false, copied := true }) (s.setRegN R.PART_SYNC_PROGRESS 100)
    if s.role == roleSync then
      let ready := s.notReady == 0 && s.incompat == 0
      partTick (setRole (if ready then roleArmed else roleUnarmed) (if ready then irqSet P.PART 11 s else s))
    else partTick s
  else s

/-- The active's lock-out and safe-message transmit states (R398, R428). -/
def lockoutMessage (locked waiting : Nat) (seqs : List (Nat × Nat)) (s : State) : State :=
  if !s.stbyRole then s else
  let put (p : Partner) : Partner := { p with mirrorSeq := seqs.foldl (fun m e => mapPut m e.1 e.2) p.mirrorSeq }
  updPart put (s.setRegN R.PART_LOCK_MIRROR (locked + 256 * waiting))

/-! ### Heartbeats (R429) -/

/-- A heartbeat arrives (R429). -/
def heartbeat (grador : Bool) (locked waiting : Nat) (s : State) : State :=
  if grador && !bitOf s.partCfg 2 then s else
  let s := beat grador s
  partTick (if !grador && s.stbyRole then s.setRegN R.PART_LOCK_MIRROR (locked + 256 * waiting) else s)

/-- Both paths have been silent for the silence time: an armed standby takes over if ACT_IN is clear (R429, R430). -/
def partnerSilent (s : State) : State :=
  if s.stbyRole && !s.regB R.PART_STAT 12 && !s.hears s.part.hbLink && !s.hears s.part.hbGrd
      && decide (s.part.silenceFrom + s.silence ≤ s.now) then
    let s := recordErr P.PART 0x41 srcHardware 0 (irqSet P.PART 10 (s.setB R.PART_STAT 12 true))
    if s.part.actIn then s else trigger 4 s
  else s

/-- One of two heartbeat paths is silent (R429). -/
def pathDegraded (s : State) : State :=
  let l := s.hears s.part.hbLink
  let g := s.hears s.part.hbGrd
  if bitOf s.partCfg 2 && !(l == g) then s.setB R.PART_STAT 13 true else s

/-- At a boundary each module sends a heartbeat, and a standby counts one missing on both paths (R429, R436).
`prev` is the tick of the boundary before. -/
def heartbeatBoundary (prev : Nat) (s : State) : State :=
  let came (t : Option Nat) : Bool := match t with | some k => decide (prev ≤ k) | none => false
  let s := if s.stbyRole && !came s.part.hbLink && !came s.part.hbGrd then s.bump R.PART_HB_MISS_CNT else s
  if s.regB R.PART_STAT 10 then
    let (l, w) := lockMasks s
    s.send (.heartbeat s.now (s.reg64 R.BATON_COMMIT_SEQ_LO) l w)
  else s

/-! ### Withdrawal (R430, R440) -/

/-- WITHDRAW acts at the boundary: STOP; the set that closes there is still to be committed (R430). -/
def withdrawBoundary (s : State) : State :=
  if !s.part.withdrawing then s else if s.stopped then s else enterStop 1 s

/-- The claim drops once the committed state is complete: nothing is open or streaming, or the baton cannot close
(R430). -/
def withdrawStep (s : State) : State :=
  if s.part.withdrawing && s.stopped && (!s.batonCloses || (s.baton.closing.isNone && s.mems.batonDirty.isEmpty)) then
    withdrawNow 1 (updPart (fun p => { p with withdrawing := false }) s)
  else s

/-- The active has withdrawn (R430). -/
def withdrawMessage (cause : Nat) (s : State) : State := if cause = 0 then s else trigger cause s

/-! ### Health reports (R429, R438, R439) -/

/-- Bits `f i` of `n` things as a number. -/
def maskOf (n : Nat) (f : Nat → Bool) : Nat := (List.range n).foldl (fun a i => a + if f i then 2 ^ i else 0) 0

/-- A lane is retired (R105). -/
def State.laneRetired (s : State) (l : Nat) : Bool := s.regF (pa (P.LANE + l) R.LANE_STATE) 2 0 == 4

/-- Words 0 to 14 of this module's report (R439). -/
def reportWords (s : State) : List Nat :=
  let (locked, waiting) := lockMasks s
  let retired := maskOf 3 s.laneRetired
  let attr := (List.range 3).foldl (fun a l => a + s.regN (pa (P.LANE + l) R.LANE_ATTR_CNT)) 0
  [s.role + 16 * s.regF R.PART_STAT 6 5 + 2 ^ 6 * b2n (retired ≠ 0) + 2 ^ 7 * b2n s.halted
      + 2 ^ 8 * maskOf 3 s.inService + 2 ^ 11 * retired + 2 ^ 16 * 2 + 2 ^ 20 * 2 + 2 ^ 24 * s.variantCode + 2 ^ 28 * 0xB,
    s.regN R.PART_INCOMPAT % 256 + 2 ^ 8 * (s.regN R.PART_NOT_READY % 65536)
      + 2 ^ 24 * ((fld (s.reg (R.HEALTH_OWN + 4)) 31 24 + 1) % 256),
    s.regN R.BOOT_UID_LO, s.regN R.BOOT_UID_HI, s.regN R.EXEC_PROG_ID_LO, s.regN R.EXEC_PROG_ID_HI,
    s.regN R.BOOT_CFG_CRC, s.regN R.PFC_INJ_AGE_S,
    maskOf 4 (fun f => s.pgState (P.FLD + f) == stActive) + 2 ^ 4 * maskOf 4 (fun f => s.regB (fldA f R.FLD_STAT) 1)
      + 2 ^ 8 * locked + 2 ^ 16 * waiting + 2 ^ 24 * s.poc + 2 ^ 28 * b2n (s.txAllowed && s.pocSends),
    s.regN R.BATON_COMMIT_SEQ_LO,
    s.regF R.ENV_JUNC_T 15 0 + 2 ^ 16 * s.regF R.ENV_BOARD_T 15 0,
    s.regF R.ENV_VIN 15 0 + 2 ^ 16 * min 0xFFFF attr,
    s.regN R.REC_OP_SEC_LO, s.regF R.REC_OP_SEC_HI 7 0, 0]

/-- CRC-32 over words (R439). -/
def wordsCrc (ws : List Nat) : Nat := crc32 (ws.flatMap (leBytes 4))

/-- 10 ms have passed since the latest report (R429). -/
def State.reportDue (s : State) : Bool :=
  match s.part.reportSent with | some t => decide (t + 10000 ≤ s.now) | none => true

/-- HEALTH_REPORT_SEND: OWN is rebuilt and sent every 10 ms (R429, R438). -/
def reportSend (s : State) : State :=
  if !s.reportDue then s else
  let s := updPart (fun p => { p with reportSent := some s.now }) s
  let ws := reportWords s
  let ws := ws ++ [wordsCrc ws]
  let s := (ws.zipIdx).foldl (fun t w => t.setRegN (R.HEALTH_OWN + 4 * w.2) w.1) s
  if s.regB R.PART_STAT 10 then s.send (.health (ws.map (BitVec.ofNat 32))) else s

/-- A partner report arrives (R438); NOT_READY.BATON of an active says that its baton is not current (R428). -/
def reportIn (grador : Bool) (ws : List Word) (s : State) : State :=
  let ns := ws.map (·.toNat)
  if ws.length ≠ 16 ∨ wordsCrc (ns.take 15) ≠ getAt 0 ns 15 then
    recordErr P.HEALTH 0x40 srcHardware 0 (s.bump R.HEALTH_REPORT_ERR_CNT)
  else
    let w (i : Nat) : Word := getAt 0 ws i
    let chg := !(w 0 == s.reg R.HEALTH_PARTNER) || !(w 1 == s.reg (R.HEALTH_PARTNER + 4))
    let s := (ws.zipIdx).foldl (fun t x => t.setReg (R.HEALTH_PARTNER + 4 * x.2) x.1) s
    let s := (s.bump R.HEALTH_REPORT_CNT).setRegN R.HEALTH_STAT (1 + if grador then 4 else 2)
    let s := ((s.setB R.PART_STAT 11 true).setReg R.PART_PARTNER_UID_LO (w 2)).setReg R.PART_PARTNER_UID_HI (w 3)
    let put (p : Partner) : Partner :=
      { p with reportTick := some s.now, partnerArmed := bitOf (w 0) 4, peer := [w 0, w 4, w 5, w 6],
               partnerMirrorBad := (fld (w 0) 3 0 == roleActive || fld (w 0) 3 0 == roleSingle) && bitOf (w 1) 15 }
    partTick (let t := updPart put s; if chg then irqSet P.HEALTH 9 t else t)

/-- No report for 100 ms: PARTNER_PRESENT falls (R437). -/
def reportTimeout (s : State) : State :=
  let late := match s.part.reportTick with | some t => decide (t + 100000 ≤ s.now) | none => true
  if late then updPart (fun p => { p with partnerArmed := false }) (s.setB R.PART_STAT 11 false) else s

/-- REPORT_AGE_MS (R438). -/
def State.reportAge (s : State) : Nat :=
  match s.part.reportTick with | some t => min 0xFFFF ((s.now - t) / 1000) | none => 0xFFFF

/-- The pair block an active writes into HEALTH_MB at every latch: its own report, then the partner's (R429). -/
def pairBlock (s : State) : State :=
  if bitOf s.partCfg 3 && (s.role == roleActive || s.role == roleSingle) then
    let n := fld (s.cfgWord R.PART_MB) 27 16
    let own := (List.range 32).flatMap fun i => leBytes 4 (s.regN (R.HEALTH_OWN + 4 * i))
    setBuf n { s.buf n with latched := some own, latchAge := 0 } s
  else s

/-- The injection test a standby runs by itself when the latest pass is STBY_INJ_H hours old (R427). -/
def standbyInj (s : State) : State :=
  if s.stbyRole && !(fld s.partCfg 8 4 == 0) && decide (3600 * fld s.partCfg 8 4 ≤ s.regN R.PFC_INJ_AGE_S) && !s.halted && !(s.regF R.PFC_INJ_STAT 1 0 == 3) then startInj s else s

/-! ### Commands (R440) -/

def withdrawGate (arg : Nat) (s : State) : Option Nat :=
  need (!s.halted && (s.role == roleActive || s.role == roleSingle)) cState
    (if arg % 2 = 0 then need s.part.partnerArmed cState none else need (!s.anyReleased) cSafety none)

def cmdWithdraw (iss : Issuer) (arg : Nat) : State → State :=
  command ⟨P.PART, 0x10, iss⟩ (withdrawGate arg) (updPart fun p => { p with withdrawing := true })

def takeoverGate (s : State) : Option Nat :=
  need (!s.halted && s.stbyRole && s.regB R.PART_STAT 12 && !s.part.actIn && s.regN R.PART_INCOMPAT == 0) cState none

def cmdTakeover (iss : Issuer) (arg : Nat) : State → State :=
  quickKeyed ⟨P.PART, 0x11, iss⟩ (fun _ => arg == 0x7A1C) takeoverGate (startTakeover 5)

def cmdResyncMirror (iss : Issuer) : State → State :=
  quick ⟨P.PART, 0x12, iss⟩ (fun s => need (!s.halted && (s.role == roleActive || s.role == roleSingle)) cState none)
    startCopy

def cmdPartClr (iss : Issuer) : State → State :=
  quick ⟨P.PART, 0x13, iss⟩ noCheck fun s =>
    s.clear [R.PART_BOTH_CLAIM_CNT, R.PART_TAKEOVER_CNT, R.PART_WITHDRAW_CNT, R.PART_HB_MISS_CNT, R.PART_LINK_ERR_CNT,
      R.PART_TAKE_US_MAX]

def cmdHealthClr (iss : Issuer) : State → State :=
  quick ⟨P.HEALTH, 0x10, iss⟩ noCheck fun s => s.clear [R.HEALTH_REPORT_CNT, R.HEALTH_REPORT_ERR_CNT]

/-! ### Meanings -/

def execActInChange (level : Bool) (s : State) : Host.Outcome State Fault Refusal := .next (actInChange level s)
def execClaimHoldExpired (s : State) : Host.Outcome State Fault Refusal := .next (claimHoldEnds s)
def execGateOpen (s : State) : Host.Outcome State Fault Refusal := .next (gateOpens s)
def execClaimWaitExpired (s : State) : Host.Outcome State Fault Refusal := .next (claimWaitEnds s)
def execMirrorWrite (copy : Bool) (addr : BitVec 24) (bytes : List Byte) (s : State) : Host.Outcome State Fault Refusal :=
  .next (mirrorWrite copy addr.toNat bytes s)
def execMirrorCopyEnd (s : State) : Host.Outcome State Fault Refusal := .next (copyEnd s)
def execHeartbeat (grador : Bool) (_tick : Word) (_seqLo _seqHi : Word) (locked waiting : BitVec 8) (s : State) :
    Host.Outcome State Fault Refusal := .next (heartbeat grador locked.toNat waiting.toNat s)
def execPartnerSilent (s : State) : Host.Outcome State Fault Refusal := .next (partnerSilent s)
def execHealthReportSend (s : State) : Host.Outcome State Fault Refusal := .next (reportSend s)
def execHealthReport (grador : Bool) (words : List Word) (s : State) : Host.Outcome State Fault Refusal :=
  .next (reportIn grador words s)
def execWithdrawMessage (cause : Fin 4) (_seq : DWord) (s : State) : Host.Outcome State Fault Refusal :=
  .next (withdrawMessage cause s)
def execStandbyInjTest (s : State) : Host.Outcome State Fault Refusal := .next (standbyInj s)
def execWithdraw (iss : Issuer) (arg : BitVec 16) (s : State) : Host.Outcome State Fault Refusal :=
  .next (cmdWithdraw iss arg.toNat s)
def execTakeover (iss : Issuer) (arg : BitVec 16) (s : State) : Host.Outcome State Fault Refusal :=
  .next (cmdTakeover iss arg.toNat s)
def execResyncMirror (iss : Issuer) (_arg : BitVec 16) (s : State) : Host.Outcome State Fault Refusal :=
  .next (cmdResyncMirror iss s)
def execPartClrCnt (iss : Issuer) (_arg : BitVec 16) (s : State) : Host.Outcome State Fault Refusal := .next (cmdPartClr iss s)
def execHealthClrCnt (iss : Issuer) (_arg : BitVec 16) (s : State) : Host.Outcome State Fault Refusal :=
  .next (cmdHealthClr iss s)
def execPartnerLinkChange (up : Bool) (plv jfmt : BitVec 4) (node : BitVec 10) (slot : BitVec 3) (s : State) :
    Host.Outcome State Fault Refusal := .next (linkChange up plv.toNat jfmt.toNat node.toNat slot.toNat s)
def execPathDegraded (s : State) : Host.Outcome State Fault Refusal := .next (pathDegraded s)
def execPartnerReportTimeout (s : State) : Host.Outcome State Fault Refusal := .next (reportTimeout s)
def execMirrorCopyRequest (s : State) : Host.Outcome State Fault Refusal := .next (startCopy s)
def execLockoutStateMessage (locked waiting : BitVec 8) (seqs : List (BitVec 8 × BitVec 16)) (s : State) :
    Host.Outcome State Fault Refusal :=
  .next (lockoutMessage locked.toNat waiting.toNat (seqs.map fun e => (e.1.toNat, e.2.toNat)) s)
def execTxLatch (s : State) : Host.Outcome State Fault Refusal := .next (pairBlock (txLatch s))
def execBatonCommit (s : State) : Host.Outcome State Fault Refusal := .next (withdrawStep (batonCommit s))

end Sys2Proof.Machine
end

