-- ==== Sys2Proof/Machine/Recorder.lean ====
section
/-!
DEFINITION. The event recorder and the environmental monitors (chapter 20): operating seconds, the open record and
its closing, the detail log, the per-source counters, ENV samples and warnings.
-/
namespace Sys2Proof.Machine

def updLife (f : Recorder → Recorder) (s : State) : State := { s with life := f s.life }

/-- The module has been released (R474). -/
def State.isReleased (s : State) : Bool := s.regF R.BOOT_STAT 3 0 == 1

/-! ### Records (R493 to R497) -/

/-- INTERVAL_H for records; 64 h in FAULT (R500, R508). -/
def State.recInterval (s : State) : Nat := if s.pgState P.REC = stFault then 64 else s.regF R.REC_CFG 10 0

/-- The operating second at which the open record closes (R499, R508). -/
def State.recCloseAt (s : State) : Nat :=
  s.life.live.openAt + 3600 * (if s.pgState P.REC = stFault then 64 else s.life.live.interval)

/-- The bin of a sample (R495). -/
def histBin (lo step v : Int) : Nat := if v < lo then 0 else min 15 (1 + ((v - lo) / step).toNat)

/-- Histogram `j` counts a sample. -/
def histCount (j : Nat) (lo step v : Int) (r : OpenRec) : OpenRec :=
  { r with bins := modAt (· + 1) r.bins (16 * j + histBin lo step v) }

/-- Extreme entry `e` sees a sample in an operating second. -/
def extremeSee (e : Nat) (v : Int) (sec : Nat) (r : OpenRec) : OpenRec :=
  let low (x : Extreme) : Extreme := if v < x.min then { x with min := v, minAt := sec } else x
  let high (x : Extreme) : Extreme := if x.max < v then { x with max := v, maxAt := sec } else x
  { r with extremes := modAt (fun x => high (low x)) r.extremes e }

/-- A sample into its histogram and its extreme entry. -/
def sampleInto (j : Nat) (lo step v : Int) (sec : Nat) (r : OpenRec) : OpenRec :=
  extremeSee j v sec (histCount j lo step v r)

/-- The die temperature of a field group whose diagnostic field 1 has come within the second (R365, R496). -/
def State.dieTemp (s : State) (g : Nat) : Option Int :=
  match getAt none (s.grp g).diagTick 1 with
  | some t => if s.now ≤ t + 1000000 then some (toSigned 16 (getAt 0 (s.grp g).raw 1)) else none
  | none => none

/-- The samples of one operating second (R495, R496), with the counts as the tallies stand (R507). -/
def recordSample (s : State) : State :=
  let sec := s.opSec
  let r := s.life.live
  let r := match s.life.sample with
    | some (v, b, j) =>
      sampleInto 2 (-320) 96 j sec (sampleInto 1 (-320) 96 b sec (sampleInto 0 1600 100 v sec r))
    | none => r
  let r := match s.life.margin with
    | some m => sampleInto 3 0 50 m sec r
    | none => r
  let die (r : OpenRec) (g : Nat) : OpenRec :=
    match s.dieTemp g with | some v => extremeSee (4 + g) v sec r | none => r
  let r := if s.variantN then r else (List.range 4).foldl die r
  updLife (fun l => { l with live := { r with counts := l.tally }, margin := none }) s

/-- The load margin of an executed stride that closes (R495). -/
def noteMargin (overrun : Bool) (s : State) : State :=
  let e : Int := s.regN R.EXEC_ADM_BUDGET
  let m : Int := if overrun then -1 else 1000 * (e - s.regN R.STARTER_CYC_LAST) / (if e = 0 then 1 else e)
  updLife (fun l => { l with margin := some (match l.margin with | some x => min x m | none => m) }) s

/-- Bytes of an extreme entry (R496). -/
def extremeBytes (x : Extreme) : List Byte :=
  leBytes 2 (ofSigned 16 x.min) ++ leBytes 2 (ofSigned 16 x.max) ++ leBytes 4 x.minAt ++ leBytes 4 x.maxAt

/-- Header bytes 0x00C to 0x02F of a record that closes now (R494). -/
def closeBytes (r : OpenRec) (s : State) : List Byte :=
  let v := s.regB R.TIME_STAT 0
  leBytes 4 (s.regN R.REC_PWR_CYCLES) ++ leBytes 8 r.openAt ++ leBytes 8 s.opSec
    ++ leBytes 8 (if v then s.time.sec.toNat else 0)
    ++ leBytes 4 (if v then s.time.ns + 2 ^ 31 else 0) ++ leBytes 4 (r.interval + 2 ^ 24 * r.powerUps)

/-- The body of a record, from its histograms to its reserved bytes. -/
def recordBody (r : OpenRec) : List Byte :=
  r.bins.flatMap (leBytes 4) ++ r.extremes.flatMap extremeBytes
    ++ r.counts.flatMap (fun w => leBytes 4 w.toNat) ++ List.replicate 28 0

/-- A closed record gets its slot index, its epoch and its CRC when it is written (R493, R494). -/
def recordStamp (slot epoch : Nat) (rest : List Byte) : List Byte :=
  let bs := leBytes 4 0x52564352 ++ leBytes 4 (1 + 2 ^ 16 * slot) ++ leBytes 4 epoch ++ rest
  bs ++ leBytes 4 (crc32 bs)

/-- REC_STAT.REC_COUNT. -/
def State.recCount (s : State) : Nat := s.regF R.REC_STAT 12 0

/-- The recorder region of MRAM (R493). -/
abbrev recBase : Nat := 0xA80000

/-- The region is full (R501). -/
def recFull (s : State) : State :=
  let s := irqSet P.REC 9 (s.setB R.REC_STAT 16 true)
  if s.pgState P.REC = stFault then s else s.setPgState P.REC 6

/-- A closed record goes into slot REC_COUNT, or is skipped in a full region (R499, R501). -/
def recordPut (s : State) (rest : List Byte) : State :=
  if s.regB R.REC_STAT 16 then s.bump R.REC_SKIP_CNT else
  let n := s.recCount
  let bs := recordStamp n (s.regN R.REC_EPOCH) rest
  let s := updBaton (fun b => { b with mram := Memory.writeN b.mram (recBase + 512 * n) bs }) s
  let s := irqSet P.REC 8 (s.setF R.REC_STAT 12 0 (n + 1))
  if n + 1 = 4096 then recFull s else s

/-- Closed records are written, or the write fails and is tried again at the next one (R508). -/
def recordFlush (ok : Bool) (s : State) : State :=
  if s.life.unwritten.isEmpty then s
  else if ok then
    let rs := s.life.unwritten
    rs.foldl recordPut (updLife (fun l => { l with unwritten := [] }) s)
  else recordErr P.REC 0x40 srcHardware 0 s

/-- The open record closes and the next one opens at once (R499). -/
def recordClose (ok : Bool) (s : State) : State :=
  let rest := closeBytes s.life.live s ++ recordBody s.life.live
  let next (l : Recorder) : Recorder :=
    { l with unwritten := l.unwritten ++ [rest], live := recordOpen s.opSec s.recInterval, tally := tallyZero }
  recordFlush ok (updLife next s)

/-! ### Operating seconds (R498, R499) -/

/-- The 40-bit count of operating seconds, written to MRAM every 60 s (R498). -/
def bumpOpSec (s : State) : State :=
  let n := s.opSec + 1
  let s := (s.setRegN R.REC_OP_SEC_LO (n % 2 ^ 32)).setF R.REC_OP_SEC_HI 7 0 (n / 2 ^ 32)
  if n % 60 = 0 then saveCounts s else s

/-- A trial slot is the image in use (R484): the program's slot for an application, else the one the boot selected. -/
def State.trialInUse (s : State) : Option Nat :=
  match s.trialSlot with
  | some k => if 4 ≤ k then (if s.exec.prog.isSome && s.exec.slot == k then some k else none)
              else if s.slotSelected k then some k else none
  | none => none

/-- TRIAL_RUN_S counts a second in RUN on the trial image (R483). -/
def trialSecond (s : State) : State :=
  if s.trialInUse.isSome && s.mode == modeRun && !s.standby then s.bump R.UPD_TRIAL_RUN_S else s

/-- OPERATING_SECOND: the counts advance; after release, outside HALTED, samples are taken and a record may close. -/
def operatingSecond (ok : Bool) (s : State) : State :=
  if !s.boot.powered then s else
  let s := trialSecond (secondAges (bumpOpSec s))
  if s.halted || !s.isReleased then s else
  let s := recordSample s
  if s.recCloseAt ≤ s.opSec then recordClose ok s else s

/-- The open record as it stands is written to MRAM (R499). -/
def recordSave (s : State) : State := updLife (fun l => { l with saved := l.live }) s

/-- OPEN_RECORD_WRITE: every 60 s, with what waits to be written; nothing leaves the lanes in HALTED (R499, R508). -/
def openRecordWrite (ok : Bool) (s : State) : State :=
  if s.halted then s
  else if ok then recordFlush true (recordSave s)
  else if s.life.unwritten.isEmpty then recordErr P.REC 0x40 srcHardware 0 s
  else recordFlush false s

/-- PFAIL_FLUSH_END: the baton's flush ends, and the open record is written after it (R219, R499). -/
def pfailFlushEnd (us : Nat) (s : State) : State :=
  let due := s.regB R.BATON_STAT 10 && s.regF R.BATON_STAT 2 0 == 3
  let s := flushEnd us s
  if due && !s.halted then recordSave s else s

/-- The open record resumes as it was last written (R499); a power-up counts in it (R498). -/
def recordResume (powerUp : Bool) (s : State) : State :=
  let r := s.life.saved
  let r := if powerUp then { r with powerUps := min 255 (r.powerUps + 1) } else r
  let resume (l : Recorder) : Recorder := { l with live := r, saved := r, tally := r.counts, margin := none }
  let s := updLife resume s
  if powerUp then s.setRegN R.REC_PWR_CYCLES (s.regN R.REC_PWR_CYCLES + 1) else s

/-! ### The detail log (R504, R505) -/

/-- REPORT_DRAIN: the oldest report moves to the log, every 50 µs; the supervisor does it, so not in HALTED or RECOVERY. -/
def reportDrain (s : State) : State :=
  match s.reports with
  | [] => s
  | r :: rs =>
    if s.halted || s.boot.recovery || decide (s.now < s.life.drainedAt + 50) then s else
    let h := s.regF R.REC_LOG_HEAD 11 0
    let s := updLife (fun l => { l with log := mapPut l.log h r, drainedAt := s.now }) { s with reports := rs }
    let s := (s.setF R.REC_QUEUE_STAT 8 0 rs.length).setF R.REC_LOG_HEAD 11 0 ((h + 1) % 4096)
    if h = 4095 then s.setRegN R.REC_LOG_WRAPS (s.regN R.REC_LOG_WRAPS + 1) else s

/-- Word `i` of a log entry (R504). -/
def logWord (r : Report) (i : Nat) : Word :=
  match i with
  | 0 => BitVec.ofNat 32 r.tick
  | 1 => BitVec.ofNat 32 (r.tick / 2 ^ 32)
  | 2 => BitVec.ofNat 32 (r.page * 2 ^ 24 + r.report.toNat % 2 ^ 21)
  | _ => r.opSec

/-- Word `i` of the open record; what only its closing fills is open (R507). -/
def State.openWord (s : State) (i : Nat) : Word :=
  let r := s.life.live
  if i = 0 then 0x52564352
  else if i = 4 then BitVec.ofNat 32 r.openAt
  else if i = 5 then BitVec.ofNat 32 (r.openAt / 2 ^ 32)
  else if i = 11 then BitVec.ofNat 32 (r.interval + 2 ^ 24 * r.powerUps)
  else if 12 ≤ i ∧ i < 127 then BitVec.ofNat 32 (leNat (((recordBody r).drop (4 * (i - 12))).take 4))
  else Config.openRecord i s.opSec

/-! ### REC commands (R502, R508) -/

/-- ARCHIVED: the region is empty again, in a new epoch. -/
def archive (s : State) : State :=
  let s := (s.setF R.REC_STAT 12 0 0).setB R.REC_STAT 16 false
  let s := s.setRegN R.REC_EPOCH (s.regN R.REC_EPOCH + 1)
  if s.pgState P.REC = stFault then s else s.setPgState P.REC stActive

def cmdArchived (iss : Issuer) (arg : Nat) : State → State :=
  quick ⟨P.REC, 0x10, iss⟩ (fun s => need (arg == s.recCount) cState none) archive
def cmdClrSrc (iss : Issuer) : State → State :=
  quick ⟨P.REC, 0x11, iss⟩ noCheck fun s => { (s.clear [R.REC_LOST_TOTAL]) with srcs := [] }
def cmdRecClr (iss : Issuer) : State → State :=
  quick ⟨P.REC, 0x12, iss⟩ noCheck fun s => (s.clear [R.REC_SKIP_CNT]).setF R.REC_QUEUE_STAT 24 16 0

/-! ### ENV (R506, R509, R510) -/

/-- A monitored value with its lowest and highest since CLR_CNT. -/
def envValue (a v lo hi : Nat) (s : State) : State :=
  let x := toSigned 16 v
  let s := s.setRegN a v
  let s := if lo ≠ 0 ∧ x < toSigned 16 (s.regN lo) then s.setRegN lo v else s
  if hi ≠ 0 ∧ toSigned 16 (s.regN hi) < x then s.setRegN hi v else s

/-- A warning bit of ENV_STAT: it begins, or it ends beyond its hysteresis (R506). -/
def envWarn (bit irq : Nat) (begins ends : Bool) (s : State) : State :=
  if s.regB R.ENV_STAT bit then (if ends then s.setB R.ENV_STAT bit false else s)
  else if begins then irqSet P.ENV irq ((s.setB R.ENV_STAT bit true).bump R.ENV_WARN_CNT)
  else s

/-- A warning limit; a page in FAULT uses the reset values (R510). -/
def State.envLimit (s : State) (a : Nat) : Word := if s.pgState P.ENV = stFault then regReset a else s.reg a

/-- ENV_SAMPLE: the monitors sample, and warnings begin and end (R506). -/
def envSample (vin vhold board junc : Nat) (s : State) : State :=
  let s := envValue R.ENV_VIN vin R.ENV_VIN_MIN R.ENV_VIN_MAX s
  let s := envValue R.ENV_VHOLD vhold 0 0 s
  let s := envValue R.ENV_BOARD_T board R.ENV_BOARD_T_MIN R.ENV_BOARD_T_MAX s
  let s := envValue R.ENV_JUNC_T junc 0 R.ENV_JUNC_T_MAX s
  let (v, b, j) := (toSigned 16 vin, toSigned 16 board, toSigned 16 junc)
  let s := updLife (fun l => { l with sample := some (v, b, j) }) s
  let lo := toSigned 16 (fld (s.envLimit R.ENV_VIN_WARN) 15 0)
  let hi := toSigned 16 (fld (s.envLimit R.ENV_VIN_WARN) 31 16)
  let bh := toSigned 16 (fld (s.envLimit R.ENV_TEMP_WARN) 15 0)
  let jh := toSigned 16 (fld (s.envLimit R.ENV_TEMP_WARN) 31 16)
  let s := envWarn 1 8 (decide (v < lo)) (decide (lo + 2 ≤ v)) s
  let s := envWarn 2 8 (decide (hi < v)) (decide (v ≤ hi - 2)) s
  let s := envWarn 3 9 (decide (bh ≤ b)) (decide (b ≤ bh - 16)) s
  envWarn 4 9 (decide (jh ≤ j)) (decide (j ≤ jh - 16)) s

def cmdEnvClr (iss : Issuer) : State → State :=
  quick ⟨P.ENV, 0x10, iss⟩ noCheck fun s =>
    let s := s.clear [R.ENV_WARN_CNT]
    [R.ENV_VIN_MIN, R.ENV_VIN_MAX, R.ENV_BOARD_T_MIN, R.ENV_BOARD_T_MAX, R.ENV_JUNC_T_MAX].foldl
      (fun t a => t.setReg a (regReset a)) s

/-! ### Meanings -/

def execOperatingSecond (ok : Bool) (s : State) : Host.Outcome State Fault Refusal := .next (operatingSecond ok s)
def execOpenRecordWrite (ok : Bool) (s : State) : Host.Outcome State Fault Refusal := .next (openRecordWrite ok s)
def execPfailFlushEnd (us : Word) (s : State) : Host.Outcome State Fault Refusal := .next (pfailFlushEnd us.toNat s)
def execReportDrain (s : State) : Host.Outcome State Fault Refusal := .next (reportDrain s)
def execArchived (iss : Issuer) (arg : BitVec 16) (s : State) : Host.Outcome State Fault Refusal :=
  .next (cmdArchived iss arg.toNat s)
def execClrSrc (iss : Issuer) (_arg : BitVec 16) (s : State) : Host.Outcome State Fault Refusal := .next (cmdClrSrc iss s)
def execRecClrCnt (iss : Issuer) (_arg : BitVec 16) (s : State) : Host.Outcome State Fault Refusal := .next (cmdRecClr iss s)
def execEnvSample (vin vhold board junc : BitVec 16) (s : State) : Host.Outcome State Fault Refusal :=
  .next (envSample vin.toNat vhold.toNat board.toNat junc.toNat s)
def execEnvClrCnt (iss : Issuer) (_arg : BitVec 16) (s : State) : Host.Outcome State Fault Refusal := .next (cmdEnvClr iss s)

end Sys2Proof.Machine
end

