-- ==== Sys2Proof/Machine/Relay.lean ====
section
/-!
DEFINITION. The relay's transfers (chapter 13): routing and checks (R326, R331), egress (R327 to R330), the rank rule
(R334), and the commands of RELAY (R336).
-/
namespace Sys2Proof.Machine

/-! ### Ports -/

def portCfg (p : Nat) : Nat := R.RELAY_PORT_CFG + 4 * p
def State.portRank (s : State) (p : Nat) : Nat := s.regF (portCfg p) 4 0
def State.portQuota (s : State) (p : Nat) : Nat := s.regF (portCfg p) 25 16
def State.xferOf (s : State) (p : Nat) : Option Xfer := getAt none s.relay.xfer p
def setXfer (p : Nat) (x : Option Xfer) : State → State := updRelay fun r => { r with xfer := setAt r.xfer p x }
def State.egressOf (s : State) (p : Nat) : List Egress := getAt [] s.relay.egress p
def State.ingressOf (s : State) (p : Nat) : List RUnit := getAt [] s.relay.ingress p

/-- Queue slots in use, and their maximum (R335). -/
def relaySlots (s : State) : State :=
  let n := s.relay.egress.foldl (fun a q => a + q.length) 0
  let s := s.setF R.RELAY_STAT 9 0 n
  if s.regF R.RELAY_STAT 25 16 < n then s.setF R.RELAY_STAT 25 16 n else s

def setEgress (p : Nat) (q : List Egress) (s : State) : State :=
  relaySlots (updRelay (fun r => { r with egress := setAt r.egress p q }) s)

/-- The inbox slot of a host port is where its next unit goes (R330). -/
def inboxA (h i : Nat) : Nat := hostBase h + 0xE000 + 256 * (i % 16)
def outboxA (h i : Nat) : Nat := hostBase h + 0xF000 + 256 * (i % 16)

/-- The egress queue of a port has no space (R330, R331). -/
def State.egressFull (s : State) (p : Nat) : Bool :=
  if p = 1 ∨ p = 2 then false
  else if portHost ≤ p then
    let h := p - portHost
    s.commsN (inboxA h (getAt 0 s.relay.inbox h)) 4 / 2 ^ 31 == 1
  else decide (s.portQuota p ≤ (s.egressOf p).length)

/-- Egress that needs no wait: CAN units into a transmit FIFO with space (R315), datagrams to their peer (R329). -/
def drainCan (n : Nat) : Nat → State → State
  | 0, s => s
  | k + 1, s =>
    match s.egressOf (portCan + n) with
    | e :: rest =>
      let st := s.canState n
      if decide ((s.canOf n).txf.length < 32) && st != canOff && st != canBusOff && !(s.pgState (P.CAN + n) == stFault) then
        drainCan n k (pushTxf n e.frame (setEgress (portCan + n) rest s))
      else s
    | [] => s

/-- The CAN egress queues move on (R315); those of a relay in FAULT stay in place (R337). -/
def relayDrain (s : State) : State := if s.pgState P.RELAY = stFault then s else forN 8 (fun n t =>
  if (t.egressOf (portCan + n)).isEmpty then t else canStart n (drainCan n 32 t)) s

/-! ### Checks before a delivery (R331) -/

/-- The PROG receive block of a channel (R327). -/
def State.progBlock (s : State) (c : Nat) : Option Binding :=
  s.binds.find? fun b => b.kind == 2 && b.page == P.RELAY && b.chan == c

/-- The destination cannot carry a unit of this length. -/
def sizeBad (r : Route) (len : Nat) (s : State) : Bool :=
  let p := r.dstPort
  if p = 1 ∨ p = 2 then
    let e := s.instEnt r.dstId
    let cap := (s.slotEnt e.ch e.slot).len
    decide (cap < len) || (s.netVer == 1 && len != cap)
  else if portCan ≤ p ∧ p < portEth then
    if r.fdf then !fdLen len || !s.regB (canA (p - portCan) R.CAN_CFG) 0 else decide (8 < len)
  else decide (240 < len) || (p == 0 && match s.progBlock r.dstId with
    | some b => decide (b.size - 16 < len + 8)
    | none => false)

/-- A declared element ends past the unit (R331). -/
def swapBad (r : Route) (len : Nat) : Bool := r.swap && r.fields.any fun f => decide (len < f.1 + f.2.1 * f.2.2)

/-- Reverse the bytes of `cnt` elements of `w` bytes from `off` (R326). -/
def swapField (off w cnt : Nat) (d : List Byte) : List Byte :=
  (List.range cnt).foldl (fun d i =>
    let a := off + w * i
    d.take a ++ ((d.drop a).take w).reverse ++ d.drop (a + w)) d

/-- The data a route delivers. -/
def routeData (r : Route) (d : List Byte) : List Byte :=
  if r.swap then r.fields.foldl (fun d f => swapField f.1 f.2.1 f.2.2 d) d else d

/-- A route does not deliver its unit: counted, and the latest drop (R331, R335). -/
def relayDrop (cnt code i : Nat) (u : RUnit) (s : State) : State :=
  let s := irqSet P.RELAY 8 (s.bump cnt)
  let s := s.setRegN R.RELAY_LAST_DROP_INFO (code + 256 * u.port + 2 ^ 16 * (s.route i).dstPort)
  (s.setRegN R.RELAY_LAST_DROP_ROUTE i).setRegN R.RELAY_LAST_DROP_ID u.id

/-! ### Delivery (R327 to R330, R333) -/

/-- The unit goes into the destination of route `i`. -/
def relayDeliver (i : Nat) (u : RUnit) (s : State) : State :=
  let r := s.route i
  let p := r.dstPort
  let d := routeData r u.data
  let ctl : Word := BitVec.ofNat 32 (d.length + 256 * b2n (r.brs && r.fdf))
  let e : Egress := ⟨r.dstId, u.port, u.event, u.id, d, ⟨BitVec.ofNat 32 (r.dstId + 2 ^ 31 * b2n r.fdf), ctl, d, none⟩, s.now⟩
  let s := s.bump R.RELAY_RELAYED_CNT
  let s :=
    if p = 1 ∨ p = 2 then
      let b := s.buf r.dstId
      let s := if b.commits.isEmpty then s else s.bump R.RELAY_OVERWRITE_CNT
      let s := setBuf r.dstId { b with commits := [(0, d)], commitStat := cDone } s
      let s := bufWord r.dstId 0xC (bufStatWord true (s.buf r.dstId)) (bufWord r.dstId 8 d.length s)
      commsWrite srcHardware (256 * r.dstId + 16) d s
    else if p < portEth then
      let s := setEgress p (s.egressOf p ++ [e]) s
      if portCan ≤ p then relayDrain s else s
    else if p < portHost then
      let k := p - portEth
      let n := getAt 0 s.relay.seqs k
      let s := updRelay (fun x => { x with seqs := setAt x.seqs k ((n + 1) % 2 ^ 32) }) s
      let s := s.bump (pa (P.ETH + k) R.ETH_TX_FRM_CNT)
      s.send (.datagram k (s.regN (R.RELAY_PEER_IP0 + 4 * k))
        (leBytes 4 (r.dstId % 2 ^ 16 + 2 ^ 16 * d.length + 2 ^ 24) ++ leBytes 4 n ++ d))
    else
      let h := p - portHost
      let a := inboxA h (getAt 0 s.relay.inbox h)
      let s := updRelay (fun x => { x with inbox := setAt x.inbox h ((getAt 0 x.inbox h + 1) % 16) }) s
      let s := commsWrite srcHardware (a + 16) d (commsWrite srcHardware (a + 4) (leBytes 4 r.dstId) s)
      commsWrite srcHardware a (leBytes 4 (d.length + 2 ^ 31)) s
  if r.notify then relayEvent p evtDataReady i s else s

/-! ### Transfers (R334) -/

/-- The destination port of a transfer's next route. -/
def Xfer.dst (x : Xfer) (s : State) : Nat := match x.left with | i :: _ => (s.route i).dstPort | [] => x.unit.port

/-- The buffer of port `p` is held: by its own transfer, or by a move into it. -/
def State.bufferHeld (s : State) (p : Nat) : Bool :=
  (match s.xferOf p with | some x => x.phase == .loaded || x.phase == .moving | none => false)
    || (List.range 17).any fun q => match s.xferOf q with
      | some x => x.phase == .moving && x.dst s == p
      | none => false

/-- Drop a unit's head from its ingress queue; a PROG unit reports its outcome (R327). -/
def relayDone (p : Nat) (u : RUnit) (s : State) : State :=
  let s := setXfer p none (updRelay (fun r => { r with ingress := modAt (fun q => q.drop 1) r.ingress p }) s)
  if p = 0 ∧ u.event = false then
    match s.txBinding P.RELAY u.id with
    | some b => txNote b.index u.fail (u.fail == 0) s
    | none => s
  else s

/-- A route of a transfer is over; `code` is why it did not deliver, 0 if it did. -/
def routeOver (p code : Nat) (x : Xfer) (s : State) : State :=
  let u := if x.unit.fail = 0 then { x.unit with fail := code } else x.unit
  let left := x.left.drop 1
  if left.isEmpty then relayDone p u s
  else setXfer p (some { x with unit := u, left := left, phase := .loaded }) s

/-- A loaded transfer needs its next destination: checks, space, then the buffer under the rank rule (R331, R334).
`k` bounds the routes. -/
def relayNeed (p : Nat) : Nat → State → State
  | 0, s => s
  | k + 1, s =>
    match s.xferOf p with
    | none => s
    | some x =>
      if !(x.phase == .loaded) then s else
      match x.left with
      | [] => relayDone p x.unit s
      | i :: _ =>
        let r := s.route i
        let y := r.dstPort
        let len := x.unit.data.length
        if sizeBad r len s then relayNeed p k (routeOver p 0x40 x (relayDrop R.RELAY_SIZE_REJ_CNT 0x40 i x.unit s))
        else if swapBad r len then relayNeed p k (routeOver p 0x41 x (relayDrop R.RELAY_SWAP_REJ_CNT 0x41 i x.unit s))
        else if s.egressFull y then
          setXfer p (some { x with phase := .space, until_ := s.now + s.regF R.RELAY_CFG 17 8 }) s
        else if s.bufferHeld y then
          if s.portRank p < s.portRank y then
            irqSet P.RELAY 9 ((setXfer p (some { x with phase := .backoff, until_ := s.now + s.regF R.RELAY_CFG 7 0 }) s).bump
              R.RELAY_BACKOFF_CNT)
          else s
        else setXfer p (some { x with phase := .moving }) s

/-- The ports in falling rank. -/
def State.byRank (s : State) : List Nat :=
  (List.range 32).reverse.filterMap fun k => (List.range 17).find? fun p => s.portRank p == k

/-- A loaded port of lower rank that finds a held buffer backs off first; then the loaded ports go on in falling rank. -/
def relaySettle (s : State) : State :=
  let lower := s.byRank.reverse.filter fun p => match s.xferOf p with
    | some x => x.phase == .loaded && s.bufferHeld (x.dst s) && decide (s.portRank p < s.portRank (x.dst s))
    | none => false
  let s := lower.foldl (fun t p => relayNeed p 9 t) s
  s.byRank.foldl (fun t p => relayNeed p 9 t) s

/-- A port loads the head of its ingress queue (R326, R334). -/
def relayLoad (p : Nat) (s : State) : State :=
  if !s.relayActive || s.bufferHeld p then s else
  match s.xferOf p with
  | some x =>
    if (x.phase == .space && !s.egressFull (x.dst s)) || (x.phase == .backoff && decide (x.until_ ≤ s.now)) then
      setXfer p (some { x with phase := .loaded }) s
    else s
  | none =>
    match s.ingressOf p with
    | [] => s
    | u :: _ =>
      let rs := s.routesFor u
      if rs.isEmpty then relayDone p u (s.bump (if u.event then R.RELAY_EVT_NOROUTE_CNT else R.RELAY_NOROUTE_CNT))
      else setXfer p (some ⟨u, rs, .loaded, 0⟩) s

/-- RELAY_UNIT (R326). -/
def relayUnit (p : Nat) (s : State) : State := relayLoad p s

/-- RELAY_TRANSFER_END: what waits takes its turn, and the move of port `p` is delivered (R334). -/
def relayTransferEnd (p : Nat) (s : State) : State :=
  if !s.relayActive then s else
  let s := relaySettle s
  match s.xferOf p with
  | some x =>
    if x.phase == .moving then
      match x.left with
      | i :: _ => relaySettle (routeOver p 0 x (relayDeliver i x.unit s))
      | [] => s
    else s
  | none => s

/-- RELAY_BACKOFF_END (R334). -/
def relayBackoffEnd (p : Nat) (s : State) : State :=
  match s.xferOf p with
  | some x => if x.phase == .backoff then relayLoad p s else s
  | none => s

/-- The transfer of a port whose buffer another one uses goes on once the buffer is free; its wait for space starts
again. -/
def reload (p : Nat) (busy : Bool) (s : State) : State :=
  match s.xferOf p with
  | some x => if busy then setXfer p (some { x with phase := .space, until_ := s.now + s.regF R.RELAY_CFG 17 8 }) s else s
  | none => s

/-- RELAY_HOLD_EXPIRED: the waiting delivery is dropped (R331). -/
def relayHoldExpired (p : Nat) (s : State) : State :=
  if !s.relayActive then s else
  match s.xferOf p with
  | some x =>
    if x.phase == .space && decide (x.until_ ≤ s.now) then
      match x.left with
      | i :: _ =>
        let s := relayDrop R.RELAY_DROP_FULL_CNT 0x43 i x.unit s
        let y := x.dst s
        relayEvent y evtOverflow i (reload p (s.bufferHeld p) (routeOver p 0x43 x s))
      | [] => s
    else s
  | none => s

/-- RELAY_DATAGRAM (R329). One of another version is discarded and, as no length of it is wrong, not counted. -/
def relayDatagram (k : Nat) (peer : Word) (pay : List Byte) (s : State) : State :=
  if !s.relayActive || s.reg (R.RELAY_PEER_IP0 + 4 * k) != peer || !s.en (P.ETH + k) then s else
  let w := leNat (pay.take 4)
  let len := w / 2 ^ 16 % 256
  if w / 2 ^ 24 ≠ 1 ∧ 4 ≤ pay.length then s
  else if 240 < len ∨ pay.length < 8 + len then s.bump R.RELAY_ING_LEN_CNT
  else relayIngress ⟨portEth + k, w % 2 ^ 16, false, (pay.drop 8).take len, 0⟩ s

/-- RELAY_OUTBOX_TAKE: the next flagged slot of a host's outbox, in ring order (R330). -/
def relayOutbox (h : Nat) (s : State) : State :=
  let start := getAt 0 s.relay.outbox h
  match (List.range 16).find? fun i => s.commsN (outboxA h (start + i)) 4 / 2 ^ 31 == 1 with
  | none => s
  | some i =>
    if !s.relayActive then s else
    let a := outboxA h (start + i)
    let len := s.commsN a 4 % 256
    let u : RUnit := ⟨portHost + h, s.commsN (a + 4) 4, false, s.comms (a + 16) len, 0⟩
    let bad := s.poisoned a (16 + len)
    let s := commsRead 2 a (16 + len) s
    let s := if bad then recordErr P.RELAY cIntegrity srcHardware i s else relayIngress u s
    let s := commsWrite srcHardware a (leBytes 4 0) s
    updRelay (fun r => { r with outbox := setAt r.outbox h ((start + i + 1) % 16) }) s

/-- FLUSH empties a port's egress queue at the boundary (R336). -/
def relayFlush (p : Nat) (s : State) : State :=
  let n := (s.egressOf p).length
  let s := setEgress p [] (s.bumpBy R.RELAY_DROP_FULL_CNT n)
  if s.busyWith P.RELAY 0x11 then finish P.RELAY cDone s else s

/-- Every queued unit and hold is discarded (R337). -/
def relayEmpty (s : State) : State :=
  relaySlots (updRelay (fun r => { r with
    ingress := List.replicate 17 [], xfer := List.replicate 17 none, egress := List.replicate 17 [] }) s)

/-! ### Validation (R326) -/

/-- DST_ID is valid for its port. -/
def dstOk (r : Route) (s : State) : Bool :=
  let p := r.dstPort
  if p = 0 then decide (r.dstId < 256)
  else if p ≤ 2 then
    let e := s.instEnt r.dstId
    decide (r.dstId < 4096) && e.en && e.tx && e.ch == p - 1 && !(s.slotEnt e.ch e.slot).paired
      && !(s.binds.any fun b => b.kind == 3 && b.page == P.GRDMB && b.chan == r.dstId)
  else if p < portEth then r.dstId.testBit 29 || decide (r.dstId % 2 ^ 29 < 2048)
  else decide (r.dstId < 65536)

/-- Entry `i` passes R326; one with a reserved XFORM code does not (R10; DEDUCED, log entry 189). -/
def routeOk (i : Nat) (s : State) : Bool :=
  let r := s.route i
  decide (r.srcPort ≤ 16 ∧ r.dstPort ≤ 16 ∧ r.srcPort ≠ r.dstPort) && dstOk r s
    && r.known && (!r.swap || (!r.fields.isEmpty && r.fields.all fun f => decide (0 < f.2.2 ∧ f.1 + f.2.1 * f.2.2 ≤ 240)))
    && decide ((s.routesOn.filter fun j =>
      let q := s.route j
      j ≤ i && q.srcPort == r.srcPort && q.event == r.event && q.srcId == r.srcId).length ≤ 8)

/-- Ranks distinct and quotas within 864. -/
def portsOk (s : State) : Bool :=
  ((List.range 17).all fun p => (List.range 17).all fun q => p == q || s.portRank p != s.portRank q)
    && decide ((List.range 17).foldl (fun a p => a + s.portQuota p) 0 ≤ 864)

/-- The first failing entry of R326; a port configuration that fails shows entry 0. -/
def relayFail (s : State) : Option Nat :=
  (s.routesOn.find? fun i => !routeOk i s) <|> (if portsOk s then none else some 0)

/-- EN is set with a valid table. -/
def relayStart (s : State) : State :=
  ((relayEmpty s).setRegN R.RELAY_ROUTES_EN s.routesOn.length |>.setEn P.RELAY true).setPgState P.RELAY stActive

/-- EN is cleared at a boundary (R336). -/
def relayStop (s : State) : State := (relayEmpty s |>.setEn P.RELAY false).setPgState P.RELAY stOff

def cmdRelayClr (iss : Issuer) : State → State :=
  quick ⟨P.RELAY, 0x10, iss⟩ noCheck fun s =>
    let s := s.clear (regRun R.RELAY_RELAYED_CNT 10 4)
    s.setF R.RELAY_STAT 25 16 (s.regF R.RELAY_STAT 9 0)

def cmdFlush (port : Nat) (iss : Issuer) : State → State :=
  command ⟨P.RELAY, 0x11, iss⟩ (fun _ => need (decide (port % 32 ≤ 16)) cRange none) fun s =>
    { s with deferred := s.deferred ++ [.flush (port % 32)] }

/-! ### Meanings -/

def execRelayUnit (p : Fin 17) (s : State) : Host.Outcome State Fault Refusal := .next (relayUnit p s)
def execRelayTransferEnd (p : Fin 17) (s : State) : Host.Outcome State Fault Refusal := .next (relayTransferEnd p s)
def execRelayBackoffEnd (p : Fin 17) (s : State) : Host.Outcome State Fault Refusal := .next (relayBackoffEnd p s)
def execRelayHoldExpired (p : Fin 17) (s : State) : Host.Outcome State Fault Refusal := .next (relayHoldExpired p s)
def execRelayDatagram (k : Fin 2) (peer : Word) (pay : List (BitVec 8)) (s : State) : Host.Outcome State Fault Refusal :=
  .next (relayDatagram k peer pay (if s.en (P.ETH + k) then s.bump (pa (P.ETH + k) R.ETH_RX_FRM_CNT) else s))
def execRelayOutboxTake (h : Fin 4) (s : State) : Host.Outcome State Fault Refusal := .next (relayOutbox h s)
def execRelayClrCnt (iss : Issuer) (_arg : BitVec 16) (s : State) : Host.Outcome State Fault Refusal :=
  .next (cmdRelayClr iss s)
def execFlush (iss : Issuer) (arg : BitVec 16) (s : State) : Host.Outcome State Fault Refusal :=
  .next (cmdFlush arg.toNat iss s)

end Sys2Proof.Machine
end

