-- ==== Sys2Proof/Machine/Update.lean ====
section
/-!
DEFINITION. Felsuken containers and their checks (R478 to R480), the staging area and the UPD and CRYPT pages
(R481 to R485, R488 to R491).
-/
namespace Sys2Proof.Machine

/-! ### Containers (R478, R479) -/

/-- Codes of R479, and SLOT_BUSY of R489. -/
abbrev kFormat : Nat := 0x01
abbrev kKind : Nat := 0x02
abbrev kVariant : Nat := 0x03
abbrev kRoot : Nat := 0x04
abbrev kEndorse : Nat := 0x05
abbrev kSignature : Nat := 0x06
abbrev kRollback : Nat := 0x07
abbrev kTag : Nat := 0x08
abbrev kHash : Nat := 0x09
abbrev kBase : Nat := 0x0A
abbrev kDelta : Nat := 0x0B
abbrev kLength : Nat := 0x0C
abbrev kSlotBusy : Nat := 0x0D

/-- Bytes of a container header. -/
abbrev headerLen : Nat := 768

def hdrKind (h : List Byte) : Nat := imgN h 6 2
def hdrDelta (h : List Byte) : Bool := (imgN h 8 4).testBit 0
def hdrSvn (h : List Byte) : Nat := imgN h 0xC 4
def hdrPayload (h : List Byte) : Nat := imgN h 0x10 4
def hdrBody (h : List Byte) : Nat := imgN h 0x14 4
def hdrId (h : List Byte) : Nat := imgN h 0x20 8
def hdrBase (h : List Byte) : Nat := imgN h 0x28 8

/-- Slot size and largest payload of a kind (R470). -/
def kindSlot (k : Nat) : Nat := if k = 1 then 0x20000 else if k = 2 then 0xC0000 else 0x800000
def kindPayload (k : Nat) : Nat := if k = 1 then 0x10000 else if k = 2 then 0x80000 else 0x600000

/-- The two slots of a kind. -/
def kindSlots (k : Nat) : List Nat := [2 * (k - 1), 2 * (k - 1) + 1]

/-- The reserved fields of a header are 0. -/
def hdrReserved (h : List Byte) : Bool :=
  decide (imgN h 8 4 < 4) && decide ((imgN h 0x18 4) &&& 0xFFFFF0FC = 0) && imgN h 0x1C 4 == 0 && imgN h 0x9C 4 == 0
    && imgN h 0xB0 80 == 0 && imgN h 0x1C2 2 == 0 && imgN h 0x285 123 == 0

/-- The module's bit of a variant mask. -/
def State.variantBit (s : State) : Nat := if s.variantN then 1 else 0

/-- The checks of R479 that the header alone decides, for slots of the kinds `kinds`: the lowest code, or 0. -/
def headerFails (h : List Byte) (kinds : List Nat) (s : State) : Nat :=
  let k := hdrKind h
  if imgN h 0 4 ≠ 0x4B534C46 ∨ imgN h 4 2 ≠ 1 ∨ hdrReserved h = false ∨ kindSlot k < hdrBody h then kFormat
  else if !kinds.contains k then kKind
  else if !(imgN h 0x18 4).testBit s.variantBit || decide (0xB < imgN h 0x18 4 / 256 % 16) then kVariant
  else if !(imgN h 0x1C1 1).testBit (k - 1) then kEndorse
  else if hdrSvn h < s.arb then kRollback
  else if kindPayload k < hdrPayload h then kHash
  else 0

/-- The first of two failures in the order of R479; 0 is none. -/
def containerFail (a b : Nat) : Nat := if a = 0 then b else if b = 0 then a else min a b

/-- The command status of a failure (R479). -/
def failStatus (f : Nat) : Nat :=
  if f = kFormat ∨ f = kVariant then cVersion else if f = kKind then cRange else if f = kRollback then cLocked
  else if f = kLength then cLength else cIntegrity

/-- The counters of CRYPT that a checked container moves (R490). -/
def cryptCount (f : Nat) (s : State) : State :=
  let s := if f = 0 ∨ kRollback ≤ f then s.bump R.CRYPT_SIG_OK_CNT else s
  if f = kRoot ∨ f = kEndorse ∨ f = kSignature then s.bump R.CRYPT_SIG_FAIL_CNT
  else if f = kTag then s.bump R.CRYPT_TAG_FAIL_CNT
  else if f = kHash ∨ f = kBase then s.bump R.CRYPT_HASH_FAIL_CNT
  else if f = kRollback then s.bump R.CRYPT_ARB_REJ_CNT
  else s

/-- The operations of a delta stream applied to the base (R480); `n` bounds their number. -/
def deltaRun (base : List Byte) : Nat → List Byte → List Byte → Option (List Byte)
  | 0, _, _ => none
  | n + 1, ops, out =>
    if ops.length < 4 then none else
    let w := imgN ops 0 4
    let len := w % 2 ^ 30
    let rest := ops.drop 4
    if w / 2 ^ 30 = 0 then (if rest.isEmpty then some out else none)
    else if w / 2 ^ 30 = 1 then
      let off := imgN rest 0 4
      if rest.length < 4 ∨ len = 0 ∨ base.length < off + len then none
      else deltaRun base n (rest.drop 4) (out ++ (base.drop off).take len)
    else if w / 2 ^ 30 = 2 then
      let padded := (len + 3) / 4 * 4
      if len = 0 ∨ rest.length < padded then none else deltaRun base n (rest.drop padded) (out ++ rest.take len)
    else none

/-- The selected slot of a kind, where the running boot selected one (R471). -/
def State.selectedSlot (s : State) (k : Nat) : Option Nat := (kindSlots k).find? fun j => s.slotSelected j

/-- The slot of a kind that the running boot did not select (R482); the first where it selected none. -/
def State.inactiveSlot (s : State) (k : Nat) : Nat := ((kindSlots k).find? fun j => !s.slotSelected j).getD (2 * (k - 1))

/-- What INSTALL finds: a failure, or the header and plaintext that the slot receives (R479, R480). -/
inductive Checked where
  | fail (code : Nat)
  | ok (header plain : List Byte)
  deriving DecidableEq, Repr

/-- The delta part of the checks: base identity, the stream, and the result header in full (R480). -/
def checkDelta (h plain : List Byte) (result : Nat) (s : State) : Checked :=
  let k := hdrKind h
  let base := s.selectedSlot k
  match base with
  | none => .fail kBase
  | some j =>
    if hdrId (s.slotHeader j) ≠ hdrBase h then .fail kBase else
    let rh := plain.take headerLen
    match deltaRun (s.slotImage j) plain.length (plain.drop headerLen) [] with
    | none => .fail kDelta
    | some out =>
      if out.length ≠ hdrPayload rh then .fail kDelta else
      let f := containerFail (headerFails rh [k] s) result
      if f = 0 then .ok rh out else .fail f

/-- The checks of a staged container (R479, R480). -/
def checkStaged (kinds : List Nat) (full : Bool) (c : Opened) (s : State) : Checked :=
  let n := s.regN R.UPD_STG_BYTES
  let h := Memory.readN s.boot.staging 0 headerLen
  let f := containerFail (headerFails h kinds s) c.code.toNat
  let long := if n < headerLen + hdrBody h then kLength else 0
  if !(f == 0) then .fail f
  else if hdrDelta h then
    if full then .fail kDelta
    else match checkDelta h c.plain c.result.toNat s with
      | .fail x => .fail x
      | .ok rh out => if long = 0 then .ok rh out else .fail kLength
  else if long = 0 then .ok h c.plain else .fail kLength

/-! ### Gates (R475, R491) -/

/-- UPD serves only full containers of the two lower kinds, or nothing, in RECOVERY (R475). -/
def State.updServes (s : State) : Bool :=
  !s.boot.recovery || s.regF R.BOOT_STAT 23 16 == 5 || s.regF R.BOOT_STAT 23 16 == 6

def State.updKinds (s : State) : List Nat := if s.boot.recovery then [1, 2] else [1, 2, 3]

/-- The state gate of every UPD command but CLR_CNT. -/
def updGate (rest : State → Option Nat) (s : State) : Option Nat :=
  notHalted s (need s.updServes cState (rest s))

def updProgress (p : Nat) (s : State) : State := s.setF R.UPD_STAT 31 24 p

/-- A BUSY operation begins, in a UPD state. -/
def updBegin (st op a b : Nat) (s : State) : State :=
  updProgress 0 (updBoot (fun x => { x with op := some (op, a, b, s.now) }) (setUpd st (s.regF R.UPD_STAT 9 8) s))

/-- ERASE: 1 to 32 MiB (R481). -/
def cmdErase (iss : Issuer) (arg : Nat) : State → State :=
  command ⟨P.UPD, 0x10, iss⟩ (fun s => need (1 ≤ arg && arg ≤ 32) cRange (updGate noCheck s)) (updBegin 1 0x10 arg 0)

/-- The range a CHUNK writes is erased. -/
def State.chunkFree (s : State) : Bool :=
  let o := s.regN R.UPD_STG_OFFSET
  let e := o + s.regN R.UPD_STG_LEN
  decide (e ≤ s.boot.erased) && s.boot.written.all fun r => decide (e ≤ r.1 ∨ r.2 ≤ o)

/-- CHUNK: a legal length inside the issuer's region, into erased bytes. -/
def chunkGate (iss : Issuer) (s : State) : Option Nat :=
  need (isHost iss && 8 ≤ s.regN R.UPD_STG_LEN) cRange <|
    need (s.regN R.UPD_STG_SRC + s.regN R.UPD_STG_LEN ≤ 0x10000) cLength <|
    updGate (fun t => need t.chunkFree cState none) s

def cmdChunk (iss : Issuer) : State → State :=
  command ⟨P.UPD, 0x11, iss⟩ (chunkGate iss) (updBegin 1 0x11 (issuerCode iss) 0)

/-- INSTALL is refused with SLOT_BUSY while a slot is in trial or an exchange names the application slots (R482). -/
def State.slotBusy (s : State) : Bool := s.trialSlot.isSome || decide (swStaged ≤ s.swapState)

/-- An exchange from STAGED to REVERTING names slot `k`, which the update engine then does not write (R227). -/
def State.slotNamed (s : State) (k : Nat) : Bool :=
  decide (swStaged ≤ s.swapState) && (s.swap.staged.any fun x => x.slot == k || x.oldSlot == k)

def installGate (s : State) : Option Nat := updGate (fun t => need (!t.slotBusy) cState none) s

/-- INSTALL; a refusal for a busy slot shows SLOT_BUSY in UPD_STAT. -/
def cmdInstall (iss : Issuer) (s : State) : State :=
  let c : Call := ⟨P.UPD, 0x12, iss⟩
  let s' := command c installGate (updBegin 2 0x12 0 0) s
  if (precheck c s).isNone && s.populated P.UPD && !s.halted && s.updServes && s.slotBusy then
    s'.setF R.UPD_STAT 23 16 kSlotBusy
  else s'

/-! ### Ends of operations -/

/-- The running operation fails: its final code, UPD_STAT.FAIL and the error (R488, R489). -/
def updFails (f code : Nat) (s : State) : State :=
  let s := finishErr P.UPD code (s.setF R.UPD_STAT 23 16 f)
  recordErr P.UPD 0x40 (s.cmdIss P.UPD) (s.cmdOp P.UPD) s

/-- The staged header shows in HDR_INFO and STAGED_ID once it is complete (R488). -/
def showStaged (s : State) : State :=
  let covered := s.boot.written.foldl (fun a r => a + (min r.2 headerLen - min r.1 headerLen)) 0
  if covered < headerLen then s.clear [R.UPD_HDR_INFO, R.UPD_STAGED_ID_LO, R.UPD_STAGED_ID_HI] else
  let h := Memory.readN s.boot.staging 0 headerLen
  let s := s.setRegN R.UPD_HDR_INFO (hdrKind h % 256 + 256 * (imgN h 8 4 % 4) + 2 ^ 16 * (hdrSvn h % 128))
  s.setReg64 R.UPD_STAGED_ID_LO (hdrId h)

/-- ERASE ends: the first `n` MiB of staging are erased; bytes written above them stay written (R481). -/
def eraseEnd (n : Nat) (s : State) : State :=
  let e := n * 0x100000
  let left := s.boot.written.filterMap fun r => if e < r.2 then some (max e r.1, r.2) else none
  let wipe (b : Boot) : Boot :=
    { b with staging := Memory.clear b.staging 0 e, erased := max b.erased e, written := left }
  finish P.UPD cDone (showStaged ((updBoot wipe s).setRegN R.UPD_STG_BYTES (left.foldl (fun a r => max a r.2) 0)))

/-- CHUNK ends: the bytes of the host region stand in staging. -/
def chunkEnd (host : Nat) (bad : Bool) (s : State) : State :=
  let o := s.regN R.UPD_STG_OFFSET
  let n := s.regN R.UPD_STG_LEN
  let src := hostBase host + s.regN R.UPD_STG_SRC
  let put (b : Boot) : Boot :=
    { b with staging := Memory.writeN b.staging o (s.comms src n), written := (o, o + n) :: b.written }
  let poisoned := s.poisoned src n
  let s := commsRead 3 src n s
  if poisoned then updFails 0 cIntegrity s
  else if bad then updFails 0 cIntegrity (updBoot put s)
  else finish P.UPD cDone (showStaged ((updBoot put s).maxReg R.UPD_STG_BYTES (o + n)))

/-- A slot's container, state, SVN and identity. -/
def fillSlot (k : Nat) (h plain : List Byte) (s : State) : State :=
  let put (b : Boot) : Boot := { b with headers := setAt b.headers k h, flash := setAt b.flash k plain }
  let s := (updBoot put s).setReg64 (R.BOOT_SLOT_ID_LO + 8 * k) (hdrId h)
  slotChanged (s.setRegN (slotA k) (slotInstalled + 2 ^ 16 * (hdrSvn h % 128) + 16 * b2n (s.slotSelected k)))

/-- A slot is erased. -/
def emptySlot (k : Nat) (s : State) : State :=
  let put (b : Boot) : Boot := { b with headers := setAt b.headers k [], flash := setAt b.flash k [] }
  let s := (updBoot put s).setReg64 (R.BOOT_SLOT_ID_LO + 8 * k) 0
  slotChanged (s.setRegN (slotA k) (16 * b2n (s.slotSelected k)))

/-- The slot INSTALL writes, from the kind of the staged header. -/
def State.installSlot (s : State) : Option Nat :=
  let k := hdrKind (Memory.readN s.boot.staging 0 headerLen)
  if 1 ≤ k ∧ k ≤ 3 then some (s.inactiveSlot k) else none

/-- INSTALL ends (R482). -/
def installEnd (late bad : Bool) (us : Nat) (c : Opened) (s : State) : State :=
  let s := s.setRegN R.UPD_INSTALL_US (min us 0xFFFFFFFF)
  let kind := s.regF R.UPD_STAT 9 8
  if s.installSlot.any s.slotNamed then updFails kSlotBusy cState (setUpd 1 kind s)
  else if late || bad then
    let s := match s.installSlot with | some k => emptySlot k s | none => s
    updFails 0 (if late then cTimeout else cIntegrity) (setUpd 1 kind s)
  else
    match checkStaged s.updKinds s.boot.recovery c s with
    | .fail f => updFails f (failStatus f) (setUpd 1 kind (cryptCount f s))
    | .ok h plain =>
      let s := fillSlot (s.inactiveSlot (hdrKind h)) h plain (cryptCount 0 s)
      finish P.UPD cDone (irqSet P.UPD 8 ((setUpd 3 kind s).bump R.UPD_INSTALL_CNT))

/-- UPD_OPERATION_END. -/
def operationEnd (late bad : Bool) (us : Nat) (c : Opened) (s : State) : State :=
  match s.boot.op with
  | none => s
  | some (op, a, _, _) =>
    let s := updProgress (if late || bad then s.regF R.UPD_STAT 31 24 else 100) (updBoot (fun x => { x with op := none }) s)
    if op = 0x12 then installEnd late bad us c s
    else if late then updFails 0 cTimeout s
    else if op = 0x10 then (if bad then updFails 0 cIntegrity s else eraseEnd a s)
    else chunkEnd a bad s

/-- A power loss or restart during INSTALL leaves its slot EMPTY (R482). -/
def dropInstall (s : State) : State :=
  match s.boot.op with
  | some (0x12, _, _, _) =>
    updBoot (fun x => { x with op := none }) (match s.installSlot with | some k => emptySlot k s | none => s)
  | _ => updBoot (fun x => { x with op := none }) s

/-! ### ACTIVATE, ABANDON, confirmation (R483, R484, R491) -/

def State.installedOf (s : State) (k : Nat) : Option Nat :=
  (kindSlots k).find? fun j => s.slotState j == slotInstalled

def activateGate (arg : Nat) (s : State) : Option Nat :=
  need (!(arg % 4 == 0)) cRange <|
    updGate (fun t => need ((t.installedOf (arg % 4)).isSome && t.trialSlot.isNone && !(t.pgState P.UPD == stFault)
      && t.updKinds.contains (arg % 4)) cState none) s

/-- The INSTALLED slot of a kind goes into trial (R483). -/
def activate (k : Nat) (s : State) : State :=
  match s.installedOf k with
  | none => s
  | some j =>
    let s := (kindSlots k).foldl (fun t i => t.setB (slotA i) 3 false) s
    let s := (s.setB (slotA j) 3 true).setF (slotA j) 11 8 (s.regF R.UPD_CFG 17 16)
    setUpd 4 k (setSlot j slotTrial 0 (s.setRegN R.UPD_TRIAL_RUN_S 0))

def cmdActivate (iss : Issuer) (arg : Nat) : State → State :=
  quick ⟨P.UPD, 0x13, iss⟩ (activateGate arg) (activate (arg % 4))

def State.installedSlot (s : State) : Option Nat := (List.range 6).find? fun j => s.slotState j == slotInstalled

def cmdAbandon (iss : Issuer) : State → State :=
  quick ⟨P.UPD, 0x14, iss⟩ (updGate fun s => need s.installedSlot.isSome cState none) fun s =>
    match s.installedSlot with
    | some j => setUpd 0 (s.regF R.UPD_STAT 9 8) (setSlot j slotBad 0 s)
    | none => s

def cmdUpdClr (iss : Issuer) : State → State :=
  quick ⟨P.UPD, 0x15, iss⟩ noCheck fun s => s.clear [R.UPD_INSTALL_CNT, R.UPD_FALLBACK_CNT]

def cmdCryptClr (iss : Issuer) : State → State :=
  quick ⟨P.CRYPT, 0x10, iss⟩ noCheck fun s =>
    s.clear [R.CRYPT_SIG_OK_CNT, R.CRYPT_SIG_FAIL_CNT, R.CRYPT_TAG_FAIL_CNT, R.CRYPT_HASH_FAIL_CNT, R.CRYPT_ARB_REJ_CNT]

/-- The checks of a HEALTH_CONFIRM write (R484, R491). -/
def healthGate (v : Word) (s : State) : Option Nat :=
  need (v == 0x48434F4E) cRange (need (!s.halted && !s.boot.recovery && s.trialInUse.isSome) cState none)

/-- The trial slot in use is confirmed. -/
def healthConfirm (s : State) : State := match s.trialInUse with | some k => confirmSlot k s | none => s

/-- The UPD state outside an operation: TRIAL while a slot is in trial (R492). -/
def updRest (s : State) : State :=
  match s.trialSlot with
  | some k => setUpd 4 (k / 2 + 1) s
  | none => setUpd 0 0 s

/-! ### Meanings -/

def execErase (iss : Issuer) (arg : BitVec 16) (s : State) : Host.Outcome State Fault Refusal := .next (cmdErase iss arg.toNat s)
def execChunk (iss : Issuer) (_arg : BitVec 16) (s : State) : Host.Outcome State Fault Refusal := .next (cmdChunk iss s)
def execInstall (iss : Issuer) (_arg : BitVec 16) (s : State) : Host.Outcome State Fault Refusal := .next (cmdInstall iss s)
def execUpdOperationEnd (late bad : Bool) (us : Nat) (c : Opened) (s : State) : Host.Outcome State Fault Refusal :=
  .next (operationEnd late bad us c s)
def execActivate (iss : Issuer) (arg : BitVec 16) (s : State) : Host.Outcome State Fault Refusal :=
  .next (cmdActivate iss arg.toNat s)
def execAbandon (iss : Issuer) (_arg : BitVec 16) (s : State) : Host.Outcome State Fault Refusal := .next (cmdAbandon iss s)
def execUpdClrCnt (iss : Issuer) (_arg : BitVec 16) (s : State) : Host.Outcome State Fault Refusal := .next (cmdUpdClr iss s)
def execCryptClrCnt (iss : Issuer) (_arg : BitVec 16) (s : State) : Host.Outcome State Fault Refusal := .next (cmdCryptClr iss s)

end Sys2Proof.Machine
end

