-- ==== Sys2Proof/Machine/Pages.lean ====
section
/-!
DEFINITION. Enabling and disabling a page (R51), its function reset (R59, R60), and configuration parity (R65), each with
the effect the page's chapter gives it.
-/
namespace Sys2Proof.Machine

/-- The kind and instance of a page; an unpopulated slot counts as a test page, which has no function. -/
def kindOf (p : Nat) : PageKind × Nat := (pageKind p).getD (.tst, 0)

/-! ### EN set (R51) -/

/-- An enabled channel page shows its link (R264). -/
def grdState (ch : Nat) (s : State) : State :=
  s.setPgState (P.GRD + ch) (if s.regB (grdA ch R.GRD_CH_STAT) 0 then stActive else stReady)

/-- PG_STAT.STATE of an enabled page whose chapter gives it one state for its idle function. -/
def pageOn (p st : Nat) (s : State) : State := (s.setEn p true).setPgState p st

/-- PG_CTRL.EN of page `p` goes from 0 to 1, and the function starts. -/
def enableNow (p : Nat) (s : State) : State :=
  match kindOf p with
  | (.starter, _) => updStarter (fun x => { x with running := true, started := false }) (pageOn p stInit s)
  | (.grds, _) => grdsStart s
  | (.relay, _) => relayStart s
  | (.smsg, _) => smsgStart s
  | (.can, n) => canEnable n s
  | (.fld, g) => fldStart g (s.setEn p true)
  | (.grd, ch) => grdState ch (s.setEn p true)
  | (.pacer, _) => pageOn p (pacerPage s.poc) s
  | (.time, _) => timeStat (pageOn p stReady s)
  | (.eth, n) => ethState n (s.setEn p true)
  | (.baton, _) => batonIdle (s.setEn p true)
  | (.exec, _) => pageOn p (execPageState s.mode) s
  | (.swap, _) => setSwap (s.regF R.SWAP_STAT 2 0) (s.setEn p true)
  | (.debug, _) => pageOn p (if s.mode = modeHold then 7 else stActive) s
  | (.pfc, _) => pageOn p (pfcIdleState s) s
  | (.upd, _) => updRest (s.setEn p true)
  | (.part, _) => pageOn p (if s.role = roleInit then stInit else s.pgState p) s
  | (.tst, _) => s.setEn p true
  | _ => pageOn p stActive s

/-! ### EN cleared -/

/-- Pair `p` is no longer evaluated: its timer stops and its value is 0. -/
def pairStop (p : Nat) (s : State) : State :=
  let s := pairTimer p none s
  (s.setB (pairStatA p) 0 false).setB R.DISC_PAIR_VAL p false

/-- PG_CTRL.EN of page `p` goes from 1 to 0, and the function stops. On a page whose chapter gives EN no effect the bit
alone changes (log entry 40). EN cleared while STARTER is in FAULT stops its boundaries: R86 accepts the write in STOP, R87
has a starter in FAULT keep issuing them (DESIGN CHOICE, log entry 183). -/
def disableNow (p : Nat) (s0 : State) : State :=
  let s := dropBlocks p s0
  let off (s : State) : State := (s.setEn p false).setPgState p stOff
  match kindOf p with
  | (.starter, _) => updStarter (fun x => { x with running := false, started := false }) (off s)
  | (.grds, _) => grdsStop 2 (s.setEn p false)
  | (.relay, _) => relayStop s
  | (.can, n) => canDisable n s
  | (.fld, g) => fldStop g stOff (s.setEn p false)
  | (.measa, _) => measaStop (off s)
  | (.measf, _) => measfStop (off s)
  | (.sbo, _) => off (forN 4 (fun i t => setTest i testZero (abortTest i t)) s)
  | (.disc, _) => off (forN 32 pairStop s)
  | (.smsg, _) => off s
  | (.pacer, _) => off s
  | (.eth, n) => ethState n (ethLink n false (s.setEn p false))
  | (.shp, _) => off (closeSession 1 (closeSession 0 s))
  | _ => s.setEn p false

/-! ### Function reset (R59, R60) -/

/-- A timed output's pin takes its off value. -/
def toutOff (t : Nat) (s : State) : State := setTout t { s.tout t with cur := s.regB (toutA t) 8 } s

/-- The events of compare channel `j` not yet sent leave the queues. -/
def unqueueCmp (j : Nat) (s : State) : State :=
  let s := forN 4 (fun g t => updGroup g (fun x => { x with
    queue := x.queue.filter fun e => !(e.kind == 1 && e.target == j) }) t) s
  updTime (fun y => { y with cmps := modAt (fun x => (none, x.2)) y.cmps j }) s

/-- TCAP stops every channel and removes every schedule; its outputs take their off value (R306). -/
def tcapStop (s : State) : State := forN 32 (fun j t => unqueueCmp j (toutOff j t)) (cancelTouts s)

/-- The function of page `p` is reset, and its registers with it. -/
def resetNow (p : Nat) (s0 : State) : State :=
  let s := if p = P.GRDMB ∨ (P.CAN ≤ p ∧ p < P.CAN + 8) then s0 else dropBlocks p s0
  match kindOf p with
  | (.starter, _) => s
  | (.swap, _) =>
    let s := resetRegs p (releaseStaged s)
    setSwap swIdle ((s.setF R.SWAP_STAT 8 8 s.exec.codeArea).setF R.SWAP_STAT 9 9 s.exec.instArea)
  | (.debug, _) =>
    let w := s.reg R.DEBUG_DBG_STAT
    let s := updExec (fun e => { e with bps := [] }) (resetRegs p (dropForces s))
    (showForces (s.setReg R.DEBUG_DBG_STAT w)).setPgState p (if s.mode = modeHold then 7 else stOff)
  | (.grd, ch) =>
    let s := resetRegs p (phyLink ch false s)
    s.putPgState p stOff
  | (.grds, _) =>
    let ran := s.pocRuns
    let s := updGrd (fun g => { g with claims := [], claiming := none, relEnd := [] }) (grdsStop 3 s)
    let s := showAbsent (claimCount (resetRegs p s))
    if ran then s.setF R.GRDS_NODE_STAT 7 4 3 else s
  | (.fdg, g) => resetRegs p (updGroup g (fun x => { x with seen := List.replicate 64 false }) s)
  | (.grdmb, _) =>
    let rx := s.reg R.GRDMB_RX_BUF_CNT
    let tx := s.reg R.GRDMB_TX_BUF_CNT
    ((resetRegs p (mbClear s)).setReg R.GRDMB_RX_BUF_CNT rx).setReg R.GRDMB_TX_BUF_CNT tx
  | (.pacer, _) =>
    updGrd (fun g => { g with vals := [], prev := [], oc := 0, prevOc := 0, measured := false, prevMeasured := false,
                              probes := [none, none] }) (resetRegs p s)
  | (.tcap, _) => resetRegs p (tcapStop s)
  | (.can, n) => canReset n s
  | (.relay, _) => resetRegs p (relayStop s)
  | (.eth, n) => resetRegs p (closePort n (ethLink n false s))
  | (.fld, g) =>
    let shut := s.regB (fldA g R.FLD_STAT) 6
    (resetRegs p (fldStop g stOff s)).setB (fldA g R.FLD_STAT) 6 shut
  | (.measa, _) => resetRegs p (measaStop s)
  | (.measf, _) => resetRegs p (measfStop s)
  | (.sbo, _) => resetRegs p (forN 4 (fun i t => setTest i testZero t) s)
  | (.disc, _) => resetRegs p (updSafety (fun x => { x with pairStart := List.replicate 32 none }) s)
  | (.smsg, _) => resetRegs p (updSafety (fun x => { x with conns := [] }) s)
  | (.shp, _) =>
    let keys := s.regF R.SHP_STAT 9 8
    let s := resetRegs p (closeSession 1 (closeSession 0 s))
    (s.setF R.SHP_STAT 9 8 keys).setPgState p stActive
  | (.upd, _) =>
    let run := s.reg R.UPD_TRIAL_RUN_S
    let fb := s.reg R.UPD_FALLBACK_CNT
    let s := resetRegs p (updBoot (fun b => { b with op := none }) s)
    updRest ((s.setReg R.UPD_TRIAL_RUN_S run).setReg R.UPD_FALLBACK_CNT fb)
  | (.dev, _) =>
    let rev := s.reg R.DEV_F1_REV
    ((resetRegs p s).setReg R.DEV_F1_REV rev).setPgState p (if s.boot.recovery then 6 else stActive)
  | _ => resetRegs p s

/-- A function reset is complete: PG_CMDSTAT answers DONE (R59). A CAN reset ends at a bus idle (R323). -/
def resetDone (p : Nat) (s : State) : State :=
  let s := resetNow p s
  match kindOf p with
  | (.can, _) => s
  | _ => if s.busyWith p 0xA5 then finish p cDone s else s

/-- The command a page was executing is aborted by an accepted reset (R60). -/
def abortCommand (p : Nat) (s : State) : State :=
  let mine (d : Deferred) : Bool := match d with
    | .reset q => q == p
    | .flush _ => p == P.RELAY
    | .clrForce => p == P.DEBUG
    | .write a _ => pageOf a == p
  let s := { s with deferred := s.deferred.filter fun d => !mine d }
  updExec (fun e => { e with waiting := e.waiting.filter fun w => !(w.2 == p) }) s

/-- A released group that `uses` names holds the page (R60). -/
def State.held10 (s : State) (uses : Nat → Bool) : Bool := (List.range 8).any fun g => s.released g && uses g

/-- The group a page serves, for checks 10: groups that use the function of page `p`. -/
def State.serves (s : State) (p g : Nat) : Bool :=
  match kindOf p with
  | (.fld, f) => s.usesField g f
  | (.grd, _) | (.grds, _) | (.grdmb, _) | (.smsg, _) | (.pacer, _) => s.hasConns g
  | (.sbo, _) => s.hasSbos g
  | (.disc, _) => s.hasPairs g
  | (.safe, _) => s.sgEn g
  | (.tcap, _) => (List.range 32).any fun t => s.regB (toutA t) 16 && s.toutBound t && s.doGroup (s.toutDo t) == some g
  | _ => false

/-- STOP, NO_PROGRAM or standby, and not HALTED. -/
def State.calm (s : State) : Bool := !s.halted && (s.stopped || s.standby)

/-- Checks 9 and 10 of R55 on a function reset of page `p` (the chapters' tables). -/
def resetGate (p : Nat) (s : State) : Option Nat :=
  match kindOf p with
  | (.boot, _) | (.starter, _) | (.pfc, _) | (.lane, _) | (.xchg, _) | (.mem, _) | (.memx, _) | (.exec, _)
  | (.baton, _) | (.time, _) | (.safe, _) | (.part, _) | (.host, _) | (.pcie, _) | (.crypt, _) | (.recorder, _) =>
    some cState
  | (.swap, _) => need (s.regF R.SWAP_STAT 2 0 == swIdle || s.regF R.SWAP_STAT 2 0 == swStaged) cState none
  | (.debug, _) => notHalted s none
  | (.grd, _) | (.grds, _) | (.grdmb, _) => need (!s.held10 (s.serves p)) cSafety none
  | (.pacer, _) => need (s.poc == pocConfig) cState none
  | (.fld, _) | (.measa, _) | (.measf, _) | (.sbo, _) | (.disc, _) | (.smsg, _) =>
    need s.calm cState (need (!s.held10 (s.serves p)) cSafety none)
  | (.upd, _) => need (!(s.regF R.UPD_STAT 3 0 == 2)) cState none
  | (.tcap, _) => need (!s.held10 (s.serves p)) cSafety none
  | _ => none

/-- The reset acts at the next stride boundary: it changes what the program sees or the module drives (R60). -/
def resetWaits (p : Nat) : Bool :=
  match kindOf p with
  | (.debug, _) | (.grd, _) | (.grds, _) | (.grdmb, _) | (.tcap, _) | (.can, _) | (.relay, _) | (.eth, _) | (.fld, _)
  | (.measa, _) | (.measf, _) | (.sbo, _) | (.disc, _) | (.smsg, _) => true
  | _ => false

/-- Checks 2 to 5 of R55 on a PG_RESET write: the code, and whether PG_CMDSTAT shows it. -/
def resetPrecheck (c : Call) (s : State) : Option (Nat × Bool) :=
  if fieldPage c.page && s.variantN then some (cResource, true)
  else if !s.mayWrite c.page c.iss then some (cNotOwner, false)
  else if 0xF0 ≤ c.page && s.debugLocked then some (cLocked, true)
  else none

/-- A PG_RESET write (R53, R55, R59, R60). -/
def functionReset (p : Nat) (iss : Issuer) (v : Word) (s0 : State) : State :=
  let c : Call := ⟨p, 0xA5, iss⟩
  let s := commandAccess c s0
  if !s.populated p then addressReject iss 7 s else
  match resetPrecheck c s with
  | some (code, ch) => reject c code ch s
  | none =>
    match need (v == 0xA5) cRange (resetGate p s) with
    | some code => reject c code true s
    | none =>
      let s := answer c cBusy (abortCommand p s)
      if resetWaits p then { s with deferred := s.deferred ++ [.reset p] } else resetDone p s

/-! ### Configuration parity (R65) -/

/-- A register word whose parity the sweep checks: PG_CTRL, PG_IRQ_EN and every RW function register. -/
def parityWord (p off : Nat) : Bool :=
  match pageKind p with
  | none => false
  | some (k, _) =>
    off == H.CTRL || off == H.IRQ_EN ||
      (decide (0x40 ≤ off) && (match findRow (pageRows k) off with | some r => r.acc == .rw | none => false))

/-- The analogue inputs whose words stand at `off` of MEASA, and every bound one for MEAS_CFG (R391). -/
def badAi (off : Nat) (s : State) : State :=
  let hit (i : Nat) : Bool := if off < 0x100 then s.regB (R.MEASA_AI_TRIG + 32 * i) 0 else (off - 0x100) / 32 == i
  let mark (i : Nat) : AiChan := { s.aiChan i with bad := (s.aiChan i).bad || hit i }
  { s with meas := { s.meas with ai := (List.range 8).map mark } }

/-- The frequency input whose words stand at `off` of MEASF. -/
def badFi (off : Nat) (s : State) : State :=
  let mark (i : Nat) : FiChan :=
    { s.fiChan i with bad := (s.fiChan i).bad || (decide (0x100 ≤ off) && (off - 0x100) / 32 == i) }
  { s with meas := { s.meas with fi := (List.range 4).map mark } }

/-- A channel of TCAP is disabled at once (R306). -/
def tcapParity (off : Nat) (s : State) : State :=
  if off < 0x180 then s.setB (R.TCAP_CAP_CFG + (off - 0x100)) 16 false
  else if off < 0x400 then
    let j := (off - 0x200) / 16
    unqueueCmp j ((s.setB (cmpA j 0) 0 false).setB R.TCAP_CMP_ARMED j false)
  else
    let t := (off - 0x400) / 4
    toutOff t ((cancelTout t s).setB (toutA t) 16 false)

/-- The page's reaction to a parity error in the word at `off`, after it has entered FAULT. -/
def parityReact (p off : Nat) (s : State) : State :=
  match kindOf p with
  | (.starter, _) => moduleCause 4 s
  | (.swap, _) =>
    if s.swapState = swArmed then setSwap swStaged s
    else if s.swapState = swTrial then s.setReg R.SWAP_TRIAL_LEFT (regReset R.SWAP_CONFIRM_WIN) else s
  | (.debug, _) =>
    let a := if off < 0x80 then R.DEBUG_BP + (off - 0x60) else forceA ((off - 0x80) / 16)
    if off < 0x60 then s else { s with deferred := s.deferred ++ [.write a (setBit (s.reg a) 31 false)] }
  | (.time, _) => timeStat (updTime (fun x => { x with run := 0 }) (s.setRegN R.TIME_INCREMENT 0x08000000))
  | (.tcap, _) => if off < 0x100 then s else tcapParity off s
  | (.can, n) => dropTx n true s
  | (.fld, g) => fldStop g stFault s
  | (.measa, _) => if off < 0x40 then s else badAi off s
  | (.measf, _) => badFi off s
  | (.sbo, _) | (.disc, _) | (.smsg, _) =>
    forN 8 (fun g t => if t.serves p g then lockGroup g causeConfig 0 t else t) s
  | (.shp, _) => closeSession 1 (closeSession 0 s)
  | (.grds, _) | (.pacer, _) => pocCheck s
  | _ => s

/-- A fault of a page makes the groups that it serves safe; `was` is the state before the page's reaction (R65). -/
def servedSafe (p : Nat) (was s : State) : State := forN 8 (fun g t => if was.serves p g then groupSafe g t else t) s

/-! ### The protected tables (R242, R325, R420) -/

/-- Words of a table memory: 4 Grador schedule, 5 routes, 6 connections. -/
def tableWords (m : Nat) : Nat := if m = 6 then 1024 else 8192

/-- The page whose table it is. -/
def tablePage (m : Nat) : Nat := if m = 4 then P.GRDS else if m = 5 then P.RELAY else P.SMSG

/-- A double error in a table puts its page in FAULT (R271, R336, R424). GRDS has the code SCHED_ECC for it; RELAY and SMSG
have none, and record PARITY (DESIGN CHOICE, log entry 186). -/
def tableDouble (m w : Nat) (s : State) : State :=
  let p := tablePage m
  if s.pgState p = stFault then s else
  let s := recordErr p (if m = 4 then 0x45 else cParity) srcHardware (w % 1024) (s.putPgState p stFault)
  servedSafe p s (parityReact p 0x40 s)

/-- The scrubber of a table reads a word: a single error is corrected at once. -/
def tableRead (m w : Nat) (s : State) : State :=
  match s.eccAt m w with
  | .good => s
  | .single _ => freshWords m (8 * w) 8 s
  | .double _ => tableDouble m w s

/-- The word of a table that its scrubber reads at a tick, evenly over 10 s. -/
def tableWord (m t : Nat) : Nat := t * tableWords m / 10000000 % tableWords m

/-- A tick of the table scrubbers. -/
def tableScrub (s : State) : State :=
  if s.mems.upset.isEmpty then s else
  [4, 5, 6].foldl (fun t m => if tableWord m s.now = tableWord m (s.now - 1) then t else tableRead m (tableWord m s.now) t) s

/-- A sweep finds a word with bad parity (R65). -/
def paritySweep (p word bytes : Nat) (s : State) : State :=
  let off := 4 * word
  if !s.populated p || !parityWord p off || bytes % 16 = 0 then s else
  let first := !s.regB (pa p H.PARITY) 0
  let s := if first then
      irqSet p 2 (s.setRegN (pa p H.PARITY) (1 + word % 2 ^ 10 * 4 + bytes % 16 * 2 ^ 12))
    else s
  let s := s.putPgState p stFault
  let s := recordErr p cParity srcHardware (word % 1024) s
  servedSafe p s (parityReact p off s)

/-! ### Meanings -/

def execFunctionReset (page : BitVec 8) (iss : Issuer) (value : Word) (s : State) : Host.Outcome State Fault Refusal :=
  .next (functionReset page.toNat iss value s)
def execParitySweep (page : BitVec 8) (word : BitVec 10) (bytes : BitVec 4) (s : State) :
    Host.Outcome State Fault Refusal := .next (paritySweep page.toNat word.toNat bytes.toNat s)

end Sys2Proof.Machine
end

