-- ==== Sys2Proof/Machine/RegWrite.lean ====
section
/-!
DEFINITION. A write to a register other than PG_CMD and PG_RESET: the ordered checks of R55 with each page's ranges and
gates, the held low words of R48, and the effect.
-/
namespace Sys2Proof.Machine

/-! ### Addresses (R46, R47, R61) -/

/-- The bits PG_IRQ_EN holds: all but the reserved [7:4] (R61). -/
abbrev irqMask : Word := 0xFFFFFF0F#32

/-- The register at an offset of a populated page: a header register or a row of its table. -/
def regDefined (k : PageKind) (off : Nat) : Bool := decide (off < 0x40) || (findRow (pageRows k) off).isSome

/-! ### Held halves (R48, R442) -/

/-- The low words that a high word commits (R48, R301). -/
def lowWords (a : Nat) : List Nat :=
  if a = R.SWAP_AT_HI then [R.SWAP_AT_LO]
  else if a = R.MEMX_ATOM_OPND_HI then [R.MEMX_ATOM_OPND_LO]
  else if a = R.TIME_ADJ_SEC_HI then [R.TIME_ADJ_SEC_LO, R.TIME_ADJ_NS]
  else if R.TCAP_CMP_CFG ≤ a ∧ a < R.TCAP_CMP_CFG + 512 ∧ a % 16 = 8 then [a - 4]
  else if R.DEBUG_FORCE_TGT ≤ a ∧ a < R.DEBUG_FORCE_TGT + 1024 ∧ a % 16 = 8 then [a - 4]
  else []

/-- A word that is held until its high word is written. -/
def isLowWord (a : Nat) : Bool :=
  a == R.SWAP_AT_LO || a == R.MEMX_ATOM_OPND_LO || a == R.TIME_ADJ_SEC_LO || a == R.TIME_ADJ_NS
    || (decide (R.TCAP_CMP_CFG ≤ a ∧ a < R.TCAP_CMP_CFG + 512) && a % 16 == 4)
    || (decide (R.DEBUG_FORCE_TGT ≤ a ∧ a < R.DEBUG_FORCE_TGT + 1024) && a % 16 == 4)

/-- Where an issuer's low word is held. -/
def heldKey (iss : Issuer) (a : Nat) : Nat := issuerCode iss * 2 ^ 20 + a

/-- The low word an issuer commits: what it wrote, or the present one. -/
def State.lowWord (s : State) (iss : Issuer) (a : Nat) : Word := (mapGet s.held (heldKey iss a)).getD (s.reg a)

/-- The low words of `a` take their values, and are held no more. -/
def commitLows (iss : Issuer) (a : Nat) (s : State) : State :=
  (lowWords a).foldl (fun t l =>
    { (t.setReg l (t.lowWord iss l)) with held := t.held.filter fun e => !(e.1 == heldKey iss l) }) s

/-! ### Check 8: ranges -/

/-- The ranges the table states for the fields of a word (R13). -/
def RegRow.inRange (r : RegRow) (w : Word) : Bool :=
  r.ranges.all fun (hi, lo, mn, mx) => decide (mn ≤ fld w hi lo ∧ fld w hi lo ≤ mx)

/-- NBT keeps R308. -/
def nbtOk (w : Word) : Bool :=
  decide (80 ≤ fld w 6 0 * (1 + fld w 15 7 + fld w 23 16) ∧ fld w 31 24 ≤ fld w 23 16)

/-- DBT keeps R308. -/
def dbtOk (w : Word) : Bool :=
  let bit_ := fld w 4 0 * (1 + fld w 10 5 + fld w 15 11)
  decide (10 ≤ bit_ ∧ fld w 20 16 ≤ fld w 15 11) && (bitOf w 22 || decide (40 ≤ bit_))

/-- No output of group `g` with SBOs `sbo` and DOs `dos` belongs to another group (R392). -/
def membersOk (g sbo : Nat) (dos : Word) (s : State) : Bool :=
  (List.range 8).all fun h => h == g || !s.sgEn h ||
    (s.regF (sgA h 0) 3 0 &&& sbo == 0 && (s.reg (sgA h sgDo) &&& dos) == 0)

/-- SG_CFG and SG_DO (R392, R399): reserved reset sources, membership in one group. -/
def sgOk (g : Nat) (isDo : Bool) (w : Word) (s : State) : Bool :=
  if isDo then !s.sgEn g || membersOk g (s.regF (sgA g 0) 3 0) w s
  else
    let src := fld w 16 8
    decide (src < 64 ∨ 256 ≤ src)
      && (!bitOf w 31 || membersOk g (fld w 3 0) (s.reg (sgA g sgDo)) s)

/-- The compare channel's words (R298, R305). -/
def cmpOk (iss : Issuer) (j word : Nat) (w : Word) (s : State) : Bool :=
  let cfg := s.reg (cmpA j 0)
  if word = 0 then !(bitOf w 3 && bitOf w 1) || decide (4000 ≤ s.regN (cmpA j 12))
  else if word = 8 then
    let t := (s.lowWord iss (cmpA j 4)).toNat + 2 ^ 32 * w.toNat
    !bitOf cfg 3 || decide (s.ttNs + 4000 ≤ t)
  else if word = 12 then
    decide (1000 ≤ w.toNat ∧ w.toNat % 8 = 0) && (!(bitOf cfg 3 && bitOf cfg 1) || decide (4000 ≤ w.toNat))
  else true

/-- AI_CFG and AI_TRIG: no reserved code; single-cycle mode needs no rank filter, no average and a trigger source (R379);
TRIG_CMP is not the stride trigger's channel (R380). -/
def aiOk (i word : Nat) (w : Word) (s : State) : Bool :=
  let trig := if word = 4 then w else s.reg (R.MEASA_AI_TRIG + 32 * i)
  let cfg := if word = 0 then w else s.reg (R.MEASA_AI_CFG + 32 * i)
  let single := fld cfg 1 0 == 2
  if word = 0 then
    !(fld w 1 0 == 3) && !(fld w 11 10 == 3) && (!single || (fld w 9 8 == 0 && fld w 23 16 == 0 && !(fld trig 1 0 == 0)))
  else if word = 4 then
    (!single || !(fld w 1 0 == 0)) && !(s.regB R.MEASA_MEAS_CFG 7 && fld w 12 8 == s.regF R.MEASA_MEAS_CFG 4 0)
  else true

/-- The ranges a chapter states beside its table. -/
def chapterRange (k : PageKind) (off : Nat) (iss : Issuer) (w : Word) (s : State) : Bool :=
  match k with
  | .starter => if off = 0x40 then decide (s.regF R.STARTER_STRIDE_PHASE 16 0 < fld w 16 0)
                else decide (fld w 16 0 < s.regF R.STARTER_STRIDE_LEN 16 0)
  | .mem | .memx => !(off == R.MEM_MARCH_CFG) || !(fld w 1 0 == 3)
  | .grds => !(off == 0x44) || decide (2 * fld w 25 16 ≤ fld w 13 0)
  | .tcap =>
    if off < 0x180 then decide (fld w 3 0 ≤ 6)
    else if 0x200 ≤ off ∧ off < 0x400 then cmpOk iss ((off - 0x200) / 16) (off % 16) w s
    else true
  | .can =>
    if off = 0x40 then !(bitOf w 1 && bitOf w 2) else
    if off = 0x44 then nbtOk w else if off = 0x48 then dbtOk w else true
  | .relay => !(decide (0xC0 ≤ off)) || decide (fld w 4 0 ≤ 16)
  | .measa =>
    if off = 0x40 then decide (4 ≤ fld w 24 8 ∧ fld w 24 8 < s.regF R.STARTER_STRIDE_LEN 16 0)
    else aiOk ((off - 0x100) / 32) (off % 32) w s
  | .safe => sgOk ((off - 0x100) / 32) (off % 32 == 4) w s
  | .disc => !bitOf w 31 || !(fld w 5 0 == fld w 13 8)
  | .upd => if off = 0x48 ∨ off = 0x4C ∨ off = 0x50 then fld w 2 0 == 0 else true
  | .env => if off = 0x68 then decide ((BitVec.ofNat 16 (fld w 15 0)).toInt < (BitVec.ofNat 16 (fld w 31 16)).toInt)
            else true
  | _ => true

/-! ### Checks 9 to 11: state, safety, resources -/

/-- The program binds channel `chan` of a page as an input slot, an output slot or a timed output. -/
def State.isBound (s : State) (kind page chan : Nat) : Bool :=
  s.binds.any fun b => b.kind == kind && b.page == page && b.chan == chan

/-- The program drives DO `i` (module index). -/
def State.doBound (s : State) (i : Nat) : Bool :=
  s.isBound 1 (P.FLD + i / 8) (i % 8) || s.binds.any fun b => b.kind == 3 && b.page == P.TCAP && s.toutDo b.chan == i

/-- Writes gated by the mode alone: NO_PROGRAM, STOP and standby, and not HALTED. -/
def calmGate (s : State) : Option Nat := need s.calm cState none

/-- A write to a channel of a field or measurement page: in a calm mode always, in RUN, HOLD and STEP for a channel that
nothing uses (R368, R390). -/
def channelGate (used : Bool) (s : State) : Option Nat :=
  need (!s.halted && (s.calm || !used)) cState none

/-- FLD writes (R368). -/
def fldGate (g off : Nat) (s : State) : Option Nat :=
  if 0x80 ≤ off ∧ off < 0xC0 then
    let c := (off - 0x80) / 4
    channelGate (s.isBound 0 (P.FLD + g) c || s.diSafety (16 * g + c)) s
  else if 0xC0 ≤ off ∧ off < 0xE0 then
    let i := 8 * g + (off - 0xC0) / 4
    channelGate (s.doBound i || (s.doGroup i).isSome) s
  else calmGate s

/-- MEASA writes (R390). -/
def measaGate (off : Nat) (s : State) : Option Nat :=
  if off < 0x100 then
    channelGate ((List.range 8).any fun i => s.isBound 0 P.MEASA i && s.regB (R.MEASA_AI_TRIG + 32 * i) 0) s
  else channelGate (s.isBound 0 P.MEASA ((off - 0x100) / 32)) s

/-- SAFE, SBO and DISC configuration: a group that is RELEASED keeps its members (R423). -/
def safetyGate (gs : List Nat) (s : State) : Option Nat :=
  need (s.calm && (s.standby || gs.all fun g => !s.released g)) cState none

/-- The loaded program binds filter `f` of a CAN controller. -/
def State.filterBound (s : State) (n f : Nat) : Bool :=
  s.binds.any fun b => b.kind == 2 && b.page == P.CAN + n && b.chan == f

/-- The gates of a RW function register (checks 9 to 11). -/
def stateGate (k : PageKind) (inst off : Nat) (w : Word) (s : State) : Option Nat :=
  match k with
  | .starter => need s.stopped cState none
  | .pfc => none
  | .lane | .xchg => need (s.stopped || s.standby) cState none
  | .mem | .memx => if off = R.MEM_MARCH_CFG then need s.mems.march.isNone cState none else none
  | .exec => need (s.stopped || s.standby) cState none
  | .swap =>
    let st := s.regF R.SWAP_STAT 2 0
    if off = 0x40 then need (!(st == swTrial) && !(st == swReverting)) cState none
    else need (st == swIdle || st == swStaged) cState none
  | .debug => forceGate s
  | .baton => need (s.stopped || s.standby) cState none
  | .grd => need (s.poc == pocConfig) cState none
  | .grds => if off = 0x74 then none else need (s.poc == pocConfig) cState none
  | .pacer => need (s.poc == pocConfig) cState none
  | .tcap =>
    if 0x400 ≤ off then
      need (s.stopped || s.standby) cState (need (!(s.variantN && bitOf w 16)) cResource none)
    else notHalted s none
  | .can =>
    if off < 0x4C then need (s.canState inst == canOff) cState none
    else if 0x100 ≤ off then
      need (s.canState inst == canOff || !s.filterBound inst ((off - 0x100) / 8) || s.stopped) cState none
    else none
  | .relay => need (!s.en P.RELAY) cState none
  | .fld => fldGate inst off s
  | .measa => measaGate off s
  | .measf => channelGate (s.isBound 0 P.MEASF ((off - 0x100) / 32)) s
  | .safe =>
    let names := if off % 32 = 4 then !(w == 0) else !(fld w 3 0 == 0) || (bitOf w 31 && decide (fld w 16 8 < 64))
    match safetyGate [(off - 0x100) / 32] s with
    | some c => some c
    | none => need (!(s.variantN && names)) cResource none
  | .sbo => safetyGate ((s.sboGroup ((off - 0x100) / 32)).toList) s
  | .disc =>
    match safetyGate [s.regF (pairA ((off - 0x100) / 8)) 30 28, fld w 30 28] s with
    | some c => some c
    | none => need (!(s.variantN && bitOf w 31)) cResource none
  | .part =>
    if s.halted then some cState
    else if s.role = roleActive ∨ s.role = roleSingle then need s.stopped cState none
    else need s.stbyRole cState none
  | .upd =>
    let st := s.regF R.UPD_STAT 3 0
    if off = 0x40 then need (s.boot.recovery || (!s.halted && s.trialSlot.isNone)) cState none
    else need (s.boot.recovery || !(st == 2)) cState none
  | _ => none

/-! ### PG_CTRL (R51) -/

/-- Checks on a write that sets EN: the state gate, then the page's validation with its own error code. R86 gives no answer
for EN from 0 to 1 in RUN or HOLD: the model answers STATE_REJECT, and a START that waits for the boundary at which EN = 0
takes effect leaves RUN with EN = 0 (DESIGN CHOICE, log entry 183). -/
def enableGate (k : PageKind) (s : State) : Option Nat :=
  match k with
  | .starter => need s.stopped cState none
  | .pacer => need (s.poc == pocConfig) cState none
  | .grds => need (s.poc == pocConfig) cState (need (schedCheck s).isNone 0x40 none)
  | .relay => need (relayFail s).isNone 0x42 none
  | .smsg => need (connFail s).isNone 0x40 none
  | _ => none

/-- Checks on a write that clears EN. -/
def disableGate (p : Nat) (k : PageKind) (s : State) : Option Nat :=
  match k with
  | .starter => need s.stopped cState none
  | .pfc | .lane | .xchg | .mem | .memx | .part | .host | .pcie | .boot | .crypt | .recorder => some cState
  | .grds => if s.poc = pocConfig then none else need (!s.held10 (s.serves p)) cSafety none
  | .pacer => need (s.poc == pocConfig) cState none
  | .fld | .measa | .measf | .sbo | .disc | .smsg => need s.calm cState (need (!s.held10 (s.serves p)) cSafety none)
  | _ => none

/-- Checks 8 to 11 on a PG_CTRL write. Pages that refuse to be disabled refuse every write of EN = 0. -/
def ctrlGate (p : Nat) (k : PageKind) (w : Word) (s : State) : Option Nat :=
  let on := bitOf w 0
  if k = .pacer then need (s.poc == pocConfig) cState none
  else if on then (if s.en p then none else enableGate k s)
  else if s.en p then disableGate p k s
  else match k with
    | .pfc | .lane | .xchg | .mem | .memx | .part | .host | .pcie | .boot | .crypt | .recorder => some cState
    | _ => none

/-- Clearing EN waits for the next boundary (R25 and the chapters' tables). -/
def disableWaits (k : PageKind) : Bool :=
  match k with
  | .starter | .grds | .can | .relay | .fld | .measa | .measf | .sbo | .disc | .smsg | .eth => true
  | _ => false

/-- EN as a write asks for it takes effect. -/
def ctrlNow (p : Nat) (w : Word) (s : State) : State :=
  if bitOf w 0 then (if s.en p then s else enableNow p s) else if s.en p then disableNow p s else s

/-- A PG_CTRL write of the page waits for the next boundary. -/
def State.ctrlWaits (s : State) (p : Nat) : Bool :=
  s.deferred.any fun d => match d with
    | .write a _ => a == pa p H.CTRL
    | _ => false

/-- A PG_CTRL write that has passed; a later one waits behind one that waits (R25). The loader's enables act at release (R477). -/
def ctrlWrite (p : Nat) (k : PageKind) (iss : Issuer) (w : Word) (s : State) : State :=
  let s := if k = .grds then s.setB (pa p H.CTRL) 1 (bitOf w 1) else s
  let on := bitOf w 0
  if on == s.en p && !s.ctrlWaits p then s
  else if iss = .loader then
    if on then updBoot (fun b => { b with enables := b.enables ++ [p] }) (s.setEn p true) else
    updBoot (fun b => { b with enables := b.enables.filter fun q => !(q == p) }) (s.setEn p false)
  else if s.ctrlWaits p || (!on && disableWaits k) || k == .can then
    { s with deferred := s.deferred ++ [.write (pa p H.CTRL) w] }
  else ctrlNow p w s

/-! ### The checks of R55 -/

/-- Checks 3 to 11 on a write to a defined register: the code, if any. The loader writes PART before it has a role
(R477). -/
def writeCheck (iss : Issuer) (a : Nat) (w : Word) (s : State) : Option Nat :=
  let p := pageOf a
  let off := offOf a
  let (k, inst) := kindOf p
  if fieldPage p && s.variantN && !(off == H.IRQ_RAW) && !(off == H.IRQ_EN) && (decide (0x40 ≤ off) || off == H.CTRL) then
    some cResource
  else if !s.mayWrite p iss then some cNotOwner
  else if 0xF0 ≤ p && s.debugLocked && (off == H.CTRL || off == H.IRQ_EN) then some cLocked
  else if a = R.TIME_INCREMENT ∧ !(iss = .supervisor) then some cLocked
  else if off = H.CTRL then ctrlGate p k w s
  else match findRow (pageRows k) off with
    | none => none
    | some r =>
      if a = R.UPD_HEALTH_CONFIRM then healthGate w s
      else if !(r.acc == .rw) then none
      else
        let w := w &&& BitVec.ofNat 32 r.mask
        if !(r.inRange w) then some cRange
        else if k = .debug ∧ off < 0x80 then bpGate w s
        else if k = .debug ∧ off % 16 = 0 then tgtGate ((off - 0x80) / 16) w s
        else if !(chapterRange k off iss w s) then some cRange
        else if k = .part ∧ iss = .loader then none
        else stateGate k inst off w s

/-! ### Effects -/

/-- SG_CFG takes its value: EN makes a group SAFE, or LOCKED where its lock-out is recorded; a group without EN is OFF
(R394). -/
def sgCfgWrite (g : Nat) (w : Word) (s : State) : State :=
  let was := s.sgEn g
  let on := bitOf w 31
  let locked := s.regB R.PART_LOCK_MIRROR g || s.regB R.PART_LOCK_MIRROR (8 + g)
  let s := if was && !on then setGroup g grpOff s else s
  let s := s.setReg (sgA g 0) w
  if on && !was then
    let s := updSafety (fun x => { x with prevReq := setBit x.prevReq g false }) s
    if locked then storeLocks (setGroup g grpLocked s) else setGroup g grpSafe s
  else s

/-- A TOUT_CFG write: a pending schedule goes when its output changes, and the output stands at its off value. -/
def toutCfgWrite (t : Nat) (w : Word) (s : State) : State := toutOff t ((cancelTout t s).setReg (toutA t) w)

/-- A TCAP configuration write. -/
def tcapWrite (off : Nat) (a : Nat) (iss : Issuer) (w : Word) (s : State) : State :=
  if off < 0x180 then
    let j := (off - 0x100) / 4
    let s := if bitOf w 16 && !s.regB a 16 then dropBlock P.TCAP j (s.setReg (R.TCAP_CAP_CNT + 4 * j) 0) else s
    s.setReg a w
  else if off < 0x400 then
    let j := (off - 0x200) / 16
    let s := unqueueCmp j ((commitLows iss a s).setReg a w)
    if off % 16 = 0 then s.setB R.TCAP_CMP_ARMED j (bitOf w 0) else s
  else toutCfgWrite ((off - 0x400) / 4) w s

/-- The effect of a write to a RW register that has passed its checks. -/
def storeReg (k : PageKind) (inst off a : Nat) (iss : Issuer) (w : Word) (s : State) : State :=
  match k with
  | .lane | .xchg => { s with deferred := s.deferred ++ [.write a w] }
  | .can =>
    if 0x100 ≤ off && !(s.canState inst == canOff) then { s with deferred := s.deferred ++ [.write a w] } else s.setReg a w
  | .eth => closePort inst (s.setReg a w)
  | .time => if off = 0x40 then writeTimeCfg w s else if off = 0x50 then writeIncrement w.toNat s
             else (commitLows iss a s).setReg a w
  | .tcap => tcapWrite off a iss w s
  | .safe => if off % 32 = 0 then sgCfgWrite ((off - 0x100) / 32) w s else s.setReg a w
  | .disc =>
    let s := s.setReg a w
    if bitOf w 31 then s else pairStop ((off - 0x100) / 8) s
  | _ => (commitLows iss a s).setReg a w

/-- A write that has passed every check takes effect. -/
def writeEffect (iss : Issuer) (a : Nat) (w : Word) (s : State) : State :=
  let p := pageOf a
  let off := offOf a
  let (k, inst) := kindOf p
  if off = H.CTRL then ctrlWrite p k iss w s
  else if off = H.IRQ_EN then msiCheck s (s.setReg a (w &&& irqMask))
  else if off = H.IRQ_RAW then s.setReg a (s.reg a &&& ~~~w)
  else if a = R.UPD_HEALTH_CONFIRM then healthConfirm s
  else match findRow (pageRows k) off with
    | none => s
    | some r =>
      if r.acc = .w1c then s.setReg a (s.reg a &&& ~~~w)
      else if !(r.acc == .rw) then s
      else
        let w := w &&& BitVec.ofNat 32 r.mask
        if isLowWord a then { s with held := mapPut s.held (heldKey iss a) w }
        else storeReg k inst off a iss w s

/-- A rejected write is recorded, with the records its page's validation adds (R56, R239, R326, R421). -/
def writeReject (iss : Issuer) (a code : Nat) (s : State) : State :=
  let p := pageOf a
  let i := issuerCode iss
  let s := if code = cNotOwner ∧ isHost iss then s.bump (R.HOST_OWN_REJ_CNT + 4 * i) else s
  if p = P.GRDS ∧ code = 0x40 then
    match schedCheck s with | some f => schedInvalid f i s | none => s
  else if p = P.RELAY ∧ code = 0x42 then
    let e := (relayFail s).getD 0
    recordErr p code i (e % 1024) (irqSet p 10 (s.setRegN R.RELAY_ROUTE_ERR e))
  else if p = P.SMSG ∧ code = 0x40 then
    let e := (connFail s).getD 0
    recordErr p code i e (s.setRegN R.SMSG_CONN_ERR e)
  else recordErr p code i (offOf a / 4) s

/-- A register write of `size` bytes, but for PG_CMD and PG_RESET (R46 to R48, R55). -/
def regWrite (iss : Issuer) (a size : Nat) (w : Word) (s0 : State) : State :=
  let s := countAccess iss s0
  let p := pageOf a
  let dev := !s.populated p
  if size ≠ 4 ∨ a % 4 ≠ 0 then accessReject iss a s
  else if dev then addressReject iss (offOf a / 4) s
  else if !regDefined (kindOf p).1 (offOf a) then recordErr p cAddress (issuerCode iss) (offOf a / 4) s
  else match writeCheck iss a w s with
    | some code => writeReject iss a code s
    | none => writeEffect iss a w s

/-- A PG_CTRL write with EN set, other bits as they stand. -/
def enableWrite (p : Nat) (iss : Issuer) (s : State) : State :=
  regWrite iss (pa p H.CTRL) 4 (setBit (s.reg (pa p H.CTRL)) 0 true) s

/-! ### Meanings -/

def execHighWordCommit (iss : Issuer) (addr : BitVec 20) (value : Word) (s : State) : Host.Outcome State Fault Refusal :=
  .next (if lowWords addr.toNat = [] then s else regWrite iss addr.toNat 4 value s)
def execForceEntryWrite (iss : Issuer) (entry : Fin 64) (word : Fin 4) (value : Word) (s : State) :
    Host.Outcome State Fault Refusal := .next (regWrite iss (forceA entry + 4 * word) 4 value s)
def execGrdsEnable (iss : Issuer) (s : State) : Host.Outcome State Fault Refusal := .next (enableWrite P.GRDS iss s)
def execRelayEnable (iss : Issuer) (s : State) : Host.Outcome State Fault Refusal := .next (enableWrite P.RELAY iss s)
def execSmsgEnable (iss : Issuer) (s : State) : Host.Outcome State Fault Refusal := .next (enableWrite P.SMSG iss s)
def execFldEnable (g : Fin 4) (iss : Issuer) (s : State) : Host.Outcome State Fault Refusal :=
  .next (enableWrite (P.FLD + g) iss s)
def execHealthConfirm (iss : Issuer) (value : Word) (s : State) : Host.Outcome State Fault Refusal :=
  .next (regWrite iss R.UPD_HEALTH_CONFIRM 4 value s)

end Sys2Proof.Machine
end

