-- ==== Sys2Proof/Machine/Boot.lean ====
section
/-!
DEFINITION. Power, reset and the boot sequence (R471 to R477, R520, R521, R525), release (R474), RECOVERY (R475), the
fallback restarts of R484 and the BOOT commands.
-/
namespace Sys2Proof.Machine

/-! ### What outlives a restart, and what outlives power -/

/-- Registers that show what the boot record, the MRAM and the fuses hold (R211, R471, R486, R507). -/
def nvRegs : List Nat :=
  [R.BOOT_CFG, R.BOOT_CNT, R.BOOT_FAIL_BOOT_CNT, R.UPD_TRIAL_RUN_S, R.UPD_FALLBACK_CNT, R.PART_LOCK_MIRROR,
   R.BATON_RING_HEAD, R.BATON_RING_START, R.BATON_RING_WRAPS, R.BATON_PFAIL_CNT, R.REC_STAT, R.REC_EPOCH,
   R.REC_OP_SEC_LO, R.REC_OP_SEC_HI, R.REC_PWR_CYCLES, R.REC_CLOSE_SEC_LO, R.REC_LOG_HEAD, R.REC_LOG_WRAPS]
    ++ regRun R.BOOT_SLOT_STAT 6 4 ++ regRun R.BOOT_SLOT_ID_LO 12 4

/-- Registers that run through a restart: ticks (R69), attributed events and retirement (R105), the interlock (R425),
and owner changes, which count since power-up (R64). -/
def warmReg (s : State) (a : Nat) : Bool :=
  let p := pageOf a
  let off := offOf a
  let lane := decide (P.LANE ≤ p ∧ p < P.LANE + 3)
  [R.STARTER_TICK, R.STARTER_TICK_HI, R.STARTER_BOUND_TICK, R.STARTER_STRIDE_NO_LO, R.STARTER_STRIDE_NO_HI,
   R.PART_STAT].contains a || off == H.OWNER
    || (lane && (([R.LANE_ATTR_CNT, R.LANE_ATTR_WIN, R.LANE_RETIRE_TICK_LO, R.LANE_RETIRE_TICK_HI, R.LANE_RETIRE_CAUSE]
          ++ regRun R.LANE_ATTR_TICK_LO 6 4).contains off
        || (s.laneRetired (p - P.LANE) && off == R.LANE_STATE)))

/-- Train time with what it last showed the program, the tick and the discrete signals run through a restart (R68, R201,
R425); claims stop at once. -/
def carryWarm (s t : State) : State :=
  let time : TimeUnit := { t.time with sec := s.time.sec, ns := s.time.ns, frac := s.time.frac, selfValid := s.time.selfValid }
  let part : Partner := { t.part with actIn := s.part.actIn, held := s.part.held, clearSince := s.part.clearSince,
                                      lastToggle := if s.part.toggling then s.now else s.part.lastToggle }
  let groups := s.groups.map fun g => { groupZero with f1 := g.f1 }
  let old := s.starter
  let starter : Starter := { t.starter with
    tickNs := old.tickNs, prevNs := old.prevNs, everValid := old.everValid,
    sysNs := if old.everValid then old.sysNs else none, sysAge := if old.everValid then old.sysAge else 255 }
  let t := { t with time := time, part := part, groups := groups, starter := starter, srcs := s.srcs }
  let t := pageList.foldl (fun u p => u.setF (pa p H.OWNER) 2 0 7) t
  let w := s.reg R.PART_STAT
  let t := forN 3 (fun l u => if s.laneRetired l then u.putPgState (P.LANE + l) stLocked else u) t
  let keep (u : State) (i : Nat) : State := u.setB R.PART_STAT i (bitOf w i)
  ([7, 8, 9] : List Nat).foldl keep (t.setReg R.PART_STAT 0)

/-- After a loss of power the counts are what the counter area of MRAM holds (R498). -/
def loadCounts (s : State) : State :=
  let n := s.life.secSaved
  let s := (s.setRegN R.REC_OP_SEC_LO (n % 2 ^ 32)).setRegN R.REC_OP_SEC_HI (n / 2 ^ 32 % 256)
  s.setReg R.REC_PWR_CYCLES s.life.cycSaved

/-- The module in reset: everything at its reset value but what a restart (`warm`) or a loss of power keeps. -/
def inReset (warm : Bool) (s0 : State) : State :=
  let s := dropInstall s0
  let kept (a : Nat) : Bool := nvRegs.contains a || (warm && warmReg s a)
  let boot : Boot := { bootZero with
    fuse0 := s.boot.fuse0, fuse1 := s.boot.fuse1, fuse2 := s.boot.fuse2, headers := s.boot.headers,
    flash := s.boot.flash, staging := s.boot.staging, erased := s.boot.erased, written := s.boot.written,
    powered := warm, charged := warm && s.boot.charged }
  let baton : Baton := { batonZero with
    mram := s.baton.mram, seq := s.baton.seq, startSeq := s.baton.startSeq, written := s.baton.written,
    baseBad := s.baton.baseBad, ringDue := s.baton.ringDue }
  let life : Recorder := { lifeZero with
    saved := s.life.saved, log := s.life.log, secSaved := s.life.secSaved, cycSaved := s.life.cycSaved }
  let t : State := { State.reset with
    regs := Sparse.drop (fun a => !kept a) s.regs, boot := boot, baton := baton, life := life, sent := s.sent,
    pending := s.pending, freeCtr := s.freeCtr }
  forN 6 (fun k u => u.setB (slotA k) 4 false) (if warm then carryWarm s t else loadCounts t)

/-! ### Selection of slots (R471) -/

/-- The slots of a kind that the boot reads, in order: the PREFERRED one, a trial with boots left, which it counts down,
or CONFIRMED, then the other one if CONFIRMED. A trial without boots left falls back (R484). -/
def selectSlots (kind : Nat) (s : State) : List Nat × State :=
  let a := 2 * (kind - 1)
  let p := if s.slotPreferred (a + 1) && !s.slotPreferred a then a + 1 else a
  let o := if p = a then a + 1 else a
  let other (t : State) : List Nat := if t.slotState o = slotConfirmed then [o] else []
  if s.slotState p = slotTrial then
    let left := s.regF (slotA p) 11 8
    if left = 0 then
      let t := fallBack p 0x10 s
      (other t, t)
    else (p :: other s, s.setF (slotA p) 11 8 (left - 1))
  else if s.slotState p = slotConfirmed then (p :: other s, s)
  else (other s, s)

/-- A slot is in use since this boot (R487). -/
def selectSlot (k : Nat) (s : State) : State :=
  (s.setB (slotA k) 4 true).setB R.BOOT_STAT (13 + k / 2) (k % 2 == 1)

/-- The first failing check of the container in a slot (R479). -/
def slotFails (k : Nat) (r : BootReport) (s : State) : Nat :=
  containerFail (headerFails (s.slotHeader k) [k / 2 + 1] s) (getAt 0 (r.slots.map BitVec.toNat) k)

/-- The slots in order until one opens: a failing one becomes BAD and the next is tried (R471). -/
def openSlots (r : BootReport) (take : Nat → State → Bool × State) : List Nat → State → Bool × State
  | [], s => (false, s)
  | k :: ks, s =>
    let f := slotFails k r s
    let s := cryptCount f s
    if f = 0 then
      let (ok, t) := take k s
      if ok then (true, selectSlot k t) else openSlots r take ks t
    else openSlots r take ks (setSlot k slotBad f s)

/-! ### The configuration record (R476, R477) -/

/-- The loader's outcome: the index and code of what it rejects. -/
abbrev CfgFail := Nat × Nat

/-- Size of a memory that BLOCK entries fill, the page that holds it, and its write (R242, R325, R420). -/
def blockSize (mem : Nat) : Nat := if mem = 3 then 0x2000 else if mem = 4 then 64 else 0x10000
def blockPage (mem : Nat) : Nat := if mem = 1 then P.GRDS else if mem = 2 then P.RELAY else P.SMSG

/-- A host key of SHP, for H2 or H3 (R455, R476). -/
def setKey (j : Nat) (key : List Byte) (s : State) : State :=
  { s.setB R.SHP_STAT (8 + j) true with shp := { s.shp with keys := setAt s.shp.keys j (some key) } }

def blockWrite (mem off : Nat) (bs : List Byte) (s : State) : State :=
  if mem = 1 then freshWords 4 off bs.length (schedLoad off bs s)
  else if mem = 2 then
    freshWords 5 off bs.length { s with relay := { s.relay with routes := Memory.writeN s.relay.routes off bs } }
  else if mem = 3 then
    freshWords 6 off bs.length (updSafety (fun x => { x with connTab := Memory.writeN x.connTab off bs }) s)
  else setKey (off / 32) bs s

/-- A BLOCK entry: its code, if it is rejected. -/
def blockCheck (mem off len : Nat) (s : State) : Option Nat :=
  need (1 ≤ mem && mem ≤ 4 && off + len ≤ blockSize mem) cRange <|
    if mem = 4 then need (len == 32 && off % 32 == 0) cRange none else need (!s.en (blockPage mem)) cState none

/-- A WRITE entry: a register write of the loader. -/
def loaderCheck (a : Nat) (w : Word) (s : State) : Option Nat :=
  let word := offOf a / 4
  need (word == 3 || word == 9 || decide (0x10 ≤ word ∧ word < 0x400)) cAddress <|
    need (s.populated (pageOf a) && regDefined (kindOf (pageOf a)).1 (offOf a)) cAddress (writeCheck .loader a w s)

/-- One entry at `pos` of the record: where the next one begins and the state, or the code of its rejection. -/
def applyCfgEntry (bs : List Byte) (fin pos : Nat) (s : State) : Nat ⊕ (Nat × State) :=
  let w0 := imgN bs pos 4
  let w1 := imgN bs (pos + 4) 4
  let typ := w0 / 2 ^ 24
  let page := w0 / 2 ^ 16 % 256
  if fin < pos + 8 then .inl cLength
  else if typ = 1 then
    let a := pa page (4 * (w0 % 4096) % 0x1000)
    match need (w0 % 4096 < 0x400) cAddress (loaderCheck a (BitVec.ofNat 32 w1) s) with
    | some code => .inl code
    | none => .inr (pos + 8, writeEffect .loader a (BitVec.ofNat 32 w1) s)
  else if typ = 2 then
    let len := 8 * (w0 % 2 ^ 16)
    if fin < pos + 8 + len then .inl cLength else
    match blockCheck page w1 len s with
    | some code => .inl code
    | none =>
      let t := blockWrite page w1 ((bs.drop (pos + 8)).take len) s
      if page = 1 && t.stationBad w1 len then .inl cRange else .inr (pos + 8 + len, t)
  else if typ = 3 then
    if !s.populated page then .inl cAddress
    else if 3 < w0 % 8 then .inl cRange
    else .inr (pos + 8, updBoot (fun b => { b with owners := mapPut b.owners page (w0 % 8) }) s)
  else .inl cRange

/-- The entries from index `i` at `pos`; `n` are left. -/
def applyEntries (bs : List Byte) (fin : Nat) : Nat → Nat → Nat → State → CfgFail ⊕ State
  | 0, _, _, s => .inr s
  | n + 1, i, pos, s =>
    match applyCfgEntry bs fin pos s with
    | .inl code => .inl (i, code)
    | .inr (next, t) => applyEntries bs fin n (i + 1) next t

/-- A record as the loader reads it: header and CRC, then its entries in order. -/
def applyRecord (bs : List Byte) (s : State) : CfgFail ⊕ State :=
  let len := imgN bs 0x10 4
  let crc := imgN bs (len - 4) 4
  if imgN bs 0 4 ≠ 0x47464353 ∨ imgN bs 4 2 ≠ 1 ∨ imgN bs 0x18 8 ≠ 0 then .inl (0, cVersion)
  else if len < 36 ∨ len % 8 ≠ 0 ∨ 0x10000 < len ∨ bs.length < len then .inl (0, cLength)
  else if crc32 (bs.take (len - 4)) ≠ crc then .inl (0, cIntegrity)
  else if !(imgN bs 6 2).testBit s.variantBit then .inl (0, cVersion)
  else match applyEntries bs (len - 4) (imgN bs 0x14 4) 0 32 s with
    | .inl f => .inl f
    | .inr t => .inr (t.setRegN R.BOOT_CFG_CRC crc)

/-- Step 4 on one slot: what a rejected record wrote is undone, and CFG_FAIL keeps what was rejected. -/
def takeConfig (k : Nat) (s : State) : Bool × State :=
  match applyRecord (s.slotImage k) s with
  | .inr t => (true, t)
  | .inl (i, code) => (false, s.setRegN R.BOOT_CFG_FAIL (i % 2 ^ 16 + 2 ^ 16 * code + 2 ^ 24 * (k % 2)))

/-! ### Steps 1 to 3 (R106, R138, R469) -/

/-- Logical fuse bits whose copies do not all agree. -/
def State.fuseDis (s : State) : Nat :=
  let b := s.boot
  let d := (b.fuse0 ^^^ b.fuse1) ||| (b.fuse0 ^^^ b.fuse2)
  ((List.range 1024).filter fun i => bitOf d i).length

/-- The CRC-16 over fuse bits 0 to 915 verifies (R468). -/
def State.fuseCrcOk (s : State) : Bool :=
  crc16Bits (BitVec.setWidth 916 s.fuses) 916 0xFFFF#16 == BitVec.ofNat 16 (fld s.fuses 1023 1008)

/-- The registers the fuses load. -/
def loadFuses (s : State) : State :=
  let f := s.fuses
  let s := s.setRegN R.BOOT_FUSE_STAT (b2n s.fuseCrcOk + 2 * b2n s.debugLocked + 4 * fld f 134 132
    + 2 ^ 8 * fld f 131 128 + 2 ^ 16 * s.arb + 2 ^ 24 * min s.fuseDis 255)
  let s := s.setReg64 R.BOOT_UID_LO (fld f 207 144)
  let s := s.setReg64 R.CRYPT_ROOT_ID_LO (fld f 591 528)
  let lane (l : Nat) (t : State) : State :=
    if bitOf f (132 + l) then t
    else
      let t := t.setB (laneA l R.LANE_STATE) 8 false
      if t.laneRetired l then t else (t.setF (laneA l R.LANE_STATE) 2 0 5).setPgState (P.LANE + l) stLocked
  forN 3 lane s

/-- The codes of BOOT_STAT.FAIL_CODE. -/
abbrev bootFuse : Nat := 1
abbrev bootKat : Nat := 2
abbrev bootMarch : Nat := 3
abbrev bootInject : Nat := 4
abbrev bootNoConfig : Nat := 5
abbrev bootNoFirmware : Nat := 6

/-- BOOT_STAT.STEP. -/
def bootStep (j : Nat) (s : State) : State := s.setF R.BOOT_STAT 7 4 j

/-- STAGE_US of the steps done. -/
def stageTimes (n : Nat) (s : State) : State :=
  forN n (fun j t => t.setRegN (R.BOOT_STAGE_US + 4 * j) (min (getAt 0 s.boot.us j) 0xFFFFFFFF)) s

/-- A boot that stops (R475): RECOVERY. -/
def bootStops (code : Nat) (s : State) : State :=
  let s := stageTimes (s.regF R.BOOT_STAT 7 4) s
  let s := (s.setF R.BOOT_STAT 23 16 code).setF R.BOOT_STAT 3 0 2
  let s := s.bump R.BOOT_FAIL_BOOT_CNT
  let s := (s.putPgState P.BOOT 6).putPgState P.DEV 6
  let s := forN 4 (fun f t => t.setB (fldA f R.FLD_SAFEOFF_STAT) 2 true) s
  let s := (pageList.filter recoveryPage).foldl (fun t p => setOwner p 0 t) s
  let s := [P.HOST, P.PCIE, P.CRYPT].foldl (fun t p => t.setPgState p stActive) s
  let s := updRest (updBoot (fun b => { b with recovery := true }) s)
  recordErr P.BOOT 0x40 srcHardware code s

/-- Step 2: a destructive march on every lane, then on the comms RAM (R138, R139); `false`: the boot stops. -/
def bootMarchTest (fails : List MarchFail) (s : State) : Bool × State :=
  let lanes := (List.range 3).filter fun l => s.inService l
  let failOf (m : Nat) : Option MarchFail := fails.find? fun f => f.mem == m
  let test (m : Nat) (t : State) : State :=
    let us := fld (Config.freeValue t.freeCtr) 31 0
    (marchResult m t.now (failOf m) (marchClears m t)).fresh.setRegN (memA m R.MEM_MARCH_TIME_US) us
  let s := (lanes ++ [3]).foldl (fun t m => test m t) (s.setB R.BOOT_STAT 11 true)
  let bad := lanes.filter fun l => (failOf l).isSome
  let s := match bad with
    | [l] => laneFault l kSecded s
    | _ => s
  (decide (bad.length ≤ 1) && (failOf 3).isNone && decide (2 ≤ s.lanesIn.length) && !s.halted, s)

/-! ### Steps 5 and 6 (R472) -/

/-- Firmware goes to the supervisor region of each lane. -/
def takeFirmware (k : Nat) (s : State) : Bool × State :=
  let put (x : Lane) : Lane := { x with sram := Memory.writeN x.sram 0x680000 (s.slotImage k) }
  let run (l : Nat) (t : State) : State :=
    (freshWords l 0x680000 (s.slotImage k).length (updLane l put t)).setB (laneA l R.LANE_SUP_STAT) 0 true
  (true, s.lanesIn.foldl (fun t l => run l t) s)

/-- An application is loaded and admitted (R158); one that admission refuses makes its slot BAD (R487). -/
def takeApplication (k : Nat) (s : State) : Bool × State :=
  let img := s.slotImage k
  let a := s.admission img
  let s := admRecord img a s
  if a.reason = 0 then (true, admPassed a (installProgram k (imageProgram img) s))
  else (false, setSlot k slotBad 0x13 s)

/-- Steps 4 to 6; step 7 then restores (R220). -/
def bootImages (r : BootReport) (s : State) : State :=
  let (cs, s) := selectSlots 1 (bootStep 4 s)
  let (ok, s) := openSlots r takeConfig cs s
  if !ok then bootStops bootNoConfig s else
  let (fs, s) := selectSlots 2 (bootStep 6 s)
  let (ok, s) := openSlots r takeFirmware fs s
  if !ok then bootStops bootNoFirmware s else
  let (as, s) := selectSlots 3 s
  let (ok, s) := openSlots r takeApplication as s
  startRestore 1 (bootStep 7 (s.setB R.BOOT_STAT 12 (!ok)))

/-- The steps from 1 on, on a module in reset. `cycle`: VIN had been below its range (R498, R521). -/
def bootRun (r : BootReport) (cycle : Bool) (s : State) : State :=
  let s := updBoot (fun b => { b with us := r.us }) s
  let s := bootStep 1 (recordResume cycle (s.bump R.BOOT_CNT))
  let s := (s.putPgState P.BOOT stInit).putPgState P.DEV stInit
  let s := loadFuses s
  if !s.fuseCrcOk then bootStops bootFuse s
  else
    let s := s.setRegN R.CRYPT_STAT (1 + 2 * b2n (!(fld s.fuses 911 528 == 0)) + 16 * r.kat.toNat)
    if !(r.kat == 0xF) then bootStops bootKat (s.setPgState P.CRYPT stFault)
    else
      let (ok, s) := if s.regB R.BOOT_CFG 0 then bootMarchTest r.march (bootStep 2 s) else (true, s)
      if !ok then bootStops bootMarch s else
      let s := injEnd r.inj (startInj (bootStep 3 s))
      if s.halted then bootStops bootInject s else bootImages r s

/-! ### Release (R474) -/

/-- The pages that the boot enables itself (R121, R144). -/
def bootPages : List Nat := [P.PFC, P.LANE, P.LANE + 1, P.LANE + 2, P.XCHG, P.MEM, P.MEM + 1, P.MEM + 2, P.MEMX]

/-- SAFE and TIME, whose functions work whether or not EN is set and whose chapters name no state OFF, show theirs
(R301, R414; DEDUCED, log entry 40). -/
def showUnswitched (s : State) : State :=
  let on (p st : Nat) (t : State) : State := if t.pgState p = stOff then t.setPgState p st else t
  on P.TIME (if s.timeValid then stActive else stReady) (on P.SAFE stActive s)

/-- The boot's own pages and those enabled from reset (R51) show their functions. -/
def bootOwnPages (s : State) : State :=
  let on (t : State) (p : Nat) : State :=
    let t := t.setEn p true
    if t.pgState p = stOff then t.setPgState p stActive else t
  let s := (bootPages ++ [P.HOST, P.PCIE, P.SHP, P.CRYPT]).foldl on s
  let s := (s.putPgState P.BOOT stActive).putPgState P.DEV stActive
  countedLanes (showUnswitched (s.setPgState P.PFC (pfcIdleState s)))

/-- The mode after release: STOP with a program, waiting for an AUTOSTART where a restore brought a commit. -/
def releaseMode (s : State) : State :=
  if s.exec.prog.isNone then setMode modeNone s
  else
    let s := (setMode modeStop s).setF R.EXEC_MODE 15 12 5
    let auto := bitOf (s.cfgWord R.EXEC_CFG) 0 && s.regF R.BATON_RESTORE_STAT 1 0 == 1
    updBoot (fun b => { b with autoStart := auto }) s

/-- Every boot completes a pending advance of the thermometer for the slots in use (R485). -/
def pendingAdvance (s : State) : State :=
  forN 6 (fun k t => if t.slotSelected k && t.slotState k == slotConfirmed then advanceArb k t else t) s

/-- Release: owners, pages, roles and the mode (R474). -/
def releaseNow (s : State) : State :=
  let s := pendingAdvance s
  let s := updBoot (fun b => { b with waiting := false, outputsHeld := true }) s
  let s := pageList.foldl (fun t p => setOwner p ((mapGet s.boot.owners p).getD t.mgmt) t) s
  let s := bootOwnPages s
  let s := s.boot.enables.foldl (fun t p => enableNow p t) s
  let s := updRest (releaseMode s)
  let s := (stageTimes 8 s).setRegN R.BOOT_TIME_US (min (s.boot.us.foldl (· + ·) 0) 0xFFFFFFFF)
  partRelease ((bootStep 9 s).setF R.BOOT_STAT 3 0 1)

/-- Step 8: release once the hold-up store is charged (R520). -/
def bootFinish (s : State) : State :=
  let s := bootStep 8 s
  if s.boot.charged then releaseNow s else updBoot (fun b => { b with waiting := true, waitFrom := s.now }) s

/-! ### Causes of a boot -/

/-- A module restart (R472): retirement, lock-outs, train time and ticks are kept. -/
def restartNow (r : BootReport) (s : State) : State := bootRun r false (inReset true s)

/-- The latest VIN sample lies below the operating range of 14.4 V (R518). -/
def State.vinFell (s : State) : Bool := match s.life.sample with | some (v, _, _) => decide (v < 1440) | none => false

/-- POWER_UP: from power off the time unit starts at 0; after a PFAIL that the supply outlived it is a restart, which
counts as a power cycle if VIN had fallen below its operating range (R521). -/
def powerUp (r : BootReport) (s : State) : State :=
  if s.boot.powered then
    if s.regB R.BATON_STAT 10 then bootRun r s.vinFell (inReset true (updBoot (fun b => { b with charged := true }) s)) else s
  else bootRun r true (updBoot (fun b => { b with powered := true }) (inReset false s))

/-- POWER_LOSS: volatile state is gone (R520). -/
def powerLoss (s : State) : State := inReset false s

/-- The wait for the store is part of step 8 and of BOOT_TIME_US (R473). -/
def addWait (s : State) : State :=
  updBoot (fun b => { b with us := setAt b.us 7 (getAt 0 b.us 7 + (s.now - b.waitFrom)) }) s

/-- HOLDUP_CHARGED: a boot that waits for the store releases. -/
def holdupCharged (s : State) : State :=
  if !s.boot.powered then s else
  let s := updBoot (fun b => { b with charged := true }) s
  if s.boot.waiting then releaseNow (addWait s) else s

/-- RESTORE_COMPLETE: the boot goes on to step 8, or a takeover does (R218, R431). -/
def restoreComplete (us : Nat) (s : State) : State :=
  match s.baton.restoring with
  | none => s
  | some (kind, _) => if kind = 1 then bootFinish (restoreNow us s) else takeRestored (restoreNow us s)

/-- RESTART needs its key and acts outside RUN, HOLD and STEP (R486, R491). -/
def cmdRestart (iss : Issuer) (arg : Nat) (r : BootReport) : State → State :=
  commandKeyed ⟨P.BOOT, 0x10, iss⟩ (fun _ => arg == 0x8E57) (fun s => need (s.halted || s.standby || !s.active) cState none)
    fun s => restartNow r (finish P.BOOT cDone s)

def cmdBootClr (iss : Issuer) : State → State :=
  quick ⟨P.BOOT, 0x11, iss⟩ noCheck fun s => s.clear [R.BOOT_FAIL_BOOT_CNT]

/-! ### A trial window that expires (R484) -/

/-- TRIAL_WIN_S; its reset value while UPD is in FAULT. -/
def State.trialWin (s : State) : Nat := fld (s.cfgWord R.UPD_CFG) 15 0

/-- TRIAL_WIN_EXPIRED: the slot falls back; an exchange in trial reverts, and otherwise the module restarts, at once
where an armed partner takes over. -/
def trialWinEnds (r : BootReport) (s : State) : State :=
  match s.trialSlot with
  | none => s
  | some k =>
    if s.regN R.UPD_TRIAL_RUN_S < s.trialWin then s else
    let s := fallBack k 0x11 s
    if 4 ≤ k ∧ s.swapState = swTrial then startRevert 1 s
    else if s.part.partnerArmed && s.role == roleActive then restartNow r (withdrawNow 1 s)
    else updBoot (fun b => { b with restartDue := some r }) s

/-! ### Meanings -/

def execPowerUp (r : BootReport) (s : State) : Host.Outcome State Fault Refusal := .next (powerUp r s)
def execResetIn (r : BootReport) (s : State) : Host.Outcome State Fault Refusal :=
  .next (if s.boot.powered then restartNow r s else s)
def execBootRestart (iss : Issuer) (arg : BitVec 16) (r : BootReport) (s : State) : Host.Outcome State Fault Refusal :=
  .next (cmdRestart iss arg.toNat r s)
def execBootClrCnt (iss : Issuer) (_arg : BitVec 16) (s : State) : Host.Outcome State Fault Refusal :=
  .next (cmdBootClr iss s)
def execHoldupCharged (s : State) : Host.Outcome State Fault Refusal := .next (holdupCharged s)
def execTrialWinExpired (r : BootReport) (s : State) : Host.Outcome State Fault Refusal := .next (trialWinEnds r s)
def execPowerLoss (s : State) : Host.Outcome State Fault Refusal := .next (powerLoss s)
def execRestoreComplete (us : Word) (s : State) : Host.Outcome State Fault Refusal := .next (restoreComplete us.toNat s)

end Sys2Proof.Machine
end

