-- ==== Sys2Proof/Machine/Freeze.lean ====
section
/-!
DEFINITION. The input freeze (step 4 of R34): input slots and their quality (R16 to R19, R30), frozen buffers (R31, R153),
the event list (R79 to R81, R152), the output half (R151) and the system area (R150, R201).
-/
namespace Sys2Proof.Machine

/-! ### Input slots -/

/-- The agreed values of the field groups age at a freeze (R18, R29). -/
def freezeGroups (s : State) : State :=
  forN 4 (fun g t => updGroup g (fun x =>
    { x with age := if x.fresh then 0 else if x.age = 256 then 256 else min 255 (x.age + 1) }) t) s

/-- The freshness of the agreed values, and a fail-safe that has passed, have been shown. -/
def groupsShown (s : State) : State :=
  forN 4 (fun g t => updGroup g (fun x => { x with fresh := false, fsSeen := x.lstat / 8 % 2 == 1 }) t) s

/-- The slot of DI `c` of group `g` (R358). -/
def diSlot (g c : Nat) (s : State) : DWord × Nat :=
  let x := s.grp g
  if !s.regB (fldA g (R.FLD_DI_CFG + 4 * c)) 31 || x.age == 256 then (0, qualNone)
  else
    let ok := diValid g c s && !x.fsSeen
    (if ok && bitOf x.di c then 1 else 0, qualWord ok false x.fresh (bitOf x.q2 c) x.age)

/-- The slot of pair `p` (R404, R405): its age is that of its older input. -/
def pairSlot (p : Nat) (s : State) : DWord × Nat :=
  let a := s.regF (pairA p) 5 0
  let b := s.regF (pairA p) 13 8
  let x := s.grp (a / 16)
  let y := s.grp (b / 16)
  if !s.regB (pairA p) 31 || !(s.pgState P.DISC == stActive) || x.age == 256 || y.age == 256 then (0, qualNone)
  else
    let ok := s.pairValid p && !s.regB (pairStatA p) 2 && !x.fsSeen && !y.fsSeen
    (if ok && s.regB (pairStatA p) 0 then 1 else 0,
      qualWord ok false (x.fresh && y.fresh) (bitOf x.q2 (a % 16) || bitOf y.q2 (b % 16)) (max x.age y.age))

/-- The slot of group `g`'s status: SG_STAT[15:0] as the tick before the boundary left it (R394). -/
def groupSlot (g : Nat) (s : State) : DWord × Nat :=
  if s.sgEn g then (BitVec.ofNat 64 (getAt 0 s.safety.statAt g), 0x0005) else (0, qualNone)

/-- What an input binding delivers; `ai` and `fi` are the measurements of the freeze. -/
def inputSlot (ai fi : List (DWord × Nat)) (b : Binding) (s : State) : DWord × Nat :=
  if P.FLD ≤ b.page ∧ b.page < P.FLD + 4 then diSlot (b.page - P.FLD) b.chan s
  else if b.page = P.MEASA then getAt (0, qualNone) ai b.chan
  else if b.page = P.MEASF then getAt (0, qualNone) fi b.chan
  else if b.page = P.SAFE then groupSlot b.chan s
  else if b.page = P.DISC then pairSlot b.chan s
  else (0, qualNone)

/-- A forced input carries its forced value (R19). -/
def forcedSlot (slot : Nat) (v : DWord × Nat) (s : State) : DWord × Nat :=
  match s.exec.forces.find? fun f => f.1 == slot && !f.2.1 with
  | some f => (f.2.2, 0x0025)
  | none => v

/-- The bound input slots of the freeze: slot, value and quality word. -/
def inputSlots (ai fi : List (DWord × Nat)) (s : State) : List (Nat × DWord × Nat) :=
  (s.binds.filter fun b => b.kind == 0).map fun b => (b.index, forcedSlot b.index (inputSlot ai fi b s) s)

/-- The eight analogue and four frequency measurements at the freeze, in order. -/
def freezeMeas (s : State) : List (DWord × Nat) × List (DWord × Nat) × State :=
  let ai := (List.range 8).foldl (fun a i => let r := freezeAi i a.2; (a.1 ++ [(r.1, r.2.1)], r.2.2)) ([], s)
  let fi := (List.range 4).foldl (fun a g => let r := freezeFi g a.2; (a.1 ++ [(r.1, r.2.1)], r.2.2)) ([], ai.2)
  (ai.1, fi.1, fi.2)

/-- The 3,072 input slots and their quality words go into the lanes; an unbound slot reads 0 with 0xFF00 (R149). -/
def freezeInputs (s : State) : State :=
  let (ai, fi, s) := freezeMeas (freezeGroups s)
  let ins := inputSlots ai fi s
  let slot (i : Nat) : DWord × Nat := (mapGet ins i).getD (0, qualNone)
  let all := (List.range 3072).map slot
  loaderBlock 0x600000 (all.flatMap (fun x => leBytes 8 x.1.toNat) ++ all.flatMap fun x => leBytes 2 x.2) (groupsShown s)

/-! ### Frozen buffers -/

/-- A block's header and data in the message window (R153). -/
def putBlock (b : Binding) (qual seq : Nat) (data : List Byte) : State → State :=
  loaderWrite (0x630000 + b.mOff) (leBytes 4 qual ++ leBytes 4 (seq % 2 ^ 32) ++ leBytes 4 data.length ++ leBytes 4 0 ++ data)

/-- Nothing has come: quality 0xFF00, length 0, and a value field of zeros (R17). -/
def putNone (b : Binding) (extra : Nat) : State → State :=
  loaderWrite (0x630000 + b.mOff) (leBytes 4 (qualNone + extra) ++ List.replicate (max b.size 16 - 4) 0#8)

/-- A block with its unit, or with the substitute of zeros where it is not valid (R17). -/
def putUnit (b : Binding) (valid fresh : Bool) (age extra : Nat) (u : List Byte × Nat × Nat) : State → State :=
  putBlock b (qualWord valid false fresh false age + extra) u.2.1
    (if valid then u.1 else List.replicate u.1.length 0#8)

/-- The back half becomes the front half if its unit was complete before tick `tb` (R31). -/
def Block.take (tb : Nat) (b : Block) : Block :=
  match b.back with
  | some (d, t, seq, q) =>
    if t < tb then { b with back := none, front := some (d, seq, q), age := 0, fresh := true }
    else { b with age := min 255 (b.age + 1), fresh := false }
  | none => { b with age := min 255 (b.age + 1), fresh := false }

/-- The loader reads a unit that the freeze would deliver; a poisoned one is dropped: the unit before it stands and its
age grows (R126, R128). -/
def dropPoison (page chan a : Nat) (bad : Block → Bool) (tb : Nat) (s : State) : State :=
  let x := s.block page chan
  match x.back with
  | some (d, t, _, _) =>
    if t < tb then
      let s := commsRead 1 a d.length s
      if bad x then updBlock page chan (fun y => { y with back := none }) s else s
    else s
  | none => s

/-- A source whose age counts strides: its block after the freeze, or 0xFF00 where nothing has come or it is off. -/
def freezeUnit (tb : Nat) (b : Binding) (on valid : Bool) (s : State) : State :=
  if !on then putNone b 0 (dropBlock b.page b.chan s) else
  let s := updBlock b.page b.chan (Block.take tb) s
  let x := s.block b.page b.chan
  match x.front with
  | some u => putUnit b valid x.fresh x.age 0 u s
  | none => putNone b 0 s

/-- The status block of a CAN controller, refreshed at every freeze (R312). The spec gives its source sequence no
meaning: a free value. -/
def canStatus (b : Binding) (n : Nat) (s : State) : State :=
  let words := [s.regN (canA n R.CAN_STAT), s.regN (canA n R.CAN_LAST_ERR), s.regN (canA n R.CAN_BUSOFF_CNT),
    s.regN (canA n R.CAN_RXF_STAT)]
  putBlock b 0x0005 (Config.freeValue s.freeCtr).toNat (words.flatMap fun w => leBytes 4 w) s.fresh

/-- The freeze of receive buffer `n` (R171, R248): its age counts basic cycles. The answer: its unit with VALID, FRESH
and AGE, `none` before the first. -/
def stationUnit (tb n : Nat) (s : State) : Option ((List Byte × Nat × Nat) × Bool × Bool × Nat) × State :=
  let s := dropPoison P.GRDMB n (256 * n + 16) (fun x => s.poisoned (256 * n + 16) (match x.back with
    | some (d, _, _, _) => d.length | none => 0)) tb s
  let s := updBlock P.GRDMB n (Block.take tb) s
  let x := s.block P.GRDMB n
  let limit := match s.senderOf n with | some k => s.schedW (0xC000 + 8 * k) % 256 | none => 0
  let absent := s.senderAbsent n
  match x.front with
  | some u =>
    let age := min 255 (s.grd.total - u.2.2 / 256 - 1 + u.2.2 % 256)
    let valid := !absent && decide (age ≤ limit)
    let fresh := x.fresh && age == 0
    (some (u, valid, fresh, age), bufWord n 0 (qualWord valid false fresh false age + 2 ^ 16 * b2n absent) s)
  | none => (none, bufEmpty n s)

/-- A Grador receive block (R171, R248). -/
def freezeStation (tb : Nat) (b : Binding) (s : State) : State :=
  let extra := 2 ^ 16 * b2n (s.senderAbsent b.chan)
  match stationUnit tb b.chan s with
  | (some (u, valid, fresh, age), s) => putUnit b valid fresh age extra u s
  | (none, s) => putNone b extra s

/-- The receive buffers that the program does not bind get their quality word too (R254). -/
def freezeUnbound (tb : Nat) (s : State) : State :=
  if s.poc = pocConfig then s else
  let bound (n : Nat) : Bool := s.binds.any fun b => b.kind == 2 && b.page == P.GRDMB && b.chan == n
  (s.instances.filter fun n => !(s.instEnt n).tx && !bound n).foldl (fun t n => (stationUnit tb n t).2) s

/-- A safe connection (R411): its age counts basic cycles. -/
def freezeConn (tb : Nat) (b : Binding) (s : State) : State :=
  let c := b.chan
  if !s.connEn c || s.connTx c || !s.en P.SMSG then putNone b 0 (dropBlock P.SMSG c s) else
  let s := updBlock P.SMSG c (Block.take tb) s
  let x := s.block P.SMSG c
  let y := s.conn c
  match x.front with
  | some u => putUnit b y.valid (x.fresh && y.age == 0) y.age u.2.2 u s
  | none => putNone b 0 s

/-- A relayed unit in a PROG block: length, source port, EVENT and identifier, then its data, rounded up (R327). -/
def progUnit (e : Egress) : List Byte :=
  let n := e.data.length
  leBytes 4 (n % 256 + 256 * e.src + 2 ^ 15 * b2n e.event) ++ leBytes 4 e.id ++ e.data ++ List.replicate ((8 - n % 8) % 8) 0#8

/-- The units of channel `c` queued before tick `tb`, oldest first, as many whole ones as fit: bytes, count and what
stays queued. -/
def takeProg (c tb : Nat) : Nat → List Egress → List Byte × Nat × List Egress
  | _, [] => ([], 0, [])
  | room, e :: es =>
    if e.dst = c ∧ e.tick < tb then
      let u := progUnit e
      if u.length ≤ room then
        let r := takeProg c tb (room - u.length) es
        (u ++ r.1, r.2.1 + 1, r.2.2)
      else ([], 0, e :: es)
    else
      let r := takeProg c tb room es
      (r.1, r.2.1, e :: r.2.2)

/-- A PROG receive block of the relay (R327); in HALTED the port carries nothing. -/
def freezeProg (tb : Nat) (b : Binding) (s : State) : State :=
  let c := b.chan
  if !s.en P.RELAY then putNone b 0 (dropBlock P.RELAY c s) else
  let (data, n, rest) := if s.halted || !s.relayActive then ([], 0, s.egressOf 0) else takeProg c tb (b.size - 16) (s.egressOf 0)
  let seq := ((mapGet s.relay.progSeq c).getD 0 + n) % 2 ^ 32
  let s := updRelay (fun r => { r with progSeq := mapPut r.progSeq c seq }) (setEgress 0 rest s)
  let s := updBlock P.RELAY c (fun x => { x with age := if n = 0 then min 255 (x.age + 1) else 0, fresh := n != 0 }) s
  putUnit b s.relayActive (n != 0) (s.block P.RELAY c).age 0 (data, seq, 0) s

/-- A host mailbox (R449): a unit copied from poisoned words is not delivered. -/
def freezeMailbox (tb : Nat) (b : Binding) (s : State) : State :=
  let a := hostBase (b.chan / 64) + 0x400 * (b.chan % 64) + 0x10
  let bad (x : Block) : Bool := match x.back with | some (_, _, _, q) => q == 1 | none => false
  freezeUnit tb b true true (dropPoison P.HOST b.chan a bad tb s)

/-- One receive block at the freeze of the boundary on tick `tb`. A block of a CAN page that a function reset has stopped
keeps its last unit (R323). -/
def freezeBlock (tb : Nat) (b : Binding) (s : State) : State :=
  if b.page = P.TCAP then freezeUnit tb b (s.en P.TCAP && s.regB (capA b.chan) 16) true s
  else if P.CAN ≤ b.page ∧ b.page < P.CAN + 8 then
    let n := b.page - P.CAN
    if b.chan = 128 then canStatus b n s
    else freezeUnit tb b (!s.en b.page || s.regB (filtId n b.chan) 31) (s.en b.page && s.canOnBus n) s
  else if b.page = P.GRDMB then freezeStation tb b s
  else if b.page = P.SMSG then freezeConn tb b s
  else if b.page = P.RELAY then freezeProg tb b s
  else if b.page = P.HOST then freezeMailbox tb b s
  else putNone b 0 s

/-- Every receive block of the program. -/
def freezeBlocks (tb : Nat) (s : State) : State :=
  freezeUnbound tb ((s.binds.filter fun b => b.kind == 2).foldl (fun t b => freezeBlock tb b t) s)

/-! ### The event list -/

/-- The order key over the extended tick number (R70, R77). -/
def Event.key (e : Event) : Nat := e.tick * 2 ^ 32 + e.cls % 16 * 2 ^ 28 + e.src % 2 ^ 12 * 2 ^ 16 + e.seq % 2 ^ 16

/-- Insert an event into a list sorted by key. -/
def insertEvent (e : Event) : List Event → List Event
  | [] => [e]
  | x :: xs => if e.key ≤ x.key then e :: x :: xs else x :: insertEvent e xs

/-- Events sorted by key. -/
def sortEvents (es : List Event) : List Event := es.foldr insertEvent []

/-- An entry of the list (R80). -/
def Event.bytes (e : Event) : List Byte :=
  leBytes 8 (e.key % 2 ^ 64) ++ leBytes 8 e.ts ++ leBytes 4 e.detail ++ leBytes 4 (e.qual % 2 ^ 16) ++ leBytes 8 0

/-- The list of the freeze on tick `tb` (R79): the events up to tick `tb` − 2. -/
def eventsDue (tb : Nat) (s : State) : List Event := sortEvents (s.starter.events.filter fun e => decide (e.tick + 2 ≤ tb))

/-- The event list goes into the lanes (R81, R152). Bytes of the previous list's entries that lie beyond the new count are
undefined: free values. -/
def freezeEvents (tb : Nat) (s : State) : State :=
  let due := eventsDue tb s
  let list := due.take 4096
  let lost := due.length - 4096
  let left := s.regF R.STARTER_EVT_STAT 12 0 - list.length
  let free := (List.range (4 * left)).flatMap fun i => leBytes 8 (Config.freeValue (s.freeCtr + i)).toNat
  let s := { s with freeCtr := s.freeCtr + 4 * left }
  let s := updStarter (fun x => { x with events := x.events.filter fun e => !decide (e.tick + 2 ≤ tb) }) s
  let s := s.setRegN R.STARTER_EVT_STAT (list.length + 2 ^ 13 * b2n (decide (0 < lost)))
  let s := if 0 < lost then irqSet P.STARTER 11 (s.bumpBy R.STARTER_EVT_DROP_CNT lost) else s
  loaderBlock 0x610000 (list.flatMap Event.bytes ++ free) s

/-! ### The output half and the system area -/

/-- The loaders copy the current output store, forces over it, into the output half (R151). -/
def freezeOutputs (s : State) : State :=
  loaderBlock 0x608000 ((List.range 3072).flatMap fun i => leBytes 8 (s.outVal i).toNat) s

/-- Train time at the boundary as the program sees it (R17, R201). `executed`: the stride that closes was executed. -/
def sysTime (executed : Bool) (s : State) : State :=
  let now := s.starter.boundNs
  if s.timeValid then updStarter (fun x => { x with sysNs := some now, sysAge := 0, everValid := true }) s
  else
    let next := match s.starter.sysNs with
      | some t => if executed then t + 1000 * s.starter.runS else t
      | none => now
    updStarter (fun x => { x with sysNs := some next, sysAge := min 255 (x.sysAge + 1) }) s

/-- The first-stride flags of the system area (R150). -/
def sysFlags (s : State) : Nat :=
  let e := s.exec
  b2n e.flagStart + 2 * b2n e.flagCold + 4 * b2n e.flagRestore + 8 * b2n e.flagExchange + 16 * b2n (s.mode == modeStep)
    + 32 * b2n (s.lanesIn.length == 2)

/-- The system area of the freeze (R150). -/
def freezeSystem (executed : Bool) (s : State) : State :=
  let s := sysTime executed s
  let t := s.starter.sysNs.getD 0
  let qual := if s.timeValid then 0x0005 else qualWord false false false false s.starter.sysAge
  let bytes := leBytes 8 (s.reg64 R.EXEC_PTIME_LO) ++ leBytes 8 (t / 1000000000) ++ leBytes 4 (t % 1000000000)
    ++ leBytes 4 qual ++ leBytes 8 (s.reg64 R.EXEC_PSTRIDE_LO) ++ leBytes 4 (s.now % 2 ^ 32)
    ++ leBytes 4 (s.regN R.STARTER_EVT_STAT) ++ leBytes 4 (sysFlags s) ++ leBytes 4 (s.exec.restoreAdded % 2 ^ 32)
  let s := updExec (fun e => { e with flagStart := false, flagCold := false, flagRestore := false,
                                      flagExchange := false }) s
  loaderWrite 0x607800 bytes s

/-- Step 4 of R34 at the boundary on tick `tb`. -/
def inputFreeze (tb : Nat) (executed : Bool) (s : State) : State :=
  freezeSystem executed (freezeOutputs (freezeEvents tb (freezeBlocks tb (freezeInputs s))))

end Sys2Proof.Machine
end

