-- ==== Sys2Proof/Machine/Boundary.lean ====
section
/-!
DEFINITION. STRIDE_BOUNDARY (R34): when a tick is a boundary (R72 to R75), the check of the stride that closes (R82, R83,
R163), the output commit (R35, R163), the baton's set (R214), modes and deferred writes (R25, R162), the input freeze,
program time (R156) and dispatch (R155).
-/
namespace Sys2Proof.Machine

/-! ### Which tick is a boundary (R72, R73, R75, R87) -/

/-- S and P that decide the next boundary: as configured, or while STARTER is in FAULT those of the last good boundary. -/
def State.strideS (s : State) : Nat := if s.pgState P.STARTER = stFault then s.starter.runS else s.regF R.STARTER_STRIDE_LEN 16 0
def State.strideP (s : State) : Nat := if s.pgState P.STARTER = stFault then s.starter.runP else s.regF R.STARTER_STRIDE_PHASE 16 0

/-- The running tick is aligned (R72). -/
def State.aligned (s : State) : Bool := s.starter.tickNs / 1000 % s.strideS == s.strideP

/-- A boundary falls on the running tick: aligned, and at least S ticks after the boundary before. An aligned tick that is
already running when EN is set, or when S and P are written, counts as the next aligned tick (DESIGN CHOICE, log entry
183). -/
def State.boundaryDue (s : State) : Bool :=
  s.boot.powered && s.isReleased && s.starter.running && s.aligned
    && (!s.starter.started || decide (s.boundAt + s.strideS ≤ s.now))

/-! ### The stride that closes (R82, R83, R163) -/

/-- What a boundary finds: the stride was executed in RUN or STEP and is not halted; it trapped; it was an overrun. -/
structure Closing where
  executed : Bool
  live : Bool
  trapped : Bool
  overrun : Bool
  step : Bool
  deriving DecidableEq, Repr

def State.closing (s : State) : Closing :=
  let live := s.exec.executed && (s.mode == modeRun || s.mode == modeStep)
  let trapped := s.exec.trap.isSome
  ⟨s.exec.executed, live, trapped, live && !trapped && !s.exec.due.isEmpty, s.mode == modeStep⟩

/-- CYC_LAST and CYC_MAX: cycles spent on tasks in the stride, those of an unfinished task too (R84). -/
def cycleStats (c : Closing) (s : State) : State :=
  let cyc := s.exec.cyc + if c.overrun && s.exec.running then (s.lane s.lead).eng.cycles - s.exec.cycBase else 0
  let s := (s.setRegN R.STARTER_CYC_LAST cyc).maxReg R.STARTER_CYC_MAX cyc
  if c.executed then noteMargin c.overrun s else s

/-- An overrun stops the unfinished task, discards the pending store and is counted (R82). -/
def overrunNow (s : State) : State :=
  let mask := s.exec.due.foldl (fun a k => a + 2 ^ k) 0
  let s := updExec (fun e => { e with outPend := [], txPend := [], due := [], running := false }) s
  let s := s.setF R.STARTER_OVR_STAT 1 0 (min 3 (s.regF R.STARTER_OVR_STAT 1 0 + 1))
  let s := (s.setB R.STARTER_OVR_STAT 8 true).bump R.STARTER_OVR_CNT
  let s := (s.setRegN R.STARTER_OVR_LAST_TICK (s.now % 2 ^ 32)).setRegN R.STARTER_OVR_LAST_TASKS mask
  let s := recordErr P.STARTER 0x40 srcHardware 0 (irqSet P.STARTER 8 (tally 17 s))
  if s.regF R.STARTER_OVR_STAT 1 0 = 3 then
    moduleCause 2 (irqSet P.STARTER 9 (s.setB R.STARTER_OVR_STAT 2 true))
  else s

/-- Step 1 of R34. A stride closed in STOP, NO_PROGRAM or HOLD has no due task and leaves CONSEC as it is (DESIGN CHOICE,
log entry 183). -/
def checkStride (c : Closing) (s : State) : State :=
  let s := cycleStats c (s.setB R.STARTER_OVR_STAT 8 false)
  let s := if c.overrun then overrunNow s
           else if c.live && !c.trapped then s.setF R.STARTER_OVR_STAT 1 0 0 else s
  applyTrap s

/-! ### Output commit (R35, R163, R207) -/

/-- The pending store merges into the current one (R35). -/
def mergeOutputs (s : State) : State :=
  updExec (fun e => { e with outCur := e.outPend.foldl (fun m o => Sparse.put m o.1 o.2 0) e.outCur, outPend := [] }) s

/-- A committed transmit unit goes to the port its block is bound to (R250, R299, R315, R327, R407, R448). -/
def commitUnit (b : Binding) (unit : List Byte) (s : State) : State :=
  if b.page = P.TCAP then toutCommit b.chan s.starter.boundNs unit s
  else if P.CAN ≤ b.page ∧ b.page < P.CAN + 8 then canStart (b.page - P.CAN) (canCommit (b.page - P.CAN) b.chan unit s)
  else if b.page = P.GRDMB then grdCommit b.chan s.now unit s
  else if b.page = P.SMSG then
    let c := b.chan
    if unit.length = s.connDlen c then
      txNote b.index cDone true (pairCommit (s.connF c 1 11 0) (s.connF c 1 23 12) s.now unit s)
    else txNote b.index cLength false s
  else if b.page = P.RELAY then
    if s.relayActive then relayIngress ⟨portProg, b.chan, false, unit, 0⟩ s else txNote b.index cState false s
  else if b.page = P.HOST then hostTxCommit b (some unit) s
  else s

/-- The instance that scheduled a timed output rides in its unit's owner field (R226). -/
def ownedUnit (b : Binding) (unit : List Byte) (owner : Nat) : List Byte :=
  if b.page = P.TCAP ∧ unit.length = 16 then unit.take 12 ++ leBytes 4 owner else unit

/-- The transmit units of the stride leave. -/
def commitUnits (s : State) : State :=
  let units := s.exec.txPend
  let s := updExec (fun e => { e with txPend := [] }) s
  units.foldl (fun t u => match t.binds.find? fun b => b.kind == 3 && b.index == u.1 with
    | some b => commitUnit b (ownedUnit b u.2.1 u.2.2) t
    | none => t) s

/-- The host transmit blocks of the program. -/
def State.hostBlocks (s : State) : List Binding := s.binds.filter fun b => b.kind == 3 && b.page == P.HOST

/-- A block got a unit in the stride. -/
def gotUnit (units : List (Nat × List Byte × Nat)) (b : Binding) : Bool := units.any fun u => u.1 == b.index

/-- Cyclic CAN buffers without a new commit send their latest unit again (R316). -/
def canAgain (units : List (Nat × List Byte × Nat)) (s : State) : State :=
  (s.binds.filter fun b => b.kind == 3 && decide (P.CAN ≤ b.page ∧ b.page < P.CAN + 8 ∧ b.chan < 3) && !gotUnit units b).foldl
    (fun t b => canStart (b.page - P.CAN) (canCyclic (b.page - P.CAN) b.chan t)) s

/-- Step 2 of R34. Only a completed RUN or STEP stride commits; what leaves the module at every boundary leaves in each
case. -/
def outputCommit (c : Closing) (s : State) : State :=
  let units := s.exec.txPend
  let s := takeBoundary c.executed s
  let s := if c.live && !c.overrun && !c.trapped && !s.halted && (s.mode == modeRun || s.mode == modeStep) then
      let s := commitUnits (mergeOutputs s)
      let s := s.hostBlocks.foldl (fun t b => if gotUnit units b then t else hostTxCommit b none t) s
      canAgain units (updBoot (fun b => { b with outputsHeld := false }) (releaseAll s))
    else canAgain [] (s.hostBlocks.foldl (fun t b => hostTxAge b t) s)
  if c.step && c.live then irqSet P.DEBUG 9 (s.bump R.DEBUG_STEP_CNT) else s

/-! ### The boundary's bookkeeping -/

/-- STRIDE_NO, BOUND_TICK, the lengthened stride, and S and P in force (R73, R75, R84). -/
def markBoundary (s : State) : State :=
  let len := s.now - s.boundAt
  let longer := s.starter.started && decide (s.strideS < len)
  let s := s.setReg64 R.STARTER_STRIDE_NO_LO ((s.reg64 R.STARTER_STRIDE_NO_LO + 1) % 2 ^ 64)
  let s := s.setRegN R.STARTER_BOUND_TICK (s.now % 2 ^ 32)
  let s := s.setB R.STARTER_OVR_STAT 9 longer
  let s := if longer then irqSet P.STARTER 10 (s.bump R.STARTER_STRETCH_CNT) else s
  let put (x : Starter) : Starter :=
    { x with runS := s.strideS, runP := s.strideP, started := true, boundNs := x.tickNs }
  let s := updStarter put s
  let s := if s.pgState P.STARTER = stInit then s.setPgState P.STARTER stActive else s
  captures capBoundary 0 s.starter.boundNs s

/-- A rebuilt lane rejoins the vote; boundaries are counted from the fence of a lane to its rejoin (R103, R117). -/
def cloneBoundary (s : State) : State :=
  let fenced := (List.range 3).any fun l => decide (1 ≤ s.regF (laneA l R.LANE_STATE) 2 0 ∧ s.regF (laneA l R.LANE_STATE) 2 0 ≤ 3)
  rejoin (updVoting (fun v => { v with clone := { v.clone with strides := v.clone.strides + b2n fenced } }) s)

/-- Step 5 of R34: program time and PSTRIDE (R156). -/
def advanceProgram (executed : Bool) (s : State) : State :=
  if executed then
    let s := s.setReg64 R.EXEC_PTIME_LO ((s.reg64 R.EXEC_PTIME_LO + 1000 * s.starter.runS) % 2 ^ 64)
    s.setReg64 R.EXEC_PSTRIDE_LO ((s.reg64 R.EXEC_PSTRIDE_LO + 1) % 2 ^ 64)
  else s

/-- TRIAL_LEFT counts executed strides of a trial (R227). -/
def trialCount (executed : Bool) (s : State) : State :=
  if executed && s.swapState == swTrial && !(s.regN R.SWAP_TRIAL_LEFT == 0) then
    s.setRegN R.SWAP_TRIAL_LEFT (s.regN R.SWAP_TRIAL_LEFT - 1)
  else s

/-- An action that waited for the boundary is taken (R25, R60). -/
def deferredNow (d : Deferred) (s : State) : State :=
  match d with
  | .write a v =>
    if offOf a = H.CTRL then ctrlNow (pageOf a) v s else s.setReg a v
  | .reset p => resetDone p s
  | .flush p => relayFlush p s
  | .clrForce => clrForceNow s

/-- Everything that waited, in order. -/
def deferredAll (s : State) : State := s.deferred.foldl (fun t d => deferredNow d t) { s with deferred := [] }

/-- The mode that the decision of R169 leads to runs the Stride engine in the stride that opens. -/
def State.willRun (s : State) (trapped : Bool) : Bool :=
  let m := (modeBoundary trapped s).mode
  m == modeRun || m == modeStep

/-- The modes and what they do to program time: the advance, the decision, the strides a restore missed (R156, R169,
R220). -/
def modeStepNow (c : Closing) (s : State) : State :=
  let s := modeBoundary c.trapped (advanceProgram c.executed s)
  if s.mode = modeRun ∨ s.mode = modeStep then restoredStride s else s

/-- From the output commit to the end of the boundary. `prev` is the tick of the boundary before. -/
def boundaryTail (c : Closing) (closed : Bool) (prev : Nat) (s : State) : State :=
  let s := modeStepNow c s
  let n := s.reg64 R.EXEC_PSTRIDE_LO
  let ex := s.exchangeWanted n && closed && s.swap.staged.isSome
  let s := exchangeBindings n closed s
  let s := updExec (fun e => { e with flagExchange := ex }) s
  let s := forN 4 (imageBoundary s.now) (debugBoundary (deferredAll s))
  let s := inputFreeze s.now c.executed s
  let s := if ex then exchangeAreas n s else s
  withdrawStep (heartbeatBoundary prev (dispatch s))

/-- The boundary is counted and its tick kept, after a rebuilt lane has rejoined (R73, R84, R103). -/
def boundaryOpens (s : State) : State := markBoundary (exchangeLeft (cloneBoundary s))

/-- The steps of R34 at a boundary that is open; `prev` is the tick of the boundary before. -/
def boundarySteps (prev : Nat) (s : State) : State :=
  let c := s.closing
  let s := outputCommit c (checkStride c s)
  let s := trialCount c.executed (withdrawBoundary (clearLocks s))
  let (closed, s) := batonBoundary c.overrun c.executed (s.willRun c.trapped) s
  match s.boot.restartDue with
  | some r => restartNow r s
  | none => boundaryTail c closed prev s

/-- A change of the committed command of an SBO aborts its switch-test step (R402). -/
def sboChanged (old s : State) : State :=
  forN 4 (fun i t => if old.outTo P.SBO i == t.outTo P.SBO i then t else abortTest i t) s

/-- A boundary (R34). -/
def boundaryNow (s : State) : State := sboChanged s (boundarySteps s.boundAt (boundaryOpens s))

/-- STRIDE_BOUNDARY: the running tick ends the stride, if it is due to (R73). -/
def strideBoundary (s : State) : State := if s.boundaryDue then boundaryNow s else s

/-! ### Meaning -/

def execStrideBoundary (s : State) : Host.Outcome State Fault Refusal := .next (strideBoundary s)

end Sys2Proof.Machine
end

