-- ==== Sys2Proof/Machine/Pacer.lean ====
section
/-!
DEFINITION. The pacer (chapter 10): link delay (R274, R275), fault-tolerant averaging (R279), correction (R280 to R282)
and loss of synchronisation (R283).
-/
namespace Sys2Proof.Machine

/-! ### Averaging (R279) -/

/-- Insert into a list in ascending order, equal values keeping their order. -/
def insertVal (x : Int × Nat) : List (Int × Nat) → List (Int × Nat)
  | [] => [x]
  | y :: ys => if x.1 < y.1 then x :: y :: ys else y :: insertVal x ys

/-- Values with their indexes, ascending. -/
def sortVals (vs : List Int) : List (Int × Nat) := vs.zipIdx.foldl (fun m x => insertVal x m) []

/-- k of an average over n values. -/
def ftaK (n : Nat) : Nat := if n < 3 then 0 else if n < 8 then 1 else 2

/-- The fault-tolerant average of n ≥ 1 values. -/
def fta (vs : List Int) : Int :=
  let n := vs.length
  let k := ftaK n
  divRound (((sortVals vs).drop k).take (n - 2 * k) |>.foldl (fun a x => a + x.1) 0) (n - 2 * k)

/-- Indexes of the values an average discards. -/
def ftaOut (vs : List Int) : List Nat :=
  let n := vs.length
  let k := ftaK n
  let xs := sortVals vs
  ((xs.take k) ++ (xs.drop (n - k))).map (·.2)

/-! ### Loss (R283) -/

/-- SYNC_LOST with a cause: 1 OFFSET, 2 RATE, 3 NO_SYNC. -/
def pacerLose (cause : Nat) (s : State) : State :=
  let s := s.setF R.PACER_STAT 7 4 cause
  let cnt := if cause = 1 then R.PACER_LOST_OFS_CNT else if cause = 2 then R.PACER_LOST_RATE_CNT else R.PACER_LOST_NOSYNC_CNT
  let s := recordErr P.PACER (0x3F + cause) srcHardware 0 (irqSet P.PACER 8 (s.bump cnt))
  let s := updGrd (fun g => { g with corrected := true, rateNext := none }) s
  let s := if cause = 2 then s.setReg R.PACER_RATE_PPB 0 else s
  let s := recordErr P.GRDS 0x43 srcHardware 0 (irqSet P.GRDS 9 (s.bump R.GRDS_SYNC_LOST_CNT))
  setPoc pocLost (lostCause 1 s)

/-! ### Correction (R280, R281) -/

/-- DEV_LOG (R286). -/
def devLog (vals : List PVal) (out : List Nat) (s : State) : State :=
  let s := s.clear (regRun R.PACER_DEV_LOG 30 4)
  (vals.zipIdx.take 30).foldl (fun t x =>
    let v := x.1
    t.setRegN (R.PACER_DEV_LOG + 4 * x.2) (ofSigned 16 v.dev + 2 ^ 16 * v.node + 2 ^ 26 * v.ch + 2 ^ 27 * b2n v.own
      + 2 ^ 28 * b2n (out.contains x.2) + 2 ^ 31)) s

/-- The rate samples of the cycle (R281). -/
def rateSamples (s : State) (vals : List PVal) : List Int :=
  vals.filterMap fun v => if v.own then none else
    (s.grd.prev.find? fun p => !p.own && p.node == v.node && p.ch == v.ch && p.slot == v.slot).map
      fun p => v.dev - p.dev - s.grd.prevOc

/-- The rate step of an odd cycle (R280), in effect from the next cycle; `none` where it loses synchronisation. -/
def rateStep (vals : List PVal) (s : State) : Option State :=
  let r := rateSamples s vals
  if !(s.cycleCnt % 2 == 1) || !s.grd.prevMeasured || r.isEmpty then some s else
  let step := -(divRound (fta r * 1000000) s.cycleUs)
  let rate := s.ratePpb + step
  if s.poc ≠ pocIntegrate ∧ s.regF R.PACER_CFG 22 16 * 1000 < rate.natAbs then none
  else some (updGrd (fun g => { g with rateNext := some rate }) (s.setRegN R.PACER_RATE_STEP_LAST (ofSigned 32 step)))

/-- Insert a value into a list in the order of time stamps, equal stamps keeping their order. -/
def insertStamp (v : PVal) : List PVal → List PVal
  | [] => [v]
  | x :: xs => if v.stamp < x.stamp then v :: x :: xs else x :: insertStamp v xs

/-- The values of a cycle in time-stamp order (R285). -/
def byStamp (vs : List PVal) : List PVal := vs.foldl (fun m v => insertStamp v m) []

/-- The NIT begins in the running tick, or has begun, and the pacer has not yet computed (R280). -/
def State.nitDue (s : State) : Bool :=
  !s.grd.corrected && decide ((1000 * (s.cycleUs - s.regF R.GRDS_CYCLE_CFG 25 16) : Nat) ≤ s.grd.pos + 1000)

/-- PACER_CORRECTION at the start of the NIT, once in a cycle (R278 to R283). -/
def pacerCorrect (s : State) : State :=
  if !(s.poc == pocIntegrate || s.pocRuns) || !s.nitDue then s else
  let vals := if s.en P.PACER then byStamp s.grd.vals else []
  let devs := vals.map (·.dev)
  let others := (vals.filter fun v => !v.own).length
  let k := if others = 0 then s.regF R.PACER_STAT 23 21 else ftaK vals.length
  let off : Int := if others = 0 then 0 else fta devs
  let miss := if others = 0 then min 15 (s.regF R.PACER_STAT 15 12 + 1) else 0
  let lim := s.regF R.PACER_CFG 9 0
  let s := ((s.setF R.PACER_STAT 15 12 miss).setF R.PACER_STAT 20 16 vals.length).setF R.PACER_STAT 23 21 k
  let s := devLog vals (if others = 0 then [] else ftaOut devs) s
  let s := (s.setRegN R.PACER_OFFSET_LAST (ofSigned 32 off)).setRegN R.PACER_CALC_CYCLE s.cycleCnt
  let s := if s.poc = pocNormal then s.maxReg R.PACER_OFFSET_MAX (min 65535 off.natAbs) else s
  let run := s.poc != pocIntegrate
  if run && decide (s.regF R.PACER_CFG 27 24 ≤ miss) then pacerLose 3 s
  else if run && decide (lim < off.natAbs) then pacerLose 1 s
  else match rateStep vals s with
    | none => pacerLose 2 s
    | some s =>
      let oc : Int := if -off < -(lim : Int) then -(lim : Int) else if (lim : Int) < -off then lim else -off
      updGrd (fun g => { g with oc := oc, spread := oc, measured := true, corrected := true }) s

/-! ### Link delay (R274, R275) -/

def probe (s : State) (ch : Nat) : Option (List Exch) := getAt none s.grd.probes ch
def setProbe (ch : Nat) (p : Option (List Exch)) : State → State := updGrd fun g => { g with probes := setAt g.probes ch p }

/-- A measurement is over when its 16 exchanges are. -/
def probeSettle (ch : Nat) (s : State) : State :=
  match probe s ch with
  | none => s
  | some l =>
    if l.length < 16 ∨ l.any (fun e => match e with | .run _ _ => true | _ => false) then s else
    let done := l.filterMap fun e => match e with | .done _ d => some d | _ => none
    let s := updGrd (fun g => { g with barred := setAt g.barred ch false }) (setProbe ch none s)
    let a := R.PACER_LINK_DLY_A + 4 * ch
    if done.isEmpty then
      let s := s.setRegN a (s.regF R.PACER_LINK_DFLT 11 0)
      recordErr P.PACER 0x43 srcHardware ch (irqSet P.PACER 10 (s.bump R.PACER_PROBE_FAIL_CNT))
    else
      let xs := (sortVals done).map (·.1)
      let n := xs.length
      let med := divRound (xs.getD ((n - 1) / 2) 0 + xs.getD (n / 2) 0) 4
      let spread := divRound (xs.getD (n - 1) 0 - xs.getD 0 0) 2
      let s := s.setRegN a (min 65535 med.toNat + 2 ^ 16 * min 65535 spread.toNat)
      irqSet P.PACER 9 (s.setB R.PACER_STAT (8 + ch) true)

/-- The tick of an exchange's request. -/
def Exch.tick : Exch → Nat
  | .run t _ => t
  | .failed t => t
  | .done t _ => t

/-- A 32-bit stamp of a channel's PHY referred to the MDI (R273, R274). -/
def State.mdi32 (s : State) (ch : Nat) (rx : Bool) (raw : Word) : Word :=
  raw - BitVec.ofNat 32 (Config.phyLatency s.trim ch rx)

/-- A further request of the measurement may leave: 250 µs after the one before (R274). -/
def requestDue (l : List Exch) (now : Nat) : Bool :=
  decide (l.length < 16) && match l.getLast? with | some e => decide (e.tick + 250 ≤ now) | none => true

/-- LINK_DELAY_REQUEST, sent at `t1` (R274). -/
def probeRequest (ch : Nat) (t1 : Word) (s : State) : State :=
  match probe s ch with
  | some l => if requestDue l s.now then setProbe ch (some (l ++ [.run s.now t1])) (s.send (.delay ch 0)) else s
  | none => s

/-- LINK_DELAY_RESPONSE: twice the delay is (T4 − T1) − (T3 − T2), each modulo 2^32; a response later than 1 ms finds
the exchange failed (R274, R275). -/
def probeResponse (ch k : Nat) (t2 t3 t4 : Word) (s : State) : State :=
  match probe s ch with
  | some l => match l[k]? with
    | some (.run t t1) =>
      if t + 1000 < s.now then probeSettle ch (setProbe ch (some (setAt l k (.failed t))) s) else
      let d : Int := ((t4 - t1).toNat : Int) - ((t3 - t2).toNat : Int)
      probeSettle ch (setProbe ch (some (setAt l k (.done t d))) (s.bump R.PACER_PROBE_CNT))
    | _ => s
  | none => s

/-- LINK_DELAY_TIMEOUT: 1 ms after the request (R275). -/
def probeTimeout (ch k : Nat) (s : State) : State :=
  match probe s ch with
  | some l => match l[k]? with
    | some (.run t _) =>
      if s.now < t + 1000 then s else probeSettle ch (setProbe ch (some (setAt l k (.failed t))) s)
    | _ => s
  | none => s

/-- LINK_DELAY_ANSWER: the two response messages carry T2 and T3. -/
def probeAnswer (ch : Nat) (t2 t3 : Word) (s : State) : State := (s.send (.answer ch t2)).send (.answer ch t3)

def cmdPacerClr (iss : Issuer) : State → State := quick ⟨P.PACER, 0x10, iss⟩ noCheck fun s =>
  s.clear (R.PACER_OFFSET_MAX :: regRun R.PACER_LOST_OFS_CNT 6 4)

/-! ### Meanings -/

def execPacerCorrection (s : State) : Host.Outcome State Fault Refusal := .next (pacerCorrect s)
def execLinkDelayRequest (ch : Fin 2) (t1 : Word) (s : State) : Host.Outcome State Fault Refusal :=
  .next (probeRequest ch (s.mdi32 ch false t1) s)
def execLinkDelayResponse (ch : Fin 2) (k : Fin 16) (t2 t3 t4 : Word) (s : State) : Host.Outcome State Fault Refusal :=
  .next (probeResponse ch k t2 t3 (s.mdi32 ch true t4) s)
def execLinkDelayAnswer (ch : Fin 2) (t2 t3 : Word) (s : State) : Host.Outcome State Fault Refusal :=
  .next (probeAnswer ch (s.mdi32 ch true t2) (s.mdi32 ch false t3) s)
def execLinkDelayTimeout (ch : Fin 2) (k : Fin 16) (s : State) : Host.Outcome State Fault Refusal :=
  .next (probeTimeout ch k s)
def execPacerClrCnt (iss : Issuer) (_arg : BitVec 16) (s : State) : Host.Outcome State Fault Refusal :=
  .next (cmdPacerClr iss s)

end Sys2Proof.Machine
end

