-- ==== Sys2Proof/Machine/Starter.lean ====
section
/-!
DEFINITION. The commands of STARTER (R86).
-/
namespace Sys2Proof.Machine

/-- CLR_OVR (R86): CONSEC is live and stays. -/
def starterClrOvr (s : State) : State :=
  (s.clear [R.STARTER_OVR_CNT, R.STARTER_OVR_LAST_TICK, R.STARTER_OVR_LAST_TASKS, R.STARTER_STRETCH_CNT]).setB
    R.STARTER_OVR_STAT 2 false

/-- CLR_LOAD (R86). -/
def starterClrLoad (s : State) : State := s.clear [R.STARTER_CYC_MAX, R.STARTER_EVT_DROP_CNT]

/-- SNAP (R86). -/
def starterLatch (s : State) : State :=
  (s.setReg R.STARTER_SNAP_TICK (s.reg R.STARTER_TICK)).setReg R.STARTER_SNAP_TICK_HI (s.reg R.STARTER_TICK_HI)

def execClrOvr (iss : Issuer) (_arg : BitVec 16) (s : State) : Host.Outcome State Fault Refusal :=
  .next (quick ⟨P.STARTER, 0x10, iss⟩ noCheck starterClrOvr s)
def execClrLoad (iss : Issuer) (_arg : BitVec 16) (s : State) : Host.Outcome State Fault Refusal :=
  .next (quick ⟨P.STARTER, 0x11, iss⟩ noCheck starterClrLoad s)
def execStarterSnap (iss : Issuer) (_arg : BitVec 16) (s : State) : Host.Outcome State Fault Refusal :=
  .next (quick ⟨P.STARTER, 0x12, iss⟩ noCheck starterLatch s)

end Sys2Proof.Machine
end

