-- ==== Sys2Proof/Machine/Bus.lean ====
section
/-!
DEFINITION. Every register write on its way to its page (R46 to R48, R52): PG_CMD starts the page's command with the
opcode written, PG_RESET resets the function, and any other register takes the value.
-/
namespace Sys2Proof.Machine

/-- A page command whose opcode the page does not have (check 7 of R55). -/
def unknownCommand (c : Call) : State → State := command c (fun _ => some cUnknown) id

/-- The command of a page's table, which begins with opcode 0x10. -/
def pickCommand (c : Call) (cs : List (State → State)) : State → State :=
  if c.op < 0x10 then unknownCommand c else getAt (unknownCommand c) cs (c.op - 0x10)

/-- The page command with an opcode from 0x10 up, on a populated page (R52 and the chapters' command tables). -/
def pageCommand (r : BootReport) (iss : Issuer) (p op arg : Nat) : State → State :=
  let c : Call := ⟨p, op, iss⟩
  match pageKind p with
  | none => unknownCommand c
  | some (k, i) =>
    match k with
    | .boot => pickCommand c [cmdRestart iss arg r, cmdBootClr iss]
    | .starter => pickCommand c [quick c noCheck starterClrOvr, quick c noCheck starterClrLoad,
        quick c noCheck starterLatch]
    | .pfc => pickCommand c [cmdInjTest iss, cmdPfcClr iss]
    | .lane => pickCommand c [cmdResync i iss, cmdFence i iss, cmdLaneClr i iss]
    | .xchg => pickCommand c [cmdXchgClr iss, cmdClrMargin iss]
    | .mem => pickCommand c [cmdMarch i iss, cmdMemClr i iss, cmdAtomAdd i iss, cmdAtomSwap i iss]
    | .memx => pickCommand c [cmdMarch 3 iss, cmdMemClr 3 iss, cmdAtomAdd 3 iss, cmdAtomSwap 3 iss]
    | .exec => pickCommand c [cmdLoad iss arg, cmdStart iss arg, cmdStop iss, cmdAdmit iss, cmdUnload iss, cmdExecClr iss]
    | .swap => pickCommand c [cmdStage iss arg, cmdArm iss, cmdDisarm iss, cmdCancel iss, cmdConfirm iss, cmdRevert iss,
        cmdSwapClr iss]
    | .debug => pickCommand c [cmdHold iss, cmdStep iss, cmdContinue iss, cmdClrForce iss, cmdDebugClr iss]
    | .baton => pickCommand c [cmdBatonClr iss, cmdDiscard iss]
    | .grd => pickCommand c [cmdGrdClr i iss]
    | .grds => pickCommand c [cmdSlotClaim iss, cmdSlotRelease iss arg, cmdGrdsClr iss]
    | .pacer => pickCommand c [cmdPacerClr iss]
    | .grdmb => pickCommand c [cmdMbClr iss]
    | .time => pickCommand c [cmdTimeSnap iss, cmdAdjUnlock iss arg, cmdAdjForce iss arg, cmdTimeClr iss]
    | .tcap => pickCommand c [cmdTcapClr iss]
    | .can => pickCommand c [cmdPop i iss, cmdTbLoad i arg iss, cmdTxfPush i iss, cmdTbAbort i arg iss, cmdAbortHead i iss,
        cmdTxfFlush i iss, cmdCanRestart i iss, cmdCanClr i iss]
    | .relay => pickCommand c [cmdRelayClr iss, cmdFlush arg iss]
    | .eth => pickCommand c [cmdEthClr i iss]
    | .fld => pickCommand c [cmdRelink i iss, cmdFldClr i iss]
    | .fdg => pickCommand c [cmdFdgClr i iss]
    | .measa => pickCommand c [cmdMeasaClr iss]
    | .measf => pickCommand c [cmdMeasfClr iss]
    | .safe => pickCommand c [cmdResetArm iss arg, cmdResetConfirm iss arg, cmdSafeClr iss]
    | .sbo => pickCommand c [cmdSwitchTest iss arg, cmdBrakeTest iss arg, cmdSboClr iss]
    | .disc => pickCommand c [cmdDiscClr iss]
    | .smsg => pickCommand c [cmdSmsgClr iss]
    | .part => pickCommand c [cmdWithdraw iss arg, cmdTakeover iss arg, cmdResyncMirror iss, cmdPartClr iss]
    | .health => pickCommand c [cmdHealthClr iss]
    | .host => pickCommand c [cmdDrop iss arg, cmdHostClr iss]
    | .pcie => pickCommand c [cmdPcieClr iss]
    | .shp => pickCommand c [cmdShpClose iss arg, cmdShpClr iss]
    | .upd => pickCommand c [cmdErase iss arg, cmdChunk iss, cmdInstall iss, cmdActivate iss arg, cmdAbandon iss, cmdUpdClr iss]
    | .crypt => pickCommand c [cmdCryptClr iss]
    | .recorder => pickCommand c [cmdArchived iss arg, cmdClrSrc iss, cmdRecClr iss]
    | .env => pickCommand c [cmdEnvClr iss]
    | .dev | .tst => unknownCommand c

/-- A PG_CMD write. -/
def cmdWrite (r : BootReport) (iss : Issuer) (p : Nat) (w : Word) : State → State :=
  let op := fld w 7 0
  if op < 5 then header ⟨p, op, iss⟩ else pageCommand r iss p op (fld w 31 16)

/-- A register write from a bus; `r` is what a restart that it commands meets. -/
def busWrite (r : BootReport) (iss : Issuer) (a size : Nat) (w : Word) (s : State) : State :=
  if size ≠ 4 ∨ a % 4 ≠ 0 ∨ !s.populated (pageOf a) then regWrite iss a size w s
  else if offOf a = H.CMD then cmdWrite r iss (pageOf a) w s
  else if offOf a = H.RESET then functionReset (pageOf a) iss w s
  else regWrite iss a size w s

def execRegisterWrite (iss : Issuer) (addr : BitVec 20) (size : Nat) (value : Word) (r : BootReport) (s : State) :
    Host.Outcome State Fault Refusal := .next (busWrite r iss addr.toNat size value s)

end Sys2Proof.Machine
end

