-- ==== Sys2Proof/Machine/Exchange.lean ====
section
/-!
DEFINITION. The agreement exchange (R109 to R114): the lanes' decisions of a tick, the voted decision, and what its
values do.
-/
namespace Sys2Proof.Machine

/-- The ends of the ring links in the order of XCHG_STAT: sender and receiver (R118). -/
def linkEnds (i : Nat) : Nat × Nat :=
  if i = 0 then (0, 1) else if i = 1 then (1, 0) else if i = 2 then (1, 2) else if i = 3 then (2, 1)
  else if i = 4 then (2, 0) else (0, 2)

/-- Words as one value, the first word lowest. -/
def wordsNat : List Word → Nat
  | [] => 0
  | w :: ws => w.toNat + 2 ^ 32 * wordsNat ws

/-- Source `src` of a record: the frame of a field group, or the discretes (R110). -/
def recSource (rec : List Word) (src : Nat) : BitVec 224 :=
  if src < 4 then BitVec.ofNat 224 (wordsNat ((rec.drop (7 * src)).take 7))
  else BitVec.ofNat 224 (fld (getAt 0 rec 28) 4 0)

/-- The record's CRC and TICK are right (R110, R111). -/
def recordGood (rec : List Word) (k : Nat) : Bool :=
  decide (rec.length = 32) && (getAt 0 rec 30).toNat == k % 2 ^ 32
    && BitVec.ofNat 16 (fld (getAt 0 rec 31) 15 0)
        == (List.range 31).foldl (fun c i => crc16Bits (getAt 0 rec i) 32 c) 0xFFFF#16

/-- One lane's decision of one source (R111): the value, the lanes with a good copy, the lanes outvoted, held, and the
bits that carry Q_AGREED_2. -/
structure SrcDec where
  val : BitVec 224
  good : List Nat
  outvoted : List Nat
  held : Bool
  two : BitVec 224
  deriving DecidableEq, Repr

/-- The value agreed before. -/
def State.standing (s : State) (src : Nat) : BitVec 224 :=
  if src < 4 then getAt 0 s.voting.frames src else BitVec.ofNat 224 (s.regF R.XCHG_DISC_AGREED 4 0)

/-- Decide a source from the good copies (R111). -/
def decideSource (old : BitVec 224) (copies : List (Nat × BitVec 224)) : SrcDec :=
  let good := copies.map (·.1)
  match copies with
  | [a, b, c] =>
    let v := majority a.2 b.2 c.2
    ⟨v, good, (copies.filter fun x => !(x.2 == v)).map (·.1), false, (a.2 ^^^ b.2) ||| (a.2 ^^^ c.2)⟩
  | [a, b] => if a.2 = b.2 then ⟨a.2, good, [], false, BitVec.allOnes 224⟩ else ⟨old, good, [], true, 0⟩
  | _ => ⟨old, good, [], true, 0⟩

/-- The sources decided: those of the field groups that have one and are enabled, and the discretes. -/
def State.sources (s : State) : List Nat :=
  (if s.variantN then [] else (List.range 4).filter fun g => (s.grp g).dnOn) ++ [4]

/-- The copies of a source that are good at lane `m`; `lost` are the links whose words it lost. -/
def goodCopies (recs : List (Option (List Word))) (lost : List Nat) (k src m : Nat) (s : State) :
    List (Nat × BitVec 224) :=
  s.voting.counted.filterMap fun l =>
    match getAt none recs l with
    | some r =>
      let here := l == m || !(lost.any fun i => linkEnds i == (l, m))
      if here && recordGood r k && (src == 4 || bitOf (getAt 0 r 29) src) then some (l, recSource r src) else none
    | none => none

/-- The decisions of lane `m`. -/
def laneDecision (recs : List (Option (List Word))) (lost : List Nat) (k m : Nat) (s : State) : List SrcDec :=
  s.sources.map fun src => decideSource (s.standing src) (goodCopies recs lost k src m s)

/-- The voted decision, and the lane that is outvoted (R113); `none` where no two lanes decide alike. -/
def votedDecision (ds : List (Nat × List SrcDec)) : Option (List SrcDec × List Nat) :=
  match ds with
  | [a, b, c] =>
    if a.2 = b.2 then some (a.2, if a.2 = c.2 then [] else [c.1])
    else if a.2 = c.2 then some (a.2, [b.1])
    else if b.2 = c.2 then some (b.2, [a.1])
    else none
  | [a, b] => if a.2 = b.2 then some (a.2, []) else none
  | _ => none

/-- The lowest differing bit of the copies of a source. -/
def lowestDiff (d : BitVec 224) : Nat := ((List.range 224).find? fun i => bitOf d i).getD 0

/-- LAST_DIS_TICK and LAST_DIS_INFO (R118). -/
def disagreement (k src lane : Nat) (two : Bool) (diff : BitVec 224) (s : State) : State :=
  let b := lowestDiff diff
  let word := (if src < 4 then 7 * src else 28) + b / 32
  let s := s.setRegN R.XCHG_LAST_DIS_TICK (k % 2 ^ 32)
  let s := s.setRegN R.XCHG_LAST_DIS_INFO (src + 2 ^ 4 * lane + 2 ^ 6 * word + 2 ^ 11 * (b % 32) + 2 ^ 16 * b2n two)
  irqSet P.XCHG 8 s

/-- SRC_STAT, the counters and the runs of one source from the voted decision (R111, R112, R118). -/
def sourceStats (k src : Nat) (d : SrcDec) (copies : List (Nat × BitVec 224)) (s : State) : State :=
  let a := R.XCHG_SRC_STAT + 4 * src
  let mask (ls : List Nat) : Nat := ls.foldl (fun x l => x + 2 ^ l) 0
  let run := if d.held then min 15 (s.regF a 15 12 + 1) else 0
  let s := (((s.setF a 2 0 (mask d.good)).setF a 6 4 (mask d.outvoted)).setB a 8 d.held).setF a 15 12 run
  let s := if d.held then irqSet P.XCHG 9 s else s.setB a 9 false
  let s := match copies with
    | [x, y] => if d.held then disagreement k src 3 true (x.2 ^^^ y.2) (s.bump (R.XCHG_DIS2_CNT + 4 * src)) else s
    | [_, _, _] =>
      if d.outvoted.isEmpty then s else
      let s := d.outvoted.foldl (fun t l => t.bump (R.XCHG_ODD_CNT + 4 * l)) (s.bump (R.XCHG_DIS_CNT + 4 * src))
      disagreement k src (d.outvoted.headD 3) false d.two s
    | _ => s
  forN 3 (fun l t =>
    let odd := t.inService l && t.voting.counted.contains l && (!d.good.contains l || d.outvoted.contains l)
    updVoting (fun v => { v with oddRun := modAt (fun n => if odd then n + 1 else 0) v.oddRun (3 * src + l) }) t) s

/-- The links on which a copy was missing or late: those named, and both links of a counted lane that sent no record
(R114). -/
def lateLinks (recs : List (Option (List Word))) (late : List Nat) (s : State) : List Nat :=
  (List.range 6).filter fun i => late.contains i
    || (s.voting.counted.contains (linkEnds i).1 && (getAt none recs (linkEnds i).1).isNone)

/-- Ring errors, late copies, receiver checks and the margin of the tick (R113, R114, R118). The margin is 0 where a copy
of a lane in service was late at a receiver in service. -/
def linkStats (recs : List (Option (List Word))) (bad late0 : List Nat) (margin : Nat) (s : State) : State :=
  let s := bad.foldl (fun t i => recordErr P.XCHG 0x41 srcHardware i (t.bump (R.XCHG_RING_ERR + 4 * i))) s
  let late := lateLinks recs late0 s
  let s := late.foldl (fun t i => recordErr P.XCHG 0x42 srcHardware i (t.bump R.XCHG_LATE_CNT)) s
  let s := forN 6 (fun i t => t.setB R.XCHG_STAT (8 + i) (!(bad.contains i || late.contains i))) s
  let s := forN 3 (fun l t =>
    match getAt none recs l with
    | some r => forN 4 (fun g u =>
        if (u.grp g).dnOn && !bitOf (getAt 0 r 29) g then u.bump (R.XCHG_RXCRC_CNT + 4 * l) else u) t
    | none => t) s
  let in_ (l : Nat) : Bool := s.voting.counted.contains l
  let m := if late.any fun i => in_ (linkEnds i).1 && in_ (linkEnds i).2 then 0 else margin
  let s := s.setRegN R.XCHG_MARGIN_LAST_NS m
  if m < s.regN R.XCHG_MARGIN_MIN_NS then s.setRegN R.XCHG_MARGIN_MIN_NS m else s

/-- What the agreed frame of a field group does (R342, R347, R357, R399, R401). -/
def fieldDelivered (k g : Nat) (d : SrcDec) (s : State) : State :=
  let s := updVoting (fun v => { v with frames := setAt v.frames g d.val }) s
  let old := (s.grp g).di
  let first := (s.grp g).age == 256
  let q2 : BitVec 16 := BitVec.ofNat 16 (fld d.two 199 184)
  let s := measDiag g (fld d.val 43 38) (fld d.val 37 22) s
  let s := takeFrame g k d.val q2 s
  let s := measFrame g k d.val (fun hi lo => !(fld d.two hi lo == 0)) s
  let s := if first then s else resetDis g k old (s.grp g).di s
  sboMonitor g k s

/-- One source's decision takes effect. -/
def delivered (k src : Nat) (d : SrcDec) (s : State) : State :=
  if src < 4 then if d.held then heldFrame src s else fieldDelivered k src d s
  else if d.held then s else
    updVoting (fun v => { v with discTwo := BitVec.ofNat 5 (fld d.two 4 0) }) (s.setRegN R.XCHG_DISC_AGREED (fld d.val 4 0))

/-- Discrete `i` with its quality: 0 once the source is invalid (R17, R111). -/
def State.discrete (s : State) (i : Nat) : Bool × Nat :=
  let ok := !s.regB (R.XCHG_SRC_STAT + 16) 9
  (ok && s.regB R.XCHG_DISC_AGREED i,
   qualWord ok false (ok && !s.regB (R.XCHG_SRC_STAT + 16) 8) (bitOf s.voting.discTwo i) 0)

/-- EXCHANGE_DEADLINE: the decision of tick `k`, the one before the running tick (R111, R113). -/
def deadline (recs : List (Option (List Word))) (bad late : List Nat) (margin : Nat) (s : State) : State :=
  if s.halted || s.now == 0 || s.voting.decided == some (s.now - 1) then s else
  let k := s.now - 1
  let s := updVoting (fun v => { v with decided := some k }) s
  let s := linkStats recs bad late margin s
  let srcs := s.sources
  match votedDecision (s.lanesIn.map fun m => (m, laneDecision recs (bad ++ late) k m s)) with
  | none =>
    if s.lanesIn.length < 2 then s else
    let three := s.lanesIn.length == 3
    let event (l : Option Nat) (kind : Nat) (t : State) : State :=
      attributed ⟨l, kind, 0, decisionDiff t⟩ (Config.decisionWrite t.freeCtr) t.fresh.fresh
    let s := if three then s.lanesIn.foldl (fun t l => event (some l) kMulti t) s else event none kDual s
    halt (some 9) (s.bump R.PFC_DUAL_MISM_CNT)
  | some (ds, odd) =>
    let all := srcs.zip ds
    let copies (src : Nat) (d : SrcDec) : List (Nat × BitVec 224) :=
      d.good.filterMap fun l => (getAt none recs l).map fun r => (l, recSource r src)
    let s := all.foldl (fun t x => sourceStats k x.1 x.2 (copies x.1 x.2) t) s
    let s := all.foldl (fun t x => delivered k x.1 x.2 t) s
    let s := pairsTick k s
    odd.foldl (fun t l => decisionFault l t) s

/-- SOURCE_INVALID: HOLD_LIMIT held ticks in a row (R111, R349). A page in FAULT works on its reset value (R121). -/
def sourceInvalid (src : Nat) (s : State) : State :=
  let a := R.XCHG_SRC_STAT + 4 * src
  let limit := if s.pgState P.XCHG = stFault then 4 else s.regF R.XCHG_CFG 19 16
  if s.regF a 15 12 < limit || s.regB a 9 || !s.sources.contains src then s else
  let s := (s.setB a 9 true).bump (R.XCHG_INVAL_CNT + 4 * src)
  let s := recordErr P.XCHG 0x43 srcHardware src (irqSet P.XCHG 10 s)
  if src < 4 then linkLost src s else s

/-- RX_EVENT: a lane's copy bad or outvoted for ODD_LIMIT ticks (R112, R98). -/
def rxFault (lane src : Nat) (s : State) : State :=
  let i := 3 * src + lane
  let limit := if s.pgState P.XCHG = stFault then 64 else s.regF R.XCHG_CFG 15 0
  if s.halted || decide (getAt 0 s.voting.oddRun i < limit) then s else
  let s := updVoting (fun v => { v with oddRun := setAt v.oddRun i 0 }) s
  laneFault lane kRx (recordErr P.XCHG 0x40 srcHardware lane (irqSet P.XCHG 11 s))

/-! ### Meanings -/

def execExchangeDeadline (recs : List (Option (List Word))) (bad late : List (Fin 6)) (margin : BitVec 16) (s : State) :
    Host.Outcome State Fault Refusal :=
  .next (deadline recs (bad.map (·.val)) (late.map (·.val)) margin.toNat s)
def execSourceInvalid (src : Fin 5) (s : State) : Host.Outcome State Fault Refusal := .next (sourceInvalid src s)
def execRxEvent (lane : Fin 3) (src : Fin 5) (s : State) : Host.Outcome State Fault Refusal := .next (rxFault lane src s)

end Sys2Proof.Machine
end

