-- ==== Sys2Proof/Machine/Read.lean ====
section
/-!
DEFINITION. What a register read returns (R9, R11, R46): the stored word, or for the registers that show live state the
value computed from it. A read changes nothing but for KO-01 (R535).
-/
namespace Sys2Proof.Machine

/-- A word of fields. -/
def wordOf (n : Nat) : Word := BitVec.ofNat 32 n

/-! ### The header (R49 to R51, R61, R64) -/

/-- PG_OWNER with MGMT (R64). -/
def State.ownerWord (s : State) (p : Nat) : Word := setBit (s.reg (pa p H.OWNER)) 3 (s.owner p == s.mgmt)

/-- PG_STAT.STATE of the PFC in the order of R115. -/
def State.pfcState (s : State) : Nat :=
  if s.halted then 7 else if s.pgState P.PFC = stFault then stFault
  else if s.regF R.PFC_INJ_STAT 1 0 = 3 then stInit
  else if s.pgState P.PFC = stOff then stOff
  else pfcIdleState s

/-- PG_STAT with its live bits (R51). -/
def State.statWord (s : State) (p : Nat) : Word :=
  let w := if p = P.PFC then setFld (s.reg (pa p H.STAT)) 3 0 s.pfcState else s.reg (pa p H.STAT)
  let w := setBit w 4 (s.busy p)
  let w := setBit w 5 (s.regB (pa p H.PARITY) 0)
  setBit (setBit w 6 (!(s.owner p == 7))) 7 (s.irqPend p)

/-- PG_CMDSTAT: the command that is executing or was answered last, or the one rejected over it (R52, R55). -/
def State.cmdStat (s : State) (p : Nat) : Word :=
  let w := s.reg (pa p H.CMDSTAT)
  if s.busy p then (mapGet s.shown p).getD w else w

/-- PG_VER: the silicon of field pages is that of the group's SVT-F1 (R50, R66). -/
def State.verWord (s : State) (p : Nat) : Word :=
  let w := s.reg (pa p H.VER)
  match kindOf p with
  | (.fld, g) | (.fdg, g) =>
    setFld w 15 8 (if s.variantN then 0 else s.regF R.DEV_F1_REV (8 * g + 7) (8 * g))
  | _ => w

/-- PG_CAP: no field groups on SVT330-PM-N (R4), whose exchange has the discretes alone as a source (R118). -/
def State.capWord (s : State) (p : Nat) : Word :=
  let w := s.reg (pa p H.CAP)
  if !s.variantN then w
  else if fieldPage p then setFld w 15 0 0
  else if p = P.XCHG then setFld w 15 0 1
  else w

def readHeader (p off : Nat) (s : State) : Word :=
  if off = H.CMD ∨ off = H.RESET then 0
  else if off = H.STAT then s.statWord p
  else if off = H.CMDSTAT then s.cmdStat p
  else if off = H.OWNER then s.ownerWord p
  else if off = H.VER then s.verWord p
  else if off = H.CAP then s.capWord p
  else if off = H.IRQ_PEND then s.reg (pa p H.IRQ_RAW) &&& s.reg (pa p H.IRQ_EN)
  else s.reg (pa p off)

/-! ### DEV (R66, R67) -/

/-- PAGE_SUM of slot `p`. -/
def pageSum (p : Nat) (s : State) : Word :=
  if !s.populated p then 0 else
  let e := s.reg (pa p H.ERRCNT)
  let o := s.ownerWord p
  wordOf (fld (s.statWord p) 7 0 + 2 ^ 8 * fld o 2 0 + 2 ^ 11 * fld o 3 3 + 2 ^ 12 * fld e 16 16
    + 2 ^ 16 * fld e 15 0)

/-- Summary word `j` (R62). -/
def State.irqSum (s : State) (j : Nat) : Word := wordOf (maskOf 32 fun i => s.irqPend (32 * j + i))

def readDev (off : Nat) (s : State) : Word :=
  let slot (base : Nat) : Nat := (off - base) / 4
  let shown (p : Nat) (w : Word) : Word := if s.populated p then w else 0
  if off < 0x60 then s.irqSum ((off - 0x40) / 4)
  else if off = R.DEV_ORDER then wordOf (fld s.fuses 131 128 + 2 ^ 8 * (if s.variantN then 0 else 4))
  else if off = R.DEV_REVISION then 0xA10B
  else if off = R.DEV_F1_REV then (if s.variantN then 0 else s.reg off)
  else if off = R.DEV_UID_LO then wordOf (fld s.fuses 175 144)
  else if off = R.DEV_UID_HI then wordOf (fld s.fuses 207 176)
  else if off = R.DEV_PAGES then (if s.boot.recovery then 6 else 70)
  else if off = R.DEV_STAT then
    wordOf (b2n s.boot.recovery + 2 * b2n s.halted + 4 * b2n s.standby
      + 8 * b2n ((List.range 3).any fun l => s.laneRetired l))
  else if off < 0x100 then s.reg off
  else if off < 0x500 then shown (slot 0x100) (s.reg (pa (slot 0x100) H.ID))
  else if off < 0x900 then shown (slot 0x500) (s.verWord (slot 0x500))
  else pageSum (slot 0x900) s

/-! ### Live function registers -/

/-- LANE_MAP: the lane states, DUAL and HALTED (R115). -/
def State.laneMap (s : State) : Word :=
  let st (l : Nat) : Nat := s.regF (laneA l R.LANE_STATE) 2 0
  setBit (setFld (setFld (setFld (s.reg R.PFC_LANE_MAP) 2 0 (st 0)) 6 4 (st 1)) 10 8 (st 2)) 12 (s.lanesIn.length == 2)

/-- The clone's dirty count as lane `l` shows it: the lane being rebuilt, and the lanes in service as its sources. -/
def State.cloneDirty (s : State) : Nat := if s.voting.clone.lane.isSome then dirtyCount s.voting.clone else 0

/-- Events of a lane in the hour window that ends now (R105, R117). -/
def State.attrWin (s : State) (l : Nat) : Nat := min 3 ((windowTicks l s).filter fun t => decide (s.now ≤ t + hourTicks)).length

def readLane (l off : Nat) (s : State) : Word :=
  if off = R.LANE_ATTR_WIN then wordOf (s.attrWin l)
  else if off = R.LANE_RESYNC_DIRTY then wordOf (if s.voting.clone.lane = some l then s.cloneDirty else 0)
  else if off = R.LANE_FINAL_LIMIT_CYC then wordOf (finalF s.cfgS)
  else if off = R.LANE_ENGINE_STAT then
    wordOf (if s.exec.running && s.inService l then 1 + 2 ^ 8 * s.exec.due.headD 0 else 0)
  else s.reg (laneA l off)

/-- PROGRESS of a running march: a free percentage (R141; log entry 186). -/
def marchPercent (m : Nat) (s : State) : Nat :=
  match s.mems.march with
  | some (_, _, _, start) => Config.marchProgress m (s.now - start) % 101
  | none => 0

/-- A read of a memory page; WAIT_MAX is a free value since CLR_CNT (R140; log entry 186). -/
def readMem (m off : Nat) (s : State) : Word :=
  let w := s.reg (memA m off)
  if off = R.MEM_STAT then
    if m = 3 then setBit w 4 (!s.mems.poison.isEmpty) else setBit w 3 (!s.mems.closed.isEmpty)
  else if off = R.MEM_BDIRTY_CNT ∧ m < 3 then wordOf s.mems.batonDirty.length
  else if off = R.MEM_CDIRTY_CNT ∧ m < 3 then wordOf (if s.inService m then s.cloneDirty else 0)
  else if off = R.MEM_WAIT_MAX then
    (let from_ := getAt 0 s.mems.waitFrom m
     if from_ = s.now then 0 else Config.longestWait m from_ s.now)
  else if off = R.MEM_MARCH_STAT ∧ fld w 1 0 = 3 then setFld w 15 8 (marchPercent m s)
  else w

/-- Age of diagnostic field `i` of group `g` in ticks (R370). -/
def State.diagAge (s : State) (g i : Nat) : Nat :=
  match if getAt false (s.grp g).seen i then getAt none (s.grp g).diagTick i else none with
  | some t => min (s.now - t) 0xFFFF
  | none => 0xFFFF

/-- A relay port is up (R337): its link, session or bus; PROG is up with the relay. -/
def State.portUp (s : State) (p : Nat) : Bool :=
  if p = portProg then s.relayActive
  else if p < portCan then s.regB (grdA (p - portGrd) R.GRD_CH_STAT) 0
  else if p < portEth then s.canOnBus (p - portCan)
  else if p < portHost then s.regB (ethA (p - portEth) R.ETH_STAT) 0
  else s.hostUp (p - portHost)

def portStat (p : Nat) (s : State) : Word :=
  let (held, back) := match getAt none s.relay.xfer p with
    | some x => (s.bufferHeld p, x.phase == .backoff)
    | none => (s.bufferHeld p, false)
  wordOf ((s.egressOf p).length % 1024 + 2 ^ 16 * b2n (s.portUp p) + 2 ^ 17 * b2n held + 2 ^ 18 * b2n back)

/-- SAFE_STAT's group masks (R415). -/
def State.safeStat (s : State) : Word :=
  let m (st : Nat) : Nat := maskOf 8 fun g => s.sgState g == st
  setFld (setFld (setFld (s.reg R.SAFE_STAT) 7 0 (m grpReleased)) 15 8 (m grpLocked)) 23 16 (m grpWait)

/-- The source and log entries that REC has selected (R504, R505, R507). -/
def readRec (off : Nat) (s : State) : Word :=
  let a := pa P.REC off
  let c := s.srcOf (s.regF R.REC_SRC_SEL 7 0)
  if a = R.REC_CLOSE_SEC_LO then wordOf s.recCloseAt
  else if R.REC_LOGW ≤ a ∧ a < R.REC_LOGW + 16 then
    match mapGet s.life.log (s.regF R.REC_LOG_SEL 11 0) with
    | some r => logWord r ((a - R.REC_LOGW) / 4)
    | none => 0
  else if a = R.REC_SRC_CNT then c.cnt
  else if a = R.REC_SRC_LOST then c.lost
  else if a = R.REC_SRC_FIRST then c.first
  else if a = R.REC_SRC_FIRST_TICK then c.firstTick
  else if a = R.REC_SRC_LAST then c.last
  else if a = R.REC_SRC_LAST_TICK then c.lastTick
  else if R.REC_SRC_MAP ≤ a ∧ a < R.REC_SRC_MAP + 32 then
    wordOf (maskOf 32 fun i => !((s.srcOf (8 * (a - R.REC_SRC_MAP) + i)).cnt == 0))
  else if a = R.REC_OPEN_DATA then s.openWord (s.regF R.REC_OPEN_SEL 6 0)
  else s.reg a

/-- The MAC address of port `n` as a number, byte 0 the highest (R452). -/
def State.mac (s : State) (n : Nat) : Nat := 0x024457 * 2 ^ 24 + (fld s.fuses 166 144 * 2 + n) % 2 ^ 24

/-- MAC bytes 2 to 5, and 0 and 1, the lower byte in the lower bits. -/
def macWords (s : State) (n : Nat) : Nat × Nat :=
  let bs := beBytes 6 (s.mac n)
  (leNat (bs.drop 2), leNat (bs.take 2))

/-- A register of GRDMB: the values of the buffer that MB_SEL names (R268). -/
def readMb (a : Nat) (s : State) : Word :=
  let n := s.regF R.GRDMB_MB_SEL 11 0
  let b := s.buf n
  if a = R.GRDMB_MB_ENTRY then wordOf (s.schedW (0x4000 + 8 * n))
  else if a = R.GRDMB_MB_STAT then wordOf (s.commsN (256 * n + 12) 4)
  else if a = R.GRDMB_MB_OK_CNT then b.okCnt
  else if a = R.GRDMB_MB_ERR_CNT then b.errCnt
  else if a = R.GRDMB_MB_LAST_OK then wordOf b.lastOk
  else s.reg a

/-- PROGRESS of UPD: a free percentage while an operation runs (R489; log entry 186). -/
def updWord (s : State) : Word :=
  match s.boot.op with
  | some (op, _, _, start) => setFld (s.reg R.UPD_STAT) 31 24 (Config.updateProgress op (s.now - start) % 101)
  | none => s.reg R.UPD_STAT

/-- A function register. -/
def readFunction (p off : Nat) (s : State) : Word :=
  let a := pa p off
  match kindOf p with
  | (.dev, _) => readDev off s
  | (.pfc, _) => if a = R.PFC_LANE_MAP then s.laneMap else s.reg a
  | (.lane, l) => readLane l off s
  | (.mem, m) => readMem m off s
  | (.memx, _) => readMem 3 off s
  | (.baton, _) => if a = R.BATON_SWEEP_POS then wordOf s.baton.sweepPos else s.reg a
  | (.swap, _) => if a = R.SWAP_MIG_LIMIT then wordOf (migLimit s.cfgS) else s.reg a
  | (.grds, _) => if a = R.GRDS_NODE_STAT then setBit (s.reg a) 8 (s.txAllowed && s.pocSends) else s.reg a
  | (.grd, ch) =>
    if off = R.GRD_CH_STAT then setBit (setBit (s.reg a) 2 (s.regB R.PART_STAT 9)) 1 (s.permitOpen ch) else s.reg a
  | (.grdmb, _) => readMb a s
  | (.relay, _) =>
    if R.RELAY_PORT_STAT ≤ a ∧ a < R.RELAY_PORT_STAT + 68 then portStat ((a - R.RELAY_PORT_STAT) / 4) s else s.reg a
  | (.fld, g) =>
    if off = R.FLD_CFG_CRC then
      wordOf ((imageCrc (s.grp g).cfgCur).toNat + 2 ^ 16 * getAt 0 (s.grp g).raw 37)
    else if off = R.FLD_SAFEOFF_STAT then setBit (s.reg a) 0 (s.grp g).f1.safeOff
    else s.reg a
  | (.fdg, g) =>
    if R.FDG_DIAG ≤ off ∧ off < R.FDG_DIAG + 256 then
      setFld (s.reg a) 31 16 (s.diagAge g ((off - R.FDG_DIAG) / 4))
    else s.reg a
  | (.safe, _) =>
    if a = R.SAFE_STAT then s.safeStat
    else if 0x100 ≤ off ∧ off % 32 = 8 then setBit (s.reg a) 16 (s.persists ((off - 0x100) / 32))
    else s.reg a
  | (.health, _) => if a = R.HEALTH_REPORT_AGE_MS then wordOf s.reportAge else s.reg a
  | (.eth, n) =>
    if off = R.ETH_MAC_LO then wordOf (macWords s n).1 else if off = R.ETH_MAC_HI then wordOf (macWords s n).2
    else s.reg a
  | (.recorder, _) => readRec off s
  | (.upd, _) => if a = R.UPD_STAT then updWord s else s.reg a
  | _ => s.reg a

/-- The value a read of an aligned register address returns. -/
def readReg (a : Nat) (s : State) : Word :=
  let p := pageOf a
  let off := offOf a
  if !s.populated p || !regDefined (kindOf p).1 off then 0
  else if off < 0x40 then readHeader p off s
  else match findRow (pageRows (kindOf p).1) off with
    | none => 0
    | some r =>
      if r.acc = .wo ∨ r.acc = .cmd then 0
      else match kindOf p with
        | (.can, n) =>
          let c := s.canOf n
          if off = R.CAN_RXF_DATA then
            (if rxfLevel s n = 0 then 0 else wordOf (s.commsN (rxfAddr n c.head + 4 * c.ptr) 4))
          else if R.CAN_TB_STAT ≤ off ∧ off < R.CAN_TB_STAT + 12 then
            setBit (s.reg a) 2 (s.txBinding p ((off - R.CAN_TB_STAT) / 4)).isSome
          else s.reg a
        | _ => readFunction p off s

/-- A read with its effect: RXF_DATA advances its pointer and pops (R535). -/
def busRead (a : Nat) (s : State) : Word × State :=
  let w := readReg a s
  match kindOf (pageOf a) with
  | (.can, n) => (w, if offOf a = R.CAN_RXF_DATA ∧ s.populated (pageOf a) = true then rxfRead n s else s)
  | _ => (w, s)

/-- CA_CNT of endpoint `ep` (R463). -/
def caCnt (ep : Nat) : Nat := if ep = 0 then R.PCIE_EP0_CNT else R.PCIE_EP1_CNT

/-- A register read by PCI Express of host `ep`: the word, or a completer abort for an access that is no aligned word,
which is counted and recorded (R47, R463). -/
def pcieRead (ep : Fin 2) (a size : Nat) (s0 : State) : Option Word × State :=
  let iss : Issuer := if ep = 0 then .h0 else .h1
  let s := countAccess iss s0
  if size ≠ 4 ∨ a % 4 ≠ 0 then (none, accessReject iss a (s.bump (caCnt ep)))
  else let r := busRead a s; (some r.1, r.2)

end Sys2Proof.Machine
end

