-- ==== Sys2Proof/Machine/Sha.lean ====
section
/-!
DEFINITION. SHA-256 and HMAC-SHA-256 over bytes, the tags and session keys of SHP (R453, R455). The constants are computed
from what they stand for: bits of roots of the first primes.
-/
namespace Sys2Proof.Machine

/-- The greatest `r` whose `k`-th power is at most `n`, its bits below `b` found from the top. -/
def rootFrom (k n : Nat) : Nat → Nat → Nat
  | 0, r => r
  | b + 1, r => rootFrom k n b (if (r + 2 ^ b) ^ k ≤ n then r + 2 ^ b else r)

/-- The first 32 bits behind the point of the `k`-th root of `p`. -/
def rootBits (k p : Nat) : BitVec 32 := BitVec.ofNat 32 (rootFrom k (p * 2 ^ (32 * k)) 37 0)

/-- The primes below 312: the first 64. -/
def shaPrimes : List Nat := (List.range 312).filter fun n => 2 ≤ n && (List.range 18).all fun d => d < 2 || n ≤ d || n % d != 0

/-- The constant of each round. -/
def shaK : List (BitVec 32) := shaPrimes.map (rootBits 3)

/-- The hash value before the first block. -/
def shaInit : List (BitVec 32) := (shaPrimes.take 8).map (rootBits 2)

/-- The exclusive-or of rotations of one word. -/
def rotXor (rs : List Nat) (x : BitVec 32) : BitVec 32 := rs.foldl (fun y r => y ^^^ x.rotateRight r) 0

/-- The word that follows a message schedule held newest first. -/
def shaNext (w : List (BitVec 32)) : BitVec 32 :=
  let near := getAt 0 w 1
  let far := getAt 0 w 14
  (rotXor [17, 19] near ^^^ near >>> 10) + (rotXor [7, 18] far ^^^ far >>> 3) + getAt 0 w 6 + getAt 0 w 15

/-- The 64 words of a block, in order. -/
def shaWords (block : List Byte) : List (BitVec 32) :=
  let given := (List.range 16).map fun i => BitVec.ofNat 32 (beNat ((block.drop (4 * i)).take 4))
  ((List.range 48).foldl (fun w _ => shaNext w :: w) given.reverse).reverse

/-- One round. The eight working words are the latest four values of two sequences, each newest first. -/
def shaRound (v : List (BitVec 32) × List (BitVec 32)) (kw : BitVec 32 × BitVec 32) : List (BitVec 32) × List (BitVec 32) :=
  let (p, q) := v
  let p0 := getAt 0 p 0
  let q0 := getAt 0 q 0
  let choice := getAt 0 q 2 ^^^ (q0 &&& (getAt 0 q 1 ^^^ getAt 0 q 2))
  let most := (p0 &&& getAt 0 p 1) ||| (getAt 0 p 2 &&& (p0 ||| getAt 0 p 1))
  let x := rotXor [6, 11, 25] q0 + choice + getAt 0 q 3 + kw.1 + kw.2
  ((x + most + rotXor [2, 13, 22] p0) :: p.take 3, (x + getAt 0 p 3) :: q.take 3)

/-- One 64-byte block into a hash value. -/
def shaBlock (h : List (BitVec 32)) (block : List Byte) : List (BitVec 32) :=
  let v := (shaK.zip (shaWords block)).foldl shaRound (h.take 4, h.drop 4)
  List.zipWith (· + ·) (v.1 ++ v.2) h

/-- A message filled up to whole blocks: a one bit, zeros, and its length in bits. -/
def shaPad (bs : List Byte) : List Byte :=
  0x80#8 :: List.replicate ((119 - bs.length % 64) % 64) 0#8 ++ beBytes 8 (8 * bs.length)

/-- SHA-256. -/
def sha256 (bs : List Byte) : List Byte :=
  let msg := bs ++ shaPad bs
  let last := (List.range (msg.length / 64)).foldl (fun h i => shaBlock h (msg.drop (64 * i))) shaInit
  last.flatMap fun x => beBytes 4 x.toNat

/-- HMAC-SHA-256 with a key of at most 64 bytes. -/
def hmac (key bs : List Byte) : List Byte :=
  let masked (m : Byte) : List Byte := (List.range 64).map fun i => getAt 0 key i ^^^ m
  sha256 (masked 0x5C ++ sha256 (masked 0x36 ++ bs))

end Sys2Proof.Machine
end

