-- ==== Sys2Proof/Machine/Shp.lean ====
section
/-!
DEFINITION. Hosts over Ethernet: the SHP messages and sessions (R453 to R459), the EVENT messages, re-arming (R450), and
the Ethernet ports with ARP, ICMP and UDP (R451, R452).
-/
namespace Sys2Proof.Machine

/-! ### Sessions -/

/-- The open session of host 2 + `j`. -/
def State.session (s : State) (j : Nat) : Option Session := getAt none s.shp.sess j

def updSession (j : Nat) (f : Session → Session) (s : State) : State :=
  let on (o : Option Session) : Option Session := o.map f
  { s with shp := { s.shp with sess := modAt on s.shp.sess j } }

/-- Word of session `j` on the SHP page. -/
def sessA (j a : Nat) : Nat := a + 0x20 * j

/-- The port SHP listens on, and the session timeout in ticks; defaults in FAULT (R464, R467). -/
def State.shpPort (s : State) : Nat := fld (s.cfgWord R.SHP_CFG) 15 0
def State.sessTimeout (s : State) : Nat := 1000000 * fld (s.cfgWord R.SHP_CFG) 23 16

/-- An Ethernet port serves frames: enabled, link up, an address, and no parity error (R451, R467). -/
def State.ethServes (s : State) (p : Nat) : Bool :=
  s.en (P.ETH + p) && s.regB (ethA p R.ETH_STAT) 0 && !(s.reg (ethA p R.ETH_IP_ADDR) == 0)
    && !(s.pgState (P.ETH + p) == stFault)

def ethSent (p : Nat) (s : State) : State := s.bump (ethA p R.ETH_TX_FRM_CNT)

/-- Bytes of an SHP message: header, body and tag under a key (R453). -/
def shpBytes (key : List Byte) (ver typ : Nat) (sess : Word) (seq host : Nat) (body : List Byte) : List Byte :=
  let m := leBytes 4 (ver + 2 ^ 8 * typ + 2 ^ 16 * body.length) ++ leBytes 4 sess.toNat ++ leBytes 4 seq
    ++ leBytes 4 host ++ body
  m ++ hmac key m

/-- Send a message of a session over the port it is bound to. -/
def shpSend (x : Session) (j typ seq : Nat) (msg : List Byte) (s : State) : State :=
  ethSent x.eth (s.send (.shp x.eth j typ seq msg))

/-- The eight masked summary words of host `n` (R450, R459). -/
def State.maskedSummary (s : State) (n : Nat) : List Byte :=
  (List.range 8).flatMap fun j => leBytes 4 ((s.irqSum j).toNat &&& s.commsN (hostBase n + 0xDC20 + 4 * j) 4)

/-- EVENT with the session's count `k` (R459). -/
def eventMessage (x : Session) (j k : Nat) (s : State) : State :=
  shpSend x j 0x20 k (shpBytes x.key x.ver 0x20 x.id k (2 + j) (s.maskedSummary (2 + j))) s

/-- A new EVENT of session `j` goes out; the host is not armed until it answers. -/
def sendEvent (j : Nat) (s : State) : State :=
  match s.session j with
  | none => s
  | some x =>
    let s := eventMessage x j (x.events + 1) (s.bump (sessA j R.SHP_EVT_CNT))
    let mark (y : Session) : Session := { y with events := y.events + 1, evtDue := false, evtSent := some s.now }
    updSession j mark (s.setB R.HOST_STAT (6 + j) false)

/-- SHP_EVENT: the event that a rising summary has made due. -/
def shpEvent (j : Nat) (s : State) : State :=
  match s.session j with
  | some x => if x.evtDue then sendEvent j s else s
  | none => s

/-- SHP_EVENT_REPEAT: an unanswered EVENT again, 100 ms after the latest sending. -/
def shpEventRepeat (j : Nat) (s : State) : State :=
  match s.session j with
  | some x =>
    match x.evtSent with
    | some t =>
      if t + 100000 ≤ s.now then updSession j (fun y => { y with evtSent := some s.now }) (eventMessage x j x.events s)
      else s
    | none => s
  | none => s

/-- An SHP host is armed again; a summary that is not 0 sends a new EVENT at once (R459). -/
def rearmShp (j : Nat) (s : State) : State :=
  match s.session j with
  | none => s
  | some x =>
    let s := updSession j (fun y => { y with evtSent := none, evtDue := false }) (s.setB R.HOST_STAT (6 + j) true)
    if s.summary (2 + j) && x.ver == 2 then sendEvent j s else s

/-- IRQ_REARM of host `n` is written with 1; the device acts and writes 0 (R448, R450). -/
def irqRearm (n : Nat) (s : State) : State :=
  if n < 2 then rearmPcie n s else rearmShp (n - 2) s

/-! ### HELLO (R455) -/

/-- A tag that does not verify, or a key that is absent. -/
def authFail (s : State) : State :=
  recordErr P.SHP 0x40 srcHardware 0 (irqSet P.SHP 9 (s.bump R.SHP_AUTH_FAIL_CNT))

/-- A message as it came: port, source address and UDP port, and its fields. -/
structure Message where
  eth : Nat
  ip : Word
  port : Nat
  ver : Nat
  typ : Nat
  sess : Word
  seq : Nat
  host : Nat
  body : List Byte
  /-- The bytes the tag covers, and the tag. -/
  signed : List Byte
  tag : List Byte
  deriving DecidableEq, Repr

/-- A session opens: its identity and N_D are new values of the device. -/
def openSession (m : Message) (key : List Byte) (s : State) : State :=
  let j := m.host - 2
  let s := closeSession j s
  let ver := min m.ver 2
  let id : Word := BitVec.ofNat 32 (1 + (Config.freeValue s.freeCtr).toNat % (2 ^ 32 - 1))
  let nd := leBytes 8 (Config.freeValue (s.freeCtr + 1)).toNat ++ leBytes 8 (Config.freeValue (s.freeCtr + 2)).toNat
  let s := s.fresh.fresh.fresh
  let sk := hmac key (m.body ++ nd ++ leBytes 4 id.toNat ++ [BitVec.ofNat 8 ver])
  let x : Session := { id := id, ver := ver, ip := m.ip, port := m.port, eth := m.eth, seq := 0, key := sk, cache := [],
                       lastReq := s.now, events := 0, evtDue := false, evtSent := none }
  let s := { s with shp := { s.shp with sess := setAt s.shp.sess j (some x) } }
  let s := (s.setF R.SHP_STAT (2 * j + 1) (2 * j) ver).bump R.SHP_HELLO_CNT
  let s := (s.setReg (sessA j R.SHP_SESS_ID) id).setReg (sessA j R.SHP_PEER_IP) m.ip
  let s := (s.setRegN (sessA j R.SHP_PEER) (m.port + 2 ^ 16 * m.eth)).setRegN (sessA j R.SHP_SEQ_LAST) 0
  let s := (s.setB R.HOST_STAT (2 + j) true).setB R.HOST_STAT (6 + j) true
  let s := relayEvent (portHost + 2 + j) evtPortUp 0 (irqSet P.HOST 8 (irqSet P.SHP 8 s))
  shpSend x j 0x81 m.seq (shpBytes sk ver 0x81 id m.seq m.host (leBytes 4 cDone ++ nd)) s

/-- A HELLO past the length check. -/
def hello (m : Message) (s : State) : State :=
  if m.ver = 0 ∨ m.host < 2 then s.bump R.SHP_VER_REJ_CNT
  else match getAt none s.shp.keys (m.host - 2) with
    | none => authFail s
    | some key => if hmac key m.signed = m.tag then openSession m key s else authFail s

/-! ### Requests (R456) -/

/-- Status word: code, index of the first failing item, items done (R454). -/
def statusWord (code idx done : Nat) : List Byte := leBytes 4 (code + 2 ^ 8 * (idx % 256) + 2 ^ 16 * (done % 256))

/-- READ of `n` words from a register offset: the words and the state after them. -/
def readWords (iss : Issuer) : Nat → Nat → State → List Byte × State
  | 0, _, s => ([], s)
  | n + 1, a, s =>
    let (w, t) := busRead a (countAccess iss s)
    let (rest, u) := readWords iss n (a + 4) t
    (leBytes 4 w.toNat ++ rest, u)

def shpRead (iss : Issuer) (off count : Nat) (s : State) : List Byte × State :=
  if off % 4 ≠ 0 then (statusWord cAccess 0 0, accessReject iss off s)
  else if count = 0 ∨ 256 < count ∨ 2 ^ 20 < off + 4 * count then (statusWord cRange 0 0, s)
  else
    let (data, t) := readWords iss count off s
    (statusWord cDone 0 count ++ data, t)

/-- The code of a register write and the state after it: a rejection is what the write adds to the error record of its
page under the issuer (R56, R63). -/
def writeOutcome (r : BootReport) (iss : Issuer) (a : Nat) (w : Word) (s : State) : Nat × State :=
  let q := if s.populated (pageOf a) then pageOf a else P.DEV
  let probe := busWrite r iss a 4 w (s.clear [pa q H.ERRCNT, pa q H.ERRFIRST])
  let code := if probe.regF (pa q H.ERRFIRST) 20 18 = issuerCode iss then probe.regF (pa q H.ERRFIRST) 7 0 else cDone
  (code, busWrite r iss a 4 w s)

/-- WRITE: the pairs in order until one is rejected, or the session is gone with a restart. -/
def shpWrite (r : BootReport) (iss : Issuer) (j : Nat) : List (Word × Word) → Nat → State → List Byte × State
  | [], i, s => (statusWord cDone 0 i, s)
  | (a, w) :: rest, i, s =>
    if 2 ^ 20 ≤ a.toNat then (statusWord cAddress i i, addressReject iss (a.toNat / 4 % 1024) s)
    else if a.toNat % 4 ≠ 0 then (statusWord cAccess i i, accessReject iss a.toNat (countAccess iss s))
    else
      let (code, t) := writeOutcome r iss a.toNat w s
      if code ≠ cDone then (statusWord code i i, t)
      else if (t.session j).isNone then (statusWord cDone 0 (i + 1), t)
      else shpWrite r iss j rest (i + 1) t

/-- The byte of BAR2 at an offset (R444). -/
def State.bar2 (s : State) (a : Nat) : Byte :=
  if a < 0x200000 then s.commsByte a
  else if a < 0x210000 then s.schedByte (a - 0x200000)
  else if a < 0x220000 then Memory.read s.relay.routes (a - 0x210000)
  else if a < 0x222000 then Memory.read s.safety.connTab (a - 0x220000)
  else if 0x400000 ≤ a ∧ a < 0x600000 then Memory.read s.baton.mram (0xA80000 + (a - 0x400000))
  else 0

/-- Offset and length of a memory message are legal (R454). -/
def memRangeOk (off len : Nat) : Bool :=
  off % 4 == 0 && len % 4 == 0 && decide (4 ≤ len ∧ len ≤ 1024 ∧ off + len ≤ 2 ^ 23)

def shpMemRead (off len : Nat) (s : State) : List Byte × State :=
  if !memRangeOk off len then (statusWord cRange 0 0, s)
  else
    let n := min len (0x200000 - off)
    let t := commsRead 3 off n s
    if s.poisoned off n then (statusWord cIntegrity 0 0, t)
    else (statusWord cDone 0 1 ++ (List.range len).map fun i => s.bar2 (off + i), t)

def shpMemWrite (n off len : Nat) (bs : List Byte) (s : State) : List Byte × State :=
  if len ≠ bs.length then (statusWord cLength 0 0, s)
  else if !memRangeOk off len then (statusWord cRange 0 0, s)
  else if !s.mayStore n off len then (statusWord cRange 0 0, regionReject n off s)
  else
    let s := hostStore n off bs s
    (statusWord cDone 0 1, if s.rearmAsked n off len then rearmShp (n - 2) (clearRearm n s) else s)

/-- The pairs of a WRITE body. -/
def pairsOf : List Byte → List (Word × Word)
  | a :: b :: c :: d :: e :: f :: g :: h :: rest =>
    (BitVec.ofNat 32 (leNat [a, b, c, d]), BitVec.ofNat 32 (leNat [e, f, g, h])) :: pairsOf rest
  | _ => []

/-- Execute an accepted request: the body of its response and the state. -/
def shpExecute (r : BootReport) (m : Message) (s : State) : List Byte × State :=
  let iss := issuerOf m.host
  let w0 := leNat (m.body.take 4)
  let w1 := leNat ((m.body.drop 4).take 4)
  if m.typ = 0x10 then shpRead iss w0 w1 s
  else if m.typ = 0x11 then shpWrite r iss (m.host - 2) (pairsOf m.body) 0 s
  else if m.typ = 0x12 then shpMemRead w0 w1 s
  else if m.typ = 0x13 then shpMemWrite m.host w0 w1 (m.body.drop 8) s
  else if m.typ = 0x14 then (statusWord cDone 0 0, rearmShp (m.host - 2) s)
  else (statusWord cDone 0 0, closeSession (m.host - 2) s)

/-- A request in sequence: executed, answered, and cached with its tag (R457). -/
def acceptRequest (r : BootReport) (m : Message) (x : Session) (s : State) : State :=
  let j := m.host - 2
  let s := (s.bump (sessA j R.SHP_REQ_CNT)).setRegN (sessA j R.SHP_SEQ_LAST) m.seq
  let s := updSession j (fun y => { y with seq := m.seq, lastReq := s.now }) s
  let (body, s) := shpExecute r m s
  let msg := shpBytes x.key x.ver (m.typ + 0x80) x.id m.seq m.host body
  let s := shpSend x j (m.typ + 0x80) m.seq msg s
  let keep (y : Session) : Session :=
    if y.id = x.id then { y with cache := (⟨m.seq, m.tag, msg⟩ :: y.cache).take 16 } else y
  updSession j keep s

/-- The sequence check of R457. -/
def sequence (r : BootReport) (m : Message) (x : Session) (s : State) : State :=
  let j := m.host - 2
  match x.cache.find? fun c => c.seq == m.seq with
  | some c =>
    if c.tag = m.tag then shpSend x j (m.typ + 0x80) m.seq c.resp (s.bump (sessA j R.SHP_RETRY_CNT))
    else s.bump (sessA j R.SHP_SEQ_REJ_CNT)
  | none =>
    if m.seq = (x.seq + 1) % 2 ^ 32 then acceptRequest r m x s else s.bump (sessA j R.SHP_SEQ_REJ_CNT)

/-- A message of a session: version, tag, source, sequence (R456). -/
def request (r : BootReport) (m : Message) (s : State) : State :=
  let known := [0x10, 0x11, 0x12, 0x13, 0x15].contains m.typ || (m.typ == 0x14 && m.ver == 2)
  if m.host < 2 ∨ m.ver = 0 ∨ 2 < m.ver ∨ known = false then s.bump R.SHP_VER_REJ_CNT
  else match s.session (m.host - 2) with
    | none => authFail s
    | some x =>
      if x.id = m.sess ∧ x.ver ≠ m.ver then s.bump R.SHP_VER_REJ_CNT
      else if x.id ≠ m.sess ∨ hmac x.key m.signed ≠ m.tag then authFail s
      else if x.ip ≠ m.ip ∨ x.port ≠ m.port ∨ x.eth ≠ m.eth then s.bump R.SHP_SRC_REJ_CNT
      else sequence r m x s

/-- The body has a length its type allows. -/
def bodyFits (typ len : Nat) : Bool :=
  if typ = 0x01 then len == 16
  else if typ = 0x10 ∨ typ = 0x12 then len == 8
  else if typ = 0x11 then len % 8 == 0 && decide (8 ≤ len ∧ len ≤ 1024)
  else if typ = 0x13 then decide (8 ≤ len)
  else if typ = 0x14 ∨ typ = 0x15 then len == 0
  else true

/-- A UDP datagram to the SHP port (R453, R456). -/
def shpDatagram (r : BootReport) (eth : Nat) (ip : Word) (port : Nat) (bs : List Byte) (s : State) : State :=
  let len := imgN bs 2 2
  let m : Message :=
    { eth := eth, ip := ip, port := port, ver := imgN bs 0 1, typ := imgN bs 1 1, sess := BitVec.ofNat 32 (imgN bs 4 4),
      seq := imgN bs 8 4, host := imgN bs 12 4 % 4, body := (bs.drop 16).take len, signed := bs.take (16 + len),
      tag := (bs.drop (16 + len)).take 32 }
  if !s.en P.SHP then s
  else if bs.length < 48 ∨ bs.length ≠ 48 + len ∨ 1408 < len ∨ bodyFits m.typ len = false then s.bump R.SHP_LEN_REJ_CNT
  else if m.typ = 0x01 then hello m s
  else request r m s

/-- A message a command spells: it comes in a datagram to the SHP port of a port that serves it. -/
def shpCommand (r : BootReport) (h : ShpHead) (typ : Nat) (body : List Byte) (s : State) : State :=
  if !s.ethServes h.eth then s else
  let m := leBytes 4 (h.ver.toNat + 2 ^ 8 * typ + 2 ^ 16 * body.length) ++ leBytes 4 h.session.toNat
    ++ leBytes 4 h.seq.toNat ++ leBytes 4 h.host.toNat ++ body ++ h.tag
  shpDatagram r h.eth h.ip h.port.toNat m (s.bump (ethA h.eth R.ETH_RX_FRM_CNT))

/-- What no restart meets: the message is no WRITE. -/
def noBoot : BootReport := ⟨0, [], ⟨[]⟩, [], []⟩

/-- SESSION_TIMEOUT: no accepted request for SESS_TO_S seconds (R458). -/
def sessionTimeout (j : Nat) (s : State) : State :=
  match s.session j with
  | some x => if x.lastReq + s.sessTimeout ≤ s.now then closeSession j s else s
  | none => s

/-! ### Ethernet frames (R451, R452) -/

/-- The Internet checksum of bytes: the ones' complement sum of big-endian halfwords, inverted. -/
def inetSum : List Byte → Nat
  | a :: b :: rest => 256 * a.toNat + b.toNat + inetSum rest
  | [a] => 256 * a.toNat
  | [] => 0

def inetFold (n : Nat) : Nat :=
  let n := n % 0x10000 + n / 0x10000
  n % 0x10000 + n / 0x10000

/-- The checksum field that closes `bs`, whose own field is 0. -/
def inetCheck (bs : List Byte) : Nat := 0xFFFF - inetFold (inetSum bs)

/-- A big-endian field of `n` bytes at offset `o`. -/
def netN (bs : List Byte) (o n : Nat) : Nat := beNat ((bs.drop o).take n)

def ethDrop (p : Nat) (s : State) : State := s.bump (ethA p R.ETH_RX_DROP_CNT)

/-- The IPv4 address of a port. -/
def State.ethIp (s : State) (p : Nat) : Nat := s.regN (ethA p R.ETH_IP_ADDR)

/-- Send a frame out of a port. -/
def ethSend (p : Nat) (bs : List Byte) (s : State) : State := ethSent p (s.send (.eth p bs))

/-- ARP: a request for the port's address is answered. -/
def arpFrame (p : Nat) (bs : List Byte) (s : State) : State :=
  let a := bs.drop 14
  if a.length < 28 ∨ netN a 0 2 ≠ 1 ∨ netN a 2 2 ≠ 0x0800 ∨ netN a 4 2 ≠ 0x0604 then ethDrop p s
  else if netN a 6 2 = 1 ∧ netN a 24 4 = s.ethIp p then
    let me := beBytes 6 (s.mac p)
    ethSend p ((a.drop 8).take 6 ++ me ++ beBytes 2 0x0806 ++ beBytes 8 0x0001080006040002 ++ me
      ++ beBytes 4 (s.ethIp p) ++ (a.drop 8).take 10) s
  else s

/-- An IPv4 header without options, from this port. -/
def ipHeader (p proto len dst : Nat) (s : State) : List Byte :=
  let head (sum : Nat) : List Byte :=
    beBytes 2 0x4500 ++ beBytes 2 (20 + len) ++ beBytes 4 0 ++ [64#8, BitVec.ofNat 8 proto] ++ beBytes 2 sum
      ++ beBytes 4 (s.ethIp p) ++ beBytes 4 dst
  head (inetCheck (head 0))

/-- ICMP echo with ICMP_EN. -/
def icmpFrame (p : Nat) (src : Nat) (bs pay : List Byte) (s : State) : State :=
  if !s.regB (ethA p R.ETH_CFG) 0 || decide (pay.length < 8) || !(netN pay 0 2 == 0x0800)
      || !(inetFold (inetSum pay) == 0xFFFF) then ethDrop p s
  else
    let echo (sum : Nat) : List Byte := beBytes 2 0 ++ beBytes 2 sum ++ pay.drop 4
    ethSend p ((bs.drop 6).take 6 ++ beBytes 6 (s.mac p) ++ beBytes 2 0x0800
      ++ ipHeader p 1 pay.length src s ++ echo (inetCheck (echo 0))) s

/-- UDP: to the SHP port or to RELAY_UDP. -/
def udpFrame (r : BootReport) (p src : Nat) (pay : List Byte) (s : State) : State :=
  let len := netN pay 4 2
  let sum := inetSum (beBytes 4 src ++ beBytes 4 (s.ethIp p) ++ beBytes 2 17 ++ beBytes 2 len ++ pay.take len)
  let port := netN pay 2 2
  if pay.length < 8 ∨ len < 8 ∨ pay.length < len ∨ ¬(netN pay 6 2 = 0 ∨ inetFold sum = 0xFFFF) then ethDrop p s
  else
    let data := (pay.take len).drop 8
    if port = s.shpPort then shpDatagram r p (BitVec.ofNat 32 src) (netN pay 0 2) data s
    else if port = s.regF R.RELAY_UDP 15 0 then relayDatagram p (BitVec.ofNat 32 src) data s
    else ethDrop p s

/-- IPv4 without options and fragments, to the port's address. -/
def ipFrame (r : BootReport) (p : Nat) (bs : List Byte) (s : State) : State :=
  let i := bs.drop 14
  let len := netN i 2 2
  let proto := netN i 9 1
  let pay := (i.take len).drop 20
  if i.length < 20 ∨ netN i 0 1 ≠ 0x45 ∨ len < 20 ∨ i.length < len ∨ netN i 6 2 % 0x4000 ≠ 0
      ∨ inetFold (inetSum (i.take 20)) ≠ 0xFFFF ∨ netN i 16 4 ≠ s.ethIp p then ethDrop p s
  else if proto = 1 then icmpFrame p (netN i 12 4) bs pay s
  else if proto = 17 then udpFrame r p (netN i 12 4) pay s
  else ethDrop p s

/-- ETH_FRAME: a frame on an enabled port whose link is up. -/
def ethFrame (r : BootReport) (p : Nat) (ok : Bool) (bs : List Byte) (s : State) : State :=
  if !s.en (P.ETH + p) || !s.regB (ethA p R.ETH_STAT) 0 then s else
  let s := s.bump (ethA p R.ETH_RX_FRM_CNT)
  let dst := netN bs 0 6
  let typ := netN bs 12 2
  if !ok || !s.ethServes p then ethDrop p s
  else if typ = 0x0806 ∧ (dst = s.mac p ∨ dst = 0xFFFFFFFFFFFF) then arpFrame p bs s
  else if typ = 0x0800 ∧ dst = s.mac p then ipFrame r p bs s
  else ethDrop p s

/-! ### Meanings -/

def execIrqRearm (n : Fin 4) (s : State) : Host.Outcome State Fault Refusal := .next (irqRearm n s)
def execEthFrame (p : Fin 2) (ok : Bool) (bs : List Byte) (r : BootReport) (s : State) :
    Host.Outcome State Fault Refusal := .next (ethFrame r p ok bs s)
def execHello (m : ShpHead) (nonce : List Byte) (s : State) : Host.Outcome State Fault Refusal :=
  .next (shpCommand noBoot m 0x01 nonce s)
def execRead (m : ShpHead) (off count : Word) (s : State) : Host.Outcome State Fault Refusal :=
  .next (shpCommand noBoot m 0x10 (leBytes 4 off.toNat ++ leBytes 4 count.toNat) s)
def execWrite (m : ShpHead) (pairs : List (Word × Word)) (r : BootReport) (s : State) :
    Host.Outcome State Fault Refusal :=
  .next (shpCommand r m 0x11 (pairs.flatMap fun x => leBytes 4 x.1.toNat ++ leBytes 4 x.2.toNat) s)
def execMemRead (m : ShpHead) (off len : Word) (s : State) : Host.Outcome State Fault Refusal :=
  .next (shpCommand noBoot m 0x12 (leBytes 4 off.toNat ++ leBytes 4 len.toNat) s)
def execMemWrite (m : ShpHead) (off len : Word) (data : List Byte) (s : State) : Host.Outcome State Fault Refusal :=
  .next (shpCommand noBoot m 0x13 (leBytes 4 off.toNat ++ leBytes 4 len.toNat ++ data) s)
def execEvtAck (m : ShpHead) (s : State) : Host.Outcome State Fault Refusal := .next (shpCommand noBoot m 0x14 [] s)
def execClose (m : ShpHead) (s : State) : Host.Outcome State Fault Refusal := .next (shpCommand noBoot m 0x15 [] s)
def execShpEvent (j : Fin 2) (s : State) : Host.Outcome State Fault Refusal := .next (shpEvent j s)
def execShpEventRepeat (j : Fin 2) (s : State) : Host.Outcome State Fault Refusal := .next (shpEventRepeat j s)
def execSessionTimeout (j : Fin 2) (s : State) : Host.Outcome State Fault Refusal := .next (sessionTimeout j s)

end Sys2Proof.Machine
end

