-- ==== Sys2Proof/Machine/Tick.lean ====
section
/-!
DEFINITION. SAMPLE_TICK (R68): train time runs to its next whole microsecond (R289), the tick number advances (R69), and
everything that happens once in a tick happens.
-/
namespace Sys2Proof.Machine

/-- 8 ns edges until train time crosses its next whole microsecond (R68, R289). -/
def edgesToTick (s : State) : Nat :=
  let inc := max 1 s.increment
  let left := (s.ttNs / 1000 + 1) * 1000 * 2 ^ 24 - (s.ttNs * 2 ^ 24 + s.time.frac.toNat)
  (left + inc - 1) / inc

/-- Train time after `n` edges of the time base (R289). -/
def runTime (n : Nat) (s : State) : State :=
  let t := s.ttNs * 2 ^ 24 + s.time.frac.toNat + n * max 1 s.increment
  let ns := t / 2 ^ 24
  updTime (fun x => { x with sec := BitVec.ofNat 64 (ns / 1000000000), ns := ns % 1000000000,
                             frac := BitVec.ofNat 24 (t % 2 ^ 24) }) s

/-- Train time comes to the tick that starts; a whole second on the way is captured (R297). -/
def tickTimeNow (s : State) : State :=
  let sec := s.time.sec
  let edges := edgesToTick s
  let s := showTime (runTime edges s)
  let cyc := 16 * edges + s.starter.fifths
  let s := updStarter (fun x => { x with prevNs := x.tickNs, tickNs := s.ttNs, tickCyc := cyc / 5, fifths := cyc % 5 }) s
  let s := netTick edges s
  if s.time.sec = sec then s else captures capSecond 0 s.ttNs s

/-- The tick number advances (R69); it wraps with its upper half. -/
def nextTick (s : State) : State := s.setReg64 R.STARTER_TICK ((s.now + 1) % 2 ^ 64)

/-- SG_STAT[15:0] of every group as the tick that ends leaves it (R31, R394). -/
def keepGroupStats (s : State) : State :=
  updSafety (fun x => { x with statAt := (List.range 8).map fun g => s.regF (sgA g sgStat) 15 0 }) s

/-- The lanes in service, and a rebuilt lane from its final phase on, run in a tick, 400 cycles at the nominal rate (R26,
R27, R101, R117). -/
def laneCycles (s : State) : State :=
  let rebuilt := if s.voting.clone.armed then s.voting.clone.lane.toList else []
  (s.lanesIn ++ rebuilt).foldl (fun t l =>
    let a := pa (P.LANE + l) R.LANE_CYC_CNT_LO
    t.setReg64 a ((t.reg64 a + s.starter.tickCyc) % 2 ^ 64)) s

/-- Timed outputs, compare channels and stride triggers of the tick that starts (R298, R300, R343, R380). -/
def tickEvents (s : State) : State := strideTriggers (forN 32 cmpQueue (forN 32 toutTick s))

/-- The field links of tick `k`: downstream frames, and the SVT-F1s (R340, R341). -/
def tickFields (k : Nat) (s : State) : State := measTick k (forN 4 (f1Tick k) (forN 4 (sendDown k) s))

/-- The tick starts: hosts' commits are latched, the number and train time advance, the lanes have run and send their
beats, and the exchange takes the lanes in service (R68, R69, R90, R96, R446). -/
def tickOpens (s : State) : State :=
  tableScrub (countedLanes (cloneTick (beatTick (laneCycles (tickTimeNow (nextTick (keepGroupStats (commitLatchAll s))))))))

/-- Faults disturb stored words (R126). -/
def strikeAll (strikes : List Strike) (s : State) : State :=
  strikes.foldl (fun t x => strikeWord x.mem x.word x.ecc t) s

/-- The boundary window ends: the frames committed at the boundary may start arbitration (R38, R315). -/
def canWindow (s : State) : State := if s.boundAt + 5 = s.now then forN 8 canStart s else s

/-- Everything that is done once in a tick that has started: the baton streams and sweeps too (R215, R217). -/
def tickWork (upset : Option (Fin 8)) (s : State) : State :=
  let s := safetyTick upset (tickEvents (batonTick s))
  injRelease (partTick (relayDrain (canWindow (pocCheck (tickFields s.now s)))))

/-- SAMPLE_TICK; without power no tick starts. -/
def sampleTick (upset : Option (Fin 8)) (strikes : List Strike) (s : State) : State :=
  if s.boot.powered then tickWork upset (tickOpens (strikeAll strikes s)) else s

/-! ### Meaning -/

def execSampleTick (faults : TickFaults) (s : State) : Host.Outcome State Fault Refusal :=
  .next (sampleTick faults.upset faults.strikes s)

end Sys2Proof.Machine
end

