-- ==== Sys2Proof/Machine/ZBlocks.lean ====
section
/-!
DEFINITION. ZVC built-in blocks (R200 to R206, R226).
-/
namespace Sys2Proof.Machine

/-- A flag as a register word. -/
def boolWord (b : Bool) : DWord := BitVec.ofNat 64 (b2n b)

/-- A built-in with data: writes at its data and outputs in registers, one word long. -/
def zBlock (cost n : Nat) (okT : ZCtx → Bool) (off : BitVec 21) (f : ZCtx → Engine × List (Nat × List Byte)) :
    State → State :=
  zRun 1 cost (fun c => okT c && c.blockOk off n) fun c =>
    let r := f c
    ⟨c.next 1 r.1, r.2.map fun w => (c.data off + w.1, w.2), [], none, none, false,
      [(c.data off, n)]⟩

/-! ### Timers (R203) -/

/-- A timer's data: START, ET, previous IN, Q, running (R202). -/
structure Timer where
  start : Nat
  et : Nat
  prev : Bool
  q : Bool
  run : Bool
  deriving DecidableEq, Repr

def ZCtx.timer (c : ZCtx) (off : BitVec 21) : Timer :=
  let st := Memory.read c.mem (c.data off + 16)
  ⟨c.dataN off 0 8, c.dataN off 8 8, bitOf st 0, bitOf st 1, bitOf st 2⟩

/-- The bytes of a timer's data. -/
def Timer.bytes (t : Timer) : List Byte :=
  leBytes 8 t.start ++ leBytes 8 t.et ++ leBytes 8 (b2n t.prev + 2 * b2n t.q + 4 * b2n t.run)

/-- TON with NOW, the elapsed time from START, IN and P. -/
def Timer.ton (t : Timer) (now : Nat) (since : Nat → Nat) (inp : Bool) (p : Nat) : Timer :=
  if !inp then { t with q := false, et := 0, run := false, prev := inp }
  else
    let t := if t.run then t else { t with start := now, run := true }
    let d := since t.start
    { t with et := min d p, q := decide (p ≤ d), prev := inp }

/-- TOF. -/
def Timer.tof (t : Timer) (now : Nat) (since : Nat → Nat) (inp : Bool) (p : Nat) : Timer :=
  if inp then { t with q := true, et := 0, run := false, prev := inp }
  else
    let t := if t.prev then { t with start := now, run := true } else t
    if t.run then
      let d := since t.start
      { t with et := min d p, q := decide (d < p), run := decide (d < p), prev := inp }
    else { t with q := false, prev := inp }

/-- TP. -/
def Timer.tp (t : Timer) (now : Nat) (since : Nat → Nat) (inp : Bool) (p : Nat) : Timer :=
  if t.run then
    let d := since t.start
    if d < p then { t with q := true, et := d, prev := inp }
    else { t with q := false, et := p, run := false, prev := inp }
  else if inp && !t.prev then { t with start := now, run := true, q := decide (0 < p), et := 0, prev := inp }
  else { t with q := false, et := if inp then t.et else 0, prev := inp }

/-- A timer block: W0 IN, W1 PT give W0 Q, W1 ET. -/
def zTimer (step : Timer → Nat → (Nat → Nat) → Bool → Nat → Timer) (off : BitVec 21) : State → State :=
  zBlock 12 24 zAlways off fun c =>
    let t := step (c.timer off) c.nowNs c.since (c.wBit 0) (c.w 1).toInt.toNat
    (((c.e.setQ c.timeQ).setW 0 (boolWord t.q)).setW 1 (BitVec.ofNat 64 t.et), [(0, t.bytes)])

def zTon : BitVec 21 → State → State := zTimer Timer.ton
def zTof : BitVec 21 → State → State := zTimer Timer.tof
def zTp : BitVec 21 → State → State := zTimer Timer.tp

/-! ### Edges, bistables, counters (R204, R226) -/

/-- An edge detector: `rise` for R_TRIG. FIRST takes no edge (R226). -/
def zEdge (rise : Bool) (off : BitVec 21) : State → State :=
  zBlock 4 8 zAlways off fun c =>
    let b := Memory.read c.mem (c.data off)
    let clk := c.wBit 0
    let q := !bitOf b 1 && (if rise then clk && !bitOf b 0 else !clk && bitOf b 0)
    (c.e.setW 0 (boolWord q), [(0, [BitVec.ofNat 8 (b2n clk)])])

/-- A bistable with its rule. -/
def zBistable (f : Bool → Bool → Bool → Bool) (off : BitVec 21) : State → State :=
  zBlock 4 8 zAlways off fun c =>
    let q := f (bitOf (Memory.read c.mem (c.data off)) 0) (c.wBit 0) (c.wBit 1)
    (c.e.setW 0 (boolWord q), [(0, [BitVec.ofNat 8 (b2n q)])])

/-- SR: Q1 = S1 or (Q1 and not R). RS: Q1 = not R1 and (S or Q1). -/
def zSr : BitVec 21 → State → State := zBistable fun q a b => a || (q && !b)
def zRs : BitVec 21 → State → State := zBistable fun q a b => !b && (a || q)

/-- A rising input against the previous value in a byte, with FIRST (R226). -/
def risen (prev : Byte) (x : Bool) : Bool := x && !bitOf prev 0 && !bitOf prev 1

/-- A counter's value. -/
def ZCtx.cv (c : ZCtx) (off : BitVec 21) : Int := toSigned 32 (c.dataN off 0 4)
/-- An INT32 input. -/
def ZCtx.int32 (c : ZCtx) (r : ZReg) : Int := toSigned 32 (c.w r).toNat

/-- The bytes of CV. -/
def cvBytes (v : Int) : List Byte := leBytes 4 (ofSigned 32 v)
/-- The byte of a previous input, FIRST cleared. -/
def prevByte (b : Bool) : List Byte := [BitVec.ofNat 8 (b2n b)]

def countUp (v : Int) : Int := if v < 2 ^ 31 - 1 then v + 1 else v
def countDown (v : Int) : Int := if -(2 ^ 31) < v then v - 1 else v

def zCtu (off : BitVec 21) : State → State :=
  zBlock 7 8 zAlways off fun c =>
    let up := risen (Memory.read c.mem (c.data off + 4)) (c.wBit 0)
    let v := if c.wBit 1 then 0 else if up then countUp (c.cv off) else c.cv off
    ((c.e.setW 0 (boolWord (decide (c.int32 2 ≤ v)))).setW 1 (intWord v), [(0, cvBytes v), (4, prevByte (c.wBit 0))])

def zCtd (off : BitVec 21) : State → State :=
  zBlock 7 8 zAlways off fun c =>
    let dn := risen (Memory.read c.mem (c.data off + 5)) (c.wBit 0)
    let v := if c.wBit 1 then c.int32 2 else if dn then countDown (c.cv off) else c.cv off
    ((c.e.setW 0 (boolWord (decide (v ≤ 0)))).setW 1 (intWord v), [(0, cvBytes v), (5, prevByte (c.wBit 0))])

def zCtud (off : BitVec 21) : State → State :=
  zBlock 9 8 zAlways off fun c =>
    let up := risen (Memory.read c.mem (c.data off + 4)) (c.wBit 0)
    let dn := risen (Memory.read c.mem (c.data off + 5)) (c.wBit 1)
    let v0 := c.cv off
    let v := if c.wBit 2 then 0 else if c.wBit 3 then c.int32 4
             else if up && !dn then countUp v0 else if dn && !up then countDown v0 else v0
    (((c.e.setW 0 (boolWord (decide (c.int32 4 ≤ v)))).setW 1 (boolWord (decide (v ≤ 0)))).setW 2 (intWord v),
      [(0, cvBytes v), (4, prevByte (c.wBit 0)), (5, prevByte (c.wBit 1))])

/-! ### Typed blocks (R205) -/

/-- The first operand is below the second, in type T. -/
def ltTy (t : ZTy) (a b : DWord) : Bool := if t.isReal then (t.real a).lt (t.real b) else decide (t.val a < t.val b)
/-- Some operand is a NaN. -/
def anyNan (t : ZTy) (ws : List DWord) : Bool := t.isReal && ws.any fun w => (t.real w).isNan

def zHyst (t : ZTy) (off : BitVec 21) : State → State :=
  zBlock (if t.isReal then 6 else 5) 8 (fun c => (isIntTy t || t.isReal || t == .time) && c.tyOk t) off fun c =>
    let q0 := bitOf (Memory.read c.mem (c.data off)) 0
    let nan := anyNan t [c.w 0, c.w 1, c.w 2]
    let q := if nan then q0 else if ltTy t (c.w 1) (c.w 0) then true else if ltTy t (c.w 0) (c.w 2) then false else q0
    ((c.e.setV nan).setW 0 (boolWord q), [(0, [BitVec.ofNat 8 (b2n q)])])

/-- An integer number of ns as a number of a REAL type. -/
def Fmt.ns (f : Fmt) (v : Int) : FpNum := f.decode (f.ofInt v)

def Fmt.add (f : Fmt) (a b : FpNum) : FpNum := f.decode (f.addReal a b).1
def Fmt.mul (f : Fmt) (a b : FpNum) : FpNum := f.decode (f.mulReal a b).1
def Fmt.div (f : Fmt) (a b : FpNum) : FpNum := f.decode (f.divReal a b).1

/-- The data of RAMP and LAG: OUT, LAST and the initialised mark. -/
def rampBytes (t : ZTy) (out : Nat) (now : Nat) (init : Bool) : List (Nat × List Byte) :=
  [(0, leBytes t.size out), (8, leBytes 8 now), (16, [BitVec.ofNat 8 (b2n init)])]

def realTy (t : ZTy) (c : ZCtx) : Bool := t.isReal && c.tyOk t

def zRamp (t : ZTy) (off : BitVec 21) : State → State :=
  zBlock (if t == .real32 then 20 else 26) 24 (realTy t) off fun c =>
    let f := t.fmt
    let out0 := c.dataN off 0 t.size
    let init := bitOf (Memory.read c.mem (c.data off + 16)) 0
    let x := t.real (c.w 0)
    let nan := anyNan t [c.w 0, c.w 1]
    let e := (c.e.setQ c.timeQ).setV nan
    let fin (out : Nat) (i : Bool) : Engine × List (Nat × List Byte) :=
      (e.setW 0 (BitVec.ofNat 64 out), rampBytes t out c.nowNs i)
    if nan then fin out0 init
    else if c.wBit 2 || !init then fin ((c.w 0).toNat % 2 ^ (8 * t.size)) true
    else
      let o := f.decode out0
      let dt := f.ns (c.since (c.dataN off 8 8))
      let step := f.div (f.mul (t.real (c.w 1)).abs dt) (f.ns 1000000000)
      let d := f.add x o.neg
      if !(step.lt d.abs) && !d.isNan && !step.isNan then fin ((c.w 0).toNat % 2 ^ (8 * t.size)) true
      else fin (f.encode (if x.lt o then f.add o step.neg else f.add o step)) true

def zLag (t : ZTy) (off : BitVec 21) : State → State :=
  zBlock (if t == .real32 then 30 else 44) 24 (realTy t) off fun c =>
    let f := t.fmt
    let out0 := c.dataN off 0 t.size
    let init := bitOf (Memory.read c.mem (c.data off + 16)) 0
    let x := t.real (c.w 0)
    let tt := (c.w 1).toInt
    let e := c.e.setQ c.timeQ
    let fin (out : Nat) : Engine × List (Nat × List Byte) :=
      (e.setW 0 (BitVec.ofNat 64 out), rampBytes t out c.nowNs true)
    if c.wBit 2 || !init || decide (tt ≤ 0) then fin ((c.w 0).toNat % 2 ^ (8 * t.size))
    else
      let n := c.since (c.dataN off 8 8)
      if n = 0 then fin out0
      else
        let o := f.decode out0
        let dt := f.ns n
        let q := f.div (f.mul (f.add x o.neg) dt) (f.add (f.ns tt) dt)
        fin (f.encode (f.add o q))

/-! ### Stateless blocks (R206) -/

def zLimit (d a b : ZReg) (t : ZTy) : State → State :=
  zPlain 1 (if t.isReal then 4 else 2) (fun c => tyAdd t && c.tyOk t) fun c =>
    if anyNan t [c.w d, c.w a, c.w b] then (c.e.setV true).setW d (BitVec.ofNat 64 t.fmt.nanW)
    else if ltTy t (c.w d) (c.w a) then c.e.setW d (c.w a)
    else if ltTy t (c.w b) (c.w d) then c.e.setW d (c.w b)
    else c.e

def zSel (d a b : ZReg) : State → State :=
  zPlain 1 1 zAlways fun c => c.e.setW d (if c.wBit d then c.w b else c.w a)

def zMux (d a b : ZReg) : State → State :=
  zPlain 1 2 (fun _ => decide (a.val + b.val ≤ 15)) fun c =>
    let k := (c.w d).toInt
    if 0 ≤ k ∧ k < b.val + 1 then c.e.setW d (getAt 0 c.e.w (a.val + k.toNat))
    else (c.e.setV true).setW d (c.w a)

/-! ### Meanings -/

def execTon (off : BitVec 21) (s : State) : Host.Outcome State Fault Refusal := .next (zTon off s)
def execTof (off : BitVec 21) (s : State) : Host.Outcome State Fault Refusal := .next (zTof off s)
def execTp (off : BitVec 21) (s : State) : Host.Outcome State Fault Refusal := .next (zTp off s)
def execRTrig (off : BitVec 21) (s : State) : Host.Outcome State Fault Refusal := .next (zEdge true off s)
def execFTrig (off : BitVec 21) (s : State) : Host.Outcome State Fault Refusal := .next (zEdge false off s)
def execCtu (off : BitVec 21) (s : State) : Host.Outcome State Fault Refusal := .next (zCtu off s)
def execCtd (off : BitVec 21) (s : State) : Host.Outcome State Fault Refusal := .next (zCtd off s)
def execCtud (off : BitVec 21) (s : State) : Host.Outcome State Fault Refusal := .next (zCtud off s)
def execSr (off : BitVec 21) (s : State) : Host.Outcome State Fault Refusal := .next (zSr off s)
def execRs (off : BitVec 21) (s : State) : Host.Outcome State Fault Refusal := .next (zRs off s)
def execHyst (t : ZTy) (off : BitVec 21) (s : State) : Host.Outcome State Fault Refusal := .next (zHyst t off s)
def execRamp (t : ZTy) (off : BitVec 21) (s : State) : Host.Outcome State Fault Refusal := .next (zRamp t off s)
def execLag (t : ZTy) (off : BitVec 21) (s : State) : Host.Outcome State Fault Refusal := .next (zLag t off s)
def execLimit (d a b : ZReg) (t : ZTy) (s : State) : Host.Outcome State Fault Refusal := .next (zLimit d a b t s)
def execSel (d a b : ZReg) (s : State) : Host.Outcome State Fault Refusal := .next (zSel d a b s)
def execMux (d a b : ZReg) (s : State) : Host.Outcome State Fault Refusal := .next (zMux d a b s)

end Sys2Proof.Machine
end

