-- ==== Sys2Proof/Machine/ZFlow.lean ====
section
/-!
DEFINITION. ZVC control flow: BR, JMP, LOOP, CALL, RET, TRAP (R198, R199, R209).
-/
namespace Sys2Proof.Machine

/-- A branch target `off` words after the next instruction: forward, inside the code range (R159, R198). -/
def brOk (off : Int) (c : ZCtx) : Bool := decide (0 ≤ off) && decide (c.e.pc + 4 + 4 * off.toNat < c.lvl.last)

/-- The branch is taken. -/
def ZCtx.branch (c : ZCtx) (off : Int) : Engine := c.e.jumpTo (c.e.pc + 4 + 4 * off.toNat)

def zBr (k : ZCond) (off : BitVec 20) : State → State :=
  zRun 1 2 (brOk off.toInt) fun c => ZRes.ofEng (if c.e.cond k then c.branch off.toInt else c.next 1 c.e)

def zJmp (off : BitVec 24) : State → State := zRun 1 2 (brOk off.toInt) fun c => ZRes.ofEng (c.branch off.toInt)

/-- LOOP: with COUNT = 0 the body is skipped and D unchanged (R198). -/
def zLoop (d : ZReg) (count body : Nat) : State → State :=
  zRun 2 3 (fun c => decide (0 < body ∧ body < 262144) && decide (c.e.pc + 8 + 4 * body ≤ c.lvl.last)
      && decide (c.e.loops.length < 8)) fun c =>
    let first := c.e.pc + 8
    let last := first + 4 * body
    if count = 0 then ZRes.ofEng (c.e.reach last)
    else ZRes.ofEng { (c.e.setLoops (⟨first, last, 0, count, d⟩ :: c.e.loops)).setW d 0 with pc := first }

def typeZero : TypeEntry := ⟨0, 0, 0, 0⟩

/-- CALL: the header at I base + OFFSET decides; then the callee's level is pushed (R199). -/
def zCall (typ off : Nat) : State → State :=
  zRun 2 6 (fun c => decide (typ < c.prog.types.length) && off % 8 == 0 && decide (off + 8 ≤ c.lvl.iSize)
      && decide (c.e.stack.length < 17)) fun c =>
    let h := Memory.readLe c.mem (c.inst + c.lvl.iBase + off) 4
    if h % 2 ^ 16 = typ then
      let t := getAt typeZero c.prog.types typ
      let lv : Level := ⟨c.e.pc + 8, t.entry, t.last, typ, c.lvl.iBase + off, t.size, c.lvl.lBase + c.lvl.lSize,
        t.lSize, h.testBit 16, []⟩
      (ZRes.ofEng { c.e with stack := lv :: c.e.stack, pc := t.entry }).reading [(c.inst + c.lvl.iBase + off, 8)]
    else (ZRes.ofTrap c trapType).reading [(c.inst + c.lvl.iBase + off, 8)]

/-- RET pops the caller's state; in a task body it ends the task (R199). -/
def zRet : State → State :=
  zRun 1 3 zAlways fun c =>
    match c.e.stack with
    | lv :: up :: rest =>
      let e : Engine := { c.e with stack := up :: rest }
      ZRes.ofEng (e.reach lv.retPc)
    | _ => { ZRes.ofEng c.e with ended := true }

/-- TRAP with a user code (R209). -/
def zTrap (code : Nat) : State → State := zRun 1 1 (fun _ => decide (0x80 ≤ code)) fun c => ZRes.ofTrap c code

/-! ### Meanings -/

def execBr (k : ZCond) (off : BitVec 20) (s : State) : Host.Outcome State Fault Refusal := .next (zBr k off s)
def execJmp (off : BitVec 24) (s : State) : Host.Outcome State Fault Refusal := .next (zJmp off s)
def execLoop (d : ZReg) (count : BitVec 16) (body : BitVec 20) (s : State) : Host.Outcome State Fault Refusal :=
  .next (zLoop d count.toNat body.toNat s)
def execCall (typ : BitVec 16) (off : BitVec 21) (s : State) : Host.Outcome State Fault Refusal :=
  .next (zCall typ.toNat off.toNat s)
def execRet (s : State) : Host.Outcome State Fault Refusal := .next (zRet s)
def execTrap (code : BitVec 8) (s : State) : Host.Outcome State Fault Refusal := .next (zTrap code.toNat s)

end Sys2Proof.Machine
end

