-- ==== Sys2Proof/Machine/ZMove.lean ====
section
/-!
DEFINITION. ZVC moves and memory access: NOP to CLRQ, LD, ST, LDX, STX (R188, R195 to R197).
-/
namespace Sys2Proof.Machine

/-- GETF: the flags as a word. -/
def Engine.flags (e : Engine) : DWord :=
  BitVec.ofNat 64 (b2n e.z + 2 * b2n e.n + 4 * b2n e.v + 8 * b2n e.c + 16 * b2n e.q)

/-- SETF. -/
def Engine.withFlags (e : Engine) (w : DWord) : Engine :=
  { e with z := bitOf w 0, n := bitOf w 1, v := bitOf w 2, c := bitOf w 3, q := bitOf w 4 }

def zNop : State → State := zPlain 1 1 zAlways fun c => c.e
def zMov (d a : ZReg) : State → State := zPlain 1 1 zAlways fun c => c.e.setW d (c.w a)
def zLdi (d : ZReg) (imm : BitVec 16) : State → State := zPlain 1 1 zAlways fun c => c.e.setW d (imm.signExtend 64)
def zLdih (d : ZReg) (imm : BitVec 16) : State → State :=
  zPlain 1 1 zAlways fun c => c.e.setW d ((c.w d <<< 16) ||| imm.zeroExtend 64)
def zGetf (d : ZReg) : State → State := zPlain 1 1 zAlways fun c => c.e.setW d c.e.flags
def zSetf (a : ZReg) : State → State := zPlain 1 1 zAlways fun c => c.e.withFlags (c.w a)
def zClrq : State → State := zPlain 1 1 zAlways fun c => { c.e with q := false }

/-! ### Memory access (R195 to R197) -/

/-- Every space may be loaded: the table of R185 and the worked example after R209 say so of K, against a sentence of
R195 (log entry 60). A static operand is checked (R195). -/
def ldOk (sp : ZSpace) (t : ZTy) (off n : Nat) (c : ZCtx) : Bool := c.inSpace sp t off n

/-- Stores to K and M are refused at admission (R195). -/
def stOk (sp : ZSpace) (t : ZTy) (off n : Nat) (c : ZCtx) : Bool :=
  c.inSpace sp t off n && !(sp == .k) && !(sp == .m)

/-- A load from the G input half costs one cycle more (R188). -/
def ldCost (sp : ZSpace) (off base : Nat) : Nat := if sp == .g && decide (off < 0x6000) then base + 1 else base

/-- A load's result, and the bytes it reads: an input slot's quality word too (R196). -/
def ZCtx.loaded (c : ZCtx) (words : Nat) (d : ZReg) (sp : ZSpace) (t : ZTy) (off : Nat) : ZRes :=
  let (v, bad) := c.load sp t off
  let q := if sp == .g && decide (off < 0x6000) then [(qBase + 2 * (off / 8), 2)] else []
  (ZRes.ofEng (c.next words ((c.e.setW d v).setQ bad))).reading ((c.spaceBase sp + off, t.size) :: q)

/-- LD; `err` is a word of the read that a fault has disturbed in a lane (R126, R127). -/
def zLd (d : ZReg) (sp : ZSpace) (t : ZTy) (off : Nat) (err : Option (Fin 3 × Ecc)) (s : State) : State :=
  let s := match err, s.exec.prog with
    | some (l, e), some p =>
      let c := s.zctx p s.lead
      if s.engineRuns && s.inService l && ldOk sp t off 1 c && decide (c.e.pc + 8 ≤ c.lvl.last) then
        struck l ((c.spaceBase sp + off) / 8) e s
      else s
    | _, _ => s
  zRun 2 (ldCost sp off 1) (ldOk sp t off 1) (fun c => c.loaded 2 d sp t off) s

def zSt (d : ZReg) (sp : ZSpace) (t : ZTy) (off : Nat) : State → State :=
  zRun 2 3 (stOk sp t off 1) fun c => c.store (c.next 2 c.e) sp t off (c.w d)

/-- The index of LDX and STX (R197). -/
def ZCtx.index (c : ZCtx) (x : ZReg) (count : Nat) : Option Nat :=
  let i := (c.w x).toInt
  if 0 ≤ i ∧ i < count then some i.toNat else none

def zLdx (d x : ZReg) (sp : ZSpace) (t : ZTy) (off count : Nat) : State → State :=
  zRun 3 (ldCost sp off 4) (fun c => decide (0 < count) && ldOk sp t off count c) fun c =>
    match c.index x count with
    | none => ZRes.ofTrap c trapBound
    | some i =>
      c.loaded 3 d sp t (off + i * t.size)

def zStx (d x : ZReg) (sp : ZSpace) (t : ZTy) (off count : Nat) : State → State :=
  zRun 3 5 (fun c => decide (0 < count) && stOk sp t off count c) fun c =>
    match c.index x count with
    | none => ZRes.ofTrap c trapBound
    | some i => c.store (c.next 3 c.e) sp t (off + i * t.size) (c.w d)

/-! ### Meanings -/

def execNop (s : State) : Host.Outcome State Fault Refusal := .next (zNop s)
def execMov (d a : ZReg) (s : State) : Host.Outcome State Fault Refusal := .next (zMov d a s)
def execLdi (d : ZReg) (imm : BitVec 16) (s : State) : Host.Outcome State Fault Refusal := .next (zLdi d imm s)
def execLdih (d : ZReg) (imm : BitVec 16) (s : State) : Host.Outcome State Fault Refusal := .next (zLdih d imm s)
def execGetf (d : ZReg) (s : State) : Host.Outcome State Fault Refusal := .next (zGetf d s)
def execSetf (a : ZReg) (s : State) : Host.Outcome State Fault Refusal := .next (zSetf a s)
def execClrq (s : State) : Host.Outcome State Fault Refusal := .next (zClrq s)
def execLd (d : ZReg) (sp : ZSpace) (t : ZTy) (off : BitVec 24) (err : Option (Fin 3 × Ecc)) (s : State) :
    Host.Outcome State Fault Refusal := .next (zLd d sp t off.toNat err s)
def execSt (d : ZReg) (sp : ZSpace) (t : ZTy) (off : BitVec 24) (s : State) : Host.Outcome State Fault Refusal :=
  .next (zSt d sp t off.toNat s)
def execLdx (d x : ZReg) (sp : ZSpace) (t : ZTy) (off : BitVec 24) (count : BitVec 16) (s : State) :
    Host.Outcome State Fault Refusal := .next (zLdx d x sp t off.toNat count.toNat s)
def execStx (d x : ZReg) (sp : ZSpace) (t : ZTy) (off : BitVec 24) (count : BitVec 16) (s : State) :
    Host.Outcome State Fault Refusal := .next (zStx d x sp t off.toNat count.toNat s)

end Sys2Proof.Machine
end

