-- ==== Sys2Proof/Machine/ZMsg.lean ====
section
/-!
DEFINITION. ZVC message operations MHDR, MGET, MPUT, MSTAT (R153, R207).
-/
namespace Sys2Proof.Machine

/-- The binding of a kind for a block (R181). -/
def Program.block (p : Program) (kind mb : Nat) : Option Binding :=
  p.binds.find? fun b => b.kind == kind && b.index == mb

/-- The block is bound with this kind, and the image is of version 2 (R207, R208). -/
def mbOk (kind mb : Nat) (c : ZCtx) : Bool := c.msgOk && (c.prog.block kind mb).isSome

/-- A field of a receive block's header (R153). -/
def ZCtx.hdr (c : ZCtx) (mb at_ : Nat) : Nat :=
  match c.prog.block 2 mb with
  | some b => Memory.readLe c.mem (mBase + b.mOff + at_) 4
  | none => 0

/-- Lane address of a receive block. -/
def ZCtx.msgAddr (c : ZCtx) (mb : Nat) : Nat := match c.prog.block 2 mb with | some b => mBase + b.mOff | none => mBase

def zMhdr (d : ZReg) (mb : Nat) : State → State :=
  zRun 1 3 (fun c => mbOk 2 mb c && decide (d.val ≤ 14)) fun c =>
    let h := c.hdr mb 0
    (ZRes.ofEng (c.next 1 (((c.e.setQ (!h.testBit 0)).setW d (BitVec.ofNat 64 h)).setW (d.val + 1)
      (BitVec.ofNat 64 (c.hdr mb 4 + 2 ^ 32 * c.hdr mb 8))))).reading [(c.msgAddr mb, 12)]

/-- The copy lies inside an I or L space, and LEN is 1 to 4,096 (R186, R207). -/
def copyOk (sp : ZSpace) (off len : Nat) (c : ZCtx) : Bool :=
  (sp == .i || sp == .l) && decide (1 ≤ len ∧ len ≤ 4096) && decide (off + len ≤ c.spaceSize sp)

/-- MGET: status DONE or LENGTH in D[31:24]; never part of a block (R207). -/
def zMget (d : ZReg) (sp : ZSpace) (mb off len boff : Nat) : State → State :=
  zRun 3 (4 + 2 * ((len + 7) / 8)) (fun c => mbOk 2 mb c && copyOk sp off len c) fun c =>
    let h := c.hdr mb 0
    let long := decide (c.hdr mb 8 < 8 * boff + len)
    let m := c.msgAddr mb
    let w := h % 2 ^ 16 + 2 ^ 16 * b2n (h.testBit 16) + 2 ^ 24 * (if long then cLength else cDone)
    let e := ((c.e.setQ (!h.testBit 0)).setV long).setW d (BitVec.ofNat 64 w)
    ⟨c.next 3 e, if long then [] else [(c.spaceBase sp + off, Memory.readN c.mem (m + 16 + 8 * boff) len)],
      [], none, none, false, (m, 12) :: (if long then [] else [(m + 16 + 8 * boff, len)])⟩

/-- The current instance as an index + 1; 0 in a task body. -/
def ZCtx.owner (c : ZCtx) : Nat :=
  match c.e.stack with
  | lv :: _ :: _ => match c.prog.insts.findIdx? fun x => x.off == lv.iBase with | some i => i + 1 | none => 0
  | _ => 0

/-- MPUT: a whole unit of the transmit block, or LENGTH and nothing (R207). -/
def zMput (d : ZReg) (sp : ZSpace) (mb off len : Nat) : State → State :=
  zRun 3 (4 + (len + 7) / 8) (fun c => mbOk 3 mb c && copyOk sp off len c) fun c =>
    let cap := match c.prog.block 3 mb with | some b => b.size | none => 0
    let long := decide (cap < len)
    let e := (c.e.setV long).setW d (BitVec.ofNat 64 (2 ^ 24 * (if long then cLength else cDone)))
    ⟨c.next 3 e, [], [],
      if long then none else some (mb, Memory.readN c.mem (c.spaceBase sp + off) len, c.owner), none, false,
      if long then [] else [(c.spaceBase sp + off, len)]⟩

/-- The commit record of a transmit block: units sent, age and status of the last commit. -/
def State.txRec (s : State) (mb : Nat) : Nat × Nat × Nat :=
  match s.exec.txStat.find? fun x => x.1 == mb with
  | some (_, units, _, _, status, age) => (units, age, status)
  | none => (0, 0, 0)

/-- MSTAT: a voted read request; a poisoned response gives D = 0 and Q, and the reader's detection is recorded (R128,
R207). Where the status word lies is internal: its address is a free value. -/
def zMstat (d : ZReg) (mb : Nat) (poisoned : Bool) (s : State) : State :=
  let (units, age, status) := s.txRec mb
  let w := age % 256 + 256 * (status % 256) + 2 ^ 32 * (units % 2 ^ 32)
  let runs := s.engineRuns && (match s.exec.prog with | some p => mbOk 3 mb (s.zctx p s.lead) | none => false)
  let s := if runs && poisoned then
      let w := (Config.freeValue s.freeCtr).toNat % 0x40000
      (poisonDetected 0 w (Config.freeValue (s.freeCtr + 1)).toNat s).fresh.fresh else s
  zPlain 1 48 (mbOk 3 mb) (fun c =>
    if poisoned then (c.e.setQ true).setW d 0 else c.e.setW d (BitVec.ofNat 64 w)) s

/-! ### Meanings -/

def execMhdr (d : ZReg) (mb : BitVec 12) (s : State) : Host.Outcome State Fault Refusal := .next (zMhdr d mb.toNat s)
def execMget (d : ZReg) (sp : ZSpace) (mb : BitVec 12) (off : BitVec 24) (len : BitVec 13) (boff : BitVec 16)
    (s : State) : Host.Outcome State Fault Refusal := .next (zMget d sp mb.toNat off.toNat len.toNat boff.toNat s)
def execMput (d : ZReg) (sp : ZSpace) (mb : BitVec 12) (off : BitVec 24) (len : BitVec 13) (s : State) :
    Host.Outcome State Fault Refusal := .next (zMput d sp mb.toNat off.toNat len.toNat s)
def execMstat (d : ZReg) (mb : BitVec 12) (poisoned : Bool) (s : State) : Host.Outcome State Fault Refusal :=
  .next (zMstat d mb.toNat poisoned s)

end Sys2Proof.Machine
end

