-- ==== Sys2Proof/Machine/Dispatch.lean ====
section
/-!
DEFINITION. Dispatch: one arm per command, each a direct call of its meaning.
-/
namespace Sys2Proof.Machine

def exec (i : Instr) (s : State) : Host.Outcome State Fault Refusal :=
  match i with
  | .sampleTick faults => Sys2Proof.Machine.execSampleTick faults s
  | .strideBoundary => Sys2Proof.Machine.execStrideBoundary s
  | .vote a b c diff => Sys2Proof.Machine.execVote a b c diff s
  | .resyncAutoStart lane => Sys2Proof.Machine.execResyncAutoStart lane s
  | .clonePassEnd same => Sys2Proof.Machine.execClonePassEnd same s
  | .resyncReserveCheck => Sys2Proof.Machine.execResyncReserveCheck s
  | .finalPhaseEnd => Sys2Proof.Machine.execFinalPhaseEnd s
  | .exchangeDeadline recs bad late margin => Sys2Proof.Machine.execExchangeDeadline recs bad late margin s
  | .sourceInvalid src => Sys2Proof.Machine.execSourceInvalid src s
  | .rxEvent lane src => Sys2Proof.Machine.execRxEvent lane src s
  | .clrOvr iss arg => Sys2Proof.Machine.execClrOvr iss arg s
  | .clrLoad iss arg => Sys2Proof.Machine.execClrLoad iss arg s
  | .starterSnap iss arg => Sys2Proof.Machine.execStarterSnap iss arg s
  | .injTest iss arg => Sys2Proof.Machine.execInjTest iss arg s
  | .injTestEnd rep => Sys2Proof.Machine.execInjTestEnd rep s
  | .injAgeExceeded => Sys2Proof.Machine.execInjAgeExceeded s
  | .pfcClrCnt iss arg => Sys2Proof.Machine.execPfcClrCnt iss arg s
  | .resync lane iss arg => Sys2Proof.Machine.execResync lane iss arg s
  | .fence lane iss arg => Sys2Proof.Machine.execFence lane iss arg s
  | .laneClrCnt lane iss arg => Sys2Proof.Machine.execLaneClrCnt lane iss arg s
  | .xchgClrCnt iss arg => Sys2Proof.Machine.execXchgClrCnt iss arg s
  | .clrMargin iss arg => Sys2Proof.Machine.execClrMargin iss arg s
  | .cmdNop page iss arg => Sys2Proof.Machine.execCmdNop page iss arg s
  | .claim page iss arg => Sys2Proof.Machine.execClaim page iss arg s
  | .release page iss arg => Sys2Proof.Machine.execRelease page iss arg s
  | .take page iss arg => Sys2Proof.Machine.execTake page iss arg s
  | .clrErr page iss arg => Sys2Proof.Machine.execClrErr page iss arg s
  | .registerWrite iss addr size value r => Sys2Proof.Machine.execRegisterWrite iss addr size value r s
  | .highWordCommit iss addr value => Sys2Proof.Machine.execHighWordCommit iss addr value s
  | .functionReset page iss value => Sys2Proof.Machine.execFunctionReset page iss value s
  | .paritySweep page word bytes => Sys2Proof.Machine.execParitySweep page word bytes s
  | .eccWriteBack mem word => Sys2Proof.Machine.execEccWriteBack mem word s
  | .scrubRead mem ecc => Sys2Proof.Machine.execScrubRead mem ecc s
  | .scrubLate mem => Sys2Proof.Machine.execScrubLate mem s
  | .march mem iss arg => Sys2Proof.Machine.execMarch mem iss arg s
  | .marchEnd fails => Sys2Proof.Machine.execMarchEnd fails s
  | .memClrCnt mem iss arg => Sys2Proof.Machine.execMemClrCnt mem iss arg s
  | .atomAdd page iss arg => Sys2Proof.Machine.execAtomAdd page iss arg s
  | .atomSwap page iss arg => Sys2Proof.Machine.execAtomSwap page iss arg s
  | .load iss arg => Sys2Proof.Machine.execLoad iss arg s
  | .loadDone => Sys2Proof.Machine.execLoadDone s
  | .start iss arg => Sys2Proof.Machine.execStart iss arg s
  | .stop iss arg => Sys2Proof.Machine.execStop iss arg s
  | .admitImage iss arg => Sys2Proof.Machine.execAdmitImage iss arg s
  | .unload iss arg => Sys2Proof.Machine.execUnload iss arg s
  | .execClrStat iss arg => Sys2Proof.Machine.execExecClrStat iss arg s
  | .hold iss arg => Sys2Proof.Machine.execHold iss arg s
  | .stepCmd iss arg => Sys2Proof.Machine.execStepCmd iss arg s
  | .continueCmd iss arg => Sys2Proof.Machine.execContinueCmd iss arg s
  | .clrForce iss arg => Sys2Proof.Machine.execClrForce iss arg s
  | .debugClrStat iss arg => Sys2Proof.Machine.execDebugClrStat iss arg s
  | .forceEntryWrite iss entry word value => Sys2Proof.Machine.execForceEntryWrite iss entry word value s
  | .nop => Sys2Proof.Machine.execNop s
  | .mov d a => Sys2Proof.Machine.execMov d a s
  | .ldi d imm => Sys2Proof.Machine.execLdi d imm s
  | .ldih d imm => Sys2Proof.Machine.execLdih d imm s
  | .getf d => Sys2Proof.Machine.execGetf d s
  | .setf a => Sys2Proof.Machine.execSetf a s
  | .clrq => Sys2Proof.Machine.execClrq s
  | .ld d sp t off err => Sys2Proof.Machine.execLd d sp t off err s
  | .st d sp t off => Sys2Proof.Machine.execSt d sp t off s
  | .ldx d x sp t off count => Sys2Proof.Machine.execLdx d x sp t off count s
  | .stx d x sp t off count => Sys2Proof.Machine.execStx d x sp t off count s
  | .add d a b t sat => Sys2Proof.Machine.execAdd d a b t sat s
  | .sub d a b t sat => Sys2Proof.Machine.execSub d a b t sat s
  | .mul d a b t sat => Sys2Proof.Machine.execMul d a b t sat s
  | .div d a b t sat => Sys2Proof.Machine.execDiv d a b t sat s
  | .mod d a b t => Sys2Proof.Machine.execMod d a b t s
  | .neg d a t sat => Sys2Proof.Machine.execNeg d a t sat s
  | .abs d a t sat => Sys2Proof.Machine.execAbs d a t sat s
  | .min d a b t => Sys2Proof.Machine.execMin d a b t s
  | .max d a b t => Sys2Proof.Machine.execMax d a b t s
  | .addi d a imm => Sys2Proof.Machine.execAddi d a imm s
  | .and d a b t => Sys2Proof.Machine.execAnd d a b t s
  | .or d a b t => Sys2Proof.Machine.execOr d a b t s
  | .xor d a b t => Sys2Proof.Machine.execXor d a b t s
  | .not d a t => Sys2Proof.Machine.execNot d a t s
  | .shl d a b t => Sys2Proof.Machine.execShl d a b t s
  | .shr d a b t => Sys2Proof.Machine.execShr d a b t s
  | .sar d a b t => Sys2Proof.Machine.execSar d a b t s
  | .rol d a b t => Sys2Proof.Machine.execRol d a b t s
  | .ror d a b t => Sys2Proof.Machine.execRor d a b t s
  | .cmp a b t => Sys2Proof.Machine.execCmp a b t s
  | .setc d cond => Sys2Proof.Machine.execSetc d cond s
  | .cvt d a t t2 sat => Sys2Proof.Machine.execCvt d a t t2 sat s
  | .br cond off => Sys2Proof.Machine.execBr cond off s
  | .jmp off => Sys2Proof.Machine.execJmp off s
  | .loop d count body => Sys2Proof.Machine.execLoop d count body s
  | .call typ off => Sys2Proof.Machine.execCall typ off s
  | .ret => Sys2Proof.Machine.execRet s
  | .trap code => Sys2Proof.Machine.execTrap code s
  | .ton off => Sys2Proof.Machine.execTon off s
  | .tof off => Sys2Proof.Machine.execTof off s
  | .tp off => Sys2Proof.Machine.execTp off s
  | .rTrig off => Sys2Proof.Machine.execRTrig off s
  | .fTrig off => Sys2Proof.Machine.execFTrig off s
  | .ctu off => Sys2Proof.Machine.execCtu off s
  | .ctd off => Sys2Proof.Machine.execCtd off s
  | .ctud off => Sys2Proof.Machine.execCtud off s
  | .sr off => Sys2Proof.Machine.execSr off s
  | .rs off => Sys2Proof.Machine.execRs off s
  | .hyst t off => Sys2Proof.Machine.execHyst t off s
  | .ramp t off => Sys2Proof.Machine.execRamp t off s
  | .lag t off => Sys2Proof.Machine.execLag t off s
  | .limit d a b t => Sys2Proof.Machine.execLimit d a b t s
  | .sel d a b => Sys2Proof.Machine.execSel d a b s
  | .mux d a b => Sys2Proof.Machine.execMux d a b s
  | .mhdr d mb => Sys2Proof.Machine.execMhdr d mb s
  | .mget d sp mb off len boff => Sys2Proof.Machine.execMget d sp mb off len boff s
  | .mput d sp mb off len => Sys2Proof.Machine.execMput d sp mb off len s
  | .mstat d mb poisoned => Sys2Proof.Machine.execMstat d mb poisoned s
  | .batonCommit => Sys2Proof.Machine.execBatonCommit s
  | .sweepComplete => Sys2Proof.Machine.execSweepComplete s
  | .batonStale => Sys2Proof.Machine.execBatonStale s
  | .pfail => Sys2Proof.Machine.execPfail s
  | .pfailFlushEnd us => Sys2Proof.Machine.execPfailFlushEnd us s
  | .restoreComplete us => Sys2Proof.Machine.execRestoreComplete us s
  | .stage iss arg => Sys2Proof.Machine.execStage iss arg s
  | .stageDone => Sys2Proof.Machine.execStageDone s
  | .arm iss arg => Sys2Proof.Machine.execArm iss arg s
  | .disarm iss arg => Sys2Proof.Machine.execDisarm iss arg s
  | .cancel iss arg => Sys2Proof.Machine.execCancel iss arg s
  | .confirm iss arg => Sys2Proof.Machine.execConfirm iss arg s
  | .revert iss arg => Sys2Proof.Machine.execRevert iss arg s
  | .swapClrStat iss arg => Sys2Proof.Machine.execSwapClrStat iss arg s
  | .trialLeftExpired => Sys2Proof.Machine.execTrialLeftExpired s
  | .revertDataLoaded => Sys2Proof.Machine.execRevertDataLoaded s
  | .batonClrCnt iss arg => Sys2Proof.Machine.execBatonClrCnt iss arg s
  | .discard iss arg => Sys2Proof.Machine.execDiscard iss arg s
  | .cycleStart at_ => Sys2Proof.Machine.execCycleStart at_ s
  | .claimTimeout idx => Sys2Proof.Machine.execClaimTimeout idx s
  | .txLatch => Sys2Proof.Machine.execTxLatch s
  | .txFrame ch slot permit atEnd => Sys2Proof.Machine.execTxFrame ch slot permit atEnd s
  | .gradorRxInstance ch slot heard => Sys2Proof.Machine.execGradorRxInstance ch slot heard s
  | .coldStart => Sys2Proof.Machine.execColdStart s
  | .csBackoffEnd => Sys2Proof.Machine.execCsBackoffEnd s
  | .coldRetry => Sys2Proof.Machine.execColdRetry s
  | .pacerCorrection => Sys2Proof.Machine.execPacerCorrection s
  | .linkDelayRequest ch t1 => Sys2Proof.Machine.execLinkDelayRequest ch t1 s
  | .linkDelayResponse ch k t2 t3 t4 => Sys2Proof.Machine.execLinkDelayResponse ch k t2 t3 t4 s
  | .linkDelayAnswer ch t2 t3 => Sys2Proof.Machine.execLinkDelayAnswer ch t2 t3 s
  | .linkDelayTimeout ch k => Sys2Proof.Machine.execLinkDelayTimeout ch k s
  | .phyLinkChange ch up => Sys2Proof.Machine.execPhyLinkChange ch up s
  | .slotClaim iss arg => Sys2Proof.Machine.execSlotClaim iss arg s
  | .slotRelease iss arg => Sys2Proof.Machine.execSlotRelease iss arg s
  | .grdsClrCnt iss arg => Sys2Proof.Machine.execGrdsClrCnt iss arg s
  | .grdChClrCnt ch iss arg => Sys2Proof.Machine.execGrdChClrCnt ch iss arg s
  | .grdmbClrCnt iss arg => Sys2Proof.Machine.execGrdmbClrCnt iss arg s
  | .grdsEnable iss => Sys2Proof.Machine.execGrdsEnable iss s
  | .pacerClrCnt iss arg => Sys2Proof.Machine.execPacerClrCnt iss arg s
  | .timeMessage => Sys2Proof.Machine.execTimeMessage s
  | .holdoverExpired => Sys2Proof.Machine.execHoldoverExpired s
  | .timeSnap iss arg => Sys2Proof.Machine.execTimeSnap iss arg s
  | .adjUnlock iss arg => Sys2Proof.Machine.execAdjUnlock iss arg s
  | .adjForce iss arg => Sys2Proof.Machine.execAdjForce iss arg s
  | .adjUnlockExpired => Sys2Proof.Machine.execAdjUnlockExpired s
  | .timeClrCnt iss arg => Sys2Proof.Machine.execTimeClrCnt iss arg s
  | .compareFire ch pos => Sys2Proof.Machine.execCompareFire ch pos s
  | .tcapClrCnt iss arg => Sys2Proof.Machine.execTcapClrCnt iss arg s
  | .canRxFrame ctl id brs esi dlc data stamp => Sys2Proof.Machine.execCanRxFrame ctl id brs esi dlc data stamp s
  | .canTxAttemptEnd ctl how => Sys2Proof.Machine.execCanTxAttemptEnd ctl how s
  | .canBusError ctl code dataPhase asTx heavy => Sys2Proof.Machine.execCanBusError ctl code dataPhase asTx heavy s
  | .canIntegrationDone ctl => Sys2Proof.Machine.execCanIntegrationDone ctl s
  | .canRecoveryDone ctl => Sys2Proof.Machine.execCanRecoveryDone ctl s
  | .pop ctl iss arg => Sys2Proof.Machine.execPop ctl iss arg s
  | .tbLoad ctl iss arg => Sys2Proof.Machine.execTbLoad ctl iss arg s
  | .txfPush ctl iss arg => Sys2Proof.Machine.execTxfPush ctl iss arg s
  | .tbAbort ctl iss arg => Sys2Proof.Machine.execTbAbort ctl iss arg s
  | .txfAbortHead ctl iss arg => Sys2Proof.Machine.execTxfAbortHead ctl iss arg s
  | .txfFlush ctl iss arg => Sys2Proof.Machine.execTxfFlush ctl iss arg s
  | .canRestart ctl iss arg => Sys2Proof.Machine.execCanRestart ctl iss arg s
  | .canClrCnt ctl iss arg => Sys2Proof.Machine.execCanClrCnt ctl iss arg s
  | .rxfDataRead ctl => Sys2Proof.Machine.execRxfDataRead ctl s
  | .canBusIdle ctl => Sys2Proof.Machine.execCanBusIdle ctl s
  | .relayUnit port => Sys2Proof.Machine.execRelayUnit port s
  | .relayTransferEnd port => Sys2Proof.Machine.execRelayTransferEnd port s
  | .relayBackoffEnd port => Sys2Proof.Machine.execRelayBackoffEnd port s
  | .relayHoldExpired port => Sys2Proof.Machine.execRelayHoldExpired port s
  | .relayDatagram eth peer payload => Sys2Proof.Machine.execRelayDatagram eth peer payload s
  | .relayOutboxTake host => Sys2Proof.Machine.execRelayOutboxTake host s
  | .relayClrCnt iss arg => Sys2Proof.Machine.execRelayClrCnt iss arg s
  | .flush iss arg => Sys2Proof.Machine.execFlush iss arg s
  | .relayEnable iss => Sys2Proof.Machine.execRelayEnable iss s
  | .downstreamFrameRx g frame => Sys2Proof.Machine.execDownstreamFrameRx g frame s
  | .failsafeEntry g powerOn => Sys2Proof.Machine.execFailsafeEntry g powerOn s
  | .bringupComplete g => Sys2Proof.Machine.execBringupComplete g s
  | .bringupTimeout g => Sys2Proof.Machine.execBringupTimeout g s
  | .fldEnable g iss => Sys2Proof.Machine.execFldEnable g iss s
  | .timedEvent g => Sys2Proof.Machine.execTimedEvent g s
  | .safeOffAsserted g => Sys2Proof.Machine.execSafeOffAsserted g s
  | .safeOffReleased g => Sys2Proof.Machine.execSafeOffReleased g s
  | .safeOffTimedRelease g => Sys2Proof.Machine.execSafeOffTimedRelease g s
  | .cutTermAct g term => Sys2Proof.Machine.execCutTermAct g term s
  | .cutHoldEnd g term => Sys2Proof.Machine.execCutHoldEnd g term s
  | .diEdgeAccept g ch pos => Sys2Proof.Machine.execDiEdgeAccept g ch pos s
  | .wettingEnd g ch => Sys2Proof.Machine.execWettingEnd g ch s
  | .diOpenWire g ch open_ => Sys2Proof.Machine.execDiOpenWire g ch open_ s
  | .doOverload g ch => Sys2Proof.Machine.execDoOverload g ch s
  | .doOpenWireOn g ch open_ => Sys2Proof.Machine.execDoOpenWireOn g ch open_ s
  | .sboSwitchLimit g => Sys2Proof.Machine.execSboSwitchLimit g s
  | .thermalThreshold g kind ch rising => Sys2Proof.Machine.execThermalThreshold g kind ch rising s
  | .vfLow g low => Sys2Proof.Machine.execVfLow g low s
  | .relink g iss arg => Sys2Proof.Machine.execRelink g iss arg s
  | .fldClrCnt g iss arg => Sys2Proof.Machine.execFldClrCnt g iss arg s
  | .fdgClrCnt g iss arg => Sys2Proof.Machine.execFdgClrCnt g iss arg s
  | .diComparatorEdge g ch level pos => Sys2Proof.Machine.execDiComparatorEdge g ch level pos s
  | .sboOvercurrent g => Sys2Proof.Machine.execSboOvercurrent g s
  | .doOpenWireOff g ch open_ => Sys2Proof.Machine.execDoOpenWireOff g ch open_ s
  | .aiConversionEnd g n code => Sys2Proof.Machine.execAiConversionEnd g n code s
  | .shuntOpen g n => Sys2Proof.Machine.execShuntOpen g n s
  | .shuntReclose g n fallen => Sys2Proof.Machine.execShuntReclose g n fallen s
  | .fiEdge g rising ns => Sys2Proof.Machine.execFiEdge g rising ns s
  | .fiStandstill g => Sys2Proof.Machine.execFiStandstill g s
  | .measaClrCnt iss arg => Sys2Proof.Machine.execMeasaClrCnt iss arg s
  | .measfClrCnt iss arg => Sys2Proof.Machine.execMeasfClrCnt iss arg s
  | .fiOpenShort g open_ short => Sys2Proof.Machine.execFiOpenShort g open_ short s
  | .discrepancyTimeout pair => Sys2Proof.Machine.execDiscrepancyTimeout pair s
  | .safeMsgTimeout conn => Sys2Proof.Machine.execSafeMsgTimeout conn s
  | .resetArm iss arg => Sys2Proof.Machine.execResetArm iss arg s
  | .resetConfirm iss arg => Sys2Proof.Machine.execResetConfirm iss arg s
  | .resetArmExpired => Sys2Proof.Machine.execResetArmExpired s
  | .resetWaitExpired grp => Sys2Proof.Machine.execResetWaitExpired grp s
  | .safeClrCnt iss arg => Sys2Proof.Machine.execSafeClrCnt iss arg s
  | .switchTest iss arg => Sys2Proof.Machine.execSwitchTest iss arg s
  | .switchTestDue sbo => Sys2Proof.Machine.execSwitchTestDue sbo s
  | .switchTestStepEnd sbo => Sys2Proof.Machine.execSwitchTestStepEnd sbo s
  | .switchTestRetry sbo => Sys2Proof.Machine.execSwitchTestRetry sbo s
  | .switchTestOverdue sbo => Sys2Proof.Machine.execSwitchTestOverdue sbo s
  | .brakeTest iss arg => Sys2Proof.Machine.execBrakeTest iss arg s
  | .brakeTestStepEnd sbo => Sys2Proof.Machine.execBrakeTestStepEnd sbo s
  | .readbackMismatch sbo => Sys2Proof.Machine.execReadbackMismatch sbo s
  | .sboClrCnt iss arg => Sys2Proof.Machine.execSboClrCnt iss arg s
  | .discClrCnt iss arg => Sys2Proof.Machine.execDiscClrCnt iss arg s
  | .smsgClrCnt iss arg => Sys2Proof.Machine.execSmsgClrCnt iss arg s
  | .smsgEnable iss => Sys2Proof.Machine.execSmsgEnable iss s
  | .lockoutStateMessage locked waiting seqs => Sys2Proof.Machine.execLockoutStateMessage locked waiting seqs s
  | .actInChange level => Sys2Proof.Machine.execActInChange level s
  | .claimHoldExpired => Sys2Proof.Machine.execClaimHoldExpired s
  | .gateOpen => Sys2Proof.Machine.execGateOpen s
  | .claimWaitExpired => Sys2Proof.Machine.execClaimWaitExpired s
  | .mirrorWrite copy addr bytes => Sys2Proof.Machine.execMirrorWrite copy addr bytes s
  | .mirrorCopyEnd => Sys2Proof.Machine.execMirrorCopyEnd s
  | .heartbeat grador tick seqLo seqHi locked waiting => Sys2Proof.Machine.execHeartbeat grador tick seqLo seqHi locked waiting s
  | .partnerSilent => Sys2Proof.Machine.execPartnerSilent s
  | .healthReportSend => Sys2Proof.Machine.execHealthReportSend s
  | .healthReport grador words => Sys2Proof.Machine.execHealthReport grador words s
  | .withdrawMessage cause seq => Sys2Proof.Machine.execWithdrawMessage cause seq s
  | .standbyInjTest => Sys2Proof.Machine.execStandbyInjTest s
  | .withdraw iss arg => Sys2Proof.Machine.execWithdraw iss arg s
  | .takeover iss arg => Sys2Proof.Machine.execTakeover iss arg s
  | .resyncMirror iss arg => Sys2Proof.Machine.execResyncMirror iss arg s
  | .partClrCnt iss arg => Sys2Proof.Machine.execPartClrCnt iss arg s
  | .healthClrCnt iss arg => Sys2Proof.Machine.execHealthClrCnt iss arg s
  | .partnerLinkChange up plv jfmt node slot => Sys2Proof.Machine.execPartnerLinkChange up plv jfmt node slot s
  | .pathDegraded => Sys2Proof.Machine.execPathDegraded s
  | .partnerReportTimeout => Sys2Proof.Machine.execPartnerReportTimeout s
  | .mirrorCopyRequest => Sys2Proof.Machine.execMirrorCopyRequest s
  | .bar2Write host off bytes => Sys2Proof.Machine.execBar2Write host off bytes s
  | .hostCommit host value => Sys2Proof.Machine.execHostCommit host value s
  | .irqRearm host => Sys2Proof.Machine.execIrqRearm host s
  | .pcieLinkReset ep => Sys2Proof.Machine.execPcieLinkReset ep s
  | .ethFrame port fcsOk bytes r => Sys2Proof.Machine.execEthFrame port fcsOk bytes r s
  | .hello m nonce => Sys2Proof.Machine.execHello m nonce s
  | .read m off count => Sys2Proof.Machine.execRead m off count s
  | .write m pairs r => Sys2Proof.Machine.execWrite m pairs r s
  | .memRead m off len => Sys2Proof.Machine.execMemRead m off len s
  | .memWrite m off len data => Sys2Proof.Machine.execMemWrite m off len data s
  | .evtAck m => Sys2Proof.Machine.execEvtAck m s
  | .close m => Sys2Proof.Machine.execClose m s
  | .shpEvent sess => Sys2Proof.Machine.execShpEvent sess s
  | .shpEventRepeat sess => Sys2Proof.Machine.execShpEventRepeat sess s
  | .sessionTimeout sess => Sys2Proof.Machine.execSessionTimeout sess s
  | .drop iss arg => Sys2Proof.Machine.execDrop iss arg s
  | .hostClrCnt iss arg => Sys2Proof.Machine.execHostClrCnt iss arg s
  | .pcieClrCnt iss arg => Sys2Proof.Machine.execPcieClrCnt iss arg s
  | .shpClose iss arg => Sys2Proof.Machine.execShpClose iss arg s
  | .shpClrCnt iss arg => Sys2Proof.Machine.execShpClrCnt iss arg s
  | .ethClrCnt port iss arg => Sys2Proof.Machine.execEthClrCnt port iss arg s
  | .ethLinkChange port up => Sys2Proof.Machine.execEthLinkChange port up s
  | .pcieLinkUp ep rate msi => Sys2Proof.Machine.execPcieLinkUp ep rate msi s
  | .powerUp r => Sys2Proof.Machine.execPowerUp r s
  | .resetIn r => Sys2Proof.Machine.execResetIn r s
  | .bootRestart iss arg r => Sys2Proof.Machine.execBootRestart iss arg r s
  | .bootClrCnt iss arg => Sys2Proof.Machine.execBootClrCnt iss arg s
  | .holdupCharged => Sys2Proof.Machine.execHoldupCharged s
  | .erase iss arg => Sys2Proof.Machine.execErase iss arg s
  | .chunk iss arg => Sys2Proof.Machine.execChunk iss arg s
  | .install iss arg => Sys2Proof.Machine.execInstall iss arg s
  | .updOperationEnd late bad us c => Sys2Proof.Machine.execUpdOperationEnd late bad us c s
  | .activate iss arg => Sys2Proof.Machine.execActivate iss arg s
  | .abandon iss arg => Sys2Proof.Machine.execAbandon iss arg s
  | .updClrCnt iss arg => Sys2Proof.Machine.execUpdClrCnt iss arg s
  | .healthConfirm iss value => Sys2Proof.Machine.execHealthConfirm iss value s
  | .trialWinExpired r => Sys2Proof.Machine.execTrialWinExpired r s
  | .cryptClrCnt iss arg => Sys2Proof.Machine.execCryptClrCnt iss arg s
  | .powerLoss => Sys2Proof.Machine.execPowerLoss s
  | .operatingSecond ok => Sys2Proof.Machine.execOperatingSecond ok s
  | .openRecordWrite ok => Sys2Proof.Machine.execOpenRecordWrite ok s
  | .reportDrain => Sys2Proof.Machine.execReportDrain s
  | .archived iss arg => Sys2Proof.Machine.execArchived iss arg s
  | .clrSrc iss arg => Sys2Proof.Machine.execClrSrc iss arg s
  | .recClrCnt iss arg => Sys2Proof.Machine.execRecClrCnt iss arg s
  | .envSample vin vhold board junc => Sys2Proof.Machine.execEnvSample vin vhold board junc s
  | .envClrCnt iss arg => Sys2Proof.Machine.execEnvClrCnt iss arg s

end Sys2Proof.Machine
end

