-- ==== Sys2Proof/Safety.lean ====
section
/-!
DEFINITION. What the statements call a sound state of the block, the command that a page accepts, and the relations
between the state before a step and the state after it.
-/
namespace Sys2Proof.Machine

/-- Registers and memories are in the one canonical form of sparse storage, so equal contents are equal data. -/
def State.canonical (s : State) : Bool :=
  Sparse.wf regReset s.regs && Sparse.wf (fun _ => srcZero) s.srcs && Memory.wf s.mems.comms && Memory.wf s.baton.mram
    && Memory.wf s.grd.sched && Memory.wf s.relay.routes && Memory.wf s.safety.connTab && Memory.wf s.boot.staging
    && s.lanes.all fun l => Memory.wf l.sram

/-- The registers are in canonical form. -/
def State.regsOk (s : State) : Prop := Sparse.wf regReset s.regs = true

/-- The state is sound: canonical storage, three lanes (R88), four field groups (R3), train time with 0 to 999,999,999
nanoseconds (R289), and a report queue of 256 entries at most (R504). -/
def State.Inv (s : State) : Prop :=
  s.canonical = true ∧ s.lanes.length = 3 ∧ s.groups.length = 4 ∧ s.time.ns < 1000000000 ∧ s.reports.length ≤ 256

/-- Every fuse that is blown in `s` is blown in `t` (R468, R469). -/
def State.fusesKept (s t : State) : Prop :=
  ∀ i, (bitOf s.boot.fuse0 i = true → bitOf t.boot.fuse0 i = true) ∧
    (bitOf s.boot.fuse1 i = true → bitOf t.boot.fuse1 i = true) ∧
    (bitOf s.boot.fuse2 i = true → bitOf t.boot.fuse2 i = true)

/-- Checks 1 to 6 of R55 let the page command `c` through: the page is populated, its issuer may command it, its page is
unlocked and no command is executing. -/
def State.accepts (s : State) (c : Call) : Prop := s.populated c.page = true ∧ precheck c s = none

/-- The status code in PG_CMDSTAT of a page (R54). -/
def State.code (s : State) (p : Nat) : Nat := s.regF (pa p H.CMDSTAT) 7 0

/-- The raw interrupt bit of a page (R61). -/
def State.raw (s : State) (p bit : Nat) : Bool := s.regB (pa p H.IRQ_RAW) bit

/-- The command `c` has ended on its page: PG_CMDSTAT shows DONE and CMD_DONE is raised (R53, R61). -/
def State.ended (t : State) (p : Nat) : Prop := t.code p = cDone ∧ t.raw p 0 = true

/-- The page shows `c` as the command that executes: BUSY with its opcode and its issuer (R53). -/
def State.working (t : State) (c : Call) : Prop :=
  t.busy c.page = true ∧ t.cmdOp c.page = c.op ∧ t.cmdIss c.page = issuerCode c.iss

/-- The page answers with an error: the code stands in PG_CMDSTAT and in PG_ERRLAST (R53, R56). -/
def State.rejected (t : State) (p code : Nat) : Prop := t.code p = code ∧ t.regF (pa p H.ERRLAST) 7 0 = code

/-- Registers that the course of any command moves: PG_CMDSTAT and PG_IRQ_RAW of its page, the signal bits of HOST_STAT
and PCIE_STAT, and the access counters (R53, R61, R450, R462). -/
def courseReg (p a : Nat) : Prop :=
  a = pa p H.CMDSTAT ∨ a = pa p H.IRQ_RAW ∨ a = R.HOST_STAT ∨ a = R.PCIE_STAT
    ∨ (R.HOST_ACC_CNT ≤ a ∧ a < R.HOST_ACC_CNT + 16)

/-- TIME_STAT and the time unit moved only in that a command ended the ADJ_UNLOCK that was in force: bit 4 and the unlock
itself (R295). -/
def State.unlockMoves (s t : State) : Prop :=
  t.time = { s.time with unlock := t.time.unlock } ∧ (∀ i, i ≠ 4 → t.regB R.TIME_STAT i = s.regB R.TIME_STAT i) ∧
    (s.time.unlock = none → t.time.unlock = none ∧ t.reg R.TIME_STAT = s.reg R.TIME_STAT)

/-- Of the registers only those of the command's course and those of `ws` moved. -/
def State.courseMoves (s t : State) (p : Nat) (ws : List Nat) : Prop :=
  s.unlockMoves t ∧ ∀ a, ¬ courseReg p a → a ≠ R.TIME_STAT → a ∉ ws → t.reg a = s.reg a

/-- Between `s` and `t` nothing but registers moved, the outputs sent, the SHP events that fell due, the rejected command
that page `p` showed and an ADJ_UNLOCK that ended; and of the registers only those of the command's course and those of
`ws`. -/
def State.movesOnly (s t : State) (p : Nat) (ws : List Nat) : Prop :=
  t = { s with regs := t.regs, sent := t.sent, shp := t.shp, shown := t.shown, time := t.time } ∧
    (∀ q, q ≠ p → mapGet t.shown q = mapGet s.shown q) ∧ s.courseMoves t p ws

/-- Between `s` and `t` no register moved but those of `ws`. -/
def State.regsMove (s t : State) (ws : List Nat) : Prop := ∀ a, a ∉ ws → t.reg a = s.reg a

/-- Of the registers outside page `p` only those of a command's course moved. -/
def State.offPage (s t : State) (p : Nat) : Prop :=
  s.unlockMoves t ∧ ∀ a, ¬ courseReg p a → a ≠ R.TIME_STAT → pageOf a ≠ p → t.reg a = s.reg a

/-- Only CAN controller `n` moved, and only registers of its page and of a command's course. -/
def State.canOnly (s t : State) (n : Nat) : Prop :=
  t = { s with regs := t.regs, sent := t.sent, shp := t.shp, can := t.can, shown := t.shown, time := t.time } ∧
    (∀ m, m ≠ n → t.canOf m = s.canOf m) ∧ s.offPage t (P.CAN + n)

/-- The SVT-F1 of group `g` became `f`, and nothing else of the block moved. -/
def State.f1Becomes (s t : State) (g : Nat) (f : F1) : Prop :=
  t = { s with groups := t.groups } ∧ t.grp g = { s.grp g with f1 := f } ∧ ∀ h, h ≠ g → t.grp h = s.grp h

/-- A write that sets PG_CTRL.EN of the page comes through but for the page's own checks, and none waits for the
boundary (R25, R51, R55). -/
def State.mayEnable (s : State) (p : Nat) (iss : Issuer) : Prop :=
  s.populated p = true ∧ s.mayWrite p iss = true ∧ iss ≠ .loader ∧ s.en p = false ∧ s.ctrlWaits p = false ∧
    (fieldPage p && s.variantN) = false

/-- Between `s` and `t` a class 1 cause locked safety group `g` out, unless the group is disabled or OFF (R397, R398). -/
def State.groupLocks (s t : State) (g cause : Nat) : Prop :=
  s.sgEn g = true → s.sgState g ≠ grpOff → t.sgState g = grpLocked ∧
    (s.sgState g ≠ grpLocked → t.regF (sgA g sgCause) 7 0 = cause ∧ t.raw P.SAFE 8 = true)

/-- The lists of the safety unit have one element for each group, pair and SBO. -/
def Safety.sized (x : Safety) : Prop :=
  x.tests.length = 4 ∧ x.quietUntil.length = 4 ∧ x.misSince.length = 4 ∧ x.pairStart.length = 32 ∧ x.pathY.length = 8 ∧
    x.causeTick.length = 8 ∧ x.waitFrom.length = 8 ∧ x.waitEnd.length = 8

/-- A header command can come through on the page: populated, a field page only where the variant has them, not locked,
and no command executing (R55). -/
def State.pageOpen (s : State) (p : Nat) : Prop :=
  s.populated p = true ∧ (fieldPage p && s.variantN) = false ∧ (decide (0xF0 ≤ p) && s.debugLocked) = false
    ∧ s.busy p = false

/-- The clearing commands: the call, whether it answers STATE_REJECT while the PFC is HALTED (R120, R178), and the
registers it clears. -/
def clearRow : Instr → Option (Call × Bool × List Nat)
  | .clrLoad iss _ => some (⟨P.STARTER, 0x11, iss⟩, false, [R.STARTER_CYC_MAX, R.STARTER_EVT_DROP_CNT])
  | .pfcClrCnt iss _ => some (⟨P.PFC, 0x11, iss⟩, true,
      [R.PFC_MISM_CNT_A, R.PFC_MISM_CNT_B, R.PFC_MISM_CNT_C, R.PFC_VOTER_DIS_CNT, R.PFC_DUAL_MISM_CNT,
        R.PFC_DLY_PAR_CNT] ++ regRun R.PFC_MISM_TICK 40 4)
  | .laneClrCnt l iss _ => some (⟨P.LANE + l, 0x12, iss⟩, true,
      [laneA l R.LANE_RESYNC_CNT, laneA l R.LANE_FINAL_MAX_CYC, laneA l R.LANE_SECDED_DBL_CNT,
        laneA l R.LANE_BEAT_MISS_CNT, laneA l R.LANE_RX_FAULT_CNT] ++ regRun (laneA l R.LANE_CAUSE_TICK) 20 4)
  | .xchgClrCnt iss _ => some (⟨P.XCHG, 0x10, iss⟩, true, regRun R.XCHG_DIS_CNT 28 4)
  | .execClrStat iss _ => some (⟨P.EXEC, 0x15, iss⟩, true,
      R.EXEC_TRAP_CNT :: (regRun R.EXEC_TASK_MAX 16 4 ++ regRun R.EXEC_TASK_RUNS 16 4))
  | .debugClrStat iss _ => some (⟨P.DEBUG, 0x14, iss⟩, true, [R.DEBUG_STEP_CNT, R.DEBUG_BP_SKIP_CNT])
  | .swapClrStat iss _ => some (⟨P.SWAP, 0x16, iss⟩, false, [R.SWAP_EXCH_CNT, R.SWAP_REVERT_CNT])
  | .batonClrCnt iss _ => some (⟨P.BATON, 0x10, iss⟩, false,
      [R.BATON_SET_LINES_MAX, R.BATON_COALESCE_CNT, R.BATON_OVERSIZE_CNT, R.BATON_SWEEP_CNT,
        R.BATON_MIRROR_ERR_CNT, R.BATON_FLUSH_US_MAX])
  | .grdsClrCnt iss _ => some (⟨P.GRDS, 0x12, iss⟩, false, regRun R.GRDS_FALSE_START_CNT 5 4 ++ [R.GRDS_ABSENT_CNT])
  | .grdChClrCnt ch iss _ => some (⟨P.GRD + ch, 0x10, iss⟩, false, regRun (grdA ch R.GRD_RX_OK_CNT) 17 4)
  | .pacerClrCnt iss _ => some (⟨P.PACER, 0x10, iss⟩, false, R.PACER_OFFSET_MAX :: regRun R.PACER_LOST_OFS_CNT 6 4)
  | .tcapClrCnt iss _ => some (⟨P.TCAP, 0x10, iss⟩, false, regRun R.TCAP_CMP_FIRE_CNT 5 4 ++ regRun R.TCAP_CAP_CNT 32 4)
  | .fldClrCnt g iss _ => some (⟨P.FLD + g, 0x11, iss⟩, false,
      [fldA g R.FLD_DN_BAD_CNT, fldA g R.FLD_UP_BAD_CNT, fldA g R.FLD_FAILSAFE_CNT, fldA g R.FLD_EDGE_LOST_CNT,
        fldA g R.FLD_CUT_CNT, fldA g R.FLD_DN_REPAIR_CNT, fldA g R.FLD_TEV_LATE_CNT, fldA g R.FLD_SAFEOFF_CNT]
        ++ regRun (fldA g R.FLD_DI_EDGE_CNT) 16 4 ++ regRun (fldA g R.FLD_DO_OVL_CNT) 8 4
        ++ regRun (fldA g R.FLD_DO_OPEN_CNT) 8 4)
  | .measaClrCnt iss _ => some (⟨P.MEASA, 0x10, iss⟩, false,
      [R.MEASA_TRIG_IGN_CNT, R.MEASA_RANGE_CNT, R.MEASA_SHUNT_CNT] ++ regRun R.MEASA_AI_SMP_CNT 8 4)
  | .measfClrCnt iss _ => some (⟨P.MEASF, 0x10, iss⟩, false, R.MEASF_FAST_CNT :: regRun (R.MEASF_FI_CFG + 28) 4 32)
  | .sboClrCnt iss _ => some (⟨P.SBO, 0x12, iss⟩, false,
      [R.SBO_TEST_FAIL_CNT, R.SBO_MON_FAULT_CNT] ++ (List.range 4).flatMap fun i => [sboA i sboTestCnt, sboA i sboAbortCnt])
  | .partClrCnt iss _ => some (⟨P.PART, 0x13, iss⟩, false,
      [R.PART_BOTH_CLAIM_CNT, R.PART_TAKEOVER_CNT, R.PART_WITHDRAW_CNT, R.PART_HB_MISS_CNT, R.PART_LINK_ERR_CNT,
        R.PART_TAKE_US_MAX])
  | .healthClrCnt iss _ => some (⟨P.HEALTH, 0x10, iss⟩, false, [R.HEALTH_REPORT_CNT, R.HEALTH_REPORT_ERR_CNT])
  | .hostClrCnt iss _ => some (⟨P.HOST, 0x11, iss⟩, false,
      R.HOST_REGION_REJ_CNT :: (regRun R.HOST_ACC_CNT 4 4 ++ regRun R.HOST_OWN_REJ_CNT 4 4 ++ regRun R.HOST_COMMIT_CNT 4 4))
  | .pcieClrCnt iss _ => some (⟨P.PCIE, 0x10, iss⟩, false, regRun R.PCIE_EP0_CNT 5 4 ++ regRun R.PCIE_EP1_CNT 5 4)
  | .ethClrCnt p iss _ => some (⟨P.ETH + p, 0x10, iss⟩, false,
      [ethA p R.ETH_RX_FRM_CNT, ethA p R.ETH_TX_FRM_CNT, ethA p R.ETH_RX_DROP_CNT, ethA p R.ETH_LINK_DOWN_CNT])
  | .shpClrCnt iss _ => some (⟨P.SHP, 0x11, iss⟩, false,
      [R.SHP_AUTH_FAIL_CNT, R.SHP_LEN_REJ_CNT, R.SHP_VER_REJ_CNT, R.SHP_SRC_REJ_CNT, R.SHP_HELLO_CNT]
        ++ regRun R.SHP_REQ_CNT 2 32 ++ regRun R.SHP_RETRY_CNT 2 32 ++ regRun R.SHP_SEQ_REJ_CNT 2 32
        ++ regRun R.SHP_EVT_CNT 2 32)
  | .bootClrCnt iss _ => some (⟨P.BOOT, 0x11, iss⟩, false, [R.BOOT_FAIL_BOOT_CNT])
  | .updClrCnt iss _ => some (⟨P.UPD, 0x15, iss⟩, false, [R.UPD_INSTALL_CNT, R.UPD_FALLBACK_CNT])
  | .cryptClrCnt iss _ => some (⟨P.CRYPT, 0x10, iss⟩, false,
      [R.CRYPT_SIG_OK_CNT, R.CRYPT_SIG_FAIL_CNT, R.CRYPT_TAG_FAIL_CNT, R.CRYPT_HASH_FAIL_CNT, R.CRYPT_ARB_REJ_CNT])
  | _ => none

/-- The counters and last-error registers of a memory page that its CLR_CNT clears (R143). -/
def memCounts (m : Nat) : List Nat :=
  [memA m R.MEM_SBE_CNT, memA m R.MEM_DBE_CNT, memA m R.MEM_SBE_LAST_ADDR, memA m R.MEM_SBE_LAST_INFO,
    memA m R.MEM_DBE_LAST_ADDR, memA m R.MEM_DBE_LAST_INFO, memA m R.MEM_SCRUB_PASS_CNT, memA m R.MEM_ATOM_CNT,
    memA m R.MEM_WAIT_MAX] ++ regRun (memA m R.MEM_SBE_BANK) 16 4
    ++ if m < 3 then [memA m R.MEM_BDIRTY_MAX, memA m R.MEM_COW_LAST, memA m R.MEM_COW_MAX] else []

/-- The counters and extremes of FDG that its CLR_CNT returns to their reset values (R371). -/
def fdgExtremes (g : Nat) : List Nat :=
  [fdgA g R.FDG_ROT_PASS_CNT, fdgA g R.FDG_DIAG_HELD_CNT, fdgA g R.FDG_TEMP_MAX, fdgA g R.FDG_TEMP_MIN,
    fdgA g R.FDG_VF_MIN, fdgA g R.FDG_VF_MAX, fdgA g R.FDG_THERM_CNT, fdgA g R.FDG_VALVE_MA_MAX]

/-- The register address of an offset on a page, as a bus carries it. -/
def pageWord (p : BitVec 8) (off : Nat) : BitVec 20 := BitVec.ofNat 20 (pa p.toNat off)

/-- The engines of the lanes in service stand at an instruction of `n` words of program `p`, with no breakpoint set and
no memory error pending (R126, R166, R183). -/
def State.zAt (s : State) (p : Program) (n : Nat) : Prop :=
  s.exec.prog = some p ∧ s.engineRuns = true ∧ s.exec.bps = [] ∧ s.mems.upset = [] ∧ s.lanes.length = 3 ∧
    (s.zctx p s.lead).e.pc + 4 * n ≤ (s.zctx p s.lead).lvl.last

/-- Lane `l` after an instruction of `n` words that cost `k` cycles: its engine is what `f` makes of it, in sequence to
the next instruction, and its SRAM holds the bytes `ws` (R183, R188, R198). -/
def State.zLane (s : State) (p : Program) (n k : Nat) (f : ZCtx → Engine) (ws : ZCtx → List (Nat × List Byte))
    (l : Nat) : Lane :=
  if s.inService l then
    ⟨{ (f (s.zctx p l)).reach ((s.lane l).eng.pc + 4 * n) with cycles := (s.lane l).eng.cycles + k },
      (ws (s.zctx p l)).foldl (fun m w => Memory.writeN m w.1 w.2) (s.lane l).sram⟩
  else s.lane l

/-- The instruction changed the engines of the lanes in service as `f` says, and nothing else of the block. -/
def State.zMoves (s t : State) (p : Program) (n k : Nat) (f : ZCtx → Engine) : Prop :=
  t = { s with lanes := t.lanes } ∧ ∀ l, l < 3 → t.lane l = s.zLane p n k f (fun _ => []) l

/-- The instruction changed the engines as `f` says and wrote the bytes `ws` to each lane's own SRAM; registers, the
program's stores and everything else but the marks of the memory system stand. -/
def State.zStores (s t : State) (p : Program) (n k : Nat) (f : ZCtx → Engine) (ws : ZCtx → List (Nat × List Byte)) : Prop :=
  t = { s with lanes := t.lanes, mems := t.mems, voting := t.voting } ∧ t.mems.comms = s.mems.comms ∧
    ∀ l, l < 3 → t.lane l = s.zLane p n k f ws l

/-- Working register W(r) of what lane `l`'s engine sees, as a signed number of type `t`. -/
def ZCtx.num (c : ZCtx) (t : ZTy) (r : ZReg) : Int := t.val (c.w r)

/-- The branch of the engine to a target, leaving the loops that end at or before it (R198). -/
def State.zGoes (s t : State) (p : Program) (k : Nat) (f : ZCtx → Engine) : Prop :=
  t = { s with lanes := t.lanes } ∧ ∀ l, l < 3 → t.lane l =
    if s.inService l then { s.lane l with eng := { f (s.zctx p l) with cycles := (s.lane l).eng.cycles + k } } else s.lane l

/-- A byte of a built-in's data. -/
def ZCtx.dataByte (c : ZCtx) (off : BitVec 21) (i : Nat) : Byte := Memory.read c.mem (c.data off + i)

/-- The timer of a built-in after a call, with IN in W0 and PT in W1 (R202, R203). -/
def ZCtx.timerTon (c : ZCtx) (off : BitVec 21) : Timer :=
  (c.timer off).ton c.nowNs c.since (bitOf (c.w 0) 0) (max 0 (c.w 1).toInt).toNat
def ZCtx.timerTof (c : ZCtx) (off : BitVec 21) : Timer :=
  (c.timer off).tof c.nowNs c.since (bitOf (c.w 0) 0) (max 0 (c.w 1).toInt).toNat
def ZCtx.timerTp (c : ZCtx) (off : BitVec 21) : Timer :=
  (c.timer off).tp c.nowNs c.since (bitOf (c.w 0) 0) (max 0 (c.w 1).toInt).toNat

/-- A rising input against the byte of its previous value; no edge in a first call (R204, R226). -/
def ZCtx.rises (c : ZCtx) (off : BitVec 21) (i : Nat) (r : ZReg) : Bool :=
  bitOf (c.w r) 0 && !bitOf (c.dataByte off i) 0 && !bitOf (c.dataByte off i) 1

/-- CV after CTU: CU in W0, R in W1, PV in W2 (R204). -/
def ZCtx.ctuValue (c : ZCtx) (off : BitVec 21) : Int :=
  if bitOf (c.w 1) 0 then 0
  else if c.rises off 4 0 = true ∧ c.cv off < 2 ^ 31 - 1 then c.cv off + 1 else c.cv off

/-- CV after CTD: CD in W0, LD in W1, PV in W2 (R204). -/
def ZCtx.ctdValue (c : ZCtx) (off : BitVec 21) : Int :=
  if bitOf (c.w 1) 0 then c.int32 2
  else if c.rises off 5 0 = true ∧ -(2 ^ 31) < c.cv off then c.cv off - 1 else c.cv off

/-- CV after CTUD: CU in W0, CD in W1, R in W2, LD in W3, PV in W4 (R204). -/
def ZCtx.ctudValue (c : ZCtx) (off : BitVec 21) : Int :=
  if bitOf (c.w 2) 0 then 0 else if bitOf (c.w 3) 0 then c.int32 4
  else if c.rises off 4 0 = true ∧ c.rises off 5 1 = false ∧ c.cv off < 2 ^ 31 - 1 then c.cv off + 1
  else if c.rises off 5 1 = true ∧ c.rises off 4 0 = false ∧ -(2 ^ 31) < c.cv off then c.cv off - 1 else c.cv off

/-- Q after HYST: IN in W0, HI in W1, LO in W2 (R205). -/
def ZCtx.hystValue (c : ZCtx) (t : ZTy) (off : BitVec 21) : Bool :=
  if anyNan t [c.w 0, c.w 1, c.w 2] then bitOf (c.dataByte off 0) 0
  else if ltTy t (c.w 1) (c.w 0) then true else if ltTy t (c.w 0) (c.w 2) then false else bitOf (c.dataByte off 0) 0

/-! ### Hosts over Ethernet, boot and recorder -/

/-- The session slot of the host that an SHP message names. -/
def shpSlot (h : ShpHead) : Nat := h.host.toNat % 4 - 2

/-- The 16 header bytes of an SHP message with a body of `len` bytes (R453). -/
def shpHeadBytes (h : ShpHead) (typ len : Nat) : List Byte :=
  leBytes 4 (h.ver.toNat + 2 ^ 8 * typ + 2 ^ 16 * len) ++ leBytes 4 h.session.toNat ++ leBytes 4 h.seq.toNat
    ++ leBytes 4 h.host.toNat

/-- The message reaches SHP: its port serves frames and the page is enabled (R451, R466). -/
def State.shpHears (s : State) (h : ShpHead) : Prop := s.ethServes h.eth = true ∧ s.en P.SHP = true ∧ 2 ≤ h.host.toNat % 4

/-- Session `x` takes a request with this head and body: its version, identity, source and tag fit, and its sequence
number is the next (R456, R457). -/
def State.shpTakes (s : State) (h : ShpHead) (typ : Nat) (body : List Byte) (x : Session) : Prop :=
  s.shpHears h ∧ s.session (shpSlot h) = some x ∧ 1 ≤ h.ver.toNat ∧ h.ver.toNat ≤ 2 ∧ x.ver = h.ver.toNat ∧ x.id = h.session ∧
    x.ip = h.ip ∧ x.port = h.port.toNat ∧ x.eth = h.eth ∧ hmac x.key (shpHeadBytes h typ body.length ++ body) = h.tag ∧
    x.cache.find? (fun c => c.seq == h.seq.toNat) = none ∧ h.seq.toNat = (x.seq + 1) % 2 ^ 32

/-- The accepted request is counted and becomes the latest of its session (R457, R464). -/
def State.shpBooked (s u : State) (h : ShpHead) (x : Session) : Prop :=
  u = { s with regs := u.regs, shp := u.shp } ∧
    s.regsMove u [ethA h.eth R.ETH_RX_FRM_CNT, sessA (shpSlot h) R.SHP_REQ_CNT, sessA (shpSlot h) R.SHP_SEQ_LAST] ∧
    u.reg (sessA (shpSlot h) R.SHP_REQ_CNT) = satInc (s.reg (sessA (shpSlot h) R.SHP_REQ_CNT)) ∧
    u.regN (sessA (shpSlot h) R.SHP_SEQ_LAST) = h.seq.toNat ∧
    u.shp = { s.shp with sess := setAt s.shp.sess (shpSlot h) (some { x with seq := h.seq.toNat, lastReq := s.now }) }

/-- After the request's effect `v` its response with `body` went out over the session's port, and no register but the
port's transmit count moved (R454, R457). -/
def State.shpAnswers (v t : State) (h : ShpHead) (typ : Nat) (x : Session) (body : List Byte) : Prop :=
  t = { v with regs := t.regs, sent := t.sent, shp := t.shp } ∧ t.shp.keys = v.shp.keys ∧
    v.regsMove t [ethA x.eth R.ETH_TX_FRM_CNT] ∧
    t.sent = .shp x.eth (shpSlot h) (typ + 0x80) h.seq.toNat
      (shpBytes x.key x.ver (typ + 0x80) x.id h.seq.toNat (h.host.toNat % 4) body) :: v.sent

/-- The boot stopped in RECOVERY with this FAIL_CODE (R475). -/
def State.bootStopped (t : State) (code : Nat) : Prop :=
  t.boot.recovery = true ∧ t.regF R.BOOT_STAT 23 16 = code ∧ t.regF R.BOOT_STAT 3 0 = 2 ∧
    t.regF (pa P.BOOT H.ERRLAST) 7 0 = 0x40

/-- What every restart keeps and counts: supplies, retirement, ticks and train time stay; the boot counts, the power
cycles do not but where `cycle` says that VIN had fallen (R472, R486, R498, R521). -/
def State.restarted (s t : State) (cycle : Bool) : Prop :=
  t.boot.powered = true ∧ t.boot.charged = s.boot.charged ∧ t.reg R.BOOT_CNT = satInc (s.reg R.BOOT_CNT) ∧
    t.regN R.REC_PWR_CYCLES = (s.regN R.REC_PWR_CYCLES + b2n cycle) % 2 ^ 32 ∧ t.now = s.now ∧ t.time.sec = s.time.sec ∧ t.time.ns = s.time.ns ∧
    (∀ l, l < 3 → s.laneRetired l = true → t.laneRetired l = true) ∧ (s.fuseCrcOk = false → t.bootStopped bootFuse)

/-- The SRAMs of the lanes in service are equal, and no memory error is pending (R18, R126). -/
def State.lockstep (s : State) : Prop :=
  s.mems.upset = [] ∧ ∀ l ∈ s.lanesIn, (s.lane l).sram = (s.lane s.lead).sram

/-- Lane `l` can be rebuilt: it is FENCED, no rebuild is running, no march failed on it, and two lanes are in service
(R99). -/
def State.rebuildable (s : State) (l : Nat) : Prop :=
  s.regF (laneA l R.LANE_STATE) 2 0 = 1 ∧ s.voting.clone.lane = none ∧ s.mems.marchBad.contains l = false ∧
    s.lanesIn.length = 2

/-- A sample of the operating second falls into bin `i` (R495). -/
def Recorder.hits (x : Recorder) (i : Nat) : Bool :=
  (match x.sample with
    | some (v, b, j) => i == histBin 1600 100 v || i == 16 + histBin (-320) 96 b || i == 32 + histBin (-320) 96 j
    | none => false)
  || match x.margin with
    | some m => i == 48 + histBin 0 50 m
    | none => false

end Sys2Proof.Machine
end

