-- ==== Sys2Proof/Certificates/Slice0/Obligations.lean ====
section
/-!
DEFINITION. The statements about the block: what one step does, what each command does where it takes its own effect,
what it leaves as it was, and what no step breaks.
-/
open Sys2Proof Sys2Proof.Machine


/-- A step takes the command at the front of the queue and answers what `exec` answers on the rest (the queue is the
block's own, log entry 1). -/
def Obligations.StepRunsFront : Prop :=
  ∀ (c : Instr) (q : List Instr) (s : State), step { s with pending := c :: q } = exec c { s with pending := q }

/-- An empty queue idles; no word spells a command. Both are the model's choice (log entry 1). -/
def Obligations.IdleOnEmptyQueue : Prop :=
  (∀ s : State, s.pending = [] → step s = .next s) ∧
    ∀ (s : State) (n w : Nat), decodeTableWord n w = none ∧ s.withFetchWord n w = s

/-- The invariant holds at reset. -/
def Obligations.ResetIsSound : Prop := State.reset.Inv

/-- Soundness of the state is inductive over all commands and all their operands. -/
def Obligations.StepKeepsInv : Prop := ∀ s t : State, s.Inv → step s = .next t → t.Inv

/-- `exec` has its effect on everything but the queue. -/
def Obligations.ExecKeepsQueue : Prop :=
  ∀ (c : Instr) (s t : State), exec c s = .next t → t.pending = s.pending

/-- A fuse is written once: no command of the block turns a blown fuse back. -/
def Obligations.FusesOnlyRise : Prop :=
  ∀ (c : Instr) (s t : State), exec c s = .next t → s.fusesKept t

/-- Register reset values; the block is unpowered until POWER_UP (log entry 6). -/
def Obligations.ResetRegisters : Prop :=
  State.reset.pending = [] ∧ State.reset.boot.powered = false ∧ (∀ a, State.reset.reg a = regReset a) ∧
    State.reset.cfgS = 1000 ∧ State.reset.mode = modeNone ∧ State.reset.role = roleInit ∧
    State.reset.halted = false ∧ State.reset.anyReleased = false

/-- The DONE cells of the table of R58, and the lock of the factory test pages (R45). -/
def Obligations.HeaderCommandsDone : Prop :=
  ∀ (s : State) (p : BitVec 8) (iss : Issuer) (arg : BitVec 16), s.regsOk → s.populated p.toNat = true →
    (fieldPage p.toNat && s.variantN) = false → s.busy p.toNat = false →
    (∃ t, exec (.cmdNop p iss arg) s = .next t ∧ t.ended p.toNat ∧ t.owner p.toNat = s.owner p.toNat) ∧
    ((decide (0xF0 ≤ p.toNat) && s.debugLocked) = false →
      (isHost iss = true → s.owner p.toNat = issuerCode iss ∨ s.owner p.toNat = 7 →
        ∃ t, exec (.claim p iss arg) s = .next t ∧ t.ended p.toNat ∧ t.owner p.toNat = issuerCode iss) ∧
      (isHost iss = true → s.owner p.toNat = issuerCode iss →
        ∃ t, exec (.release p iss arg) s = .next t ∧ t.ended p.toNat ∧ t.owner p.toNat = 7) ∧
      (isHost iss = true → s.mgmt = issuerCode iss →
        ∃ t, exec (.take p iss arg) s = .next t ∧ t.ended p.toNat ∧ t.owner p.toNat = issuerCode iss) ∧
      (s.mayWrite p.toNat iss = true →
        ∃ t, exec (.clrErr p iss arg) s = .next t ∧ t.ended p.toNat ∧ t.reg (pa p.toNat H.ERRCNT) = 0 ∧
          t.reg (pa p.toNat H.ERRFIRST) = 0 ∧ t.reg (pa p.toNat H.ERRLAST) = 0)) ∧
    ((decide (0xF0 ≤ p.toNat) && s.debugLocked) = true → isHost iss = true →
      s.owner p.toNat = issuerCode iss ∨ s.owner p.toNat = 7 →
      ∃ t, exec (.claim p iss arg) s = .next t ∧ t.rejected p.toNat cLocked ∧ t.owner p.toNat = s.owner p.toNat)

/-- The refusing cells of the table of R58. -/
def Obligations.HeaderCommandsRefused : Prop :=
  ∀ (s : State) (p : BitVec 8) (iss : Issuer) (arg : BitVec 16), s.regsOk → s.pageOpen p.toNat → isHost iss = true →
    (s.owner p.toNat ≠ issuerCode iss → s.owner p.toNat ≠ 7 →
      (∃ t, exec (.claim p iss arg) s = .next t ∧ t.rejected p.toNat cNotOwner ∧ t.owner p.toNat = s.owner p.toNat) ∧
      (∃ t, exec (.release p iss arg) s = .next t ∧ t.rejected p.toNat cNotOwner ∧ t.owner p.toNat = s.owner p.toNat) ∧
      (∃ t, exec (.clrErr p iss arg) s = .next t ∧ t.reg (pa p.toNat H.CMDSTAT) = s.reg (pa p.toNat H.CMDSTAT) ∧
        t.regF (pa p.toNat H.ERRLAST) 7 0 = cNotOwner ∧ t.owner p.toNat = s.owner p.toNat)) ∧
    (s.mgmt ≠ issuerCode iss →
      ∃ t, exec (.take p iss arg) s = .next t ∧ t.rejected p.toNat cNotOwner ∧ t.owner p.toNat = s.owner p.toNat) ∧
    (s.owner p.toNat = 7 →
      ∃ t, exec (.release p iss arg) s = .next t ∧ t.rejected p.toNat cState ∧ t.owner p.toNat = 7)

/-- One statement for the clearing commands, whose page, opcode and registers `clearRow` lists. It says that each of
these constructors completes: clrLoad, pfcClrCnt, laneClrCnt, xchgClrCnt, execClrStat, debugClrStat, swapClrStat, batonClrCnt,
grdsClrCnt, grdChClrCnt, pacerClrCnt, tcapClrCnt, fldClrCnt, measaClrCnt, measfClrCnt, sboClrCnt,
partClrCnt, healthClrCnt, hostClrCnt, pcieClrCnt, shpClrCnt, ethClrCnt, bootClrCnt, updClrCnt,
cryptClrCnt. -/
def Obligations.ClearCommands : Prop :=
  ∀ (s : State) (i : Instr) (c : Call) (gated : Bool) (ws : List Nat), clearRow i = some (c, gated, ws) →
    s.regsOk → s.accepts c → (gated = true → s.halted = false) →
      ∃ t, exec i s = .next t ∧ t.ended c.page ∧ (∀ a ∈ ws, t.reg a = 0) ∧ s.movesOnly t c.page ws

/-- The clearing commands that also touch fields or the records behind the pages; SNAP latches the tick. -/
def Obligations.ClearingWithMore : Prop :=
  ∀ (s : State) (iss : Issuer) (arg : BitVec 16), s.regsOk →
    (s.accepts ⟨P.STARTER, 0x10, iss⟩ → ∃ t, exec (.clrOvr iss arg) s = .next t ∧ t.ended P.STARTER ∧
      t.reg R.STARTER_OVR_CNT = 0 ∧ t.reg R.STARTER_STRETCH_CNT = 0 ∧ t.regB R.STARTER_OVR_STAT 2 = false ∧
      s.movesOnly t P.STARTER [R.STARTER_OVR_CNT, R.STARTER_OVR_LAST_TICK, R.STARTER_OVR_LAST_TASKS,
        R.STARTER_STRETCH_CNT, R.STARTER_OVR_STAT]) ∧
    (s.accepts ⟨P.XCHG, 0x11, iss⟩ → s.halted = false → ∃ t, exec (.clrMargin iss arg) s = .next t ∧ t.ended P.XCHG ∧
      t.regF R.XCHG_MARGIN_MIN_NS 15 0 = 0xFFFF ∧ s.movesOnly t P.XCHG [R.XCHG_MARGIN_MIN_NS]) ∧
    (∀ n : Fin 8, s.accepts ⟨P.CAN + n, 0x17, iss⟩ → ∃ t, exec (.canClrCnt n iss arg) s = .next t ∧
      t.ended (P.CAN + n) ∧ (∀ a ∈ regRun (canA n R.CAN_RX_OK_CNT) 8 4, t.reg a = 0) ∧
      s.movesOnly t (P.CAN + n) (canA n R.CAN_RXF_STAT :: regRun (canA n R.CAN_RX_OK_CNT) 8 4)) ∧
    (∀ m : Fin 4, s.accepts ⟨P.MEM + m, 0x11, iss⟩ → ∃ t, exec (.memClrCnt m iss arg) s = .next t ∧
      t.ended (P.MEM + m) ∧ (∀ a ∈ memCounts m, t.reg a = 0) ∧
      t.mems = { s.mems with waitFrom := setAt s.mems.waitFrom m s.now } ∧ s.courseMoves t (P.MEM + m) (memCounts m)) ∧
    (∀ g : Fin 4, s.accepts ⟨P.FDG + g, 0x10, iss⟩ → ∃ t, exec (.fdgClrCnt g iss arg) s = .next t ∧
      t.ended (P.FDG + g) ∧ ∀ a ∈ fdgExtremes g, t.reg a = regReset a) ∧
    (s.accepts ⟨P.ENV, 0x10, iss⟩ → ∃ t, exec (.envClrCnt iss arg) s = .next t ∧ t.ended P.ENV ∧
      t.reg R.ENV_WARN_CNT = 0 ∧ ∀ a ∈ [R.ENV_VIN_MIN, R.ENV_VIN_MAX, R.ENV_BOARD_T_MIN, R.ENV_BOARD_T_MAX, R.ENV_JUNC_T_MAX],
        t.reg a = regReset a) ∧
    (s.accepts ⟨P.GRDMB, 0x10, iss⟩ → ∃ t, exec (.grdmbClrCnt iss arg) s = .next t ∧ t.ended P.GRDMB ∧
      (∀ b ∈ t.grd.bufs, b.2.okCnt = 0 ∧ b.2.errCnt = 0) ∧ t.grd.bufs.map (·.1) = s.grd.bufs.map (·.1)) ∧
    (s.accepts ⟨P.SMSG, 0x10, iss⟩ → ∃ t, exec (.smsgClrCnt iss arg) s = .next t ∧ t.ended P.SMSG ∧
      ∀ e ∈ t.safety.conns, e.2.dual = 0 ∧ e.2.singles = 0 ∧ e.2.rejs = 0 ∧ e.2.tos = 0) ∧
    (s.accepts ⟨P.SAFE, 0x12, iss⟩ → ∃ t, exec (.safeClrCnt iss arg) s = .next t ∧ t.ended P.SAFE ∧
      t.reg R.SAFE_LOCK_CNT = 0 ∧ t.safety.arm = none ∧ t.regF R.SAFE_RESET_STAT 7 0 = 0) ∧
    (s.accepts ⟨P.DISC, 0x10, iss⟩ → ∃ t, exec (.discClrCnt iss arg) s = .next t ∧ t.ended P.DISC ∧
      t.reg R.DISC_FAULT_CNT = 0 ∧ ∀ q : Fin 32, t.regF (pairStatA q) 26 16 = 0) ∧
    (s.accepts ⟨P.RELAY, 0x10, iss⟩ → ∃ t, exec (.relayClrCnt iss arg) s = .next t ∧ t.ended P.RELAY ∧
      t.regF R.RELAY_STAT 25 16 = s.regF R.RELAY_STAT 9 0 ∧ ∀ a ∈ regRun R.RELAY_RELAYED_CNT 10 4, t.reg a = 0) ∧
    (s.accepts ⟨P.TIME, 0x13, iss⟩ → isHost iss = true → ∃ t, exec (.timeClrCnt iss arg) s = .next t ∧ t.ended P.TIME ∧
      t.time.unlock = none ∧ ∀ a ∈ regRun R.TIME_STEP_CNT 4 4, t.reg a = 0) ∧
    (s.accepts ⟨P.REC, 0x11, iss⟩ → ∃ t, exec (.clrSrc iss arg) s = .next t ∧ t.ended P.REC ∧
      t.reg R.REC_LOST_TOTAL = 0 ∧ ∀ p, t.srcOf p = srcZero) ∧
    (s.accepts ⟨P.REC, 0x12, iss⟩ → ∃ t, exec (.recClrCnt iss arg) s = .next t ∧ t.ended P.REC ∧
      t.reg R.REC_SKIP_CNT = 0 ∧ t.regF R.REC_QUEUE_STAT 24 16 = 0) ∧
    (s.accepts ⟨P.STARTER, 0x12, iss⟩ → ∃ t, exec (.starterSnap iss arg) s = .next t ∧ t.ended P.STARTER ∧
      t.reg R.STARTER_SNAP_TICK = s.reg R.STARTER_TICK ∧ t.reg R.STARTER_SNAP_TICK_HI = s.reg R.STARTER_TICK_HI ∧
      s.movesOnly t P.STARTER [R.STARTER_SNAP_TICK, R.STARTER_SNAP_TICK_HI])

/-- The decision of one source (R111). -/
def Obligations.MajorityOfGoodCopies : Prop :=
  (∀ (old x y z : BitVec 224) (l m n i : Nat),
    let d := decideSource old [(l, x), (m, y), (n, z)]
    d.held = false ∧ (bitOf d.val i = (bitOf x i && bitOf y i || bitOf x i && bitOf z i || bitOf y i && bitOf z i)) ∧
      (x = y → d.val = x) ∧ (y = z → d.val = y) ∧ (x = z → d.val = x) ∧
      (l ∈ d.outvoted → m ≠ l → n ≠ l → x ≠ d.val)) ∧
  (∀ (old x : BitVec 224) (l m : Nat), (decideSource old [(l, x), (m, x)]).val = x ∧
    (decideSource old [(l, x), (m, x)]).held = false) ∧
  (∀ (old x y : BitVec 224) (l m : Nat), x ≠ y → (decideSource old [(l, x), (m, y)]).val = old ∧
    (decideSource old [(l, x), (m, y)]).held = true) ∧
  (∀ (old x : BitVec 224) (l : Nat), (decideSource old [(l, x)]).held = true ∧ (decideSource old [(l, x)]).val = old ∧
    (decideSource old []).held = true ∧ (decideSource old []).val = old)

/-- The rows of the table of R95 with three lanes in service. -/
def Obligations.VoteOfThree : Prop :=
  ∀ (s : State) (a b c : LaneCopy), s.Inv → s.halted = false → s.lanesIn = [0, 1, 2] →
    (a.bad = none → b.bad = none → c.bad = none → a.bundle = b.bundle → a.bundle = c.bundle →
      ∃ t, exec (.vote a b c 0) s = .next t ∧ t.halted = false ∧ t.lanesIn = [0, 1, 2] ∧
        t.voting.lastBundle = a.bundle) ∧
    (a.bad = none → b.bad = none → a.bundle = b.bundle → c.bad.isSome ∨ c.bundle ≠ a.bundle →
      ∃ t, exec (.vote a b c 0) s = .next t ∧ t.halted = false ∧ t.lanesIn = [0, 1] ∧ t.voting.lastBundle = a.bundle) ∧
    (a.bad = none → c.bad = none → a.bundle = c.bundle → b.bad.isSome ∨ b.bundle ≠ a.bundle →
      ∃ t, exec (.vote a b c 0) s = .next t ∧ t.halted = false ∧ t.lanesIn = [0, 2] ∧ t.voting.lastBundle = a.bundle) ∧
    (b.bad = none → c.bad = none → b.bundle = c.bundle → a.bad.isSome ∨ a.bundle ≠ b.bundle →
      ∃ t, exec (.vote a b c 0) s = .next t ∧ t.halted = false ∧ t.lanesIn = [1, 2] ∧ t.voting.lastBundle = b.bundle) ∧
    (¬ (a.bad = none ∧ b.bad = none ∧ a.bundle = b.bundle) → ¬ (a.bad = none ∧ c.bad = none ∧ a.bundle = c.bundle) →
      ¬ (b.bad = none ∧ c.bad = none ∧ b.bundle = c.bundle) →
      ∃ t, exec (.vote a b c 0) s = .next t ∧ t.halted = true)

/-- The first row of the table of R95, and the discarding of R97. -/
def Obligations.VoterDisagreementHalts : Prop :=
  (∀ (s : State) (a b c : LaneCopy) (d : BitVec 112), s.Inv → s.halted = false → d ≠ 0 → 2 ≤ s.lanesIn.length →
    ∃ t, exec (.vote a b c d) s = .next t ∧ t.halted = true ∧ t.voting.lastBundle = s.voting.lastBundle) ∧
  ∀ (s : State) (a b c : LaneCopy) (d : BitVec 112), s.halted = true → exec (.vote a b c d) s = .next s

/-- A voted write, its address computed from the bundle as `forward` does. -/
def Obligations.VotedWriteReachesMemory : Prop :=
  ∀ (s : State) (a b c : LaneCopy), s.Inv → s.halted = false → s.lanesIn = [0, 1, 2] →
    a.bad = none → b.bad = none → c.bad = none → a.bundle = b.bundle → a.bundle = c.bundle →
    bitOf a.bundle 111 = true → bitOf a.bundle 110 = false → fld a.bundle 106 104 = 0 →
    fld a.bundle 103 96 = 255 → fld a.bundle 95 64 < 0x200000 →
      ∃ t, exec (.vote a b c 0) s = .next t ∧
        t.commsWord (fld a.bundle 95 64 / 8) = BitVec.ofNat 64 (fld a.bundle 63 0) ∧
        t.poisoned (fld a.bundle 95 64 / 8 * 8) 8 = false ∧
        ∀ w, w ≠ fld a.bundle 95 64 / 8 → t.commsWord w = s.commsWord w

/-- The course of a resync, and FENCE. -/
def Obligations.LaneIsRebuilt : Prop :=
  ∀ (s : State) (l : Fin 3), s.Inv → s.halted = false →
    (s.rebuildable l → bitOf (s.cfgWord (laneA l R.LANE_CFG)) 0 = true →
      ∃ t, exec (.resyncAutoStart l) s = .next t ∧ t.regF (laneA l R.LANE_STATE) 2 0 = 2 ∧
        t.voting.clone.lane = some l.val ∧ t.voting.clone.firstPass = true ∧ dirtyCount t.voting.clone = 131072) ∧
    (∀ iss arg, s.accepts ⟨P.LANE + l, 0x10, iss⟩ → s.rebuildable l →
      ∃ t, exec (.resync l iss arg) s = .next t ∧ t.ended (P.LANE + l) ∧ t.regF (laneA l R.LANE_STATE) 2 0 = 2 ∧
        t.voting.clone.lane = some l.val ∧ t.voting.clone.firstPass = true ∧ dirtyCount t.voting.clone = 131072) ∧
    (∀ iss arg, s.accepts ⟨P.LANE + l, 0x11, iss⟩ → s.standby = true ∨ s.stopped = true → s.lanesIn.length = 3 →
      ∃ t, exec (.fence l iss arg) s = .next t ∧ t.ended (P.LANE + l) ∧ t.inService l = false ∧
        t.regF (laneA l R.LANE_STATE) 2 0 = 1 ∧ t.regF (laneA l R.LANE_STATE) 7 4 = 0 ∧ t.halted = false) ∧
    (∀ same, s.voting.clone.lane = some l.val → s.voting.clone.armed = false →
      s.regF (laneA l R.LANE_STATE) 2 0 ≠ 3 → s.mems.upset = [] →
      ∃ t, exec (.clonePassEnd same) s = .next t ∧
        (same = true → sourcesAgree s.voting.clone s = true →
          t.voting.clone.todo = s.voting.clone.marked ∧ t.voting.clone.marked = [] ∧ t.voting.clone.firstPass = false ∧
          t.halted = false ∧ (t.lane l).sram =
            if s.voting.clone.firstPass then (s.lane (s.lanesIn.headD 0)).sram
            else s.voting.clone.todo.foldl (fun m n =>
              Memory.copy m (64 * n) (s.lane (s.lanesIn.headD 0)).sram (64 * n) 64) (s.lane l).sram) ∧
        (same = false ∨ sourcesAgree s.voting.clone s = false → t.halted = true ∧ t.lanes = s.lanes)) ∧
    (s.voting.clone.lane = some l.val → s.voting.clone.armed = false → s.regF (laneA l R.LANE_STATE) 2 0 = 2 →
      dirtyCount s.voting.clone ≤ finalL s.cfgS →
      ∃ t, exec .resyncReserveCheck s = .next t ∧ t.regF (laneA l R.LANE_STATE) 2 0 = 3 ∧
        t.regF (laneA l R.LANE_RESYNC_STAT) 2 0 = 3 ∧ (∀ m ∈ s.lanesIn, t.regB (laneA m R.LANE_SUP_STAT) 1 = true) ∧
        t = { s with regs := t.regs }) ∧
    (s.voting.clone.lane = some l.val → s.voting.clone.armed = false → s.regF (laneA l R.LANE_STATE) 2 0 = 3 →
      s.mems.upset = [] →
      ∃ t, exec .finalPhaseEnd s = .next t ∧ (t.lane l).eng = (s.lane (s.lanesIn.headD 0)).eng ∧
        t.regN (laneA l R.LANE_FINAL_LAST_CYC) = (80000 + 128 * dirtyCount s.voting.clone) / 10 % 2 ^ 32 ∧
        (s.starter.running = true → t.voting.clone.armed = true ∧ t.voting.clone.todo = [] ∧
          t.voting.clone.lane = some l.val) ∧
        (s.starter.running = false → t.inService l = true ∧ t.voting.clone.lane = none))

/-- INJ_TEST, its end and its age. -/
def Obligations.InjectionTest : Prop :=
  ∀ (s : State), s.regsOk →
    (∀ iss arg, s.accepts ⟨P.PFC, 0x10, iss⟩ → s.halted = false → s.standby = true ∨ s.stopped = true →
      s.lanesIn.length = 3 → s.standby = true ∨ s.anyReleased = false →
      ∃ t, exec (.injTest iss arg) s = .next t ∧ t.working ⟨P.PFC, 0x10, iss⟩ ∧ t.regF R.PFC_INJ_STAT 1 0 = 3 ∧
        t.regF R.PFC_SAFE_OFF_STAT 3 0 = 15 ∧ ∀ f : Fin 4, t.regB (fldA f R.FLD_SAFEOFF_STAT) 1 = true) ∧
    (∀ rep, s.regF R.PFC_INJ_STAT 1 0 = 3 →
      ∃ t, exec (.injTestEnd rep) s = .next t ∧ t.raw P.PFC 10 = true ∧ t.regF R.PFC_INJ_STAT 15 4 = 686 ∧
        (s.busyWith P.PFC 0x10 = true → t.ended P.PFC) ∧
        (injFirstFail rep = none → t.regF R.PFC_INJ_STAT 1 0 = 1 ∧ t.regN R.PFC_INJ_AGE_S = 0 ∧ t.halted = s.halted) ∧
        ∀ k, injFirstFail rep = some k → t.regF R.PFC_INJ_STAT 1 0 = 2 ∧ t.regF R.PFC_INJ_STAT 27 16 = k % 2 ^ 12 ∧
          t.halted = true) ∧
    ((s.cfgWord R.PFC_INJ_AGE_LIMIT).toNat < s.regN R.PFC_INJ_AGE_S →
      ∃ t, exec .injAgeExceeded s = .next t ∧ t.raw P.PFC 11 = true ∧ t = { s with regs := t.regs, sent := t.sent, shp := t.shp } ∧
        s.regsMove t [pa P.PFC H.IRQ_RAW, R.HOST_STAT, R.PCIE_STAT])

/-- EXCHANGE_DEADLINE, SOURCE_INVALID and RX_EVENT. -/
def Obligations.ExchangeDecides : Prop :=
  ∀ (s : State), s.Inv → s.halted = false →
    (∀ (recs : List (Option (List Word))) (bad late : List (Fin 6)) (m : BitVec 16), s.now ≠ 0 →
      s.voting.decided ≠ some (s.now - 1) →
      ∃ t, exec (.exchangeDeadline recs bad late m) s = .next t ∧ t.voting.decided = some (s.now - 1) ∧
        exec (.exchangeDeadline recs bad late m) t = .next t ∧
        ∀ r, recs = [some r, some r, some r] → bad = [] → late = [] → s.lanesIn = [0, 1, 2] →
          s.voting.counted = [0, 1, 2] → s.sources = [4] → recordGood r (s.now - 1) = true →
          t.regF R.XCHG_DISC_AGREED 4 0 = fld (getAt 0 r 28) 4 0 ∧ t.halted = false) ∧
    (∀ recs bad late m, s.voting.decided = some (s.now - 1) →
      exec (.exchangeDeadline recs bad late m) s = .next s) ∧
    (∀ src : Fin 5, s.pgState P.XCHG ≠ stFault → s.regF R.XCHG_CFG 19 16 ≤ s.regF (R.XCHG_SRC_STAT + 4 * src) 15 12 →
      s.regB (R.XCHG_SRC_STAT + 4 * src) 9 = false → s.sources.contains src.val = true →
      ∃ u, exec (.sourceInvalid src) s = .next (if src.val < 4 then linkLost src u else u) ∧
        u.regB (R.XCHG_SRC_STAT + 4 * src) 9 = true ∧ u.raw P.XCHG 10 = true ∧
        u.reg (R.XCHG_INVAL_CNT + 4 * src) = satInc (s.reg (R.XCHG_INVAL_CNT + 4 * src)) ∧
        exec (.sourceInvalid src) u = .next u) ∧
    (∀ (l : Fin 3) (src : Fin 5), s.pgState P.XCHG ≠ stFault → s.inService l = true →
      s.regF R.XCHG_CFG 15 0 ≤ getAt 0 s.voting.oddRun (3 * src + l) →
      ∃ t, exec (.rxEvent l src) s = .next t ∧
        (s.lanesIn.length = 3 → t.inService l = false ∧ t.halted = false) ∧
        (s.lanesIn.length = 2 → t.halted = true))

/-- SCRUB_READ, ECC_WRITE_BACK and SCRUB_LATE. -/
def Obligations.EccCorrection : Prop :=
  ∀ (s : State) (m : Fin 4), s.regsOk →
    (s.regB (memA m R.MEM_STAT) 0 = true → s.regN (memA m R.MEM_SCRUB_POS) + 1 < memWords m →
      s.eccHits m (8 * s.regN (memA m R.MEM_SCRUB_POS)) 8 = [] →
      (∃ t, exec (.scrubRead m .good) s = .next t ∧
        t.regN (memA m R.MEM_SCRUB_POS) = s.regN (memA m R.MEM_SCRUB_POS) + 1 ∧
        s.regsMove t [memA m R.MEM_SCRUB_POS] ∧ t = { s with regs := t.regs }) ∧
      ∀ syn, ∃ t, exec (.scrubRead m (.single syn)) s = .next t ∧
        t.reg (memA m R.MEM_SBE_CNT) = satInc (s.reg (memA m R.MEM_SBE_CNT)) ∧
        t.regN (memA m R.MEM_SBE_LAST_ADDR) = 8 * s.regN (memA m R.MEM_SCRUB_POS) ∧
        t.mems.writeBack.contains (m.val, s.regN (memA m R.MEM_SCRUB_POS)) = true ∧ t.raw (P.MEM + m) 8 = true ∧
        t.regN (memA m R.MEM_SCRUB_POS) = s.regN (memA m R.MEM_SCRUB_POS) + 1) ∧
    (∀ w, w < memWords m → s.mems.writeBack.contains (m.val, w) = true →
      ∃ t, exec (.eccWriteBack m w) s = .next t ∧ t.eccHits m (8 * w) 8 = [] ∧
        (∀ e, e ∈ t.mems.writeBack ↔ e ∈ s.mems.writeBack ∧ e ≠ (m.val, w)) ∧
        t = { s with mems := t.mems, voting := t.voting } ∧ t.mems.comms = s.mems.comms) ∧
    (s.regB (memA m R.MEM_STAT) 0 = true → getAt 0 s.mems.scrubStart m + scrubPeriod m s < s.now →
      m.val < s.mems.scrubStart.length →
      ∃ t, exec (.scrubLate m) s = .next t ∧ t.regB (memA m R.MEM_STAT) 1 = true ∧ t.raw (P.MEM + m) 11 = true ∧
        t.regN (memA m R.MEM_SCRUB_POS) = 0 ∧ getAt 0 t.mems.scrubStart m = s.now)

/-- MARCH and MARCH_END. -/
def Obligations.MarchTest : Prop :=
  (∀ (s : State) (m : Fin 4) (iss : Issuer) (arg : BitVec 16), s.regsOk → s.accepts ⟨P.MEM + m, 0x10, iss⟩ →
    (marchGate m s = none →
      ∃ t, exec (.march m iss arg) s = .next t ∧ t.working ⟨P.MEM + m, 0x10, iss⟩ ∧
        (∀ l ∈ marchLanes m s, t.regF (memA l R.MEM_MARCH_STAT) 1 0 = 3 ∧ t.regB (memA l R.MEM_STAT) 2 = true) ∧
        t.mems.march.isSome = true) ∧
    (m = 3 → ∃ t, exec (.march m iss arg) s = .next t ∧ t.rejected P.MEMX cState ∧ t.mems = s.mems)) ∧
  ∀ (s : State) (m alg start : Nat) (pres : Bool), s.Inv → s.mems.march = some (m, alg, pres, start) →
    ∀ fails, ∃ t, exec (.marchEnd fails) s = .next t ∧ t.mems.march = none ∧
      ∀ l : Fin 3, fails = [] → s.regF (memA l R.MEM_MARCH_STAT) 1 0 = 3 →
        t.regF (memA l R.MEM_MARCH_STAT) 1 0 = 1 ∧ t.regF (memA l R.MEM_MARCH_STAT) 15 8 = 100 ∧
        t.raw (P.MEM + l) 10 = true ∧
        (pres = false → ∀ x, x < 8388608 → Memory.read (t.lane l).sram x = 0)

/-- ATOM_ADD and ATOM_SWAP (R132; R134 gives the region). -/
def Obligations.HostAtomic : Prop :=
  ∀ (s : State) (iss : Issuer) (arg : BitVec 16) (w : Nat), s.Inv →
    (s.accepts ⟨P.MEMX, 0x12, iss⟩ → s.regN R.MEMX_ATOM_ADDR = 8 * w → 0x38000 ≤ w → w < 0x40000 →
      s.pgState P.MEMX ≠ stFault → s.poisoned (8 * w) 8 = false →
      ∃ t, exec (.atomAdd 3 iss arg) s = .next t ∧ t.ended P.MEMX ∧
        t.reg64 R.MEMX_ATOM_OLD_LO = (s.commsWord w).toNat ∧
        t.commsWord w = s.commsWord w + BitVec.ofNat 64 (s.reg64 R.MEMX_ATOM_OPND_LO) ∧
        ∀ v, v ≠ w → t.commsWord v = s.commsWord v) ∧
    (s.accepts ⟨P.MEMX, 0x13, iss⟩ → s.regN R.MEMX_ATOM_ADDR = 8 * w → 0x38000 ≤ w → w < 0x40000 →
      s.pgState P.MEMX ≠ stFault → s.poisoned (8 * w) 8 = false →
      ∃ t, exec (.atomSwap 3 iss arg) s = .next t ∧ t.ended P.MEMX ∧
        t.reg64 R.MEMX_ATOM_OLD_LO = (s.commsWord w).toNat ∧
        t.commsWord w = BitVec.ofNat 64 (s.reg64 R.MEMX_ATOM_OPND_LO) ∧
        ∀ v, v ≠ w → t.commsWord v = s.commsWord v) ∧
    (∀ m : Fin 4, m ≠ 3 →
      (s.accepts ⟨P.MEM + m, 0x12, iss⟩ → ∃ t, exec (.atomAdd m iss arg) s = .next t ∧ t.rejected (P.MEM + m) cUnknown) ∧
      (s.accepts ⟨P.MEM + m, 0x13, iss⟩ → ∃ t, exec (.atomSwap m iss arg) s = .next t ∧ t.rejected (P.MEM + m) cUnknown))

/-- The commands of EXEC and the end of an admission. -/
def Obligations.ProgramCommands : Prop :=
  ∀ (s : State) (iss : Issuer) (arg : BitVec 16), s.regsOk → s.halted = false →
    (s.accepts ⟨P.EXEC, 0x10, iss⟩ → loadGate arg.toNat s = none →
      ∃ t, exec (.load iss arg) s = .next t ∧ t.working ⟨P.EXEC, 0x10, iss⟩ ∧
        t.exec.admitting = some (1, 4 + arg.toNat % 2) ∧ t.regF R.EXEC_ADM_STAT 1 0 = 3) ∧
    (s.accepts ⟨P.EXEC, 0x11, iss⟩ → startGate arg.toNat s = none →
      ∃ t, exec (.start iss arg) s = .next t ∧ t.working ⟨P.EXEC, 0x11, iss⟩ ∧
        (s.exec.admS = s.cfgS → t.exec.waiting = s.exec.waiting ++ [(.start (arg.toNat % 2 == 1), P.EXEC)]) ∧
        (s.exec.admS ≠ s.cfgS → t.exec.admitting = some (4, arg.toNat % 2))) ∧
    (s.accepts ⟨P.EXEC, 0x12, iss⟩ → s.active = true → s.standby = false →
      ∃ t, exec (.stop iss arg) s = .next t ∧ t.working ⟨P.EXEC, 0x12, iss⟩ ∧
        t.exec.waiting = s.exec.waiting ++ [(.stop, P.EXEC)]) ∧
    (s.accepts ⟨P.EXEC, 0x13, iss⟩ → s.mode = modeStop →
      ∃ t, exec (.admitImage iss arg) s = .next t ∧ t.working ⟨P.EXEC, 0x13, iss⟩ ∧ t.exec.admitting = some (3, 0) ∧
        t.regF R.EXEC_ADM_STAT 1 0 = 3) ∧
    (s.accepts ⟨P.EXEC, 0x14, iss⟩ → s.mode = modeStop →
      ∃ t, exec (.unload iss arg) s = .next t ∧ t.ended P.EXEC ∧ t.exec.prog = none ∧ t.mode = modeNone ∧
        t.exec.forces = [] ∧ t.regB R.EXEC_MODE 4 = false) ∧
    (s.exec.admitting = some (3, 0) → ∀ p, s.exec.prog = some p →
      ((s.admission p.image).reason = 0 → ∃ t, exec .loadDone s = .next t ∧ t.ended P.EXEC ∧ t.exec.admS = s.cfgS ∧
        t.regF R.EXEC_ADM_STAT 1 0 = 1 ∧ t.exec.admitting = none) ∧
      ((s.admission p.image).reason ≠ 0 → ∃ t, exec .loadDone s = .next t ∧ t.exec.admitting = none ∧
        t.code P.EXEC = admStatus (s.admission p.image).reason)) ∧
    (∀ slot, s.exec.admitting = some (1, slot) → (s.admission (s.slotImage slot)).reason = 0 →
      ∃ t, exec .loadDone s = .next t ∧ t.ended P.EXEC ∧ t.mode = modeStop ∧ t.exec.slot = slot ∧
        t.exec.prog = some (imageProgram (s.slotImage slot)) ∧ t.exec.codeArea = 1 - s.exec.codeArea ∧
        t.exec.instArea = 1 - s.exec.instArea)

/-- The commands of DEBUG and the force table. -/
def Obligations.DebugCommands : Prop :=
  ∀ (s : State) (iss : Issuer) (arg : BitVec 16), s.regsOk → s.halted = false →
    (s.accepts ⟨P.DEBUG, 0x10, iss⟩ → holdGate s = none →
      ∃ t, exec (.hold iss arg) s = .next t ∧ t.working ⟨P.DEBUG, 0x10, iss⟩ ∧
        t.exec.waiting = s.exec.waiting ++ [(.hold, P.DEBUG)]) ∧
    (s.accepts ⟨P.DEBUG, 0x11, iss⟩ → s.mode = modeHold → s.standby = false →
      ∃ t, exec (.stepCmd iss arg) s = .next t ∧ t.working ⟨P.DEBUG, 0x11, iss⟩ ∧
        t.exec.waiting = s.exec.waiting ++ [(.step, P.DEBUG)]) ∧
    (s.accepts ⟨P.DEBUG, 0x12, iss⟩ → s.mode = modeHold → s.standby = false →
      ∃ t, exec (.continueCmd iss arg) s = .next t ∧ t.working ⟨P.DEBUG, 0x12, iss⟩ ∧
        t.exec.waiting = s.exec.waiting ++ [(.cont, P.DEBUG)]) ∧
    (s.accepts ⟨P.DEBUG, 0x13, iss⟩ →
      ∃ t, exec (.clrForce iss arg) s = .next t ∧ t.working ⟨P.DEBUG, 0x13, iss⟩ ∧
        t.deferred = s.deferred ++ [.clrForce]) ∧
    (∀ (j : Fin 64) (v : Word), s.populated P.DEBUG = true → s.mayWrite P.DEBUG iss = true → s.debugLocked = false →
      s.standby = false → s.mode ≠ modeNone → s.forceEn = true →
      ∃ t, exec (.forceEntryWrite iss j 2 v) s = .next t ∧ t.reg (forceA j + 8) = v)

/-- SAMPLE_TICK: what its opening leaves, and that the work of the tick follows. -/
def Obligations.TickCounts : Prop :=
  ∀ (s : State) (u : Option (Fin 8)) (k : List Strike), s.Inv →
    (s.boot.powered = true → exec (.sampleTick ⟨u, k⟩) s = .next (tickWork u (tickOpens (strikeAll k s))) ∧
      (tickOpens (strikeAll k s)).now = (s.now + 1) % 2 ^ 64 ∧
      (tickOpens (strikeAll k s)).ttNs * 2 ^ 24 + (tickOpens (strikeAll k s)).time.frac.toNat =
        (s.ttNs * 2 ^ 24 + s.time.frac.toNat + edgesToTick s * max 1 s.increment) % (2 ^ 64 * 1000000000 * 2 ^ 24)) ∧
    (s.boot.powered = false → exec (.sampleTick ⟨u, k⟩) s = .next s)

/-- The tick length in edges of the time base. -/
def Obligations.TrainTimeReachesTheTick : Prop :=
  ∀ s : State, 0 < s.increment →
    (s.ttNs / 1000 + 1) * 1000 * 2 ^ 24 ≤ s.ttNs * 2 ^ 24 + s.time.frac.toNat + edgesToTick s * s.increment ∧
    (edgesToTick s ≠ 0 →
      s.ttNs * 2 ^ 24 + s.time.frac.toNat + (edgesToTick s - 1) * s.increment < (s.ttNs / 1000 + 1) * 1000 * 2 ^ 24)

/-- STRIDE_BOUNDARY: its opening, and that the steps follow. -/
def Obligations.BoundaryOpensStride : Prop :=
  ∀ s : State, s.Inv →
    (s.boundaryDue = true → exec .strideBoundary s = .next (boundarySteps s.boundAt (boundaryOpens s)) ∧
      (boundaryOpens s).regN R.STARTER_BOUND_TICK = s.now % 2 ^ 32 ∧
      (boundaryOpens s).reg64 R.STARTER_STRIDE_NO_LO = (s.reg64 R.STARTER_STRIDE_NO_LO + 1) % 2 ^ 64 ∧
      (boundaryOpens s).starter.started = true ∧ (boundaryOpens s).starter.runS = s.strideS ∧
      (boundaryOpens s).starter.runP = s.strideP) ∧
    (s.boundaryDue = false → exec .strideBoundary s = .next s)

/-- The advance of step 5, and what a cold START does. -/
def Obligations.ProgramTimeAdvances : Prop :=
  ∀ s : State, s.regsOk →
    (advanceProgram true s).reg64 R.EXEC_PTIME_LO = (s.reg64 R.EXEC_PTIME_LO + 1000 * s.starter.runS) % 2 ^ 64 ∧
    (advanceProgram true s).reg64 R.EXEC_PSTRIDE_LO = (s.reg64 R.EXEC_PSTRIDE_LO + 1) % 2 ^ 64 ∧
    s.regsMove (advanceProgram true s) [R.EXEC_PTIME_LO, R.EXEC_PTIME_LO + 4, R.EXEC_PSTRIDE_LO, R.EXEC_PSTRIDE_LO + 4] ∧
    advanceProgram false s = s ∧
    (startRun true s).reg64 R.EXEC_PTIME_LO = 0 ∧ (startRun true s).reg64 R.EXEC_PSTRIDE_LO = 0

/-- REGISTER_WRITE on the registers of every page. -/
def Obligations.RegisterWrites : Prop :=
  ∀ (s : State) (iss : Issuer) (p : BitVec 8) (w : Word) (r : BootReport), s.regsOk →
    (s.populated p.toNat = true → s.mayWrite p.toNat iss = true → (decide (0xF0 ≤ p.toNat) && s.debugLocked) = false →
      (∃ t, exec (.registerWrite iss (pageWord p H.IRQ_EN) 4 w r) s = .next t ∧
        t.reg (pa p.toNat H.IRQ_EN) = w &&& irqMask) ∧
      (∃ t, exec (.registerWrite iss (pageWord p H.IRQ_RAW) 4 w r) s = .next t ∧
        t.reg (pa p.toNat H.IRQ_RAW) = s.reg (pa p.toNat H.IRQ_RAW) &&& ~~~w) ∧
      (∃ t, exec (.registerWrite iss (pageWord p H.CMD) 4 w r) s = .next t ∧
        t = cmdWrite r iss p.toNat w s) ∧
      (∃ t, exec (.registerWrite iss (pageWord p H.RESET) 4 w r) s = .next t ∧
        exec (.functionReset p iss w) s = .next t)) ∧
    (s.populated p.toNat = true → ∀ (off : BitVec 12) (n : Nat), n ≠ 4 →
      ∃ t, exec (.registerWrite iss (pageWord p off.toNat) n w r) s = .next t ∧
        t.regF (pa p.toNat H.ERRLAST) 7 0 = cAccess ∧ t.reg (pa p.toNat H.CMDSTAT) = s.reg (pa p.toNat H.CMDSTAT)) ∧
    (s.populated p.toNat = false → ∀ (off : BitVec 12),
      ∃ t, exec (.registerWrite iss (pageWord p off.toNat) 4 w r) s = .next t ∧
        (off.toNat % 4 = 0 → t.regF (pa P.DEV H.ERRLAST) 7 0 = cAddress)) ∧
    (s.populated p.toNat = true → s.mayWrite p.toNat iss = false → (fieldPage p.toNat && s.variantN) = false →
      ∃ t, exec (.registerWrite iss (pageWord p H.CTRL) 4 w r) s = .next t ∧
        t.reg (pa p.toNat H.CTRL) = s.reg (pa p.toNat H.CTRL) ∧ t.regF (pa p.toNat H.ERRLAST) 7 0 = cNotOwner)

/-- HIGH_WORD_COMMIT, shown on the operand of MEMX. -/
def Obligations.WideWritesCommitTogether : Prop :=
  (∀ (s : State) (iss : Issuer) (v : Word) (r : BootReport), s.regsOk → s.populated P.MEMX = true →
    s.mayWrite P.MEMX iss = true →
      (∃ t, exec (.registerWrite iss (BitVec.ofNat 20 R.MEMX_ATOM_OPND_LO) 4 v r) s = .next t ∧
        t.reg R.MEMX_ATOM_OPND_LO = s.reg R.MEMX_ATOM_OPND_LO ∧ t.lowWord iss R.MEMX_ATOM_OPND_LO = v) ∧
      (∃ t, exec (.highWordCommit iss (BitVec.ofNat 20 R.MEMX_ATOM_OPND_HI) v) s = .next t ∧
        t.reg R.MEMX_ATOM_OPND_HI = v ∧ t.reg R.MEMX_ATOM_OPND_LO = s.lowWord iss R.MEMX_ATOM_OPND_LO)) ∧
  ∀ (s : State) (iss : Issuer) (a : BitVec 20) (v : Word), lowWords a.toNat = [] →
    exec (.highWordCommit iss a v) s = .next s

/-- FUNCTION_RESET. -/
def Obligations.FunctionResetOfPage : Prop :=
  ∀ (s : State) (p : BitVec 8) (iss : Issuer), s.regsOk → s.populated p.toNat = true →
    resetPrecheck ⟨p.toNat, 0xA5, iss⟩ s = none → s.busy p.toNat = false →
    (resetGate p.toNat s = none → resetWaits p.toNat = true →
      ∃ t, exec (.functionReset p iss 0xA5) s = .next t ∧ t.working ⟨p.toNat, 0xA5, iss⟩ ∧
        (.reset p.toNat) ∈ t.deferred) ∧
    (p.toNat = P.HEALTH ∨ p.toNat = P.ENV →
      ∃ t, exec (.functionReset p iss 0xA5) s = .next t ∧ t.ended p.toNat ∧
        (∀ off ∈ [H.CTRL, H.STAT, H.IRQ_EN, H.PARITY], t.reg (pa p.toNat off) = regReset (pa p.toNat off)) ∧
        ∀ off ∈ [H.OWNER, H.ERRCNT, H.ERRFIRST, H.ERRLAST], t.reg (pa p.toNat off) = s.reg (pa p.toNat off)) ∧
    (∀ v : Word, v ≠ 0xA5 → ∃ t, exec (.functionReset p iss v) s = .next t ∧ t.rejected p.toNat cRange ∧
      t.reg (pa p.toNat H.CTRL) = s.reg (pa p.toNat H.CTRL))

/-- PARITY_SWEEP: what it leaves before the reaction of the page. -/
def Obligations.ParitySweepFaultsPage : Prop :=
  ∀ (s : State) (p : BitVec 8) (word : BitVec 10) (bytes : BitVec 4), s.regsOk → s.populated p.toNat = true →
    parityWord p.toNat (4 * word.toNat) = true → bytes ≠ 0 → s.regB (pa p.toNat H.PARITY) 0 = false →
      ∃ u, exec (.paritySweep p word bytes) s = .next
          (forN 8 (fun g t => if t.serves p.toNat g then groupSafe g t else t) (parityReact p.toNat (4 * word.toNat) u)) ∧
        u.pgState p.toNat = stFault ∧
        u.regN (pa p.toNat H.PARITY) = 1 + 4 * word.toNat + 4096 * bytes.toNat ∧
        u.raw p.toNat 2 = true ∧ u.regF (pa p.toNat H.ERRLAST) 7 0 = cParity ∧
        u.regF (pa p.toNat H.ERRLAST) 20 18 = 7

/-- A PG_CMD write to a page that is BUSY. -/
def Obligations.BusyPageKeepsCmdstat : Prop :=
  ∀ (s : State) (iss : Issuer) (p : BitVec 8) (w : Word) (r : BootReport), s.regsOk → s.busy p.toNat = true →
    ∃ t, exec (.registerWrite iss (pageWord p H.CMD) 4 w r) s = .next t ∧
      t.reg (pa p.toNat H.CMDSTAT) = s.reg (pa p.toNat H.CMDSTAT) ∧
      (s.populated p.toNat = true → s.mayWrite p.toNat iss = true → (fieldPage p.toNat && s.variantN) = false →
        (decide (0xF0 ≤ p.toNat) && s.debugLocked) = false →
        (fld w 7 0 = opNop ∨ 0x10 ≤ fld w 7 0 ∧ p.toNat ∉ [P.BOOT, P.PART, P.SAFE, P.TIME]) →
        t.regF (pa p.toNat H.ERRLAST) 7 0 = cBusy)

/-- The one-word instructions that read and write registers and flags. -/
def Obligations.EngineMoves : Prop :=
  ∀ (s : State) (p : Program) (d a : ZReg) (imm : BitVec 16) (k : ZCond), s.zAt p 1 →
    (∃ t, exec .nop s = .next t ∧ s.zMoves t p 1 1 (fun c => c.e)) ∧
    (∃ t, exec (.mov d a) s = .next t ∧ s.zMoves t p 1 1 (fun c => c.e.setW d (c.w a))) ∧
    (∃ t, exec (.ldi d imm) s = .next t ∧ s.zMoves t p 1 1 (fun c => c.e.setW d (BitVec.ofInt 64 imm.toInt))) ∧
    (∃ t, exec (.ldih d imm) s = .next t ∧
      s.zMoves t p 1 1 (fun c => c.e.setW d (BitVec.ofNat 64 ((c.w d).toNat * 65536 + imm.toNat)))) ∧
    (∃ t, exec (.getf d) s = .next t ∧ s.zMoves t p 1 1 (fun c => c.e.setW d
      (BitVec.ofNat 64 (b2n c.e.z + 2 * b2n c.e.n + 4 * b2n c.e.v + 8 * b2n c.e.c + 16 * b2n c.e.q)))) ∧
    (∃ t, exec (.setf a) s = .next t ∧ s.zMoves t p 1 1 (fun c =>
      { c.e with z := bitOf (c.w a) 0, n := bitOf (c.w a) 1, v := bitOf (c.w a) 2, c := bitOf (c.w a) 3,
                 q := bitOf (c.w a) 4 })) ∧
    (∃ t, exec .clrq s = .next t ∧ s.zMoves t p 1 1 (fun c => { c.e with q := false })) ∧
    (∃ t, exec (.addi d a imm) s = .next t ∧
      s.zMoves t p 1 1 (fun c => c.e.setW d (BitVec.ofInt 64 ((c.w a).toInt + imm.toInt)))) ∧
    (∃ t, exec (.setc d k) s = .next t ∧
      s.zMoves t p 1 1 (fun c => c.e.setW d (if condHolds k.val c.e.z c.e.n c.e.v c.e.c c.e.q then 1 else 0)))

/-- The typed instructions, on the results that `IntegerResults` and the tables of R190 to R194 describe. -/
def Obligations.EngineArithmetic : Prop :=
  ∀ (s : State) (p : Program) (d a b : ZReg) (t t2 : ZTy) (sat : Bool), s.zAt p 1 →
    (t = .real64 ∨ t2 = .real64 → p.version = 2) → (sat = true → tySat t = true ∧ tySat t2 = true) →
    (t ≠ .bool →
      (∃ u, exec (.add d a b t sat) s = .next u ∧ s.zMoves u p 1 (if t = .real32 then 4 else if t = .real64 then 5 else 1)
        (fun c => (c.e.setAlu (aluAdd t sat (c.w a) (c.w b))).setW d (aluAdd t sat (c.w a) (c.w b)).res)) ∧
      (∃ u, exec (.sub d a b t sat) s = .next u ∧ s.zMoves u p 1 (if t = .real32 then 4 else if t = .real64 then 5 else 1)
        (fun c => (c.e.setAlu (aluSub t sat (c.w a) (c.w b))).setW d (aluSub t sat (c.w a) (c.w b)).res))) ∧
    (t ≠ .bool → t ≠ .tod →
      (∃ u, exec (.mul d a b t sat) s = .next u ∧ s.zMoves u p 1 (costW t 2 4 4 6)
        (fun c => (c.e.setAlu (aluMul t sat (c.w a) (c.w b))).setW d (aluMul t sat (c.w a) (c.w b)).res)) ∧
      (∃ u, exec (.div d a b t sat) s = .next u ∧ s.zMoves u p 1 (costW t 20 36 14 28)
        (fun c => (c.e.setAlu (aluDiv t sat (c.w a) (c.w b))).setW d (aluDiv t sat (c.w a) (c.w b)).res)) ∧
      (∃ u, exec (.neg d a t sat) s = .next u ∧ s.zMoves u p 1 1
        (fun c => (c.e.setAlu (aluNeg t sat (c.w a))).setW d (aluNeg t sat (c.w a)).res)) ∧
      (∃ u, exec (.abs d a t sat) s = .next u ∧ s.zMoves u p 1 1
        (fun c => (c.e.setAlu (aluAbs t sat (c.w a))).setW d (aluAbs t sat (c.w a)).res)) ∧
      (∃ u, exec (.min d a b t) s = .next u ∧ s.zMoves u p 1 (if t.isReal then 2 else 1)
        (fun c => (c.e.setAlu (aluMinMax false t (c.w a) (c.w b))).setW d (aluMinMax false t (c.w a) (c.w b)).res)) ∧
      (∃ u, exec (.max d a b t) s = .next u ∧ s.zMoves u p 1 (if t.isReal then 2 else 1)
        (fun c => (c.e.setAlu (aluMinMax true t (c.w a) (c.w b))).setW d (aluMinMax true t (c.w a) (c.w b)).res))) ∧
    (tyMod t = true → ∃ u, exec (.mod d a b t) s = .next u ∧ s.zMoves u p 1 (costW t 20 36 20 20)
        (fun c => (c.e.setAlu (aluMod t (c.w a) (c.w b))).setW d (aluMod t (c.w a) (c.w b)).res)) ∧
    (∃ u, exec (.cmp a b t) s = .next u ∧ s.zMoves u p 1 (if t.isReal then 2 else 1)
      (fun c => c.e.setAlu (aluCmp t (c.w a) (c.w b)))) ∧
    (∃ u, exec (.cvt d a t t2 sat) s = .next u ∧ s.zMoves u p 1 (if t.isReal || t2.isReal then 4 else 2)
      (fun c => { c.e.setW d (convert t t2 sat (c.w a)).1 with v := (convert t t2 sat (c.w a)).2 }))

/-- The rule of R190 with its table of defined corners. -/
def Obligations.IntegerResults : Prop :=
  (∀ (t : ZTy) (sat : Bool) (v : Int) (c : Bool), isIntTy t = true ∨ t = .time →
    let x := intAlu t sat v c
    let r := t.val x.res
    (t.lo ≤ v → v ≤ t.hi → r = v) ∧ (x.v = true ↔ v < t.lo ∨ t.hi < v) ∧ (x.z = true ↔ r = 0) ∧ (x.n = true ↔ r < 0) ∧
      (sat = false → (r - v) % (2 ^ t.width : Int) = 0 ∧ t.lo ≤ r ∧ r ≤ t.hi) ∧
      (sat = true → v < t.lo → r = t.lo) ∧ (sat = true → t.hi < v → r = t.hi)) ∧
  (∀ (t : ZTy) (sat : Bool) (a b : DWord), isIntTy t = true ∨ t = .time ∨ t = .tod →
    aluAdd t sat a b = intAlu t sat (t.val a + t.val b) (decide (2 ^ t.width ≤ t.uval a + t.uval b)) ∧
    aluSub t sat a b = intAlu t sat (t.val a - t.val b) (decide (t.uval a < t.uval b))) ∧
  (∀ (t : ZTy) (sat : Bool) (a b : DWord), isIntTy t = true ∨ t = .time →
    aluMul t sat a b = intAlu t sat (t.val a * t.val b) false ∧ aluNeg t sat a = intAlu t sat (-(t.val a)) false ∧
    aluAbs t sat a = intAlu t sat (t.val a).natAbs false ∧
    (t.val b ≠ 0 → aluDiv t sat a b = intAlu t sat ((t.val a).tdiv (t.val b)) false ∧
      aluMod t a b = intAlu t false ((t.val a).tmod (t.val b)) false) ∧
    (t.val b = 0 → (aluDiv t sat a b).v = true ∧ (aluMod t a b).v = true ∧ (aluMod t a b).z = true ∧
      t.val (aluMod t a b).res = 0 ∧ (sat = false → t.val (aluDiv t sat a b).res = 0) ∧
      (sat = true → 0 < t.val a → t.val (aluDiv t sat a b).res = t.hi) ∧
      (sat = true → t.val a < 0 → t.val (aluDiv t sat a b).res = t.lo) ∧
      (t.val a = 0 → t.val (aluDiv t sat a b).res = 0 ∧ (aluDiv t sat a b).z = true)) ∧
    (t.val a = t.lo → t.val b = -1 → (aluDiv t sat a b).v = true ∧
      t.val (aluDiv t sat a b).res = (if sat then t.hi else t.lo) ∧ t.val (aluMod t a b).res = 0 ∧
      (aluMod t a b).z = true ∧ (aluMod t a b).v = false) ∧
    (t.val a = t.lo → (aluNeg t sat a).v = true ∧ t.val (aluNeg t sat a).res = (if sat then t.hi else t.lo) ∧
      (aluAbs t sat a).v = true ∧ t.val (aluAbs t sat a).res = (if sat then t.hi else t.lo))) ∧
  ∀ (v : Int), ZTy.fit .tod false v = v % 86400000000000 ∧ (v < 0 → ZTy.fit .tod true v = 0) ∧
    (86399999999999 < v → ZTy.fit .tod true v = 86399999999999)

/-- The logic and shift instructions, and what their results are. -/
def Obligations.EngineLogic : Prop :=
  (∀ (s : State) (p : Program) (d a b : ZReg) (t : ZTy), s.zAt p 1 →
    (tyLogic t = true →
      (∃ u, exec (.and d a b t) s = .next u ∧ s.zMoves u p 1 1 (fun c => c.e.setLogic d (logicWord t (c.w a &&& c.w b)))) ∧
      (∃ u, exec (.or d a b t) s = .next u ∧ s.zMoves u p 1 1 (fun c => c.e.setLogic d (logicWord t (c.w a ||| c.w b)))) ∧
      (∃ u, exec (.xor d a b t) s = .next u ∧ s.zMoves u p 1 1 (fun c => c.e.setLogic d (logicWord t (c.w a ^^^ c.w b)))) ∧
      (∃ u, exec (.not d a t) s = .next u ∧ s.zMoves u p 1 1 (fun c => c.e.setLogic d (logicWord t (~~~ (c.w a)))))) ∧
    (isIntTy t = true →
      (∃ u, exec (.shl d a b t) s = .next u ∧
        s.zMoves u p 1 1 (fun c => c.e.setShift d (shiftLeft t (c.w a) ((c.w b).toNat % 64)))) ∧
      (∃ u, exec (.shr d a b t) s = .next u ∧
        s.zMoves u p 1 1 (fun c => c.e.setShift d (shiftRight t (c.w a) ((c.w b).toNat % 64)))) ∧
      (∃ u, exec (.sar d a b t) s = .next u ∧
        s.zMoves u p 1 1 (fun c => c.e.setShift d (shiftArith t (c.w a) ((c.w b).toNat % 64)))) ∧
      (∃ u, exec (.rol d a b t) s = .next u ∧
        s.zMoves u p 1 1 (fun c => c.e.setShift d (rotateLeft t (c.w a) ((c.w b).toNat % 64)))) ∧
      (∃ u, exec (.ror d a b t) s = .next u ∧
        s.zMoves u p 1 1 (fun c => c.e.setShift d (rotateRight t (c.w a) ((c.w b).toNat % 64)))))) ∧
  (∀ (e : Engine) (d : ZReg) (r : DWord) (x : DWord × Bool),
    (e.setLogic d r).v = e.v ∧ (e.setLogic d r).c = e.c ∧ (e.setLogic d r).q = e.q ∧ (e.setShift d x).v = e.v ∧
      (e.setShift d x).c = x.2 ∧ (e.setShift d x).q = e.q) ∧
  (∀ (a : DWord) (i : Nat), (logicWord .bool a = if bitOf a 0 then 1 else 0) ∧ logicWord .int64 a = a ∧
    (i < 32 → bitOf (logicWord .int32 a) i = bitOf a i) ∧ (32 ≤ i → i < 64 → bitOf (logicWord .int32 a) i = bitOf a 31) ∧
    (i < 16 → bitOf (logicWord .int16 a) i = bitOf a i) ∧ (16 ≤ i → i < 64 → bitOf (logicWord .int16 a) i = bitOf a 15)) ∧
  ∀ (t : ZTy) (a : DWord) (n : Nat), isIntTy t = true → n < 64 →
    (t.width ≤ n → (shiftLeft t a n).1 = 0 ∧ (shiftRight t a n).1 = 0 ∧
      (shiftArith t a n).1 = if t.val a < 0 then BitVec.allOnes 64 else 0) ∧
    (shiftLeft t a 0).2 = false ∧ (shiftRight t a 0).2 = false ∧ (shiftArith t a 0).2 = false ∧
    (shiftLeft t a 0).1 = intWord (t.val a) ∧ (shiftRight t a 0).1 = intWord (t.val a) ∧
    (0 < n → n < t.width →
      t.uval (shiftLeft t a n).1 = t.uval a * 2 ^ n % 2 ^ t.width ∧ t.uval (shiftRight t a n).1 = t.uval a / 2 ^ n ∧
      t.val (shiftArith t a n).1 = t.val a / 2 ^ n ∧ (shiftLeft t a n).2 = (t.uval a).testBit (t.width - n) ∧
      (shiftRight t a n).2 = (t.uval a).testBit (n - 1) ∧ (shiftArith t a n).2 = (t.uval a).testBit (n - 1))

/-- The stateless built-ins. -/
def Obligations.StatelessBlocks : Prop :=
  ∀ (s : State) (p : Program) (d a b : ZReg) (t : ZTy), s.zAt p 1 →
    (t ≠ .bool → (t = .real64 → p.version = 2) →
      ∃ u, exec (.limit d a b t) s = .next u ∧ s.zMoves u p 1 (if t.isReal then 4 else 2) (fun c =>
        if anyNan t [c.w d, c.w a, c.w b] then { c.e.setW d (BitVec.ofNat 64 t.fmt.nanW) with v := true }
        else if ltTy t (c.w d) (c.w a) then c.e.setW d (c.w a)
        else if ltTy t (c.w b) (c.w d) then c.e.setW d (c.w b) else c.e)) ∧
    (∃ u, exec (.sel d a b) s = .next u ∧
      s.zMoves u p 1 1 (fun c => c.e.setW d (if bitOf (c.w d) 0 then c.w b else c.w a))) ∧
    (a.val + b.val ≤ 15 → ∃ u, exec (.mux d a b) s = .next u ∧ s.zMoves u p 1 2 (fun c =>
      if 0 ≤ (c.w d).toInt ∧ (c.w d).toInt < b.val + 1 then c.e.setW d (getAt 0 c.e.w (a.val + (c.w d).toInt.toNat))
      else { c.e.setW d (c.w a) with v := true })) ∧
    (15 < a.val + b.val → exec (.mux d a b) s = .next s)

/-- LD, ST, LDX, STX: the address is `spaceBase` of the space plus the offset. -/
def Obligations.EngineLoadsAndStores : Prop :=
  ∀ (s : State) (p : Program) (d x : ZReg) (sp : ZSpace) (t : ZTy) (off : BitVec 24) (n : BitVec 16),
    (s.zAt p 2 → (s.zctx p s.lead).inSpace sp t off.toNat 1 = true →
      (∃ u, exec (.ld d sp t off none) s = .next u ∧
        s.zMoves u p 2 (if sp = .g ∧ off.toNat < 0x6000 then 2 else 1)
          (fun c => (c.e.setW d (c.load sp t off.toNat).1).setQ (c.load sp t off.toNat).2)) ∧
      (∀ (l : Fin 3) (y : BitVec 8), s.inService l = true →
        ∃ u, exec (.ld d sp t off (some (l, .single y))) s = .next u ∧ u.halted = false ∧
          ∀ m, m < 3 → u.lane m = s.zLane p 2 (if sp = .g ∧ off.toNat < 0x6000 then 2 else 1)
            (fun c => (c.e.setW d (c.load sp t off.toNat).1).setQ (c.load sp t off.toNat).2) (fun _ => []) m) ∧
      (∀ (l : Fin 3) (y : BitVec 8), s.lanesIn = [0, 1, 2] →
        (s.zctx p l).spaceBase sp = (s.zctx p s.lead).spaceBase sp → (s.zctx p l).spaceBase sp + off.toNat < 8388608 →
        ∃ u, exec (.ld d sp t off (some (l, .double y))) s = .next u ∧ u.halted = false ∧ u.inService l = false ∧
          ∀ m, m < 3 → m ≠ l.val → u.lane m = s.zLane p 2 (if sp = .g ∧ off.toNat < 0x6000 then 2 else 1)
            (fun c => (c.e.setW d (c.load sp t off.toNat).1).setQ (c.load sp t off.toNat).2) (fun _ => []) m) ∧
      (sp = .i ∨ sp = .l → ∃ u, exec (.st d sp t off) s = .next u ∧
        s.zStores u p 2 3 (fun c => c.e) (fun c => [(c.spaceBase sp + off.toNat, storeBytes t (c.w d))])) ∧
      (sp = .g → gWritable off.toNat = false → ∃ u, exec (.st d sp t off) s = .next u ∧
        u.exec.trap = some (s.exec.due.headD 0, trapGWrite, (s.lane s.lead).eng.pc) ∧ u.lanes = s.lanes ∧
        u.regs = s.regs ∧ u.exec.running = false)) ∧
    (s.zAt p 3 → 0 < n.toNat → (s.zctx p s.lead).inSpace sp t off.toNat n.toNat = true →
      (∀ i : Nat, i < n.toNat → (∀ l ∈ s.lanesIn, ((s.zctx p l).w x).toInt = i) →
        (∃ u, exec (.ldx d x sp t off n) s = .next u ∧
          s.zMoves u p 3 (if sp = .g ∧ off.toNat < 0x6000 then 5 else 4)
            (fun c => (c.e.setW d (c.load sp t (off.toNat + i * t.size)).1).setQ (c.load sp t (off.toNat + i * t.size)).2)) ∧
        (sp = .i ∨ sp = .l → ∃ u, exec (.stx d x sp t off n) s = .next u ∧
          s.zStores u p 3 5 (fun c => c.e)
            (fun c => [(c.spaceBase sp + (off.toNat + i * t.size), storeBytes t (c.w d))]))) ∧
      (¬ (0 ≤ ((s.zctx p s.lead).w x).toInt ∧ ((s.zctx p s.lead).w x).toInt < n.toNat) →
        (∃ u, exec (.ldx d x sp t off n) s = .next u ∧
          u.exec.trap = some (s.exec.due.headD 0, trapBound, (s.lane s.lead).eng.pc) ∧ u.lanes = s.lanes ∧ u.regs = s.regs) ∧
        (sp ≠ .k → sp ≠ .m → ∃ u, exec (.stx d x sp t off n) s = .next u ∧
          u.exec.trap = some (s.exec.due.headD 0, trapBound, (s.lane s.lead).eng.pc) ∧ u.lanes = s.lanes ∧ u.regs = s.regs)))

/-- ST to the output half of G. -/
def Obligations.OutputSlotIsVoted : Prop :=
  ∀ (s : State) (p : Program) (d : ZReg) (slot : Nat) (v : DWord), s.zAt p 2 → s.canonical = true → s.lanesIn = [0, 1, 2] →
    slot < 3072 → (∀ l : Fin 3, (s.zctx p l).w d = v) →
      ∃ u, exec (.st d .g .int64 (BitVec.ofNat 24 (0x8000 + 8 * slot))) s = .next u ∧ u.halted = false ∧
        u.lanesIn = [0, 1, 2] ∧ mapGet u.exec.outPend slot = some v ∧
        ∀ l : Fin 3, Memory.readLe (u.lane l).sram (gBase + 0x8000 + 8 * slot) 8 = v.toNat

/-- BR, JMP, LOOP, CALL, RET, TRAP and the end of a body. -/
def Obligations.EngineControlFlow : Prop :=
  ∀ (s : State) (p : Program),
    (s.zAt p 1 →
      (∀ (k : ZCond) (off : BitVec 20), brOk off.toInt (s.zctx p s.lead) = true →
        ∃ u, exec (.br k off) s = .next u ∧ s.zGoes u p 2 (fun c =>
          if condHolds k.val c.e.z c.e.n c.e.v c.e.c c.e.q then
            { c.e.setLoops (c.e.loops.filter fun x => decide (c.e.pc + 4 + 4 * off.toInt.toNat < x.last)) with
              pc := c.e.pc + 4 + 4 * off.toInt.toNat }
          else c.e.reach (c.e.pc + 4))) ∧
      (∀ (off : BitVec 24), brOk off.toInt (s.zctx p s.lead) = true →
        ∃ u, exec (.jmp off) s = .next u ∧ s.zGoes u p 2 (fun c =>
          { c.e.setLoops (c.e.loops.filter fun x => decide (c.e.pc + 4 + 4 * off.toInt.toNat < x.last)) with
            pc := c.e.pc + 4 + 4 * off.toInt.toNat })) ∧
      (∀ lv up rest, (∀ l ∈ s.lanesIn, (s.lane l).eng.stack = lv :: up :: rest) →
        ∃ u, exec .ret s = .next u ∧ s.zGoes u p 3 (fun c => { c.e with stack := up :: rest }.reach lv.retPc)) ∧
      ((∀ l ∈ s.lanesIn, (s.lane l).eng.stack.length ≤ 1) →
        ∃ u, exec .ret s = .next (taskEnd u) ∧ s.zGoes u p 3 (fun c => c.e)) ∧
      (∀ code : BitVec 8, 0x80 ≤ code.toNat → ∃ u, exec (.trap code) s = .next u ∧
        u.exec.trap = some (s.exec.due.headD 0, code.toNat, (s.lane s.lead).eng.pc) ∧ u.exec.due = [] ∧
        u.exec.running = false ∧ u.lanes = s.lanes ∧ u.regs = s.regs)) ∧
    (s.zAt p 2 →
      (∀ (d : ZReg) (n : BitVec 16) (body : BitVec 20), 0 < body.toNat → body.toNat < 262144 →
        (s.zctx p s.lead).e.pc + 8 + 4 * body.toNat ≤ (s.zctx p s.lead).lvl.last →
        (s.zctx p s.lead).e.loops.length < 8 →
        ∃ u, exec (.loop d n body) s = .next u ∧ s.zGoes u p 3 (fun c =>
          if n.toNat = 0 then c.e.reach (c.e.pc + 8 + 4 * body.toNat)
          else { (c.e.setLoops (⟨c.e.pc + 8, c.e.pc + 8 + 4 * body.toNat, 0, n.toNat, d⟩ :: c.e.loops)).setW d 0 with
                 pc := c.e.pc + 8 })) ∧
      (∀ (typ : BitVec 16) (off : BitVec 21), typ.toNat < p.types.length → off.toNat % 8 = 0 →
        off.toNat + 8 ≤ (s.zctx p s.lead).lvl.iSize → (s.zctx p s.lead).e.stack.length < 17 →
        (∀ h, (∀ l ∈ s.lanesIn, Memory.readLe (s.lane l).sram ((s.zctx p l).inst + (s.zctx p l).lvl.iBase + off.toNat) 4 = h) →
          (h % 2 ^ 16 = typ.toNat → ∃ u, exec (.call typ off) s = .next u ∧ s.zGoes u p 6 (fun c =>
            { c.e with pc := (getAt typeZero p.types typ.toNat).entry, stack :=
              ⟨c.e.pc + 8, (getAt typeZero p.types typ.toNat).entry, (getAt typeZero p.types typ.toNat).last, typ.toNat,
                c.lvl.iBase + off.toNat, (getAt typeZero p.types typ.toNat).size, c.lvl.lBase + c.lvl.lSize,
                (getAt typeZero p.types typ.toNat).lSize, h.testBit 16, []⟩ :: c.e.stack })) ∧
          (h % 2 ^ 16 ≠ typ.toNat → ∃ u, exec (.call typ off) s = .next u ∧
            u.exec.trap = some (s.exec.due.headD 0, trapType, (s.lane s.lead).eng.pc) ∧ u.lanes = s.lanes)))) ∧
    ∀ (pc i n r : Nat) (first : Nat) (xs : List LoopEnt),
      (i + 1 < n → loopEnd pc (⟨first, pc, i, n, r⟩ :: xs) = (first, ⟨first, pc, i + 1, n, r⟩ :: xs, some (r, i + 1))) ∧
      (n ≤ i + 1 → loopEnd pc (⟨first, pc, i, n, r⟩ :: xs) = loopEnd pc xs)

/-- The programs of R203 over the timer data; `since` gives the elapsed time from a start. -/
def Obligations.TimerRules : Prop :=
  ∀ (m : Timer) (now : Nat) (since : Nat → Nat) (inp : Bool) (p : Nat),
    (m.ton now since inp p).prev = inp ∧ (m.tof now since inp p).prev = inp ∧ (m.tp now since inp p).prev = inp ∧
    (inp = false → (m.ton now since inp p).q = false ∧ (m.ton now since inp p).et = 0 ∧ (m.ton now since inp p).run = false) ∧
    (inp = true → (m.ton now since inp p).run = true ∧
      (m.ton now since inp p).start = (if m.run then m.start else now) ∧
      (m.ton now since inp p).et = min (since (m.ton now since inp p).start) p ∧
      ((m.ton now since inp p).q = true ↔ p ≤ since (m.ton now since inp p).start)) ∧
    (inp = true → (m.tof now since inp p).q = true ∧ (m.tof now since inp p).et = 0 ∧ (m.tof now since inp p).run = false) ∧
    (inp = false → m.prev = true ∨ m.run = true →
      (m.tof now since inp p).start = (if m.prev then now else m.start) ∧
      (m.tof now since inp p).et = min (since (m.tof now since inp p).start) p ∧
      ((m.tof now since inp p).q = true ↔ since (m.tof now since inp p).start < p) ∧
      (m.tof now since inp p).run = (m.tof now since inp p).q) ∧
    (inp = false → m.prev = false → m.run = false →
      (m.tof now since inp p).q = false ∧ (m.tof now since inp p).et = m.et) ∧
    (m.run = true → since m.start < p →
      (m.tp now since inp p).q = true ∧ (m.tp now since inp p).et = since m.start ∧ (m.tp now since inp p).run = true) ∧
    (m.run = true → p ≤ since m.start →
      (m.tp now since inp p).q = false ∧ (m.tp now since inp p).et = p ∧ (m.tp now since inp p).run = false) ∧
    (m.run = false → inp = true → m.prev = false →
      (m.tp now since inp p).start = now ∧ (m.tp now since inp p).run = true ∧ (m.tp now since inp p).et = 0 ∧
      ((m.tp now since inp p).q = true ↔ 0 < p)) ∧
    (m.run = false → (inp = true → m.prev = true) →
      (m.tp now since inp p).q = false ∧ (m.tp now since inp p).run = false ∧
      (m.tp now since inp p).et = if inp then m.et else 0)

/-- The stateful built-ins, each with its outputs and the bytes it stores at its data. -/
def Obligations.BuiltInBlocks : Prop :=
  ∀ (s : State) (p : Program) (off : BitVec 21), s.zAt p 1 →
    ((s.zctx p s.lead).blockOk off 24 = true →
      (∃ u, exec (.ton off) s = .next u ∧ s.zStores u p 1 12
        (fun c => ((c.e.setQ c.timeQ).setW 0 (boolWord (c.timerTon off).q)).setW 1 (BitVec.ofNat 64 (c.timerTon off).et))
        (fun c => [(c.data off, (c.timerTon off).bytes)])) ∧
      (∃ u, exec (.tof off) s = .next u ∧ s.zStores u p 1 12
        (fun c => ((c.e.setQ c.timeQ).setW 0 (boolWord (c.timerTof off).q)).setW 1 (BitVec.ofNat 64 (c.timerTof off).et))
        (fun c => [(c.data off, (c.timerTof off).bytes)])) ∧
      (∃ u, exec (.tp off) s = .next u ∧ s.zStores u p 1 12
        (fun c => ((c.e.setQ c.timeQ).setW 0 (boolWord (c.timerTp off).q)).setW 1 (BitVec.ofNat 64 (c.timerTp off).et))
        (fun c => [(c.data off, (c.timerTp off).bytes)])) ∧
      (∀ t : ZTy, t.isReal = true → (t = .real64 → p.version = 2) →
        (∃ u, exec (.ramp t off) s = .next u ∧ ∃ f ws, s.zStores u p 1 (if t = .real32 then 20 else 26) f ws ∧
          ∀ c : ZCtx, bitOf (c.w 2) 0 = true → anyNan t [c.w 0, c.w 1] = false →
            getAt 0 (f c).w 0 = (if 0 < c.e.w.length then BitVec.ofNat 64 ((c.w 0).toNat % 2 ^ (8 * t.size)) else 0)) ∧
        (∃ u, exec (.lag t off) s = .next u ∧ ∃ f ws, s.zStores u p 1 (if t = .real32 then 30 else 44) f ws ∧
          ∀ c : ZCtx, bitOf (c.w 2) 0 = true →
            getAt 0 (f c).w 0 = (if 0 < c.e.w.length then BitVec.ofNat 64 ((c.w 0).toNat % 2 ^ (8 * t.size)) else 0)))) ∧
    ((s.zctx p s.lead).blockOk off 8 = true →
      (∃ u, exec (.rTrig off) s = .next u ∧ s.zStores u p 1 4
        (fun c => c.e.setW 0 (boolWord (!bitOf (c.dataByte off 0) 1 && (bitOf (c.w 0) 0 && !bitOf (c.dataByte off 0) 0))))
        (fun c => [(c.data off, [BitVec.ofNat 8 (b2n (bitOf (c.w 0) 0))])])) ∧
      (∃ u, exec (.fTrig off) s = .next u ∧ s.zStores u p 1 4
        (fun c => c.e.setW 0 (boolWord (!bitOf (c.dataByte off 0) 1 && (!bitOf (c.w 0) 0 && bitOf (c.dataByte off 0) 0))))
        (fun c => [(c.data off, [BitVec.ofNat 8 (b2n (bitOf (c.w 0) 0))])])) ∧
      (∃ u, exec (.sr off) s = .next u ∧ s.zStores u p 1 4
        (fun c => c.e.setW 0 (boolWord (bitOf (c.w 0) 0 || (bitOf (c.dataByte off 0) 0 && !bitOf (c.w 1) 0))))
        (fun c => [(c.data off, [BitVec.ofNat 8 (b2n (bitOf (c.w 0) 0 || (bitOf (c.dataByte off 0) 0 && !bitOf (c.w 1) 0)))])])) ∧
      (∃ u, exec (.rs off) s = .next u ∧ s.zStores u p 1 4
        (fun c => c.e.setW 0 (boolWord (!bitOf (c.w 1) 0 && (bitOf (c.w 0) 0 || bitOf (c.dataByte off 0) 0))))
        (fun c => [(c.data off, [BitVec.ofNat 8 (b2n (!bitOf (c.w 1) 0 && (bitOf (c.w 0) 0 || bitOf (c.dataByte off 0) 0)))])])) ∧
      (∃ u, exec (.ctu off) s = .next u ∧ s.zStores u p 1 7
        (fun c => (c.e.setW 0 (boolWord (decide (c.int32 2 ≤ c.ctuValue off)))).setW 1 (intWord (c.ctuValue off)))
        (fun c => [(c.data off, leBytes 4 (ofSigned 32 (c.ctuValue off))),
          (c.data off + 4, [BitVec.ofNat 8 (b2n (bitOf (c.w 0) 0))])])) ∧
      (∃ u, exec (.ctd off) s = .next u ∧ s.zStores u p 1 7
        (fun c => (c.e.setW 0 (boolWord (decide (c.ctdValue off ≤ 0)))).setW 1 (intWord (c.ctdValue off)))
        (fun c => [(c.data off, leBytes 4 (ofSigned 32 (c.ctdValue off))),
          (c.data off + 5, [BitVec.ofNat 8 (b2n (bitOf (c.w 0) 0))])])) ∧
      (∃ u, exec (.ctud off) s = .next u ∧ s.zStores u p 1 9
        (fun c => ((c.e.setW 0 (boolWord (decide (c.int32 4 ≤ c.ctudValue off)))).setW 1
          (boolWord (decide (c.ctudValue off ≤ 0)))).setW 2 (intWord (c.ctudValue off)))
        (fun c => [(c.data off, leBytes 4 (ofSigned 32 (c.ctudValue off))),
          (c.data off + 4, [BitVec.ofNat 8 (b2n (bitOf (c.w 0) 0))]),
          (c.data off + 5, [BitVec.ofNat 8 (b2n (bitOf (c.w 1) 0))])])) ∧
      (∀ t : ZTy, isIntTy t = true ∨ t = .time ∨ t.isReal = true → (t = .real64 → p.version = 2) →
        ∃ u, exec (.hyst t off) s = .next u ∧ s.zStores u p 1 (if t.isReal then 6 else 5)
          (fun c => { c.e.setW 0 (boolWord (c.hystValue t off)) with v := c.e.v || anyNan t [c.w 0, c.w 1, c.w 2] })
          (fun c => [(c.data off, [BitVec.ofNat 8 (b2n (c.hystValue t off))])])))

/-- MHDR, MGET, MPUT and MSTAT. -/
def Obligations.MessageOperations : Prop :=
  ∀ (s : State) (p : Program) (d : ZReg) (mb : BitVec 12) (b : Binding), p.version = 2 →
    (p.block 2 mb.toNat = some b →
      (s.zAt p 1 → d.val ≤ 14 → ∃ u, exec (.mhdr d mb) s = .next u ∧ s.zMoves u p 1 3 (fun c =>
        (((c.e.setQ (!(Memory.readLe c.mem (mBase + b.mOff) 4).testBit 0)).setW d
          (BitVec.ofNat 64 (Memory.readLe c.mem (mBase + b.mOff) 4))).setW (d.val + 1)
          (BitVec.ofNat 64 (Memory.readLe c.mem (mBase + b.mOff + 4) 4 + 2 ^ 32 * Memory.readLe c.mem (mBase + b.mOff + 8) 4)))) ) ∧
      (∀ (sp : ZSpace) (off : BitVec 24) (len : BitVec 13) (boff : BitVec 16), s.zAt p 3 →
        copyOk sp off.toNat len.toNat (s.zctx p s.lead) = true →
        ((∀ l ∈ s.lanesIn, 8 * boff.toNat + len.toNat ≤ Memory.readLe (s.lane l).sram (mBase + b.mOff + 8) 4) →
          ∃ u, exec (.mget d sp mb off len boff) s = .next u ∧ ∃ f,
            s.zStores u p 3 (4 + 2 * ((len.toNat + 7) / 8)) f (fun c => [(c.spaceBase sp + off.toNat,
              Memory.readN c.mem (mBase + b.mOff + 16 + 8 * boff.toNat) len.toNat)]) ∧
            ∀ c ∈ s.lanesIn.map (s.zctx p), d.val < c.e.w.length → fld ((getAt 0 (f c).w d.val)) 31 24 = cDone) ∧
        ((∀ l ∈ s.lanesIn, Memory.readLe (s.lane l).sram (mBase + b.mOff + 8) 4 < 8 * boff.toNat + len.toNat) →
          ∃ u, exec (.mget d sp mb off len boff) s = .next u ∧ ∃ f,
            s.zMoves u p 3 (4 + 2 * ((len.toNat + 7) / 8)) f ∧
            ∀ c ∈ s.lanesIn.map (s.zctx p), d.val < c.e.w.length →
              fld ((getAt 0 (f c).w d.val)) 31 24 = cLength ∧ (f c).v = true))) ∧
    (p.block 3 mb.toNat = some b →
      (∀ (sp : ZSpace) (off : BitVec 24) (len : BitVec 13), s.zAt p 3 →
        copyOk sp off.toNat len.toNat (s.zctx p s.lead) = true → b.size < len.toNat →
          ∃ u, exec (.mput d sp mb off len) s = .next u ∧ s.zMoves u p 3 (4 + (len.toNat + 7) / 8)
            (fun c => { c.e.setW d (BitVec.ofNat 64 (2 ^ 24 * cLength)) with v := true })) ∧
      (s.zAt p 1 →
        (∃ u, exec (.mstat d mb false) s = .next u ∧ s.zMoves u p 1 48 (fun c => c.e.setW d
          (BitVec.ofNat 64 ((s.txRec mb.toNat).2.1 % 256 + 256 * ((s.txRec mb.toNat).2.2 % 256)
            + 2 ^ 32 * ((s.txRec mb.toNat).1 % 2 ^ 32))))) ∧
        (∃ u, exec (.mstat d mb true) s = .next u ∧ ∀ l ∈ s.lanesIn, ∀ r : ZReg, l < 3 →
          (u.lane l).eng.q = true ∧ (r ≠ d → (s.lane l).eng.loops = [] → (u.zctx p l).w r = (s.zctx p l).w r))))

/-- MPUT of a whole unit. -/
def Obligations.UnitLeavesAsVoted : Prop :=
  ∀ (s : State) (p : Program) (d : ZReg) (mb : BitVec 12) (b : Binding) (sp : ZSpace) (off : BitVec 24) (len : BitVec 13)
    (bs : List Byte), p.version = 2 → p.block 3 mb.toNat = some b → s.zAt p 3 → s.lanesIn = [0, 1, 2] →
    s.canonical = true → copyOk sp off.toNat len.toNat (s.zctx p s.lead) = true → len.toNat ≤ b.size →
    (∀ l : Fin 3, Memory.readN (s.lane l).sram ((s.zctx p l).spaceBase sp + off.toNat) len.toNat = bs) →
      ∃ u, exec (.mput d sp mb off len) s = .next u ∧ u.halted = false ∧ u.lanesIn = [0, 1, 2] ∧
        ∃ o, mapGet u.exec.txPend mb.toNat = some (bs, o)

/-- The commands and events of BATON. -/
def Obligations.BatonCommits : Prop :=
  ∀ s : State, s.regsOk →
    (∀ tr ch, s.baton.closing = some (tr, ch) → s.halted = false → s.ringRoom = true → s.lockstep →
      ∃ t, exec .batonCommit s = .next t ∧ t.baton.closing = none ∧ t.baton.closedLines = [] ∧
        t.reg64 R.BATON_COMMIT_SEQ_LO =
          (s.baton.seq + (chainParts 6 (s.baton.streamed.reverse.map (·.1) ++ s.mems.closed)).length) % 2 ^ 64 ∧
        t.reg64 R.BATON_COMMIT_PSTRIDE_LO = tr.pstride % 2 ^ 64 ∧ t.regF R.BATON_LAG 15 0 = 0 ∧
        t.mems = { s.mems with closed := [], cow := [] } ∧
        t = { s with regs := t.regs, sent := t.sent, shp := t.shp, baton := t.baton, mems := t.mems, part := t.part }) ∧
    (∀ pos q, s.baton.sweepAt = some (pos, q) → s.halted = false → retainedLines ≤ s.baton.sweepPos →
      s.baton.sweepTodo = [] →
      ∃ t, exec .sweepComplete s = .next t ∧ t.baton.sweepAt = none ∧ t.baton.startSeq = q ∧
        t.regN R.BATON_RING_START = pos % 2 ^ 32 ∧
        t.reg R.BATON_SWEEP_CNT = satInc (s.reg R.BATON_SWEEP_CNT) ∧ t.regB R.BATON_STAT 7 = false ∧
        t = { s with regs := t.regs, sent := t.sent, baton := t.baton } ∧
        s.regsMove t [R.BATON_STAT, R.BATON_RING_START, R.BATON_SWEEP_CNT]) ∧
    (s.pgState P.BATON ≠ stFault → s.regF R.BATON_CFG 15 8 ≤ s.regF R.BATON_LAG 15 0 → s.regB R.BATON_STAT 6 = false →
      ∃ t, exec .batonStale s = .next t ∧ t.regB R.BATON_STAT 6 = true ∧ t.raw P.BATON 10 = true ∧
        s.movesOnly t P.BATON [R.BATON_STAT]) ∧
    (s.regB R.BATON_STAT 10 = false →
      ∃ t, exec .pfail s = .next t ∧ t.regB R.BATON_STAT 10 = true ∧ t.regF R.BATON_STAT 2 0 = 3 ∧
        t.regB R.ENV_STAT 0 = true ∧ t.raw P.ENV 10 = true ∧ t.lanes = s.lanes ∧
        t.baton = { s.baton with sweepAt := none, sweepPos := 0, sweepTodo := [] }) ∧
    (∀ us : Word, s.regB R.BATON_STAT 10 = true → s.regF R.BATON_STAT 2 0 = 3 → s.lockstep →
      ∃ t, exec (.pfailFlushEnd us) s = .next t ∧ t.regF R.BATON_STAT 2 0 = 0 ∧
        t.reg R.BATON_PFAIL_CNT = satInc (s.reg R.BATON_PFAIL_CNT) ∧ t.raw P.BATON 11 = true ∧
        t.regN R.BATON_FLUSH_US_MAX = max us.toNat (s.regN R.BATON_FLUSH_US_MAX) ∧ t.lanes = s.lanes ∧
        (s.role = roleActive → t.role = roleWithdrawn) ∧ (s.halted = false → s.ringRoom = true → t.baton.closing = none)) ∧
    (∀ (us : Word) kind since, s.baton.restoring = some (kind, since) →
      ∃ u, exec (.restoreComplete us) s = .next (if kind = 1 then bootFinish u else takeRestored u) ∧
        u.baton.restoring = none ∧ u.reg R.BATON_RESTORE_US = us ∧
        let es := ownParts (upToCommit (readRing s.baton.mram 131072 (ringStart s).1 (ringStart s).2.1 ringSize))
        (es = [] → u.regN R.BATON_RESTORE_STAT = 2 ∧ u.exec.needCold = true ∧ u.lanes = s.lanes) ∧
        (∀ e p, es.getLast? = some e → s.exec.prog = some p → e.trailer.progId ≠ p.progId →
          u.regN R.BATON_RESTORE_STAT = 3 ∧ u.exec.needCold = true ∧ u.lanes = s.lanes) ∧
        (∀ e p, es.getLast? = some e → s.exec.prog = some p → e.trailer.progId = p.progId →
          u.regF R.BATON_RESTORE_STAT 1 0 = 1 ∧ u.exec.needCold = false ∧ u.raw P.BATON 12 = true ∧
          u.reg64 R.BATON_COMMIT_SEQ_LO = e.seq % 2 ^ 64)) ∧
    (∀ iss arg, s.accepts ⟨P.BATON, 0x11, iss⟩ → s.halted = false → s.stopped = true → s.standby = false →
      ∃ t, exec (.discard iss arg) s = .next t ∧ t.ended P.BATON ∧
        t.reg R.BATON_RING_START = s.reg R.BATON_RING_HEAD ∧ t.baton.written = 0 ∧ t.baton.baseBad = true ∧
        t.baton.closing = none ∧ t.baton.sweepAt = none ∧ t.exec = { s.exec with needCold := true, restored := none } ∧
        t.mems = { s.mems with closed := [], cow := [] } ∧
        t = { s with regs := t.regs, sent := t.sent, shp := t.shp, shown := t.shown, time := t.time, baton := t.baton,
                     mems := t.mems, exec := t.exec } ∧
        s.courseMoves t P.BATON [R.BATON_STAT, R.BATON_RING_START])

/-- The commands and events of SWAP. -/
def Obligations.ExchangeCommands : Prop :=
  ∀ (s : State) (iss : Issuer) (arg : BitVec 16), s.regsOk → s.halted = false → s.standby = false →
    (s.accepts ⟨P.SWAP, 0x10, iss⟩ → s.mode ≠ modeNone → s.swapState = swIdle → s.regB R.BATON_STAT 8 = false →
      s.slotUsable (4 + arg.toNat % 2) = true →
      ∃ t, exec (.stage iss arg) s = .next t ∧ t.working ⟨P.SWAP, 0x10, iss⟩ ∧ t.swapState = swStaging ∧
        t.swap = { s.swap with staging := some (4 + arg.toNat % 2) } ∧
        t = { s with regs := t.regs, shown := t.shown, time := t.time, swap := t.swap } ∧
        s.courseMoves t P.SWAP [R.SWAP_STAT, pa P.SWAP H.STAT]) ∧
    (∀ slot old, s.swap.staging = some slot → s.exec.prog = some old →
      let img := s.slotImage slot
      let c := stageCheck s old (imageProgram img) (s.admission img) (imageMaps img)
      ∃ t, exec .stageDone s = .next t ∧ t.swap.staging = none ∧ t.regF R.SWAP_STAGE_FAIL 7 0 = c.1 % 256 ∧
        t.exec = s.exec ∧
        (∀ f r, c.2 = some (f, r) → t.swapState = swStaged ∧ t.ended P.SWAP ∧ t.raw P.SWAP 8 = true ∧
          t.swap.staged = some ⟨slot, imageProgram img, s.exec.slot, old, f, r⟩ ∧
          t.regN R.SWAP_MIG_CYC = f.cost % 2 ^ 32 ∧ t.regN R.SWAP_MIG_REV_CYC = r.cost % 2 ^ 32) ∧
        (c.2 = none → t.swapState = swIdle ∧ t.rejected P.SWAP (stageStatus c.1 (s.admission img).reason) ∧
          t.swap.staged = s.swap.staged)) ∧
    (s.accepts ⟨P.SWAP, 0x11, iss⟩ → s.mode = modeRun → s.swapState = swStaged → s.pgState P.SWAP ≠ stFault →
      ∃ t, exec (.arm iss arg) s = .next t ∧ t.ended P.SWAP ∧ t.swapState = swArmed ∧
        s.movesOnly t P.SWAP [R.SWAP_STAT, pa P.SWAP H.STAT]) ∧
    (s.accepts ⟨P.SWAP, 0x12, iss⟩ → s.swapState = swArmed →
      ∃ t, exec (.disarm iss arg) s = .next t ∧ t.ended P.SWAP ∧ t.swapState = swStaged ∧
        s.movesOnly t P.SWAP [R.SWAP_STAT, pa P.SWAP H.STAT]) ∧
    (s.accepts ⟨P.SWAP, 0x13, iss⟩ → s.swapState = swStaged →
      ∃ t, exec (.cancel iss arg) s = .next t ∧ t.ended P.SWAP ∧ t.swapState = swIdle ∧
        t.swap = { s.swap with staging := none, staged := none, revertReady := false } ∧
        t = { s with regs := t.regs, sent := t.sent, shp := t.shp, shown := t.shown, time := t.time, swap := t.swap } ∧
        s.courseMoves t P.SWAP [R.SWAP_STAT, pa P.SWAP H.STAT]) ∧
    (∀ x, s.swap.staged = some x → x.slot = 4 ∨ x.slot = 5 → s.accepts ⟨P.SWAP, 0x14, iss⟩ → s.swapState = swTrial →
      ∃ t, exec (.confirm iss arg) s = .next t ∧ t.ended P.SWAP ∧ t.swapState = swIdle ∧ t.swap.staged = none ∧
        t.raw P.SWAP 11 = true ∧ t.exec = s.exec ∧ t.lanes = s.lanes ∧
        t.slotState x.slot = if s.slotState x.slot = slotTrial then slotConfirmed else s.slotState x.slot) ∧
    (s.accepts ⟨P.SWAP, 0x15, iss⟩ → s.swapState = swTrial → s.mode = modeRun ∨ s.mode = modeStop →
      ∃ t, exec (.revert iss arg) s = .next t ∧ t.ended P.SWAP ∧ t.swapState = swReverting ∧
        t.regF R.SWAP_STAT 15 12 = 2 ∧ t.swap = { s.swap with revertReady := false } ∧
        t = { s with regs := t.regs, sent := t.sent, shp := t.shp, shown := t.shown, time := t.time, swap := t.swap } ∧
        s.courseMoves t P.SWAP [R.SWAP_STAT, pa P.SWAP H.STAT]) ∧
    (s.swapState = swTrial → s.regN R.SWAP_TRIAL_LEFT = 0 →
      ∃ t, exec .trialLeftExpired s = .next t ∧ t.swapState = swReverting ∧ t.regF R.SWAP_STAT 15 12 = 1 ∧
        t.swap = { s.swap with revertReady := false } ∧ t = { s with regs := t.regs, swap := t.swap } ∧
        s.regsMove t [R.SWAP_STAT, pa P.SWAP H.STAT]) ∧
    (∀ x, s.Inv → s.swap.staged = some x → s.swapState = swReverting → s.swap.revertReady = false →
      (imageProgram (s.slotImage x.oldSlot)).progId = x.old.progId →
      ∃ t, exec .revertDataLoaded s = .next t ∧ t.swap = { s.swap with revertReady := true } ∧ t.regs = s.regs ∧
        t.exec = s.exec ∧ ∀ l, l < 3 → s.inService l = true → ∀ i, i < x.old.data.length →
          Memory.read (t.lane l).sram (0x200000 + 0x200000 * (1 - s.exec.instArea) + i) = getAt 0 x.old.data i)

/-- Events and commands of GRDS and the link of a channel. -/
def Obligations.GradorStates : Prop :=
  ∀ s : State, s.regsOk →
    (∀ ns : Fin 1000, s.cycleDue ns = false → exec (.cycleStart ns) s = .next s) ∧
    (∀ ns : Fin 1000, s.cycleDue ns = true → ∃ t, exec (.cycleStart ns) s = .next t ∧
      t.cycleCnt = (s.cycleCnt + 1) % 2 ^ 32 ∧
      t.regF R.GRDS_NODE_STAT 21 16 = (s.cycleCnt + 1) % 64 ∧ t.grd.total = s.grd.total + 1 ∧
      t.grd.pos = s.grd.pos + s.grd.spread - (1000 * s.cycleUs : Nat) ∧ t.grd.spread = 0 ∧ t.grd.corrected = false ∧
      t.grd.syncs = [] ∧ t.grd.vals = [] ∧ t.grd.prev = s.grd.vals ∧
      (s.poc = pocFirst → t.poc = pocWait) ∧ (s.poc = pocWait → s.grd.syncs ≠ [] → t.poc = pocNormal) ∧
      (s.poc = pocLost → t.poc = pocListen) ∧
      (s.poc = pocIntegrate → s.grd.fullCycle = true → integOk s = true →
        t.poc = if s.txAllowed then pocNormal else pocNormalListen) ∧
      (s.poc = pocIntegrate → s.grd.fullCycle = true → integOk s = false → t.poc = pocListen)) ∧
    (s.poc = pocListen → s.csEn = true → s.txAllowed = true → 2 + s.csRank ≤ s.grd.quiet →
      ∃ t, exec .coldStart s = .next t ∧ t.poc = pocFirst ∧ t.cycleCnt = 0 ∧ t.grd.cycTick = s.now ∧
        t.grd.syncs = [] ∧ t = { s with regs := t.regs, sent := t.sent, shp := t.shp, grd := t.grd }) ∧
    (s.poc = pocBackoff → s.txAllowed = true → 2 + s.csRank ≤ s.grd.quiet →
      ∃ t, exec .csBackoffEnd s = .next t ∧ t.poc = pocFirst ∧ t.cycleCnt = 0 ∧ t.grd.cycTick = s.now ∧
        t.grd.syncs = [] ∧ t = { s with regs := t.regs, sent := t.sent, shp := t.shp, grd := t.grd }) ∧
    (s.poc = pocWait → 64 ≤ s.grd.phase →
      ∃ t, exec .coldRetry s = .next t ∧ t.poc = pocListen ∧ t.grd.quiet = 0 ∧
        t.reg R.GRDS_COLD_RETRY_CNT = satInc (s.reg R.GRDS_COLD_RETRY_CNT) ∧
        t = { s with regs := t.regs, sent := t.sent, shp := t.shp, grd := t.grd }) ∧
    (∀ iss : Issuer, s.mayEnable P.GRDS iss → s.poc = pocConfig →
      (schedCheck s = none → ∃ t, exec (.grdsEnable iss) s = .next t ∧ t.en P.GRDS = true ∧ t.poc = pocListen ∧
        t.raw P.GRDS 8 = true ∧ t.grd.vals = [] ∧ t.grd.syncs = []) ∧
      (∀ f, schedCheck s = some f → ∃ t, exec (.grdsEnable iss) s = .next t ∧ t.en P.GRDS = false ∧
        t.poc = pocConfig ∧ t.regF (pa P.GRDS H.ERRLAST) 7 0 = 0x40 ∧
        t.regN R.GRDS_SCHED_ERR = (f.1 + 256 * f.2.1 + 2 ^ 20 * f.2.2) % 2 ^ 32)) ∧
    (∀ (ch : Fin 2) (up : Bool), s.regB (grdA ch R.GRD_CH_STAT) 0 ≠ up →
      ∃ t, exec (.phyLinkChange ch up) s = .next t ∧ t.regB (grdA ch R.GRD_CH_STAT) 0 = up ∧
        t.raw (P.GRD + ch) 8 = true ∧
        (s.pgState (P.GRD + ch) ≠ stFault → t.pgState (P.GRD + ch) = if up then stActive else stReady) ∧
        (up = false → t.reg (grdA ch R.GRD_LINK_DOWN_CNT) = satInc (s.reg (grdA ch R.GRD_LINK_DOWN_CNT)) ∧
          t.regF (pa (P.GRD + ch) H.ERRLAST) 7 0 = 0x40)) ∧
    (∀ (iss : Issuer) (arg : BitVec 16), s.accepts ⟨P.GRDS, 0x10, iss⟩ →
      let n := s.regF R.GRDS_CLAIM_REQ 11 0
      (s.instEnt n).en = true → (s.instEnt n).tx = true → (s.instEnt n).spare = true → s.poc = pocNormal →
      s.ownClaims.length < 4 → s.grd.claiming = none →
      ∃ t, exec (.slotClaim iss arg) s = .next t ∧ t.ended P.GRDS ∧
        t.grd = { s.grd with claiming := some (n, 0, false) } ∧ t.regN R.GRDS_CLAIM_STAT = 1 + 256 * n ∧
        t = { s with regs := t.regs, sent := t.sent, shp := t.shp, shown := t.shown, time := t.time, grd := t.grd } ∧
        s.courseMoves t P.GRDS [R.GRDS_CLAIM_STAT]) ∧
    (∀ (iss : Issuer) (arg : BitVec 16), s.accepts ⟨P.GRDS, 0x11, iss⟩ → s.pocRuns = true →
      s.ownHeld (arg.toNat % 4) = true →
      ∃ t, exec (.slotRelease iss arg) s = .next t ∧ t.ended P.GRDS ∧
        (s.ownReleasing (arg.toNat % 4) = true → t.grd = s.grd ∧ t.ownReleasing (arg.toNat % 4) = true) ∧
        (s.ownReleasing (arg.toNat % 4) = false → s.netVer = 2 → t.ownReleasing (arg.toNat % 4) = true ∧ t.ownHeld (arg.toNat % 4) = true ∧
          t.grd.relEnd = s.grd.relEnd ++ [(arg.toNat % 4, s.grd.total + 64)]) ∧
        (s.ownReleasing (arg.toNat % 4) = false → s.netVer ≠ 2 → t.reg (ownA (arg.toNat % 4)) = 0 ∧ t.raw P.GRDS 11 = true ∧ t.grd = s.grd) ∧
        s.courseMoves t P.GRDS [ownA (arg.toNat % 4), R.GRDS_CLAIM_STAT]) ∧
    (∀ (idx : BitVec 8) (c : Claim), c ∈ s.grd.claims → c.idx = idx.toNat → c.held = true → 4 ≤ c.silent →
      ∃ t, exec (.claimTimeout idx) s = .next t ∧ c ∉ t.grd.claims ∧
        (∀ d ∈ s.grd.claims, d.idx ≠ idx.toNat → d ∈ t.grd.claims) ∧
        t.regN R.GRDS_CLAIM_KNOWN = t.grd.claims.length % 2 ^ 32 ∧ t = { s with regs := t.regs, grd := t.grd } ∧
        s.regsMove t [R.GRDS_CLAIM_KNOWN])

/-- GRADOR_RX_INSTANCE, TX_LATCH and TX_FRAME; the PHY latency is the model's free value (log entry 189). -/
def Obligations.GradorFrames : Prop :=
  ∀ (s : State) (ch : Fin 2) (slot : BitVec 10) (n : Nat), s.Inv → s.poc = pocNormal → s.txAllowed = true →
    (s.slotEnt ch slot.toNat).use ≠ 0 →
    (s.rxIn ch slot.toNat s.cycleCnt = [n] → s.txHere ch slot.toNat = none → s.regB (grdA ch R.GRD_CH_STAT) 0 = true →
      ∀ (bs : List Byte) (raw : Int) (second : Bool),
      let f := gFrame bs
      frameStatus true ch slot.toNat f (s.deviation ch slot.toNat (s.mdiStamp ch true raw)) second s.cycleCnt s = gOk →
      ∃ t, exec (.gradorRxInstance ch slot (.frame bs raw second)) s = .next t ∧
        t.reg (grdA ch R.GRD_RX_OK_CNT) = satInc (s.reg (grdA ch R.GRD_RX_OK_CNT)) ∧
        t.regF (grdA ch R.GRD_CH_STAT) 7 4 = gOk ∧
        (t.buf n).okCnt = satInc (s.buf n).okCnt ∧ (t.buf n).errCnt = (s.buf n).errCnt ∧ (t.buf n).status = gOk ∧
        (t.buf n).lastOk = f.h2 ∧ (t.buf n).dlen = f.dlen ∧ t.regB (R.GRDMB_RX_NEW + 4 * (n / 32)) (n % 32) = true ∧
        (t.block P.GRDMB n).back = some ((f.body.take (s.slotEnt ch slot.toNat).len).take f.dlen, s.now, f.h2,
          f.age + 256 * s.grd.total)) ∧
    (s.rxIn ch slot.toNat s.cycleCnt = [n] → s.txHere ch slot.toNat = none →
      ∃ t, exec (.gradorRxInstance ch slot .silent) s = .next t ∧ t.regF (grdA ch R.GRD_CH_STAT) 7 4 = gSilent ∧
        (t.buf n).status = gSilent ∧ (t.buf n).errCnt = satInc (s.buf n).errCnt ∧ (t.buf n).okCnt = (s.buf n).okCnt ∧
        t.regB (R.GRDMB_ERR_MAP + 4 * (n / 32)) (n % 32) = true) ∧
    (s.rxIn ch slot.toNat s.cycleCnt = [n] → s.txHere ch slot.toNat = none → s.regB (grdA ch R.GRD_CH_STAT) 0 = true →
      ∃ t, exec (.gradorRxInstance ch slot .energy) s = .next t ∧ t.regF (grdA ch R.GRD_CH_STAT) 7 4 = gCollision ∧
        (t.buf n).status = gCollision ∧ (t.buf n).errCnt = satInc (s.buf n).errCnt ∧ t.raw (P.GRD + ch) 10 = true) ∧
    (n ∈ s.instances → (s.instEnt n).tx = true → s.refSelf = false →
      (bitOf s.partCfg 3 = false ∨ n ≠ fld (s.cfgWord R.PART_MB) 27 16) →
      ∃ t, exec .txLatch s = .next t ∧ t = { s with grd := t.grd, safety := t.safety } ∧
        (∀ u rest, latchUnit s.grd.cycTick (s.buf n).commits = (some u, rest) →
          (t.buf n).latched = some u ∧ (t.buf n).latchAge = 0 ∧ (t.buf n).commits = rest) ∧
        (∀ rest, latchUnit s.grd.cycTick (s.buf n).commits = (none, rest) →
          (t.buf n).latched = (s.buf n).latched ∧ (t.buf n).latchAge = min 255 ((s.buf n).latchAge + 1) ∧
          (t.buf n).commits = rest)) ∧
    (∀ permit atEnd : BitVec 3, s.txHere ch slot.toNat = some n → (s.slotEnt ch slot.toNat).paired = false →
      ((s.instEnt n).spare = false ∨ s.holds n = true) → s.chTx ch = true → s.regB (grdA ch R.GRD_CH_STAT) 0 = true →
      s.mems.upset = [] → s.grd.pos ≤ (s.slotEnt ch slot.toNat).act → ((s.slotEnt ch slot.toNat).act : Int) ≤ s.grd.pos + 999 →
      twoOf permit = true →
      (twoOf atEnd = true → ∃ t h0 h1 h3, exec (.txFrame ch slot permit atEnd) s = .next t ∧
        t.sent = .grador ch slot.toNat (gBytes ch s.nodeId (s.regF R.GRDS_NET_CFG 15 0) h0 h1 s.cycleCnt h3
          (s.slotEnt ch slot.toNat).len ((s.buf n).latched.getD [])) :: s.sent ∧
        h0 % 1024 = s.nodeId ∧ h0 / 2 ^ 10 % 1024 = slot.toNat ∧ h0 / 2 ^ 23 % 2 = ch.val ∧ h0 / 2 ^ 28 = s.netVer ∧
        ((s.buf n).latchAge ≤ 255 → h1 / 2 ^ 16 = s.regF R.GRDS_SCHED_ID 15 0 ∧ h1 / 2 ^ 8 % 256 = (s.buf n).latchAge) ∧
        (s.grd.claiming = none → s.ownClaims = [] → h3 = 0) ∧
        (t.buf n).okCnt = satInc (s.buf n).okCnt ∧
        t.reg (grdA ch R.GRD_TX_OK_CNT) = satInc (s.reg (grdA ch R.GRD_TX_OK_CNT))) ∧
      (twoOf atEnd = false → ∃ t, exec (.txFrame ch slot permit atEnd) s = .next t ∧ t.sent = s.sent ∧
        t.grd.bufs = s.grd.bufs ∧
        t.reg (grdA ch R.GRD_TX_CUT_CNT) = satInc (s.reg (grdA ch R.GRD_TX_CUT_CNT))))

/-- PACER_CORRECTION and the link delay exchanges; the PHY latency is the model's free value (log entry 189). -/
def Obligations.PacerAndLinkDelays : Prop :=
  ∀ s : State, s.regsOk →
    (s.pocRuns = true → s.nitDue = true → s.en P.PACER = true →
      ((byStamp s.grd.vals).filter fun v => !v.own) ≠ [] → 0 < s.regF R.PACER_CFG 27 24 →
      let off := fta ((byStamp s.grd.vals).map (·.dev))
      (off.natAbs ≤ s.regF R.PACER_CFG 9 0 → s.cycleCnt % 2 = 0 →
        ∃ t, exec .pacerCorrection s = .next t ∧ t.regN R.PACER_OFFSET_LAST = ofSigned 32 off ∧
          t.grd = { s.grd with oc := -off, spread := -off, measured := true, corrected := true } ∧
          t.regN R.PACER_CALC_CYCLE = s.cycleCnt ∧ t.regF R.PACER_STAT 15 12 = 0 ∧ t.poc = s.poc ∧
          t = { s with regs := t.regs, grd := t.grd }) ∧
      (s.regF R.PACER_CFG 9 0 < off.natAbs →
        ∃ t, exec .pacerCorrection s = .next t ∧ t.poc = pocLost ∧ t.regF R.PACER_STAT 7 4 = 1 ∧
          t.reg R.PACER_LOST_OFS_CNT = satInc (s.reg R.PACER_LOST_OFS_CNT) ∧ t.raw P.PACER 8 = true ∧
          t.raw P.GRDS 9 = true)) ∧
    (s.pocRuns = true → s.nitDue = true → ((byStamp s.grd.vals).filter fun v => !v.own) = [] →
      s.regF R.PACER_CFG 27 24 ≤ min 15 (s.regF R.PACER_STAT 15 12 + 1) →
      ∃ t, exec .pacerCorrection s = .next t ∧ t.poc = pocLost ∧ t.regF R.PACER_STAT 7 4 = 3 ∧
        t.reg R.PACER_LOST_NOSYNC_CNT = satInc (s.reg R.PACER_LOST_NOSYNC_CNT)) ∧
    (∀ (ch : Fin 2) (l : List Exch), probe s ch = some l →
      (∀ t1, requestDue l s.now = true → ∃ t, exec (.linkDelayRequest ch t1) s = .next t ∧
        probe t ch = some (l ++ [.run s.now (s.mdi32 ch false t1)]) ∧
        t.sent = .delay ch 0 :: s.sent ∧ t = { s with sent := t.sent, grd := t.grd }) ∧
      (∀ (k : Fin 16) (t0 : Nat) (t1 t2 t3 t4 : Word), l[k.val]? = some (.run t0 t1) → s.now ≤ t0 + 1000 →
        ∃ t, exec (.linkDelayResponse ch k t2 t3 t4) s = .next t ∧
          t.reg R.PACER_PROBE_CNT = satInc (s.reg R.PACER_PROBE_CNT) ∧
          (l.length < 16 → probe t ch = some (setAt l k
            (.done t0 ((s.mdi32 ch true t4 - t1).toNat - (t3 - t2).toNat : Int)))) ∧
          (l.length = 16 → (∀ i x y, i ≠ k.val → l[i]? ≠ some (.run x y)) → probe t ch = none ∧
            t.regB R.PACER_STAT (8 + ch) = true ∧ t.raw P.PACER 9 = true)) ∧
      (∀ (k : Fin 16) (t0 : Nat) (t1 : Word), l[k.val]? = some (.run t0 t1) → t0 + 1000 ≤ s.now →
        ∃ t, exec (.linkDelayTimeout ch k) s = .next t ∧
          (l.length < 16 → probe t ch = some (setAt l k (.failed t0)) ∧ t.regs = s.regs) ∧
          (l.length = 16 → (∀ i, i < 16 → i ≠ k.val → ∃ x, l[i]? = some (.failed x)) → probe t ch = none ∧
            t.raw P.PACER 10 = true ∧
            t.regN (R.PACER_LINK_DLY_A + 4 * ch) = s.regF R.PACER_LINK_DFLT 11 0))) ∧
    (∀ (ch : Fin 2) (t2 t3 : Word), ∃ t, exec (.linkDelayAnswer ch t2 t3) s = .next t ∧
      t.sent = .answer ch (s.mdi32 ch false t3) :: .answer ch (s.mdi32 ch true t2) :: s.sent ∧ t = { s with sent := t.sent })

/-- TIME_MESSAGE, HOLDOVER_EXPIRED, COMPARE_FIRE and the commands of TIME. -/
def Obligations.TrainTimeServo : Prop :=
  ∀ s : State, s.regsOk →
    (let n := s.refMb
     let w := s.commsN (256 * n + 24) 4
     let err : Int := ((s.commsN (256 * n + 16) 8 * 1000000000 + w % 2 ^ 30 : Nat) : Int) - (s.time.latched.getD (s.actionNs n) : Nat)
     s.refSelf = false → s.timeFault = false → (s.instEnt n).en = true → (s.instEnt n).tx = false →
     (s.buf n).okTotal = some s.grd.total → s.time.counted = false → w.testBit 30 = true →
     s.poisoned (256 * n + 16) 16 = false →
     s.commsN (256 * n + 28) 4 / 2 ^ 16 % 1024 = s.regF R.TIME_CFG 9 0 →
     ((s.regF R.TIME_JUMP_LIMIT 19 0 : Int) * 1000 < err.natAbs →
       ∃ t, exec .timeMessage s = .next t ∧ t.time.counted = true ∧ t.jumpRefused = true ∧ t.timeValid = false ∧
         t.ttNs = s.ttNs ∧ t.reg64 R.TIME_JUMP_REQ_LO = ofSigned 64 err) ∧
     ((err.natAbs : Int) ≤ (s.regF R.TIME_JUMP_LIMIT 19 0 : Int) * 1000 → s.regF R.TIME_SLEW_LIMIT 16 0 < err.natAbs →
       ∃ t, exec .timeMessage s = .next t ∧ t.time.counted = true ∧ t.jumpRefused = false ∧ t.time.carry = 0 ∧
         t.ttNs = ((s.ttNs : Int) + err).toNat % (2 ^ 64 * 1000000000) ∧
         t.reg R.TIME_STEP_CNT = satInc (s.reg R.TIME_STEP_CNT)) ∧
     ((err.natAbs : Int) ≤ (s.regF R.TIME_JUMP_LIMIT 19 0 : Int) * 1000 → err.natAbs ≤ s.regF R.TIME_SLEW_LIMIT 16 0 →
       (err + s.time.carry).natAbs ≤ s.cycleUs / 10 →
       ∃ t, exec .timeMessage s = .next t ∧ t.time.counted = true ∧ t.jumpRefused = false ∧ t.time.carry = 0 ∧
         t.ttNs = s.ttNs ∧
         (let v := s.rateTerm + divRound ((err + s.time.carry) * 2 ^ 24) (s.cycleUs * 125)
          0x07FF9724 ≤ v → v ≤ 0x080068DB → (t.regN R.TIME_INCREMENT : Int) = v) ∧
         (s.servo = servoAcquiring → err.natAbs ≤ 100 → s.time.run = 7 → t.servo = servoLocked))) ∧
    (s.servo = servoHoldover → s.time.holdFrom + 1000000 * s.regF R.TIME_HOLDOVER 11 0 ≤ s.now →
      ∃ t, exec .holdoverExpired s = .next t ∧ t.servo = servoFree ∧ t.time = { s.time with run := 0 } ∧
        t.reg R.TIME_REF_LOSS_CNT = satInc (s.reg R.TIME_REF_LOSS_CNT) ∧ (s.refSelf = false → t.timeValid = false)) ∧
    (∀ (iss : Issuer) (arg : BitVec 16), s.accepts ⟨P.TIME, 0x10, iss⟩ →
      ∃ t, exec (.timeSnap iss arg) s = .next t ∧ t.ended P.TIME ∧ t.reg64 R.TIME_SNAP_SEC_LO = s.time.sec.toNat ∧
        t.regN R.TIME_SNAP_NS = s.time.ns % 2 ^ 32 ∧ t.reg R.TIME_SNAP_TICK = s.reg R.STARTER_TICK ∧ t.ttNs = s.ttNs) ∧
    (∀ (iss : Issuer) (arg : BitVec 16), s.accepts ⟨P.TIME, 0x11, iss⟩ →
      (arg = 0x54AD → ∃ t, exec (.adjUnlock iss arg) s = .next t ∧ t.ended P.TIME ∧
        t.time = { s.time with unlock := some (s.now + 1000000, iss) } ∧ t.regB R.TIME_STAT 4 = true) ∧
      (arg ≠ 0x54AD → ∃ t, exec (.adjUnlock iss arg) s = .next t ∧ t.rejected P.TIME cLocked)) ∧
    (∀ (iss : Issuer) (arg : BitVec 16), s.accepts ⟨P.TIME, 0x12, iss⟩ → s.adjOpen = true → s.anyReleased = false →
      (arg = 0 → s.jumpRefused = true → ∃ t, exec (.adjForce iss arg) s = .next t ∧ t.ended P.TIME ∧
        t.ttNs = ((s.ttNs : Int) + toSigned 64 (s.reg64 R.TIME_JUMP_REQ_LO)).toNat % (2 ^ 64 * 1000000000) ∧
        t.jumpRefused = false ∧ t.time.unlock = none) ∧
      (arg = 1 → s.refSelf = true → ∃ t, exec (.adjForce iss arg) s = .next t ∧ t.ended P.TIME ∧
        t.ttNs = (s.reg64 R.TIME_ADJ_SEC_LO * 1000000000 + s.regF R.TIME_ADJ_NS 29 0) % (2 ^ 64 * 1000000000) ∧
        (s.timeFault = false → t.timeValid = true) ∧ t.time.unlock = none)) ∧
    (∀ at_ iss, s.time.unlock = some (at_, iss) → at_ ≤ s.now →
      ∃ t, exec .adjUnlockExpired s = .next t ∧ t.time = { s.time with unlock := none } ∧ t.regB R.TIME_STAT 4 = false) ∧
    (∀ (j : Fin 32) (pos : Fin 125), s.regB (cmpA j 0) 0 = true → s.pgState P.TCAP ≠ stFault →
      s.cmpTime j ≤ s.ttNs + 8 * pos →
      ∃ t, exec (.compareFire j pos) s = .next t ∧ t.reg R.TCAP_CMP_FIRE_CNT = satInc (s.reg R.TCAP_CMP_FIRE_CNT) ∧
        t.raw P.TCAP 8 = true ∧ t.ttNs = s.ttNs ∧
        (s.regB (cmpA j 0) 1 = true → t.cmpTime j = (s.cmpTime j + s.regN (cmpA j 12)) % 2 ^ 64 ∧
          t.regB (cmpA j 0) 0 = true) ∧
        (s.regB (cmpA j 0) 1 = false → t.regB (cmpA j 0) 0 = false ∧ t.regB R.TCAP_CMP_ARMED j = false) ∧
        (s.regB (cmpA j 0) 2 = false → t.starter.events = s.starter.events) ∧
        (s.regB (cmpA j 0) 2 = true → ∃ e, t.starter.events = s.starter.events ++ [e] ∧ e.cls = 8 ∧ e.src = j.val ∧
          e.tick = s.now ∧ e.ts = (s.ttNs + 8 * pos) % 2 ^ 64))

/-- Events and commands of the CAN pages. -/
def Obligations.CanControllers : Prop :=
  ∀ (s : State) (n : Fin 8), s.Inv → s.can.length = 8 → (s.canOf n).tbs.length = 3 →
    (∀ (id : Word) (brs esi : Bool) (dlc : Fin 16) (data : List Byte) (stamp : BitVec 64), s.canOnBus n = true →
      s.regB (canA n R.CAN_CFG) 2 = false → bitOf id 31 = false →
      let f : CanFrame := ⟨id, BitVec.ofNat 32 (canLen false dlc), if bitOf id 30 then [] else
        (data ++ List.replicate (canLen false dlc) 0).take (canLen false dlc), none⟩
      (∀ j, (List.range 128).find? (filtMatch n f s) = some j → s.regF (filtMask n j) 31 30 = 0 → rxfLevel s n < 64 →
        ∃ t, exec (.canRxFrame n id brs esi dlc data stamp) s = .next t ∧
          t.reg (canA n R.CAN_RX_OK_CNT) = satInc (s.reg (canA n R.CAN_RX_OK_CNT)) ∧
          rxfLevel t n = rxfLevel s n + 1 ∧ t.raw (P.CAN + n) 8 = true ∧
          (let a := rxfAddr n ((s.canOf n).head + rxfLevel s n)
           t.commsN a 4 = id.toNat ∧ t.commsN (a + 8) 8 = stamp.toNat)) ∧
      ((List.range 128).find? (filtMatch n f s) = none → s.regB (canA n R.CAN_CFG) 6 = false →
        ∃ t, exec (.canRxFrame n id brs esi dlc data stamp) s = .next t ∧ rxfLevel t n = rxfLevel s n ∧
          t.reg (canA n R.CAN_RX_NOMATCH_CNT) = satInc (s.reg (canA n R.CAN_RX_NOMATCH_CNT)))) ∧
    (∀ (i : Nat) (f : CanFrame), i ≤ 3 → (s.canOf n).attempt = some i → (s.canOf n).frame i = some f →
      s.regB (canA n R.CAN_CFG) 2 = false →
      (∀ stamp, ∃ t, exec (.canTxAttemptEnd n (.sent stamp)) s = .next t ∧
        t.reg (canA n R.CAN_TX_OK_CNT) = satInc (s.reg (canA n R.CAN_TX_OK_CNT)) ∧ t.tec n = s.tec n - 1 ∧
        t.raw (P.CAN + n) 10 = true ∧ (i = 3 → (t.canOf n).txf = (s.canOf n).txf.drop 1) ∧
        (i < 3 → (getAt tbZero (t.canOf n).tbs i).pend = (getAt tbZero (s.canOf n).tbs i).next ∧
          t.reg64 (canA n (R.CAN_TB_TS_LO + 8 * i)) = stamp.toNat)) ∧
      ((getAt tbZero (s.canOf n).tbs i).abort = false → (getAt tbZero (s.canOf n).tbs i).next = none →
        (i = 3 → (s.canOf n).abortHead = false) → ∀ how, how = .lost ∨ how = .error →
        ∃ t, exec (.canTxAttemptEnd n how) s = .next t ∧ (t.canOf n).frame i = some f ∧
          t.reg (canA n R.CAN_TX_RETRY_CNT) = satInc (s.reg (canA n R.CAN_TX_RETRY_CNT)))) ∧
    (∀ (code : Fin 7) (dp heavy : Bool), s.canOnBus n = true → s.regB (canA n R.CAN_CFG) 1 = false →
      (code ≠ 3 → s.tec n + 8 ≤ 255 → ∃ t, exec (.canBusError n code dp true heavy) s = .next t ∧
        t.tec n = s.tec n + 8 ∧ (127 < s.tec n + 8 → t.canState n = canPassive) ∧ t.can = s.can) ∧
      (code ≠ 3 → 255 < s.tec n + 8 → s.regB (canA n R.CAN_CFG) 3 = false →
        ∃ t, exec (.canBusError n code dp true heavy) s = .next t ∧ t.canState n = canBusOff ∧
          (t.canOf n).txf = [] ∧ (t.canOf n).attempt = none ∧ t.regF (pa (P.CAN + n) H.ERRLAST) 7 0 = 0x40 ∧
          t.reg (canA n R.CAN_BUSOFF_CNT) = satInc (s.reg (canA n R.CAN_BUSOFF_CNT))) ∧
      (∃ t, exec (.canBusError n code dp false heavy) s = .next t ∧
        t.rec_ n = min 255 (s.rec_ n + if heavy then 8 else 1) ∧ t.can = s.can ∧
        t.reg (canA n R.CAN_RX_ERR_CNT) = satInc (s.reg (canA n R.CAN_RX_ERR_CNT)) ∧
        t.regN (canA n R.CAN_LAST_ERR) = code + 8 * b2n dp)) ∧
    (s.canState n = canIntegrating → ∃ t, exec (.canIntegrationDone n) s = .next t ∧ t.canState n = canActive ∧
      t.raw (P.CAN + n) 12 = true) ∧
    (s.canState n = canRecovering → ∃ t, exec (.canRecoveryDone n) s = .next t ∧ t.canState n = canActive ∧
      t.tec n = 0 ∧ t.rec_ n = 0) ∧
    ((s.canOf n).leaving = 1 → ∃ t, exec (.canBusIdle n) s = .next t ∧ t.canState n = canOff ∧
      (t.canOf n).leaving = 0 ∧ (t.canOf n).txf = []) ∧
    ((s.canOf n).leaving = 2 → ∃ t, exec (.canBusIdle n) s = .next t ∧ t.canState n = canOff ∧
      (t.canOf n).leaving = 0 ∧ t.en (P.CAN + n) = false ∧ (t.canOf n).txf = []) ∧
    (rxfLevel s n ≠ 0 → s.mems.upset = [] →
      ((s.canOf n).ptr ≠ 19 → ∃ t, exec (.rxfDataRead n) s = .next t ∧
        t.canOf n = { s.canOf n with ptr := (s.canOf n).ptr + 1 } ∧ t.regs = s.regs) ∧
      ((s.canOf n).ptr = 19 → ∃ t, exec (.rxfDataRead n) s = .next t ∧ rxfLevel t n = rxfLevel s n - 1 ∧
        t.canOf n = { s.canOf n with head := ((s.canOf n).head + 1) % 64, ptr := 0 })) ∧
    ∀ (iss : Issuer) (arg : BitVec 16),
      (s.accepts ⟨P.CAN + n, 0x10, iss⟩ → rxfLevel s n ≠ 0 → ∃ t, exec (.pop n iss arg) s = .next t ∧
        t.ended (P.CAN + n) ∧ rxfLevel t n = rxfLevel s n - 1 ∧
        t.canOf n = { s.canOf n with head := ((s.canOf n).head + 1) % 64, ptr := 0 } ∧ s.canOnly t n) ∧
      (∀ j, arg.toNat = j → j < 3 → s.accepts ⟨P.CAN + n, 0x11, iss⟩ → s.txBinding (P.CAN + n) j = none →
        frameCode n false (stageFrame s n).1 (stageFrame s n).2 s = cDone →
        ∃ t, exec (.tbLoad n iss arg) s = .next t ∧ t.ended (P.CAN + n) ∧
          t.regF (canA n (R.CAN_TB_STAT + 4 * j)) 15 8 = cDone ∧ s.canOnly t n ∧
          ((s.canOf n).attempt ≠ some j → (getAt tbZero (t.canOf n).tbs j).pend = some (stageFrame s n).1) ∧
          ((s.canOf n).attempt = some j → (getAt tbZero (t.canOf n).tbs j).next = some (stageFrame s n).1)) ∧
      (s.accepts ⟨P.CAN + n, 0x12, iss⟩ → frameCode n true (stageFrame s n).1 (stageFrame s n).2 s = cDone →
        ∃ t, exec (.txfPush n iss arg) s = .next t ∧ t.ended (P.CAN + n) ∧
          (t.canOf n).txf = (s.canOf n).txf ++ [(stageFrame s n).1] ∧ s.canOnly t n) ∧
      (∀ j, arg.toNat = j → j < 3 → s.accepts ⟨P.CAN + n, 0x13, iss⟩ →
        ∃ t, exec (.tbAbort n iss arg) s = .next t ∧ t.ended (P.CAN + n) ∧ s.canOnly t n ∧
          ((s.canOf n).attempt ≠ some j → (getAt tbZero (t.canOf n).tbs j).pend = none) ∧
          ((s.canOf n).attempt = some j → (getAt tbZero (t.canOf n).tbs j).abort = true ∧
            (getAt tbZero (t.canOf n).tbs j).next = none)) ∧
      (s.accepts ⟨P.CAN + n, 0x14, iss⟩ → ∃ t, exec (.txfAbortHead n iss arg) s = .next t ∧ t.ended (P.CAN + n) ∧
        s.canOnly t n ∧ ((s.canOf n).attempt ≠ some 3 → (t.canOf n).txf = (s.canOf n).txf.drop 1) ∧
        ((s.canOf n).attempt = some 3 → (t.canOf n).abortHead = true ∧ (t.canOf n).txf = (s.canOf n).txf)) ∧
      (s.accepts ⟨P.CAN + n, 0x15, iss⟩ → ∃ t, exec (.txfFlush n iss arg) s = .next t ∧ t.ended (P.CAN + n) ∧
        s.canOnly t n ∧ ((s.canOf n).attempt ≠ some 3 → (t.canOf n).txf = []) ∧
        ((s.canOf n).attempt = some 3 → (t.canOf n).abortHead = true ∧ (t.canOf n).txf = (s.canOf n).txf.take 1)) ∧
      (s.accepts ⟨P.CAN + n, 0x16, iss⟩ → s.canState n = canBusOff →
        ∃ t, exec (.canRestart n iss arg) s = .next t ∧ t.ended (P.CAN + n) ∧ t.canState n = canRecovering ∧
          t.can = s.can ∧ s.canOnly t n)

/-- Events and commands of RELAY. -/
def Obligations.RelayTransfers : Prop :=
  ∀ s : State, s.Inv → s.relay.ingress.length = 17 → s.relay.xfer.length = 17 → s.relay.egress.length = 17 →
    (s.relayActive = true →
      (∀ (p : Fin 17) (u : RUnit) (rest : List RUnit), s.bufferHeld p = false → s.xferOf p = none →
        s.ingressOf p = u :: rest →
        (s.routesFor u ≠ [] → ∃ t, exec (.relayUnit p) s = .next t ∧
          t.xferOf p = some ⟨u, s.routesFor u, .loaded, 0⟩ ∧ t = { s with relay := t.relay } ∧
          t.relay = { s.relay with xfer := t.relay.xfer }) ∧
        (s.routesFor u = [] → ∃ t, exec (.relayUnit p) s = .next t ∧ t.ingressOf p = rest ∧ t.xferOf p = none ∧
          (let c := if u.event then R.RELAY_EVT_NOROUTE_CNT else R.RELAY_NOROUTE_CNT
           t.reg c = satInc (s.reg c) ∧ s.regsMove t [c]))) ∧
      (∀ (p : Fin 17) (x : Xfer) (i : Nat), s.xferOf p = some x → x.phase = .moving → x.left = [i] →
        (∀ q, q ≠ p.val → s.xferOf q = none) →
        ∃ t, exec (.relayTransferEnd p) s = .next t ∧ t.reg R.RELAY_RELAYED_CNT = satInc (s.reg R.RELAY_RELAYED_CNT) ∧
          t.xferOf p = none ∧ ((s.route i).dstPort ≠ p.val → t.ingressOf p = (s.ingressOf p).drop 1) ∧
          ((s.route i).dstPort = 0 → ∃ e, t.egressOf 0 = s.egressOf 0 ++ [e] ∧ e.dst = (s.route i).dstId ∧
            e.src = x.unit.port ∧ e.id = x.unit.id ∧ e.event = x.unit.event ∧ e.tick = s.now ∧
            e.data = routeData (s.route i) x.unit.data)) ∧
      (∀ (p : Fin 17) (x : Xfer), s.xferOf p = some x → x.phase = .backoff → x.until_ ≤ s.now → s.bufferHeld p = false →
        ∃ t, exec (.relayBackoffEnd p) s = .next t ∧ t.xferOf p = some { x with phase := .loaded } ∧
          t = { s with relay := t.relay }) ∧
      (∀ (p : Fin 17) (x : Xfer) (i : Nat), s.xferOf p = some x → x.phase = .space → x.until_ ≤ s.now → x.left = [i] →
        ∃ t, exec (.relayHoldExpired p) s = .next t ∧
          t.reg R.RELAY_DROP_FULL_CNT = satInc (s.reg R.RELAY_DROP_FULL_CNT) ∧ t.raw P.RELAY 8 = true ∧
          t.regF R.RELAY_LAST_DROP_INFO 7 0 = 0x43 ∧ t.regN R.RELAY_LAST_DROP_ROUTE = i % 2 ^ 32 ∧ t.xferOf p = none ∧
          ((s.route i).dstPort ≠ p.val → t.ingressOf p = (s.ingressOf p).drop 1)) ∧
      (∀ (k : Fin 2) (peer : Word) (pay : List Byte), s.reg (R.RELAY_PEER_IP0 + 4 * k) = peer → s.en (P.ETH + k) = true →
        let w := leNat (pay.take 4)
        w / 2 ^ 24 = 1 → w / 2 ^ 16 % 256 ≤ 240 → 8 + w / 2 ^ 16 % 256 ≤ pay.length →
        ∃ t, exec (.relayDatagram k peer pay) s = .next t ∧
          t.ingressOf (portEth + k) = s.ingressOf (portEth + k)
            ++ [⟨portEth + k, w % 2 ^ 16, false, (pay.drop 8).take (w / 2 ^ 16 % 256), 0⟩] ∧
          t = { s with regs := t.regs, relay := t.relay } ∧ s.regsMove t [pa (P.ETH + k) R.ETH_RX_FRM_CNT]) ∧
      (∀ h : Fin 4, let a := outboxA h (getAt 0 s.relay.outbox h)
        s.relay.outbox.length = 4 → s.commsN a 4 / 2 ^ 31 = 1 → s.commsN a 4 % 256 ≤ 240 →
        s.eccHits 3 a (16 + s.commsN a 4 % 256) = [] →
        ∃ t, exec (.relayOutboxTake h) s = .next t ∧ t.commsN a 4 = 0 ∧
          t.ingressOf (portHost + h) = s.ingressOf (portHost + h)
            ++ [⟨portHost + h, s.commsN (a + 4) 4, false, s.comms (a + 16) (s.commsN a 4 % 256), 0⟩] ∧
          getAt 0 t.relay.outbox h = (getAt 0 s.relay.outbox h + 1) % 16 ∧ t.regs = s.regs)) ∧
    (∀ (iss : Issuer) (arg : BitVec 16), s.accepts ⟨P.RELAY, 0x11, iss⟩ → arg.toNat % 32 ≤ 16 →
      ∃ t, exec (.flush iss arg) s = .next t ∧ t.working ⟨P.RELAY, 0x11, iss⟩ ∧
        t = { s with regs := t.regs, shown := t.shown, time := t.time,
                      deferred := s.deferred ++ [.flush (arg.toNat % 32)] }) ∧
    (∀ iss : Issuer, s.mayEnable P.RELAY iss →
      (relayFail s = none → ∃ t, exec (.relayEnable iss) s = .next t ∧ t.en P.RELAY = true ∧
        (s.pgState P.RELAY ≠ stFault → t.relayActive = true) ∧ (∀ q, t.ingressOf q = [] ∧ t.egressOf q = []) ∧
        t.regN R.RELAY_ROUTES_EN = s.routesOn.length % 2 ^ 32) ∧
      (∀ e, relayFail s = some e → ∃ t, exec (.relayEnable iss) s = .next t ∧ t.en P.RELAY = false ∧
        t.regN R.RELAY_ROUTE_ERR = e % 2 ^ 32 ∧ t.raw P.RELAY 10 = true ∧
        t.regF (pa P.RELAY H.ERRLAST) 7 0 = 0x42))

/-- Link events of a field group, and the commands that bring it up. -/
def Obligations.FieldGroupLink : Prop :=
  ∀ (s : State) (g : Fin 4), s.Inv → let f := (s.grp g).f1
    (∀ v : BitVec 200, f.goodFrame v = true → ∃ t f', exec (.downstreamFrameRx g (some v)) s = .next t ∧
      s.f1Becomes t g f' ∧ f'.badRun = 0 ∧ f'.goodRun = f.goodRun + 1 ∧ f'.dnSeq = fld v 183 180 ∧
      f'.nextOut = some (fld v 167 160, fld v 159 156 == 0b1010, fld v 155 152 == 0b0101) ∧
      f'.doF = f.doF ∧ f'.failsafe = f.failsafe) ∧
    (∀ w : Option (BitVec 200), (∀ v, w = some v → f.goodFrame v = false) → ∃ t f',
      exec (.downstreamFrameRx g w) s = .next t ∧ s.f1Becomes t g f' ∧ f'.badRun = f.badRun + 1 ∧ f'.goodRun = 0 ∧
      f'.cntBad = f.cntBad + 1 ∧ f'.nextOut = f.nextOut ∧ f'.doF = f.doF ∧ f'.hs = f.hs ∧ f'.ls = f.ls) ∧
    (∀ pw : Bool, pw = true ∨ 4 ≤ f.badRun ∧ f.failsafe = false → ∃ t f', exec (.failsafeEntry g pw) s = .next t ∧
      s.f1Becomes t g f' ∧ f'.failsafe = true ∧ f'.fsCause = (if pw then 2 else 1) ∧ f'.nextOut = none ∧
      (∀ c, f'.doOn c = false) ∧ f'.hsOn = false ∧ f'.lsOn = false ∧ f'.cntFs = f.cntFs + 1) ∧
    (f.applied = true → 16 ≤ f.goodRun → f.failsafe = true →
      (bitOf (f.word 0) 1 && !(s.grp g).bringup) = false →
      ∃ t, exec (.bringupComplete g) s = .next t ∧ (t.grp g).f1.failsafe = false ∧ (t.grp g).bringup = false ∧
        ((s.grp g).bringup = true → t.regB (fldA g R.FLD_STAT) 0 = true ∧
          (s.pgState (P.FLD + g) ≠ stFault → t.pgState (P.FLD + g) = stActive)) ∧
        ((s.grp g).bringup = false → t.regs = s.regs)) ∧
    ((s.grp g).bringup = true → (s.grp g).enTick + 10000 ≤ s.now →
      ∃ t, exec (.bringupTimeout g) s = .next t ∧ (t.grp g).bringup = false ∧ t.pgState (P.FLD + g) = stFault ∧
        t.regF (pa (P.FLD + g) H.ERRLAST) 7 0 = 0x40 ∧ (t.grp g).f1 = f) ∧
    (∀ iss : Issuer, s.mayEnable (P.FLD + g) iss → ∃ t, exec (.fldEnable g iss) s = .next t ∧ t.en (P.FLD + g) = true ∧
      (t.grp g).bringup = true ∧ (t.grp g).dnOn = true ∧ (t.grp g).enTick = s.now ∧ (t.grp g).f1.failsafe = true ∧
      (s.pgState (P.FLD + g) ≠ stFault → t.pgState (P.FLD + g) = stInit)) ∧
    (∀ (iss : Issuer) (arg : BitVec 16), s.accepts ⟨P.FLD + g, 0x10, iss⟩ → s.halted = false →
      failsafeLatched g s = true → ∃ t, exec (.relink g iss arg) s = .next t ∧ t.ended (P.FLD + g) ∧
        (t.grp g).bringup = true ∧ (t.grp g).dnOn = true ∧ (t.grp g).enTick = s.now ∧ (t.grp g).f1 = f ∧
        t.pgState (P.FLD + g) = stInit) ∧
    (∃ t, exec (.safeOffAsserted g) s = .next t ∧ s.f1Becomes t g { f with safeOff := true }) ∧
    (f.safeOff = true → s.lineOff g = false → f.toggleSince + 10 ≤ s.now →
      ∃ t, exec (.safeOffReleased g) s = .next t ∧ s.f1Becomes t g { f with safeOff := false }) ∧
    (∀ e, (s.grp g).offUntil = some e → e ≤ s.now → s.halted = false →
      ∃ t, exec (.safeOffTimedRelease g) s = .next t ∧ t.regB (fldA g R.FLD_SAFEOFF_STAT) 2 = false ∧
        t.grp g = { s.grp g with offUntil := none, f1 := { f with toggleSince := s.now } } ∧
        t = { s with regs := t.regs, groups := t.groups } ∧ s.regsMove t [fldA g R.FLD_SAFEOFF_STAT])

/-- The events inside the SVT-F1 of a group. -/
def Obligations.FieldGroupEvents : Prop :=
  ∀ (s : State) (g : Fin 4), s.Inv → let f := (s.grp g).f1
    f.compAt.length = 16 → f.ai.length = 2 → s.meas.fi.length = 4 →
    (∀ e es, f.evs = e :: es → e.tick ≤ s.now → ∃ t f', exec (.timedEvent g) s = .next t ∧ s.f1Becomes t g f' ∧
      f'.evs = es ∧
      (let d := if e.value = 1 then f.cmdDo ||| 2 ^ (e.target % 8) else f.cmdDo &&& (255 ^^^ 2 ^ (e.target % 8))
       e.kind = 0 → f'.cmdDo = d ∧ f'.doF = if f.failsafe then 0 else d) ∧
      (e.kind ≠ 0 → f'.cmdDo = f.cmdDo ∧ f'.doF = f.doF)) ∧
    (∀ j : Fin 4, let w := f.word (cfgCut + j)
      bitOf w 31 = true → bitOf f.comp (fld w 3 0) = bitOf w 4 → bitOf f.cutAct j = false →
      ∃ u, exec (.cutTermAct g j) s = .next (cutGroups g w u) ∧
        u.grp g = { s.grp g with f1 := { f with cutAct := setBit f.cutAct j true, cutHold := setBit f.cutHold j false } } ∧
        u = { s with regs := u.regs, groups := u.groups } ∧ s.regsMove u [fldA g R.FLD_CUT_CNT] ∧
        u.reg (fldA g R.FLD_CUT_CNT) = satInc (s.reg (fldA g R.FLD_CUT_CNT)) ∧
        (∀ c, c < 8 → bitOf w (8 + c) = true → (u.grp g).f1.doOn c = false) ∧
        (bitOf w 16 = true → (u.grp g).f1.hsOn = false ∧ (u.grp g).f1.lsOn = false)) ∧
    (∀ j : Fin 4, bitOf f.cutHold j = true → getAt 0 f.cutEnd j ≤ s.now → ∃ t, exec (.cutHoldEnd g j) s = .next t ∧
      s.f1Becomes t g { f with cutHold := setBit f.cutHold j false }) ∧
    (∀ (ch : Fin 16) (level : Bool) (pos : Fin 125), bitOf f.comp ch ≠ level →
      ∃ t f', exec (.diComparatorEdge g ch level pos) s = .next t ∧ s.f1Becomes t g f' ∧
        f'.comp = setBit f.comp ch level ∧ getAt 0 f'.compAt ch = 1000 * s.now + 8 * pos ∧ f'.val = f.val ∧
        (level = true → bitOf (f.word (cfgDi + ch)) 19 = true → bitOf f'.wet ch = true) ∧
        (∀ j, j < 4 → fld (f.word (cfgCut + j)) 3 0 = ch.val → bitOf (f.word (cfgCut + j)) 4 ≠ level →
          bitOf f'.cutAct j = false)) ∧
    (∀ (ch : Fin 16) (pos : Fin 125), let c := f.word (cfgDi + ch)
      let v := bitOf f.comp ch != bitOf c 20
      bitOf c 31 = true → getAt 0 f.compAt ch + 250 + 1000 * fld c 15 0 ≤ 1000 * s.now + 8 * pos → bitOf f.val ch ≠ v →
      ∃ t, exec (.diEdgeAccept g ch pos) s = .next t ∧
        s.f1Becomes t g { f with val := setBit f.val ch v, edges := insertEdge (ch, b2n v, pos) f.edges }) ∧
    (∀ ch : Fin 16, bitOf f.wet ch = true → getAt 0 f.wetEnd ch ≤ 1000 * s.now + 999 →
      ∃ t, exec (.wettingEnd g ch) s = .next t ∧ s.f1Becomes t g { f with wet := setBit f.wet ch false }) ∧
    (∀ (ch : Fin 16) (o : Bool), bitOf (f.word (cfgDi + ch)) 18 = true →
      ∃ t, exec (.diOpenWire g ch o) s = .next t ∧ s.f1Becomes t g { f with openWire := setBit f.openWire ch o }) ∧
    (∀ ch : Fin 8, f.doOn ch = true →
      (∃ t, exec (.doOverload g ch) s = .next t ∧ s.f1Becomes t g { f with
        ovl := setBit f.ovl ch true, trip := if bitOf (f.word (cfgDo + ch)) 2 then setBit f.trip ch true else f.trip }) ∧
      (∀ o, bitOf (f.word (cfgDo + ch)) 1 = true → ∃ t, exec (.doOpenWireOn g ch o) s = .next t ∧
        s.f1Becomes t g { f with owOn := setBit f.owOn ch o })) ∧
    (∀ (ch : Fin 8) (o : Bool), f.doOn ch = false → bitOf (f.word (cfgDo + ch)) 0 = true →
      ∃ t, exec (.doOpenWireOff g ch o) s = .next t ∧ s.f1Becomes t g { f with owOff := setBit f.owOff ch o }) ∧
    (∀ e, f.oneFrom = some e → e + 300 ≤ s.now → ∃ t, exec (.sboSwitchLimit g) s = .next t ∧
      s.f1Becomes t g { f with sboLim := true, oneFrom := none }) ∧
    (f.hsOn = true → f.lsOn = true → ∃ t, exec (.sboOvercurrent g) s = .next t ∧
      s.f1Becomes t g { f with sboOc := true }) ∧
    (∀ (ch : Fin 8) (r : Bool),
      (∃ t, exec (.thermalThreshold g 0 ch r) s = .next t ∧ s.f1Becomes t g { f with hot140 := r }) ∧
      (∃ t, exec (.thermalThreshold g 1 ch r) s = .next t ∧ s.f1Becomes t g { f with hot155 := r }) ∧
      (∃ t, exec (.thermalThreshold g 2 ch r) s = .next t ∧ s.f1Becomes t g { f with
        otHot := setBit f.otHot ch r, otDo := if r then setBit f.otDo ch true else f.otDo }) ∧
      (∃ t, exec (.thermalThreshold g 3 ch r) s = .next t ∧ s.f1Becomes t g { f with
        otSboHot := r, otSbo := f.otSbo || r })) ∧
    (∀ low : Bool, ∃ t, exec (.vfLow g low) s = .next t ∧ s.f1Becomes t g { f with vfLow := low }) ∧
    (∀ n : Fin 2, let a := getAt f1AiZero f.ai n
      let cfg := f.word (cfgAi + 2 * n)
      (∀ (code : BitVec 20) t0, a.busy = some t0 → fld cfg 1 0 = 2 →
        t0 + 100 * (aiD cfg - 1) + 1200 < 1000 * s.now + 1000 →
        ∃ t, exec (.aiConversionEnd g n code) s = .next t ∧ s.f1Becomes t g { f with
          ai := setAt f.ai n { a with busy := none, words := [code.toNat] } }) ∧
      (bitOf cfg 2 = true → fld cfg 1 0 ≠ 0 → a.shunt = false → ∃ t, exec (.shuntOpen g n) s = .next t ∧
        s.f1Becomes t g { f with ai := setAt f.ai n { a with shunt := true, shuntAt := s.now } }) ∧
      (∀ fallen : Bool, a.shunt = true → a.shuntAt + 1000000 ≤ s.now →
        ∃ t, exec (.shuntReclose g n fallen) s = .next t ∧
          s.f1Becomes t g { f with ai := setAt f.ai n { a with shunt := !fallen, shuntAt := s.now } })) ∧
    (∀ (rising : Bool) (ns : Fin 1000), bitOf (f.word cfgFi) 0 = true → rising ≠ bitOf (f.word cfgFi) 2 →
      ((∀ l, f.fi.last = some l → l + 16000 ≤ 1000 * s.now + ns) → ∃ t, exec (.fiEdge g rising ns) s = .next t ∧
        s.f1Becomes t g { f with fi := { f.fi with edges := f.fi.edges + 1, last := some (1000 * s.now + ns), pos := ns } }) ∧
      (∀ l, f.fi.last = some l → 1000 * s.now + ns < l + 16000 → ∃ t, exec (.fiEdge g rising ns) s = .next t ∧
        s.f1Becomes t g { f with fi := { f.fi with fastEnd := s.now + 1000 } })) ∧
    (∀ o sh : Bool, bitOf (f.word cfgFi) 1 = true → bitOf (f.word cfgFi) 0 = true →
      ∃ t, exec (.fiOpenShort g o sh) s = .next t ∧
        s.f1Becomes t g { f with fi := { f.fi with open_ := o, short := sh && !o } }) ∧
    (let c := s.fiChan g
     ∀ e o, s.en P.MEASF = true → bitOf (c.word 0) 0 = true → c.still = false → c.edges.head? = some e → 2 ≤ c.edges.length →
      c.out = some o →
      1000000 * fld (c.word 0) 29 16 ≤ s.ttNs - e →
      ∃ t, exec (.fiStandstill g) s = .next t ∧ t.fiChan g = { c with still := true, fresh := true, out := some (0, o.2) } ∧
        t.regB (fiA g fiStat) 2 = true ∧ t.reg (fiA g 20) = 0 ∧ t.raw P.MEASF 8 = true ∧
        t = { s with regs := t.regs, sent := t.sent, shp := t.shp, meas := t.meas })

/-- Events and commands of SAFE, DISC, SMSG and SBO. -/
def Obligations.SafetyUnit : Prop :=
  ∀ s : State, s.regsOk → s.safety.sized →
    (∀ (p : Fin 32) (t0 : Nat), getAt none s.safety.pairStart p = some t0 → t0 + 1000 * s.regF (pairA p) 26 16 ≤ s.now →
      ∃ t, exec (.discrepancyTimeout p) s = .next t ∧ t.regF (pairStatA p) 2 0 = 4 ∧ t.regB R.DISC_PAIR_FAULT p = true ∧
        t.raw P.DISC 8 = true ∧ t.regF (pa P.DISC H.ERRLAST) 7 0 = 0x40 ∧
        t.reg R.DISC_FAULT_CNT = satInc (s.reg R.DISC_FAULT_CNT) ∧ t.regN R.DISC_LAST_FAULT_PAIR = p ∧
        ∀ g, (List.range 8).find? (fun g => s.pairMember g p) = some g → s.groupLocks t g causeDisc) ∧
    (∀ c : BitVec 8, s.connEn c.toNat = true → (s.conn c.toNat).valid = true →
      s.connF c.toNat 3 7 0 < (s.conn c.toNat).age →
      ∃ t, exec (.safeMsgTimeout c) s = .next t ∧ (t.conn c.toNat).valid = false ∧ t.raw P.SMSG 8 = true ∧
        t.regB (R.SMSG_VALID_MAP + 4 * (c.toNat / 32)) (c.toNat % 32) = false ∧
        t.reg R.SMSG_TIMEOUT_CNT = satInc (s.reg R.SMSG_TIMEOUT_CNT) ∧
        (s.connF c.toNat 0 29 29 = 1 → s.connMember (s.connGroup c.toNat) c.toNat = true →
          s.groupLocks t (s.connGroup c.toNat) causeSmsg)) ∧
    (∀ (iss : Issuer) (arg : BitVec 16), s.halted = false → s.standby = false →
      s.allLocked (arg.toNat % 256) = true →
      (s.accepts ⟨P.SAFE, 0x10, iss⟩ → arg.toNat / 256 = 0x5A → ∃ t, exec (.resetArm iss arg) s = .next t ∧
        t.ended P.SAFE ∧ t.safety = { s.safety with arm := some (arg.toNat % 256, s.now + 1000000, iss) } ∧
        t.regF R.SAFE_RESET_STAT 7 0 = arg.toNat % 256 ∧
        t = { s with regs := t.regs, sent := t.sent, shp := t.shp, shown := t.shown, time := t.time,
                     safety := t.safety } ∧
        s.courseMoves t P.SAFE [R.SAFE_RESET_STAT]) ∧
      (s.accepts ⟨P.SAFE, 0x11, iss⟩ → s.armMatches iss arg.toNat = true →
        ∃ t, exec (.resetConfirm iss arg) s = .next t ∧ t.ended P.SAFE ∧ t.safety.arm = none ∧
          ∀ g, g < 8 → (arg.toNat.testBit g = true → t.sgState g = grpWait ∧ t.regB R.SAFE_RESET_STAT (8 + g) = true ∧
              t.regB R.PART_LOCK_MIRROR (8 + g) = true ∧ getAt 0 t.safety.waitEnd g = s.now + 5000000) ∧
            (arg.toNat.testBit g = false → t.sgState g = s.sgState g))) ∧
    (∀ m u h, s.safety.arm = some (m, u, h) → u < s.now → ∃ t, exec .resetArmExpired s = .next t ∧
      t.safety = { s.safety with arm := none } ∧ t.regF R.SAFE_RESET_STAT 7 0 = 0 ∧
      t = { s with regs := t.regs, safety := t.safety } ∧ s.regsMove t [R.SAFE_RESET_STAT]) ∧
    (∀ g : Fin 8, s.sgState g = grpWait → bitOf s.safety.edgeSeen g = false → getAt 0 s.safety.waitEnd g ≤ s.now →
      ∃ t, exec (.resetWaitExpired g) s = .next t ∧ t.sgState g = grpLocked ∧ t.regF R.SAFE_RESET_STAT 19 16 = 2 ∧
        t.regB R.SAFE_RESET_STAT (8 + g) = false ∧ t.regF (pa P.SAFE H.ERRLAST) 7 0 = 0x41) ∧
    (∀ iss : Issuer, s.mayEnable P.SMSG iss →
      (connFail s = none → ∃ t, exec (.smsgEnable iss) s = .next t ∧ t.en P.SMSG = true ∧
        t.safety = { s.safety with conns := s.conns.map fun c => (c, connZero) } ∧
        (s.pgState P.SMSG ≠ stFault → t.pgState P.SMSG = stActive)) ∧
      (∀ e, connFail s = some e → ∃ t, exec (.smsgEnable iss) s = .next t ∧ t.en P.SMSG = false ∧
        t.regN R.SMSG_CONN_ERR = e % 2 ^ 32 ∧ t.regF (pa P.SMSG H.ERRLAST) 7 0 = 0x40 ∧ t.safety = s.safety)) ∧
    (∀ (locked waiting : BitVec 8) (seqs : List (BitVec 8 × BitVec 16)), s.stbyRole = true →
      ∃ t, exec (.lockoutStateMessage locked waiting seqs) s = .next t ∧
        t.regN R.PART_LOCK_MIRROR = locked.toNat + 256 * waiting.toNat ∧
        t = { s with regs := t.regs, part := { s.part with mirrorSeq := t.part.mirrorSeq } } ∧
        s.regsMove t [R.PART_LOCK_MIRROR]) ∧
    (∀ i : Fin 4, let x := s.sboTest i
      (s.testBlocked i = false → x.phase = 0 →
        (∀ (iss : Issuer) (arg : BitVec 16), arg.toNat % 4 = i.val → s.accepts ⟨P.SBO, 0x10, iss⟩ → s.halted = false →
          s.sboOn = true → ∃ t, exec (.switchTest iss arg) s = .next t ∧ t.working ⟨P.SBO, 0x10, iss⟩ ∧
            (t.sboTest i).phase = 1 ∧ (t.sboTest i).byCommand = true ∧ (t.sboTest i).endTick = s.now + s.testUs i ∧
            t.testRes i = 3) ∧
        (s.testDue i = true → x.retryAt ≤ s.now → ∃ t, exec (.switchTestDue i) s = .next t ∧
          (t.sboTest i).phase = 1 ∧ (t.sboTest i).endTick = s.now + s.testUs i ∧ t.testRes i = 3) ∧
        (s.sboOn = true → x.due = true → x.retryAt ≤ s.now → ∃ t, exec (.switchTestRetry i) s = .next t ∧
          (t.sboTest i).phase = 1 ∧ (t.sboTest i).endTick = s.now + s.testUs i ∧ t.testRes i = 3)) ∧
      (s.testBlocked i = true → x.phase = 0 → s.testDue i = true → x.retryAt ≤ s.now →
        ∃ t, exec (.switchTestDue i) s = .next t ∧ t.sboTest i = { x with due := true, retryAt := s.now + 10000 } ∧
          t.regs = s.regs) ∧
      (x.endTick ≤ s.now →
        (x.phase = 1 → s.stepPasses i 1 = true → ∃ t, exec (.switchTestStepEnd i) s = .next t ∧
          (t.sboTest i).phase = 2 ∧ (t.sboTest i).endTick = s.now + 1000 ∧
          getAt 0 t.safety.quietUntil i = s.now + 1000) ∧
        (x.phase = 1 → s.stepPasses i 1 = false → ∃ t, exec (.switchTestStepEnd i) s = .next t ∧
          (t.sboTest i).phase = 0 ∧ t.testRes i = 2 ∧ t.regF (sboA i sboStat) 15 12 = 1 ∧ t.raw P.SBO 8 = true ∧
          t.reg R.SBO_TEST_FAIL_CNT = satInc (s.reg R.SBO_TEST_FAIL_CNT) ∧
          ∀ g, s.sboGroup i = some g → s.groupLocks t g causeSwitch) ∧
        (x.phase = 3 → s.stepPasses i 2 = true → ∃ t, exec (.switchTestStepEnd i) s = .next t ∧
          (t.sboTest i).phase = 0 ∧ (t.sboTest i).due = false ∧ t.testRes i = 1 ∧ t.regN (sboA i sboTestAge) = 0 ∧
          t.reg (sboA i sboTestCnt) = satInc (s.reg (sboA i sboTestCnt)) ∧
          (x.byCommand = true → s.busyWith P.SBO 0x10 = true → t.ended P.SBO)) ∧
        (x.phase = 11 → s.sboBack i / 2 = 4 → ∃ t, exec (.brakeTestStepEnd i) s = .next t ∧ (t.sboTest i).phase = 12) ∧
        (x.phase = 12 → s.sboBack i / 2 = 2 → ∃ t, exec (.brakeTestStepEnd i) s = .next t ∧ (t.sboTest i).phase = 13) ∧
        (x.phase = 13 → x.ok = true → x.sawOn = true → ∃ t, exec (.brakeTestStepEnd i) s = .next t ∧
          (t.sboTest i).phase = 14 ∧ t.regN (sboA i sboBtMa) = getAt 0 (s.grp i).raw 29 % 4096) ∧
        (x.phase = 14 → s.sboBack i / 2 = 0 → ∃ t, exec (.brakeTestStepEnd i) s = .next t ∧ (t.sboTest i).phase = 0 ∧
          t.regF (sboA i sboStat) 7 6 = 1 ∧ t.raw P.SBO 10 = true ∧ t.regN (sboA i sboBtAge) = 0 ∧
          (x.byCommand = true → s.busyWith P.SBO 0x11 = true → t.ended P.SBO)) ∧
        (x.phase = 11 → s.sboBack i / 2 ≠ 4 → ∃ t, exec (.brakeTestStepEnd i) s = .next t ∧ (t.sboTest i).phase = 0 ∧
          t.regF (sboA i sboStat) 7 6 = 2 ∧ t.regF (sboA i sboStat) 11 8 = 1 ∧
          ∀ g, s.sboGroup i = some g → s.groupLocks t g causeBrake)) ∧
      (s.sboOn = true → s.overdue i = true → s.standby = false → s.safety.gateFirst = none →
        ∃ t, exec (.switchTestOverdue i) s = .next t ∧
          ∀ g, s.sboGroup i = some g → s.groupLocks t g causeSwitch) ∧
      (∀ (iss : Issuer) (arg : BitVec 16), arg.toNat % 4 = i.val → s.accepts ⟨P.SBO, 0x11, iss⟩ → brakeGate i s = none →
        ∃ t, exec (.brakeTest iss arg) s = .next t ∧ t.working ⟨P.SBO, 0x11, iss⟩ ∧ (t.sboTest i).phase = 11 ∧
          (t.sboTest i).endTick = s.now + s.testUs i ∧ t.regF (sboA i sboStat) 7 6 = 3) ∧
      (∀ t0, s.sboOn = true → x.phase = 0 → getAt none s.safety.misSince i = some t0 →
        t0 + s.regF (sboA i 0) 27 16 ≤ s.now → s.regB (sboA i sboStat) 16 = false →
        ∃ t, exec (.readbackMismatch i) s = .next t ∧ t.regB (sboA i sboStat) 16 = true ∧ t.raw P.SBO 9 = true ∧
          t.reg R.SBO_MON_FAULT_CNT = satInc (s.reg R.SBO_MON_FAULT_CNT) ∧
          ∀ g, s.sboGroup i = some g → s.groupLocks t g causeMonitor))

/-- Events and commands of PART and HEALTH. -/
def Obligations.PartnerUnit : Prop :=
  ∀ s : State, s.Inv →
    (s.part.actIn = false → ∃ t e, exec (.actInChange true) s = .next t ∧ t.part.actIn = true ∧
      t.regB R.PART_STAT 8 = true ∧ t.regB R.PART_STAT 9 = false ∧
      t.starter.events = s.starter.events ++ [e] ∧ e.cls = 2 ∧ e.src = 0 ∧
      (s.role = roleClaiming ∨ s.role = roleBackoff → t.role = roleSync ∧ t.part.copying = true) ∧
      (s.role = roleActive ∨ s.role = roleSingle → s.part.toggling = true → s.now ≤ s.part.claimTick + 1000 →
        t.role = roleBackoff ∧ t.part.toggling = false)) ∧
    (s.part.actIn = true → ∃ t, exec (.actInChange false) s = .next t ∧ t.part.actIn = false ∧
      t.regB R.PART_STAT 8 = false ∧
      (s.role = roleBackoff → t.part.waitStart = some s.now)) ∧
    (s.part.held = true → s.part.toggling = false → s.part.lastToggle + 50 ≤ s.now →
      ∃ t, exec .claimHoldExpired s = .next t ∧ t.part.held = false ∧ t.regB R.PART_STAT 7 = false ∧
        t.regB R.PART_STAT 9 = false ∧ (s.busyWith P.PART 0x10 = true → t.ended P.PART)) ∧
    (∀ c, s.part.clearSince = some c → s.part.held = true → s.part.actIn = false → s.regB R.PART_STAT 9 = false →
      c + 100 ≤ s.now → ∃ t, exec .gateOpen s = .next t ∧ t.regB R.PART_STAT 9 = true ∧
        (∀ f, f < 4 → t.regB (fldA f R.FLD_STAT) 6 = false) ∧ t.part = s.part) ∧
    (∀ w, s.part.waitStart = some w → s.role = roleClaiming ∨ s.role = roleBackoff → s.part.actIn = false →
      s.halted = false → w + s.claimWait ≤ s.now → ∃ t, exec .claimWaitExpired s = .next t ∧ t.role = roleActive ∧
        t.part.toggling = true ∧ t.part.held = true ∧ t.regB R.PART_STAT 7 = true) ∧
    (∀ (copy : Bool) (addr : BitVec 24) (bs : List Byte), s.stbyRole = true → s.regB R.PART_STAT 10 = true →
      ∃ t, exec (.mirrorWrite copy addr bs) s = .next t ∧
        t = { s with regs := t.regs, baton := t.baton,
                     part := { s.part with copying := s.part.copying || (copy && decide (addr.toNat = 0)) } } ∧
        (∀ i, i < bs.length → Memory.read t.baton.mram (addr.toNat + i) = getAt 0 bs i) ∧
        (∀ q, copy = false → commitSeq bs = some q → t.reg64 R.BATON_COMMIT_SEQ_LO = q % 2 ^ 64) ∧
        s.regsMove t [R.PART_SYNC_PROGRESS, R.BATON_COMMIT_SEQ_LO, R.BATON_COMMIT_SEQ_HI]) ∧
    (s.stbyRole = true → s.part.copying = true → ∃ t, exec .mirrorCopyEnd s = .next t ∧
      t.part = { s.part with copying := false, copied := true } ∧ t.regN R.PART_SYNC_PROGRESS = 100 ∧
      (s.role = roleSync →
        t.role = if t.regN R.PART_NOT_READY = 0 ∧ t.regN R.PART_INCOMPAT = 0 then roleArmed else roleUnarmed)) ∧
    (∀ (tick seqLo seqHi : Word) (locked waiting : BitVec 8),
      (∃ t, exec (.heartbeat false tick seqLo seqHi locked waiting) s = .next t ∧
        t.part = { s.part with hbLink := some s.now } ∧ t.regB R.PART_STAT 12 = false ∧
        (s.stbyRole = true → t.regN R.PART_LOCK_MIRROR = locked.toNat + 256 * waiting.toNat)) ∧
      (bitOf s.partCfg 2 = true → ∃ t, exec (.heartbeat true tick seqLo seqHi locked waiting) s = .next t ∧
        t.part = { s.part with hbGrd := some s.now } ∧ t.regB R.PART_STAT 12 = false)) ∧
    (s.stbyRole = true → s.regB R.PART_STAT 12 = false → s.hears s.part.hbLink = false → s.hears s.part.hbGrd = false →
      s.part.silenceFrom + s.silence ≤ s.now → ∃ t, exec .partnerSilent s = .next t ∧ t.regB R.PART_STAT 12 = true ∧
        t.raw P.PART 10 = true ∧ t.regF (pa P.PART H.ERRLAST) 7 0 = 0x41 ∧
        (s.role = roleArmed → s.autoTake = true → s.part.actIn = false → t.role = roleTaking ∧
          t.regF R.PART_STAT 27 24 = 4 ∧ t.baton.restoring = some (2, s.now)) ∧
        (s.role ≠ roleArmed ∨ s.autoTake = false ∨ s.part.actIn = true → t.role = s.role)) ∧
    (∀ (cause : Fin 4) (seq : DWord),
      (cause ≠ 0 → s.role = roleArmed → s.autoTake = true → ∃ t, exec (.withdrawMessage cause seq) s = .next t ∧
        t.role = roleTaking ∧ t.regF R.PART_STAT 27 24 = cause ∧ t.reg64 R.PART_TAKE_TICK_LO = s.now % 2 ^ 64 ∧
        t.part.toggling = true ∧ t.baton.restoring = some (2, s.now)) ∧
      (s.role ≠ roleArmed → exec (.withdrawMessage cause seq) s = .next s)) ∧
    (s.reportDue = true → ∃ t ws, exec .healthReportSend s = .next t ∧
      t.sent = (if s.regB R.PART_STAT 10 then .health ws :: s.sent else s.sent) ∧
      t.part = { s.part with reportSent := some s.now } ∧ ws.length = 16 ∧ (∀ i, i < 16 → t.reg (R.HEALTH_OWN + 4 * i) = getAt 0 ws i) ∧
      getAt 0 ws 15 = BitVec.ofNat 32 (wordsCrc ((ws.take 15).map (·.toNat)))) ∧
    (∀ (grador : Bool) (ws : List Word),
      (ws.length = 16 → wordsCrc ((ws.map (·.toNat)).take 15) = (getAt 0 ws 15).toNat →
        ∃ t, exec (.healthReport grador ws) s = .next t ∧ (∀ i, i < 16 → t.reg (R.HEALTH_PARTNER + 4 * i) = getAt 0 ws i) ∧
          t.reg R.HEALTH_REPORT_CNT = satInc (s.reg R.HEALTH_REPORT_CNT) ∧ t.regB R.PART_STAT 11 = true ∧
          t.regN R.HEALTH_STAT = (if grador then 5 else 3) ∧ t.part.reportTick = some s.now ∧
          t.part.partnerArmed = bitOf (getAt 0 ws 0) 4 ∧
          t.part.partnerMirrorBad = ((fld (getAt 0 ws 0) 3 0 == roleActive || fld (getAt 0 ws 0) 3 0 == roleSingle)
            && bitOf (getAt 0 ws 1) 15)) ∧
      (ws.length ≠ 16 ∨ wordsCrc ((ws.map (·.toNat)).take 15) ≠ (getAt 0 ws 15).toNat →
        ∃ t, exec (.healthReport grador ws) s = .next t ∧ t.part = s.part ∧
          t.reg R.HEALTH_REPORT_ERR_CNT = satInc (s.reg R.HEALTH_REPORT_ERR_CNT) ∧
          t.regF (pa P.HEALTH H.ERRLAST) 7 0 = 0x40)) ∧
    (s.stbyRole = true → fld s.partCfg 8 4 ≠ 0 → 3600 * fld s.partCfg 8 4 ≤ s.regN R.PFC_INJ_AGE_S →
      s.halted = false → s.regF R.PFC_INJ_STAT 1 0 ≠ 3 →
      ∃ t, exec .standbyInjTest s = .next t ∧ t.regF R.PFC_INJ_STAT 1 0 = 3 ∧ t.regF R.PFC_SAFE_OFF_STAT 3 0 = 15) ∧
    (∀ (iss : Issuer) (arg : BitVec 16),
      (s.accepts ⟨P.PART, 0x10, iss⟩ → withdrawGate arg.toNat s = none → ∃ t, exec (.withdraw iss arg) s = .next t ∧
        t.working ⟨P.PART, 0x10, iss⟩ ∧ t = { s with regs := t.regs, shown := t.shown, time := t.time,
                                                       part := { s.part with withdrawing := true } }) ∧
      (s.accepts ⟨P.PART, 0x11, iss⟩ → arg = 0x7A1C → takeoverGate s = none → ∃ t, exec (.takeover iss arg) s = .next t ∧
        t.ended P.PART ∧ t.role = roleTaking ∧ t.regF R.PART_STAT 27 24 = 5 ∧ t.part.held = true ∧
        t.baton.restoring = some (2, s.now)) ∧
      (s.accepts ⟨P.PART, 0x12, iss⟩ → s.halted = false → s.role = roleActive ∨ s.role = roleSingle →
        ∃ t, exec (.resyncMirror iss arg) s = .next t ∧ t.ended P.PART ∧
          (s.regB R.PART_STAT 10 = true → .mirror 0 0xA80000 ∈ t.sent) ∧ s.movesOnly t P.PART [])) ∧
    (∀ (plv jfmt : BitVec 4) (node : BitVec 10) (slot : BitVec 3),
      (∃ t, exec (.partnerLinkChange true plv jfmt node slot) s = .next t ∧ t.regB R.PART_STAT 10 = true ∧
        t.regB R.BATON_STAT 9 = true ∧ t.regF R.PART_STAT 19 16 = min 2 plv.toNat ∧
        t.regF R.PART_STAT 23 20 = min 2 jfmt.toNat ∧ t.part.peerNode = node.toNat ∧
        (s.stbyRole = true → t.part.copying = true)) ∧
      (∃ t, exec (.partnerLinkChange false plv jfmt node slot) s = .next t ∧ t.regB R.PART_STAT 10 = false ∧
        t.regB R.BATON_STAT 9 = false ∧ t.part.copied = false ∧ t.part.negotiated = false)) ∧
    (bitOf s.partCfg 2 = true → s.hears s.part.hbLink ≠ s.hears s.part.hbGrd → ∃ t, exec .pathDegraded s = .next t ∧
      t.regB R.PART_STAT 13 = true ∧ t = { s with regs := t.regs } ∧ s.regsMove t [R.PART_STAT]) ∧
    (∀ r, s.part.reportTick = some r → r + 100000 ≤ s.now → ∃ t, exec .partnerReportTimeout s = .next t ∧
      t.regB R.PART_STAT 11 = false ∧ t.part = { s.part with partnerArmed := false } ∧
      t = { s with regs := t.regs, part := t.part } ∧ s.regsMove t [R.PART_STAT]) ∧
    (s.role = roleActive ∨ s.role = roleSingle → s.regB R.PART_STAT 10 = true →
      ∃ t, exec .mirrorCopyRequest s = .next t ∧ t = { s with sent := .mirror 0 0xA80000 :: s.sent })

/-- Events and commands of BAR2, HOST, PCIE, ETH and SHP. -/
def Obligations.HostsAndLinks : Prop :=
  ∀ s : State, s.regsOk →
    (∀ (n : Fin 2) (off : BitVec 23) (bs : List Byte), bs ≠ [] →
      (s.mayStore n off.toNat bs.length = true → s.poisoned off.toNat bs.length = false →
        hostOverlap off.toNat bs.length (hostBase n + offRearm) 4 = false →
        ∃ t, exec (.bar2Write n off bs) s = .next t ∧
          t = { s with regs := t.regs, mems := t.mems, sent := t.sent, shp := t.shp } ∧
          (∀ i, i < bs.length → Memory.read t.mems.comms (off.toNat + i) = getAt 0 bs i) ∧
          (∀ a, a < off.toNat ∨ off.toNat + bs.length ≤ a → Memory.read t.mems.comms a = Memory.read s.mems.comms a) ∧
          s.regsMove t [R.HOST_STAT, R.PCIE_STAT]) ∧
      (s.mayStore n off.toNat bs.length = false → ∃ t, exec (.bar2Write n off bs) s = .next t ∧ t.mems = s.mems ∧
        t.reg R.HOST_REGION_REJ_CNT = satInc (s.reg R.HOST_REGION_REJ_CNT) ∧ t.raw P.HOST 10 = true ∧
        t.regF (pa P.HOST H.ERRLAST) 7 0 = 0x40 ∧ t.regF (pa P.HOST H.ERRLAST) 20 18 = n.val)) ∧
    (∀ (n : Fin 4) (v : Word), s.mayStore n (hostBase n + offCommit) 4 = true →
      s.poisoned (hostBase n + offCommit) 4 = false → let b := v.toNat / 2 ^ 16 % 64; let len := v.toNat % 1024
      (v.getLsbD 31 = false → ∃ t, exec (.hostCommit n v) s = .next t ∧ t.commitWord n = v.toNat ∧ t.exec = s.exec) ∧
      (v.getLsbD 31 = true →
        (∀ x, (s.binds.find? fun x => x.kind == 2 && x.page == P.HOST && x.chan == hostChan n b) = some x →
          (len ≤ x.size - 16 → len + 16 ≤ 0x400 → b < 55 → ∃ t, exec (.hostCommit n v) s = .next t ∧
            t.commitWord n = v.toNat % 2 ^ 24 ∧
            t.reg (R.HOST_COMMIT_CNT + 4 * n) = satInc (s.reg (R.HOST_COMMIT_CNT + 4 * n)) ∧
            (t.block P.HOST (hostChan n b)).back = some (s.comms (hostBase n + 0x400 * b + 0x10) len, s.now,
              nextSeq (s.block P.HOST (hostChan n b)), b2n (s.poisoned (hostBase n + 0x400 * b + 0x10) len))) ∧
          (x.size - 16 < len → ∃ t, exec (.hostCommit n v) s = .next t ∧
            t.commitWord n = v.toNat % 2 ^ 24 + cLength * 2 ^ 24 ∧ t.exec = s.exec)) ∧
        ((s.binds.find? fun x => x.kind == 2 && x.page == P.HOST && x.chan == hostChan n b) = none →
          ∃ t, exec (.hostCommit n v) s = .next t ∧ t.commitWord n = v.toNat % 2 ^ 24 + cRange * 2 ^ 24 ∧
            t.exec = s.exec))) ∧
    (∀ n : Fin 4, (n.val < 2 → s.hostUp n = true →
        (s.summary n = false → ∃ t, exec (.irqRearm n) s = .next t ∧ t.armed n = true ∧
          t.regB R.PCIE_STAT (8 * n + 4) = false ∧
          (s.regB R.PCIE_STAT (8 * n + 4) = true → t.sent = .inta n false :: s.sent) ∧
          t = { s with regs := t.regs, sent := t.sent } ∧ s.regsMove t [R.HOST_STAT, R.PCIE_STAT]) ∧
        (s.summary n = true → s.regB R.PCIE_STAT (8 * n + 3) = true → ∃ t, exec (.irqRearm n) s = .next t ∧
          t.armed n = false ∧ t.sent = .msi n :: s.sent ∧ t = { s with regs := t.regs, sent := t.sent } ∧
          s.regsMove t [R.HOST_STAT])) ∧
      (∀ x, 2 ≤ n.val → s.session (n.val - 2) = some x →
        (s.summary n = false ∨ x.ver ≠ 2 → ∃ t, exec (.irqRearm n) s = .next t ∧ t.armed n = true ∧
          t.session (n.val - 2) = some { x with evtSent := none, evtDue := false } ∧ t.sent = s.sent ∧
          s.regsMove t [R.HOST_STAT]) ∧
        (s.summary n = true → x.ver = 2 → ∃ t msg, exec (.irqRearm n) s = .next t ∧ t.armed n = false ∧
          t.sent = .shp x.eth (n.val - 2) 0x20 (x.events + 1) msg :: s.sent ∧
          t.session (n.val - 2) = some { x with events := x.events + 1, evtDue := false, evtSent := some s.now }))) ∧
    (∀ (e : Fin 2) (rate : BitVec 2) (msi : Bool),
      (s.epOn e = true → s.hostUp e = false → ∃ t, exec (.pcieLinkUp e rate msi) s = .next t ∧ t.hostUp e = true ∧
        t.regF R.PCIE_STAT (8 * e + 3) (8 * e) = 1 + 2 * rate.toNat + 8 * b2n msi ∧ t.raw P.PCIE 8 = true ∧
        t.raw P.HOST 8 = true) ∧
      (s.hostUp e = true → ∃ t, exec (.pcieLinkReset e) s = .next t ∧ t.hostUp e = false ∧ t.armed e = false ∧
        t.regF R.PCIE_STAT (8 * e + 7) (8 * e) = 0 ∧ t.raw P.PCIE 8 = true ∧ t.raw P.HOST 9 = true ∧
        t.reg ((if e.val = 0 then R.PCIE_EP0_CNT else R.PCIE_EP1_CNT) + 16)
          = satInc (s.reg ((if e.val = 0 then R.PCIE_EP0_CNT else R.PCIE_EP1_CNT) + 16)))) ∧
    (∀ (p : Fin 2) (up : Bool), s.regB (ethA p R.ETH_STAT) 0 ≠ up → (up = true → s.en (P.ETH + p) = true) →
      ∃ t, exec (.ethLinkChange p up) s = .next t ∧ t.regB (ethA p R.ETH_STAT) 0 = up ∧ t.raw (P.ETH + p) 8 = true ∧
        (s.pgState (P.ETH + p) ≠ stFault → t.pgState (P.ETH + p) =
          if s.en (P.ETH + p) = false then stOff else if up = true then stActive else stReady) ∧
        (up = false → t.reg (ethA p R.ETH_LINK_DOWN_CNT) = satInc (s.reg (ethA p R.ETH_LINK_DOWN_CNT)) ∧
          ∀ j x, j < 2 → s.session j = some x → x.eth = p.val → t.session j = none ∧ t.hostUp (2 + j) = false)) ∧
    (∀ (p : Fin 2) (bs : List Byte) (r : BootReport), s.en (P.ETH + p) = true → s.regB (ethA p R.ETH_STAT) 0 = true →
      (∃ t, exec (.ethFrame p false bs r) s = .next t ∧
        t.reg (ethA p R.ETH_RX_FRM_CNT) = satInc (s.reg (ethA p R.ETH_RX_FRM_CNT)) ∧
        t.reg (ethA p R.ETH_RX_DROP_CNT) = satInc (s.reg (ethA p R.ETH_RX_DROP_CNT)) ∧ t = { s with regs := t.regs } ∧
        s.regsMove t [ethA p R.ETH_RX_FRM_CNT, ethA p R.ETH_RX_DROP_CNT]) ∧
      (s.ethServes p = true → netN bs 0 6 = s.mac p ∨ netN bs 0 6 = 0xFFFFFFFFFFFF → netN bs 12 2 = 0x0806 →
        42 ≤ bs.length → netN bs 14 8 = 0x0001080006040001 → netN bs 38 4 = s.ethIp p →
        ∃ t, exec (.ethFrame p true bs r) s = .next t ∧
          t.sent = .eth p ((bs.drop 22).take 6 ++ beBytes 6 (s.mac p) ++ beBytes 2 0x0806
            ++ beBytes 8 0x0001080006040002 ++ beBytes 6 (s.mac p) ++ beBytes 4 (s.ethIp p) ++ (bs.drop 22).take 10) ::
            s.sent ∧ t = { s with regs := t.regs, sent := t.sent } ∧
          s.regsMove t [ethA p R.ETH_RX_FRM_CNT, ethA p R.ETH_TX_FRM_CNT])) ∧
    (∀ (iss : Issuer) (arg : BitVec 16), s.accepts ⟨P.SHP, 0x10, iss⟩ → (s.session (arg.toNat % 2)).isSome = true →
      ∃ t, exec (.shpClose iss arg) s = .next t ∧ t.ended P.SHP ∧ t.session (arg.toNat % 2) = none ∧
        t.hostUp (2 + arg.toNat % 2) = false) ∧
    (∀ (iss : Issuer) (arg : BitVec 16), s.accepts ⟨P.HOST, 0x10, iss⟩ → s.mgmt = issuerCode iss →
      ∃ t, exec (.drop iss arg) s = .next t ∧ t.ended P.HOST ∧
        ∀ p ∈ pageList, s.populated p = true →
          t.owner p = if s.owner p = arg.toNat % 4 then 7 else s.owner p)

/-- The messages of SHP and the events of its sessions. -/
def Obligations.EthernetSessions : Prop :=
  ∀ s : State, s.regsOk → s.shp.sess.length = 2 →
    (∀ (h : ShpHead) (nonce key : List Byte), s.shpHears h → nonce.length = 16 → h.ver.toNat ≠ 0 →
      getAt none s.shp.keys (shpSlot h) = some key →
      (hmac key (shpHeadBytes h 0x01 16 ++ nonce) = h.tag → ∃ t x nd rest, exec (.hello h nonce) s = .next t ∧
        t.session (shpSlot h) = some x ∧ x.ver = min h.ver.toNat 2 ∧ x.ip = h.ip ∧ x.port = h.port.toNat ∧
        x.eth = h.eth.val ∧ x.seq = 0 ∧ x.cache = [] ∧ x.events = 0 ∧ nd.length = 16 ∧
        x.key = hmac key (nonce ++ nd ++ leBytes 4 x.id.toNat ++ [BitVec.ofNat 8 x.ver]) ∧ x.id ≠ 0 ∧
        t.hostUp (2 + shpSlot h) = true ∧ t.regF R.SHP_STAT (2 * shpSlot h + 1) (2 * shpSlot h) = x.ver ∧
        t.reg R.SHP_HELLO_CNT = satInc (s.reg R.SHP_HELLO_CNT) ∧
        t.sent = .shp h.eth (shpSlot h) 0x81 h.seq.toNat
          (shpBytes x.key x.ver 0x81 x.id h.seq.toNat (h.host.toNat % 4) (leBytes 4 cDone ++ nd)) :: rest) ∧
      (hmac key (shpHeadBytes h 0x01 16 ++ nonce) ≠ h.tag → h.tag.length = 32 →
        ∃ t, exec (.hello h nonce) s = .next t ∧ t.reg R.SHP_AUTH_FAIL_CNT = satInc (s.reg R.SHP_AUTH_FAIL_CNT) ∧
          t.raw P.SHP 9 = true ∧ t.regF (pa P.SHP H.ERRLAST) 7 0 = 0x40)) ∧
    (∀ (h : ShpHead) (x : Session) (off n : Word),
      (s.shpTakes h 0x10 (leBytes 4 off.toNat ++ leBytes 4 n.toNat) x → off.toNat % 4 = 0 → 1 ≤ n.toNat →
        n.toNat ≤ 256 → off.toNat + 4 * n.toNat ≤ 2 ^ 20 → ∃ t u, exec (.read h off n) s = .next t ∧ s.shpBooked u h x ∧
          let (data, v) := readWords (issuerOf (h.host.toNat % 4)) n.toNat off.toNat u
          v.shpAnswers t h 0x10 x (statusWord cDone 0 n.toNat ++ data)) ∧
      (s.shpTakes h 0x12 (leBytes 4 off.toNat ++ leBytes 4 n.toNat) x → memRangeOk off.toNat n.toNat = true →
        ∃ t u, exec (.memRead h off n) s = .next t ∧ s.shpBooked u h x ∧
          let m := min n.toNat (0x200000 - off.toNat)
          (commsRead 3 off.toNat m u).shpAnswers t h 0x12 x
            (if s.poisoned off.toNat m then statusWord cIntegrity 0 0 else statusWord cDone 0 1 ++ (List.range n.toNat).map fun i => s.bar2 (off.toNat + i))) ∧
      (∀ bs : List Byte, s.shpTakes h 0x13 (leBytes 4 off.toNat ++ leBytes 4 n.toNat ++ bs) x → bs.length = n.toNat →
        memRangeOk off.toNat n.toNat = true → s.mayStore (h.host.toNat % 4) off.toNat n.toNat = true →
        s.poisoned off.toNat n.toNat = false →
        hostOverlap off.toNat n.toNat (hostBase (h.host.toNat % 4) + offRearm) 4 = false →
        ∃ t u, exec (.memWrite h off n bs) s = .next t ∧ s.shpBooked u h x ∧
          (hostStore (h.host.toNat % 4) off.toNat bs u).shpAnswers t h 0x13 x (statusWord cDone 0 1) ∧
          (∀ i, i < bs.length → Memory.read t.mems.comms (off.toNat + i) = getAt 0 bs i) ∧
          ∀ a, a < off.toNat ∨ off.toNat + bs.length ≤ a → Memory.read t.mems.comms a = Memory.read s.mems.comms a)) ∧
    (∀ (h : ShpHead) (x : Session) (pairs : List (Word × Word)) (r : BootReport),
      s.shpTakes h 0x11 (pairs.flatMap fun q => leBytes 4 q.1.toNat ++ leBytes 4 q.2.toNat) x → pairs ≠ [] →
      pairs.length ≤ 128 → ∃ t u, exec (.write h pairs r) s = .next t ∧ s.shpBooked u h x ∧
        let (body, v) := shpWrite r (issuerOf (h.host.toNat % 4)) (shpSlot h) pairs 0 u
        v.shpAnswers t h 0x11 x body) ∧
    (∀ (h : ShpHead) (x : Session),
      (s.shpTakes h 0x14 [] x → x.ver = 2 → s.summary (h.host.toNat % 4) = false →
        ∃ t y, exec (.evtAck h) s = .next t ∧ t.armed (h.host.toNat % 4) = true ∧ t.session (shpSlot h) = some y ∧
          y.evtSent = none ∧ y.seq = h.seq.toNat ∧ y.lastReq = s.now ∧
          t.sent = .shp x.eth (shpSlot h) 0x94 h.seq.toNat
            (shpBytes x.key x.ver 0x94 x.id h.seq.toNat (h.host.toNat % 4) (statusWord cDone 0 0)) :: s.sent) ∧
      (s.shpTakes h 0x15 [] x → ∃ t rest, exec (.close h) s = .next t ∧ t.session (shpSlot h) = none ∧
        t.hostUp (2 + shpSlot h) = false ∧ t.raw P.SHP 8 = true ∧ t.raw P.HOST 9 = true ∧
        t.sent = .shp x.eth (shpSlot h) 0x95 h.seq.toNat
          (shpBytes x.key x.ver 0x95 x.id h.seq.toNat (h.host.toNat % 4) (statusWord cDone 0 0)) :: rest)) ∧
    (∀ (j : Fin 2) (x : Session), s.session j = some x →
      (x.evtDue = true → ∃ t msg, exec (.shpEvent j) s = .next t ∧ t.armed (2 + j) = false ∧
        t.sent = .shp x.eth j 0x20 (x.events + 1) msg :: s.sent ∧
        t.reg (sessA j R.SHP_EVT_CNT) = satInc (s.reg (sessA j R.SHP_EVT_CNT)) ∧
        t.session j = some { x with events := x.events + 1, evtDue := false, evtSent := some s.now }) ∧
      (∀ t0, x.evtSent = some t0 → t0 + 100000 ≤ s.now → ∃ t msg, exec (.shpEventRepeat j) s = .next t ∧
        t.sent = .shp x.eth j 0x20 x.events msg :: s.sent ∧
        t.session j = some { x with evtSent := some s.now } ∧ s.regsMove t [ethA x.eth R.ETH_TX_FRM_CNT]) ∧
      (x.lastReq + s.sessTimeout ≤ s.now → ∃ t, exec (.sessionTimeout j) s = .next t ∧ t.session j = none ∧
        t.hostUp (2 + j) = false ∧ t.regF R.SHP_STAT (2 * j + 1) (2 * j) = 0 ∧ t.raw P.SHP 8 = true))

/-- Events and commands of BOOT and UPD. -/
def Obligations.BootAndUpdate : Prop :=
  ∀ s : State, s.Inv →
    (∀ r : BootReport, s.boot.powered = false → ∃ t, exec (.powerUp r) s = .next t ∧ t.boot.powered = true ∧
      t.reg R.BOOT_CNT = satInc (s.reg R.BOOT_CNT) ∧ t.regN R.REC_PWR_CYCLES = (s.life.cycSaved.toNat + 1) % 2 ^ 32 ∧
      t.now = 0 ∧ t.time.sec = 0 ∧ t.time.ns = 0 ∧
      (s.fuseCrcOk = false → t.bootStopped bootFuse) ∧
      (s.fuseCrcOk = true → r.kat ≠ 0xF → t.bootStopped bootKat) ∧
      (s.fuseCrcOk = true → r.kat = 0xF → s.regB R.BOOT_CFG 0 = false → injFirstFail r.inj = none → s.boot.op = none →
        (∃ u, t = bootImages r u ∧ u.boot.flash = s.boot.flash ∧ u.boot.headers = s.boot.headers ∧
          ∀ k, k < 6 → u.slotState k = s.slotState k ∧ u.slotPreferred k = s.slotPreferred k) ∧
        ((∀ k, k < 2 → s.slotState k ≠ slotTrial ∧ s.slotState k ≠ slotConfirmed) → t.bootStopped bootNoConfig) ∧
        (t.boot.recovery = false → t.baton.restoring = some (1, t.now) ∧ t.regF R.BOOT_STAT 7 4 = 7))) ∧
    (∀ r : BootReport, s.boot.powered = true →
      (∃ t, exec (.resetIn r) s = .next t ∧ s.restarted t false) ∧
      (s.regB R.BATON_STAT 10 = true → ∃ t, exec (.powerUp r) s = .next t ∧
        ({ s with boot := { s.boot with charged := true } } : State).restarted t s.vinFell) ∧
      (∀ (iss : Issuer) (arg : BitVec 16), s.accepts ⟨P.BOOT, 0x10, iss⟩ → arg = 0x8E57 →
        (s.halted = true ∨ s.standby = true ∨ s.active = false →
          ∃ t, exec (.bootRestart iss arg r) s = .next t ∧ s.restarted t false) ∧
        (s.halted = false → s.standby = false → s.active = true →
          ∃ t, exec (.bootRestart iss arg r) s = .next t ∧ t.rejected P.BOOT cState ∧ t.boot = s.boot))) ∧
    (s.boot.op = none → ∃ t, exec .powerLoss s = .next t ∧ t.boot.powered = false ∧ t.fuses = s.fuses ∧
      t.baton.mram = s.baton.mram ∧ t.boot.flash = s.boot.flash ∧ t.boot.headers = s.boot.headers ∧
      t.life.saved = s.life.saved ∧ t.life.log = s.life.log ∧ t.mems = State.reset.mems ∧ t.lanes = State.reset.lanes ∧
      (∀ a, a ∉ nvRegs → t.reg a = regReset a) ∧
      (∀ a ∈ nvRegs, a ∉ (List.range 6).map slotA → a ∉ [R.REC_OP_SEC_LO, R.REC_OP_SEC_HI, R.REC_PWR_CYCLES] →
        t.reg a = s.reg a) ∧
      t.opSec = s.life.secSaved % 2 ^ 40 ∧ t.reg R.REC_PWR_CYCLES = s.life.cycSaved ∧
      ∀ k, k < 6 → t.slotState k = s.slotState k ∧ t.slotSelected k = false) ∧
    (s.boot.powered = true →
      (s.boot.waiting = false → exec .holdupCharged s = .next { s with boot := { s.boot with charged := true } }) ∧
      (s.boot.waiting = true → ∃ t, exec .holdupCharged s = .next t ∧ t.boot.waiting = false ∧ t.boot.charged = true ∧
        t.boot.outputsHeld = true ∧ t.regF R.BOOT_STAT 3 0 = 1 ∧ t.regF R.BOOT_STAT 7 4 = 9)) ∧
    (∀ (iss : Issuer) (arg : BitVec 16), s.halted = false → s.updServes = true →
      (s.accepts ⟨P.UPD, 0x10, iss⟩ → 1 ≤ arg.toNat → arg.toNat ≤ 32 → ∃ t, exec (.erase iss arg) s = .next t ∧
        t.working ⟨P.UPD, 0x10, iss⟩ ∧ t.boot = { s.boot with op := some (0x10, arg.toNat, 0, s.now) } ∧
        t.regF R.UPD_STAT 3 0 = 1 ∧ t.regF R.UPD_STAT 31 24 = 0) ∧
      (s.accepts ⟨P.UPD, 0x11, iss⟩ → chunkGate iss s = none → ∃ t, exec (.chunk iss arg) s = .next t ∧
        t.working ⟨P.UPD, 0x11, iss⟩ ∧ t.boot = { s.boot with op := some (0x11, issuerCode iss, 0, s.now) }) ∧
      (s.accepts ⟨P.UPD, 0x12, iss⟩ → s.slotBusy = false → ∃ t, exec (.install iss arg) s = .next t ∧
        t.working ⟨P.UPD, 0x12, iss⟩ ∧ t.boot = { s.boot with op := some (0x12, 0, 0, s.now) } ∧
        t.regF R.UPD_STAT 3 0 = 2) ∧
      (s.accepts ⟨P.UPD, 0x12, iss⟩ → s.slotBusy = true → ∃ t, exec (.install iss arg) s = .next t ∧
        t.rejected P.UPD cState ∧ t.regF R.UPD_STAT 23 16 = kSlotBusy ∧ t.boot = s.boot) ∧
      (∀ j, s.accepts ⟨P.UPD, 0x13, iss⟩ → activateGate arg.toNat s = none → s.installedOf (arg.toNat % 4) = some j →
        ∃ t, exec (.activate iss arg) s = .next t ∧ t.ended P.UPD ∧ t.slotState j = slotTrial ∧
          t.slotPreferred j = true ∧ t.regF (slotA j) 11 8 = s.regF R.UPD_CFG 17 16 ∧ t.regN R.UPD_TRIAL_RUN_S = 0 ∧
          t.regF R.UPD_STAT 3 0 = 4 ∧ t.regF R.UPD_STAT 9 8 = arg.toNat % 4 ∧
          (∀ i ∈ kindSlots (arg.toNat % 4), i ≠ j → t.slotPreferred i = false ∧ t.slotState i = s.slotState i)) ∧
      (∀ j, s.accepts ⟨P.UPD, 0x14, iss⟩ → s.installedSlot = some j → ∃ t, exec (.abandon iss arg) s = .next t ∧
        t.ended P.UPD ∧ t.slotState j = slotBad ∧ t.regF R.UPD_STAT 3 0 = 0 ∧
        ∀ i, i < 6 → i ≠ j → t.slotState i = s.slotState i)) ∧
    (∀ (us : Nat) (c : Opened) (op a b t0 : Nat), s.boot.op = some (op, a, b, t0) →
      (op = 0x10 → ∃ t, exec (.updOperationEnd false false us c) s = .next t ∧ t.ended P.UPD ∧ t.boot.op = none ∧
        t.boot.erased = max s.boot.erased (a * 0x100000) ∧
        ((∀ r ∈ s.boot.written, r.2 ≤ a * 0x100000) → t.regN R.UPD_STG_BYTES = 0) ∧ t.regF R.UPD_STAT 31 24 = 100 ∧
        (∀ i, i < a * 0x100000 → Memory.read t.boot.staging i = 0) ∧
        ∀ i, a * 0x100000 ≤ i → Memory.read t.boot.staging i = Memory.read s.boot.staging i) ∧
      (op = 0x11 → let o := s.regN R.UPD_STG_OFFSET; let n := s.regN R.UPD_STG_LEN
        s.poisoned (hostBase a + s.regN R.UPD_STG_SRC) n = false → o + n < 2 ^ 32 →
        ∃ t, exec (.updOperationEnd false false us c) s = .next t ∧ t.ended P.UPD ∧ t.boot.op = none ∧
          Memory.readN t.boot.staging o n = s.comms (hostBase a + s.regN R.UPD_STG_SRC) n ∧
          t.regN R.UPD_STG_BYTES = max (s.regN R.UPD_STG_BYTES) (o + n) ∧
          ∀ i, i < o ∨ o + n ≤ i → Memory.read t.boot.staging i = Memory.read s.boot.staging i) ∧
      (op = 0x10 ∨ op = 0x11 → ∃ t, exec (.updOperationEnd true false us c) s = .next t ∧
        t.code P.UPD = cTimeout ∧ t.raw P.UPD 0 = true ∧ t.boot = { s.boot with op := none } ∧
        t.regF (pa P.UPD H.ERRLAST) 7 0 = 0x40) ∧
      (op = 0x12 → s.installSlot.any s.slotNamed = true →
        ∃ t, exec (.updOperationEnd false false us c) s = .next t ∧ t.code P.UPD = cState ∧
          t.regF R.UPD_STAT 23 16 = kSlotBusy ∧ t.boot = { s.boot with op := none } ∧
          ∀ k, k < 6 → t.slotState k = s.slotState k) ∧
      (op = 0x12 → s.installSlot.any s.slotNamed = false →
        (∀ f, checkStaged s.updKinds s.boot.recovery c s = .fail f → f < 256 →
          ∃ t, exec (.updOperationEnd false false us c) s = .next t ∧ t.code P.UPD = failStatus f ∧
            t.regF R.UPD_STAT 23 16 = f ∧ t.regF R.UPD_STAT 3 0 = 1 ∧ t.boot = { s.boot with op := none } ∧
            (∀ k, k < 6 → t.slotState k = s.slotState k) ∧ t.reg R.UPD_INSTALL_CNT = s.reg R.UPD_INSTALL_CNT) ∧
        (∀ h plain k, checkStaged s.updKinds s.boot.recovery c s = .ok h plain → k = s.inactiveSlot (hdrKind h) →
          k < 6 → s.boot.flash.length = 6 → s.boot.headers.length = 6 →
          ∃ t, exec (.updOperationEnd false false us c) s = .next t ∧ t.ended P.UPD ∧ t.slotState k = slotInstalled ∧
            t.slotImage k = plain ∧ t.slotHeader k = h ∧ t.regF R.UPD_STAT 3 0 = 3 ∧ t.raw P.UPD 8 = true ∧
            t.reg R.UPD_INSTALL_CNT = satInc (s.reg R.UPD_INSTALL_CNT) ∧
            ∀ i, i < 6 → i ≠ k → t.slotState i = s.slotState i ∧ t.slotImage i = s.slotImage i))) ∧
    (∀ (iss : Issuer) (v : Word), s.populated P.UPD = true → s.mayWrite P.UPD iss = true →
      (∀ k, v = 0x48434F4E → s.halted = false → s.boot.recovery = false → s.trialInUse = some k →
        ∃ t, exec (.healthConfirm iss v) s = .next t ∧ t.slotState k = slotConfirmed ∧ t.raw P.UPD 9 = true ∧
          t.raw P.BOOT 8 = true ∧ (s.boot.op = none → t.regF R.UPD_STAT 3 0 = 0) ∧ t.regF (slotA k) 11 8 = 0) ∧
      (v ≠ 0x48434F4E → ∃ t, exec (.healthConfirm iss v) s = .next t ∧ t.regF (pa P.UPD H.ERRLAST) 7 0 = cRange ∧
        t.boot = s.boot ∧ ∀ k, k < 6 → t.slotState k = s.slotState k)) ∧
    (∀ (k : Nat) (r : BootReport), s.trialSlot = some k → s.trialWin ≤ s.regN R.UPD_TRIAL_RUN_S →
      (4 ≤ k → s.swapState = swTrial → ∃ t, exec (.trialWinExpired r) s = .next t ∧ t.slotState k = slotBad ∧
        t.regF (slotA k) 31 24 = 0x11 ∧ t.swapState = swReverting ∧ t.regF R.SWAP_STAT 15 12 = 1 ∧
        t.reg R.UPD_FALLBACK_CNT = satInc (s.reg R.UPD_FALLBACK_CNT)) ∧
      (k < 4 ∨ s.swapState ≠ swTrial →
        (s.part.partnerArmed = false ∨ s.role ≠ roleActive → ∃ t, exec (.trialWinExpired r) s = .next t ∧
          t.slotState k = slotBad ∧ t.regF (slotA k) 31 24 = 0x11 ∧ t.boot = { s.boot with restartDue := some r } ∧
          t.reg R.UPD_FALLBACK_CNT = satInc (s.reg R.UPD_FALLBACK_CNT)) ∧
        (s.part.partnerArmed = true → s.role = roleActive → ∃ t, exec (.trialWinExpired r) s = .next t ∧
          t.reg R.BOOT_CNT = satInc (s.reg R.BOOT_CNT) ∧ .withdraw 1 (s.reg64 R.BATON_COMMIT_SEQ_LO) ∈ t.sent)))

/-- Events and commands of REC and ENV. -/
def Obligations.RecorderAndMonitors : Prop :=
  ∀ s : State, s.Inv →
    (∀ ok : Bool, s.boot.powered = true → ∃ t, exec (.operatingSecond ok) s = .next t ∧
      t.opSec = (s.opSec + 1) % 2 ^ 40 ∧
      (s.halted = true ∨ s.isReleased = false →
        t.life = { s.life with secSaved := t.life.secSaved, cycSaved := t.life.cycSaved }) ∧
      ((s.opSec + 1) % 60 = 0 → t.life.secSaved = t.opSec ∧ t.life.cycSaved = s.reg R.REC_PWR_CYCLES) ∧
      (s.halted = false → s.isReleased = true → (s.opSec + 1) % 2 ^ 40 < s.recCloseAt →
        t.life.live.counts = s.life.tally ∧ t.life.margin = none ∧ t.life.live.openAt = s.life.live.openAt ∧
        t.life.tally = s.life.tally ∧ (s.life.live.bins.length = 64 → ∀ i, i < 64 →
          getAt 0 t.life.live.bins i = getAt 0 s.life.live.bins i + b2n (s.life.hits i))) ∧
      (s.halted = false → s.isReleased = true → s.recCloseAt ≤ (s.opSec + 1) % 2 ^ 40 →
        t.life.live = recordOpen t.opSec s.recInterval ∧
        (ok = true → s.life.unwritten = [] → s.regB R.REC_STAT 16 = false → s.recCount < 4096 →
          t.recCount = s.recCount + 1 ∧ t.life.unwritten = [] ∧ t.raw P.REC 8 = true ∧
          Memory.readN t.baton.mram (recBase + 512 * s.recCount) 16 = leBytes 4 0x52564352
            ++ leBytes 4 (1 + 2 ^ 16 * s.recCount) ++ leBytes 4 (s.regN R.REC_EPOCH)
            ++ leBytes 4 (s.regN R.REC_PWR_CYCLES)) ∧
        (ok = true → s.life.unwritten = [] → s.regB R.REC_STAT 16 = true →
          t.recCount = s.recCount ∧ t.reg R.REC_SKIP_CNT = satInc (s.reg R.REC_SKIP_CNT)))) ∧
    (s.halted = false → s.life.unwritten = [] →
      exec (.openRecordWrite true) s = .next { s with life := { s.life with saved := s.life.live } } ∧
      ∃ t, exec (.openRecordWrite false) s = .next t ∧ t.life.saved = s.life.saved ∧
        t.regF (pa P.REC H.ERRLAST) 7 0 = 0x40) ∧
    (∀ r rs, s.reports = r :: rs → s.halted = false → s.boot.recovery = false → s.life.drainedAt + 50 ≤ s.now →
      ∃ t, exec .reportDrain s = .next t ∧
      t.reports = rs ∧ mapGet t.life.log (s.regF R.REC_LOG_HEAD 11 0) = some r ∧
      t.regF R.REC_LOG_HEAD 11 0 = (s.regF R.REC_LOG_HEAD 11 0 + 1) % 4096 ∧ t.regF R.REC_QUEUE_STAT 8 0 = rs.length ∧
      t = { s with regs := t.regs, reports := t.reports, life := { s.life with log := t.life.log, drainedAt := s.now } } ∧
      s.regsMove t [R.REC_QUEUE_STAT, R.REC_LOG_HEAD, R.REC_LOG_WRAPS]) ∧
    (∀ (iss : Issuer) (arg : BitVec 16), s.accepts ⟨P.REC, 0x10, iss⟩ →
      (arg.toNat = s.recCount → ∃ t, exec (.archived iss arg) s = .next t ∧ t.ended P.REC ∧ t.recCount = 0 ∧
        t.regB R.REC_STAT 16 = false ∧ t.regN R.REC_EPOCH = (s.regN R.REC_EPOCH + 1) % 2 ^ 32) ∧
      (arg.toNat ≠ s.recCount → ∃ t, exec (.archived iss arg) s = .next t ∧ t.rejected P.REC cState ∧
        t.reg R.REC_STAT = s.reg R.REC_STAT ∧ t.reg R.REC_EPOCH = s.reg R.REC_EPOCH)) ∧
    (∀ vin vhold board junc : BitVec 16, ∃ t, exec (.envSample vin vhold board junc) s = .next t ∧
      t.regN R.ENV_VIN = vin.toNat ∧ t.regN R.ENV_VHOLD = vhold.toNat ∧ t.regN R.ENV_BOARD_T = board.toNat ∧
      t.regN R.ENV_JUNC_T = junc.toNat ∧ t.life.sample = some (vin.toInt, board.toInt, junc.toInt) ∧
      toSigned 16 (t.regN R.ENV_VIN_MIN) = min (toSigned 16 (s.regN R.ENV_VIN_MIN)) vin.toInt ∧
      toSigned 16 (t.regN R.ENV_VIN_MAX) = max (toSigned 16 (s.regN R.ENV_VIN_MAX)) vin.toInt ∧
      toSigned 16 (t.regN R.ENV_JUNC_T_MAX) = max (toSigned 16 (s.regN R.ENV_JUNC_T_MAX)) junc.toInt ∧
      (let lo := toSigned 16 (fld (s.envLimit R.ENV_VIN_WARN) 15 0)
       t.regB R.ENV_STAT 1 = (if s.regB R.ENV_STAT 1 then !decide (lo + 2 ≤ vin.toInt) else decide (vin.toInt < lo))) ∧
      (let hi := toSigned 16 (fld (s.envLimit R.ENV_TEMP_WARN) 31 16)
       t.regB R.ENV_STAT 4 = (if s.regB R.ENV_STAT 4 then !decide (junc.toInt ≤ hi - 16) else decide (hi ≤ junc.toInt)) ∧
       (s.regB R.ENV_STAT 4 = false → hi ≤ junc.toInt → t.raw P.ENV 9 = true)))
end

