-- ==== Sys2Proof/Laws/Closed.lean ====
section
/-!
SUPPORT. What a meaning can do to the state, said once: every operation of the model is a chain of the primitive writes
below, so a property that is closed under them is kept by every operation. One lemma per operation follows in the
Closed files, named after the operation; `Laws/Kept.lean` instantiates them for the queue, the fuses and `State.Inv`.
-/
set_option Elab.async false
set_option linter.all false
namespace Sys2Proof.Machine

/-- Fuse bits only rise (R468). -/
def Boot.fusesUpTo (a b : Boot) : Prop :=
  ∀ i, (bitOf a.fuse0 i = true → bitOf b.fuse0 i = true) ∧ (bitOf a.fuse1 i = true → bitOf b.fuse1 i = true) ∧
    (bitOf a.fuse2 i = true → bitOf b.fuse2 i = true)

/-- The side conditions the writes of some parts keep. -/
def Mems.wfTo (a b : Mems) : Prop := Memory.wf a.comms = true → Memory.wf b.comms = true
def Lane.wfTo (ls : List Lane) (f : Lane → Lane) : Prop :=
  (∀ x ∈ ls, Memory.wf x.sram = true) → ∀ x, Memory.wf x.sram = true → Memory.wf (f x).sram = true
def Boot.wfTo (a b : Boot) : Prop := (Memory.wf a.staging = true → Memory.wf b.staging = true) ∧ a.fusesUpTo b
def Baton.wfTo (a b : Baton) : Prop := Memory.wf a.mram = true → Memory.wf b.mram = true
def Grador.wfTo (a b : Grador) : Prop := Memory.wf a.sched = true → Memory.wf b.sched = true
def Relay.wfTo (a b : Relay) : Prop := Memory.wf a.routes = true → Memory.wf b.routes = true
def Safety.wfTo (a b : Safety) : Prop := Memory.wf a.connTab = true → Memory.wf b.connTab = true
def TimeUnit.wfTo (a b : TimeUnit) : Prop := a.ns < 1000000000 → b.ns < 1000000000
def Srcs.wfTo (a b : List (Nat × SrcCount)) : Prop :=
  Sparse.wf (fun _ => srcZero) a = true → Sparse.wf (fun _ => srcZero) b = true
def Groups.wfTo (a b : List Group) : Prop := a.length = 4 → b.length = 4
def Reports.wfTo (a b : List Report) : Prop := a.length ≤ 256 → b.length ≤ 256

/-- A property of states that every primitive write keeps. -/
structure Closed (P : State → Prop) : Prop where
  setReg : ∀ s a w, P s → P (s.setReg a w)
  dropRegs : ∀ s p, P s → P { s with regs := Sparse.drop p s.regs }
  held : ∀ s x, P s → P { s with held := x }
  shown : ∀ s x, P s → P { s with shown := x }
  deferred : ∀ s x, P s → P { s with deferred := x }
  starter : ∀ s x, P s → P { s with starter := x }
  voting : ∀ s x, P s → P { s with voting := x }
  lanes : ∀ s l f, Lane.wfTo s.lanes f → P s → P { s with lanes := modAt f s.lanes l }
  mems : ∀ s x, Mems.wfTo s.mems x → P s → P { s with mems := x }
  exec : ∀ s x, P s → P { s with exec := x }
  groups : ∀ s x, Groups.wfTo s.groups x → P s → P { s with groups := x }
  safety : ∀ s x, Safety.wfTo s.safety x → P s → P { s with safety := x }
  part : ∀ s x, P s → P { s with part := x }
  time : ∀ s x, TimeUnit.wfTo s.time x → P s → P { s with time := x }
  boot : ∀ s x, Boot.wfTo s.boot x → P s → P { s with boot := x }
  meas : ∀ s x, P s → P { s with meas := x }
  swap : ∀ s x, P s → P { s with swap := x }
  baton : ∀ s x, Baton.wfTo s.baton x → P s → P { s with baton := x }
  grd : ∀ s x, Grador.wfTo s.grd x → P s → P { s with grd := x }
  can : ∀ s x, P s → P { s with can := x }
  relay : ∀ s x, Relay.wfTo s.relay x → P s → P { s with relay := x }
  shp : ∀ s x, P s → P { s with shp := x }
  life : ∀ s x, P s → P { s with life := x }
  srcs : ∀ s x, Srcs.wfTo s.srcs x → P s → P { s with srcs := x }
  reports : ∀ s x, Reports.wfTo s.reports x → P s → P { s with reports := x }
  sent : ∀ s x, P s → P { s with sent := x }
  freeCtr : ∀ s x, P s → P { s with freeCtr := x }
  blank : ∀ s p b m l, Boot.wfTo s.boot b → Baton.wfTo s.baton m → P s →
    P { State.reset with regs := Sparse.drop p s.regs, boot := b, baton := m, life := l, sent := s.sent,
                         pending := s.pending, freeCtr := s.freeCtr }
  blankWarm : ∀ s p b m l t q g r, Boot.wfTo s.boot b → Baton.wfTo s.baton m → TimeUnit.wfTo s.time t →
    Groups.wfTo s.groups g → P s →
    P { State.reset with regs := Sparse.drop p s.regs, boot := b, baton := m, life := l, sent := s.sent,
                         pending := s.pending, freeCtr := s.freeCtr, time := t, part := q, groups := g, starter := r,
                         srcs := s.srcs }

theorem Closed.ite {P : State → Prop} {c : Prop} [Decidable c] {a b : State} (ha : P a) (hb : P b) :
    P (if c then a else b) := by split <;> assumption

theorem Closed.foldl {P : State → Prop} {α : Type} {f : State → α → State} {l : List α} {s : State}
    (hf : ∀ t x, P t → P (f t x)) (h : P s) : P (l.foldl f s) := by
  induction l generalizing s with
  | nil => exact h
  | cons x l ih => exact ih (hf _ _ h)

theorem Closed.forN {P : State → Prop} {n : Nat} {f : Nat → State → State} {s : State}
    (hf : ∀ i t, P t → P (f i t)) (h : P s) : P (forN n f s) := Closed.foldl (fun _ _ ht => hf _ _ ht) h

/-- The same for a fold whose accumulator carries the state. -/
theorem Closed.foldl_of {P : State → Prop} {α β : Type} {f : β → α → β} {l : List α} {b : β} (g : β → State)
    (hf : ∀ b x, P (g b) → P (g (f b x))) (h : P (g b)) : P (g (l.foldl f b)) := by
  induction l generalizing b with
  | nil => exact h
  | cons x l ih => exact ih (hf _ _ h)

theorem Closed.snd_of {P : State → Prop} {α : Type} {f : α × State} {a : α} {t : State} (e : f = (a, t)) (h : P f.2) :
    P t := by rw [e] at h; exact h

theorem modAt_length {α : Type} (f : α → α) (l : List α) (i : Nat) : (modAt f l i).length = l.length := by
  induction l generalizing i with
  | nil => rfl
  | cons x l ih => cases i <;> simp [modAt, ih]

theorem setAt_length {α : Type} (v : α) (l : List α) (i : Nat) : (setAt l i v).length = l.length := by
  induction l generalizing i with
  | nil => rfl
  | cons x l ih => cases i <;> simp [setAt, ih]

end Sys2Proof.Machine
end

