-- ==== Sys2Proof/Laws/Sparse.lean ====
section
/-!
SUPPORT. The laws of sparse storage: a read after a write, a write leaves every other address alone, and every
operation keeps the canonical form.
-/
set_option Elab.async false
set_option linter.all false
namespace Sys2Proof.Machine

section sparse
variable {α : Type}

/-! ### Reads and writes -/

theorem Sparse.wfFrom_mono [DecidableEq α] {d : Nat → α} {m : List (Nat × α)} {lo : Nat}
    (h : Sparse.wfFrom d (some lo) m = true) : Sparse.wfFrom d none m = true := by
  cases m with
  | nil => rfl
  | cons e m => simp only [Sparse.wfFrom, Bool.and_eq_true] at h ⊢; exact ⟨⟨trivial, h.1.2⟩, h.2⟩

theorem Sparse.wfFrom_le [DecidableEq α] {d : Nat → α} {m : List (Nat × α)} {lo lo' : Nat} (hle : lo' ≤ lo)
    (h : Sparse.wfFrom d (some lo) m = true) : Sparse.wfFrom d (some lo') m = true := by
  cases m with
  | nil => rfl
  | cons e m =>
    simp only [Sparse.wfFrom, Bool.and_eq_true, decide_eq_true_eq] at h ⊢
    exact ⟨⟨by omega, h.1.2⟩, h.2⟩

/-- A read of the address just written gives the value written. -/
theorem Sparse.get_put_self [DecidableEq α] (m : List (Nat × α)) (k : Nat) (v d : α) {f : Nat → α}
    (hw : Sparse.wf f m = true) (hd : f k = d) : Sparse.get (Sparse.put m k v d) k d = v := by
  induction m with
  | nil => simp only [Sparse.put]; split <;> simp_all [Sparse.get]
  | cons e m ih =>
    obtain ⟨k', v'⟩ := e
    simp only [Sparse.wf, Sparse.wfFrom, Bool.and_eq_true, Bool.true_and] at hw
    have hm := Sparse.wfFrom_mono hw.2
    simp only [Sparse.put]
    split
    · have : k' ≠ k := by omega
      simp [Sparse.get, this, show ¬k < k' by omega, ih hm]
    · split
      · subst_vars
        split
        · subst_vars
          cases m with
          | nil => rfl
          | cons e2 m =>
            obtain ⟨k2, v2⟩ := e2
            have h2 := hw.2
            simp only [Sparse.wfFrom, Bool.and_eq_true, decide_eq_true_eq] at h2
            simp [Sparse.get, show k2 ≠ k' by omega, h2.1.1]
        · simp [Sparse.get]
      · split
        · subst_vars
          simp [Sparse.get, show k' ≠ k by omega, show k < k' by omega]
        · simp [Sparse.get]

/-- A write leaves every other address alone. -/
theorem Sparse.get_put_ne [DecidableEq α] (m : List (Nat × α)) (k j : Nat) (v d d' : α) {f : Nat → α}
    (hw : Sparse.wf f m = true) (h : j ≠ k) : Sparse.get (Sparse.put m k v d) j d' = Sparse.get m j d' := by
  induction m with
  | nil =>
    simp only [Sparse.put]
    split
    · rfl
    · simp only [Sparse.get, if_neg (Ne.symm h)]; split <;> rfl
  | cons e m ih =>
    obtain ⟨k', v'⟩ := e
    simp only [Sparse.wf, Sparse.wfFrom, Bool.and_eq_true, Bool.true_and] at hw
    have hm := Sparse.wfFrom_mono hw.2
    simp only [Sparse.put]
    split
    · simp only [Sparse.get, ih hm]
    · split
      · subst_vars
        split
        · simp only [Sparse.get, if_neg (Ne.symm h)]
          split
          · cases m with
            | nil => rfl
            | cons e2 m =>
              obtain ⟨k2, v2⟩ := e2
              have h2 := hw.2
              simp only [Sparse.wfFrom, Bool.and_eq_true, decide_eq_true_eq] at h2
              simp only [Sparse.get, if_neg (show k2 ≠ j by omega), if_pos (show j < k2 by omega)]
          · rfl
        · simp only [Sparse.get, if_neg (Ne.symm h)]
      · split
        · rfl
        · simp only [Sparse.get, if_neg (Ne.symm h)]
          by_cases hj : j < k
          · simp [hj, show k' ≠ j by omega, show j < k' by omega]
          · simp [hj]

/-! ### The canonical form -/

theorem Sparse.put_wfFrom [DecidableEq α] (d : Nat → α) (m : List (Nat × α)) (lo : Option Nat) (k : Nat) (v : α)
    (hl : ∀ l, lo = some l → l < k) (hw : Sparse.wfFrom d lo m = true) :
    Sparse.wfFrom d lo (Sparse.put m k v (d k)) = true := by
  induction m generalizing lo with
  | nil =>
    simp only [Sparse.put]
    split
    · rfl
    · cases lo with
      | none => simp_all [Sparse.wfFrom]
      | some l => simp_all [Sparse.wfFrom]
  | cons e m ih =>
    obtain ⟨k', v'⟩ := e
    simp only [Sparse.wfFrom, Bool.and_eq_true] at hw
    simp only [Sparse.put]
    split
    · simp only [Sparse.wfFrom, Bool.and_eq_true]
      exact ⟨hw.1, ih (some k') (by intro l hl'; cases hl'; assumption) hw.2⟩
    · split
      · subst_vars
        split
        · cases lo with
          | none => exact Sparse.wfFrom_mono hw.2
          | some l => exact Sparse.wfFrom_le (Nat.le_of_lt (hl l rfl)) hw.2
        · simp only [Sparse.wfFrom, Bool.and_eq_true]
          refine ⟨⟨hw.1.1, by simpa using ‹¬v = _›⟩, hw.2⟩
      · split
        · simp only [Sparse.wfFrom, Bool.and_eq_true]; exact hw
        · simp only [Sparse.wfFrom, Bool.and_eq_true]
          refine ⟨⟨?_, by simpa using ‹¬v = _›⟩, ⟨by simp; omega, hw.1.2⟩, hw.2⟩
          cases lo with
          | none => rfl
          | some l => simpa using hl l rfl

/-- A write keeps the canonical form. -/
theorem Sparse.put_wf [DecidableEq α] (d : Nat → α) (m : List (Nat × α)) (k : Nat) (v : α)
    (hw : Sparse.wf d m = true) : Sparse.wf d (Sparse.put m k v (d k)) = true :=
  Sparse.put_wfFrom d m none k v (by intro l hl; cases hl) hw

theorem Sparse.filter_wfFrom [DecidableEq α] (d : Nat → α) (p : Nat × α → Bool) (m : List (Nat × α)) (lo : Option Nat)
    (hw : Sparse.wfFrom d lo m = true) : Sparse.wfFrom d lo (m.filter p) = true := by
  induction m generalizing lo with
  | nil => exact hw
  | cons e m ih =>
    obtain ⟨k, v⟩ := e
    simp only [Sparse.wfFrom, Bool.and_eq_true] at hw
    rw [List.filter_cons]
    split
    · simp only [Sparse.wfFrom, Bool.and_eq_true]; exact ⟨hw.1, ih _ hw.2⟩
    · cases lo with
      | none => exact ih _ (Sparse.wfFrom_mono hw.2)
      | some l =>
        have := hw.1.1; simp at this
        exact ih _ (Sparse.wfFrom_le (Nat.le_of_lt this) hw.2)

/-- Dropping entries keeps the canonical form. -/
theorem Sparse.drop_wf [DecidableEq α] (d : Nat → α) (p : Nat → Bool) (m : List (Nat × α))
    (hw : Sparse.wf d m = true) : Sparse.wf d (Sparse.drop p m) = true := Sparse.filter_wfFrom d _ m none hw

theorem Sparse.filter_wf [DecidableEq α] (d : Nat → α) (p : Nat × α → Bool) (m : List (Nat × α))
    (hw : Sparse.wf d m = true) : Sparse.wf d (m.filter p) = true := Sparse.filter_wfFrom d _ m none hw

/-- Two canonical stores, the second above the first, make one. -/
theorem Sparse.append_wfFrom [DecidableEq α] (d : Nat → α) (m m' : List (Nat × α)) (lo : Option Nat) (b : Nat)
    (hw : Sparse.wfFrom d lo m = true) (hb : ∀ e ∈ m, e.1 < b) (hl : ∀ l, lo = some l → l < b)
    (hw' : Sparse.wfFrom d none m' = true) (hb' : ∀ e ∈ m', b ≤ e.1) : Sparse.wfFrom d lo (m ++ m') = true := by
  induction m generalizing lo with
  | nil =>
    cases m' with
    | nil => rfl
    | cons e m' =>
      obtain ⟨k, v⟩ := e
      simp only [List.nil_append, Sparse.wfFrom, Bool.and_eq_true] at hw' ⊢
      refine ⟨⟨?_, hw'.1.2⟩, hw'.2⟩
      cases lo with
      | none => rfl
      | some l =>
        have := hl l rfl; have h2 := hb' (k, v) (by simp); simp at h2 ⊢; omega
  | cons e m ih =>
    obtain ⟨k, v⟩ := e
    simp only [Sparse.wfFrom, Bool.and_eq_true] at hw
    simp only [List.cons_append, Sparse.wfFrom, Bool.and_eq_true]
    refine ⟨hw.1, ih _ hw.2 (fun e he => hb e (by simp [he])) ?_⟩
    intro l hl'; cases hl'; exact hb (k, v) (by simp)

end sparse

/-! ### Byte memories -/

theorem Memory.write_wf {m : List Host.Cell} {a : Nat} {b : Byte} (h : Memory.wf m = true) :
    Memory.wf (Memory.write m a b) = true := Sparse.put_wf (fun _ => blankByte) m a b h

theorem Memory.writeN_wf {m : List Host.Cell} {a : Nat} {bs : List Byte} (h : Memory.wf m = true) :
    Memory.wf (Memory.writeN m a bs) = true := by
  induction bs generalizing m a with
  | nil => exact h
  | cons b bs ih => exact ih (Memory.write_wf h)

theorem Memory.writeLe_wf {m : List Host.Cell} {a n v : Nat} (h : Memory.wf m = true) :
    Memory.wf (Memory.writeLe m a n v) = true := Memory.writeN_wf h

theorem Memory.clear_wf {m : List Host.Cell} {a n : Nat} (h : Memory.wf m = true) :
    Memory.wf (Memory.clear m a n) = true := Sparse.drop_wf _ _ m h

theorem Memory.foldl_write_wf {m : List Host.Cell} {l : List Host.Cell} {f : Host.Cell → Nat}
    (h : Memory.wf m = true) : Memory.wf (l.foldl (fun m e => Memory.write m (f e) e.2) m) = true := by
  induction l generalizing m with
  | nil => exact h
  | cons e l ih => exact ih (Memory.write_wf h)

theorem Memory.copy_wf {m f : List Host.Cell} {d a n : Nat} (h : Memory.wf m = true) :
    Memory.wf (Memory.copy m d f a n) = true := Memory.foldl_write_wf (Memory.clear_wf h)

theorem Memory.foldl_copy_wf {α : Type} {m f : List Host.Cell} {l : List α} {d a n : α → Nat} (h : Memory.wf m = true) :
    Memory.wf (l.foldl (fun m x => Memory.copy m (d x) f (a x) (n x)) m) = true := by
  induction l generalizing m with
  | nil => exact h
  | cons e l ih => exact ih (Memory.copy_wf h)

theorem Memory.foldl_writeN_wf {α : Type} {m : List Host.Cell} {l : List α} {d : α → Nat} {b : α → List Byte}
    (h : Memory.wf m = true) : Memory.wf (l.foldl (fun m x => Memory.writeN m (d x) (b x)) m) = true := by
  induction l generalizing m with
  | nil => exact h
  | cons e l ih => exact ih (Memory.writeN_wf h)

theorem Memory.block_wf (bs : List Byte) (a : Nat) (lo : Option Nat) (hl : ∀ l, lo = some l → l < a) :
    Sparse.wfFrom (fun _ => blankByte) lo
        ((bs.zipIdx a).filterMap fun x => if x.1 = blankByte then none else some (x.2, x.1)) = true ∧
      ∀ e ∈ ((bs.zipIdx a).filterMap fun x => if x.1 = blankByte then none else some (x.2, x.1)),
        a ≤ e.1 ∧ e.1 < a + bs.length := by
  induction bs generalizing a lo with
  | nil => exact ⟨rfl, by simp⟩
  | cons b bs ih =>
    simp only [List.zipIdx_cons, List.filterMap_cons]
    by_cases hb : b = blankByte
    · have := ih (a + 1) lo (fun l h => Nat.lt_succ_of_lt (hl l h))
      simp only [hb, if_true]
      exact ⟨this.1, fun e he => by have := this.2 e he; simp; omega⟩
    · have := ih (a + 1) (some a) (by intro l h; cases h; omega)
      simp only [hb, if_false, Sparse.wfFrom, Bool.and_eq_true]
      refine ⟨⟨⟨?_, by simp⟩, this.1⟩, ?_⟩
      · cases lo with
        | none => rfl
        | some l => simpa using hl l rfl
      · intro e he
        rcases List.mem_cons.1 he with rfl | he
        · simp
        · have := this.2 e he; simp; omega

theorem Memory.splice_wf {m : List Host.Cell} {a : Nat} {bs : List Byte} (h : Memory.wf m = true) :
    Memory.wf (Memory.splice m a bs) = true := by
  unfold Memory.splice Memory.wf Sparse.wf
  have hb := Memory.block_wf bs a none (by intro l h; cases h)
  refine Sparse.append_wfFrom _ _ _ none (a + bs.length) ?_ ?_ (by intro l h; cases h) (Sparse.filter_wf _ _ _ h) ?_
  · refine Sparse.append_wfFrom _ _ _ none a (Sparse.filter_wf _ _ _ h) ?_ (by intro l h; cases h) hb.1
      (fun e he => (hb.2 e he).1)
    intro e he; simpa using (List.mem_filter.1 he).2
  · intro e he
    rcases List.mem_append.1 he with he | he
    · have := (List.mem_filter.1 he).2; simp at this; omega
    · exact (hb.2 e he).2
  · intro e he; simpa using (List.mem_filter.1 he).2

/-- Reading back a byte just written. -/
theorem Memory.read_write_self {m : List Host.Cell} {a : Nat} {b : Byte} (h : Memory.wf m = true) :
    Memory.read (Memory.write m a b) a = b := Sparse.get_put_self m a b blankByte h rfl

/-- A write leaves every other byte alone. -/
theorem Memory.read_write_ne {m : List Host.Cell} {a k : Nat} {b : Byte} (h : Memory.wf m = true) (hk : k ≠ a) :
    Memory.read (Memory.write m a b) k = Memory.read m k := Sparse.get_put_ne m a k b blankByte blankByte h hk

/-- A block write leaves every byte outside the block alone. -/
theorem Memory.read_writeN_out {m : List Host.Cell} {a k : Nat} {bs : List Byte} (h : Memory.wf m = true)
    (hk : k < a ∨ a + bs.length ≤ k) : Memory.read (Memory.writeN m a bs) k = Memory.read m k := by
  induction bs generalizing m a with
  | nil => rfl
  | cons b bs ih =>
    simp only [List.length_cons] at hk
    simp only [Memory.writeN]
    rw [ih (Memory.write_wf h) (by omega), Memory.read_write_ne h (by omega)]

/-- A block write is read back. -/
theorem Memory.readN_writeN {m : List Host.Cell} {a : Nat} {bs : List Byte} (h : Memory.wf m = true) :
    Memory.readN (Memory.writeN m a bs) a bs.length = bs := by
  induction bs generalizing m a with
  | nil => rfl
  | cons b bs ih =>
    simp only [List.length_cons, Memory.readN, Memory.writeN]
    rw [ih (Memory.write_wf h), Memory.read_writeN_out (Memory.write_wf h) (by omega), Memory.read_write_self h]

end Sys2Proof.Machine
end

