-- ==== Sys2Proof/Laws/ClosedOps.lean ====
section
/-!
SUPPORT. The operations of Ops.lean keep every property that the primitive writes keep (Laws/Closed.lean).
-/
set_option Elab.async false
set_option linter.all false
set_option linter.unusedVariables false
set_option linter.tactic.unusedName false

namespace Sys2Proof.Machine

variable {Q : State → Prop} (hP : Closed Q)
include hP


theorem State.setRegN_closed {s : State} {a : Nat} {v : Nat}  (hq_ : Q s) : Q (State.setRegN s a v) := by
  unfold State.setRegN
  repeat' first
    | with_reducible first
      | assumption | intro _ | apply Closed.ite | apply hP.setReg | apply Closed.forN | apply Closed.foldl
    | intro _ | extract_lets | split | exact rfl | exact fun h => h

theorem State.setF_closed {s : State} {a : Nat} {hi : Nat} {lo : Nat} {v : Nat}  (hq_ : Q s) : Q (State.setF s a hi lo v) := by
  unfold State.setF
  repeat' first
    | with_reducible first
      | assumption | intro _ | apply Closed.ite | apply hP.setReg | apply Closed.forN | apply Closed.foldl
    | intro _ | extract_lets | split | exact rfl | exact fun h => h

theorem State.setB_closed {s : State} {a : Nat} {i : Nat} {b : Bool}  (hq_ : Q s) : Q (State.setB s a i b) := by
  unfold State.setB
  repeat' first
    | with_reducible first
      | assumption | intro _ | apply Closed.ite | apply hP.setReg | apply Closed.forN | apply Closed.foldl
    | intro _ | extract_lets | split | exact rfl | exact fun h => h

theorem State.bump_closed {s : State} {a : Nat}  (hq_ : Q s) : Q (State.bump s a) := by
  unfold State.bump
  repeat' first
    | with_reducible first
      | assumption | intro _ | apply Closed.ite | apply hP.setReg | apply Closed.forN | apply Closed.foldl
    | intro _ | extract_lets | split | exact rfl | exact fun h => h

theorem State.bumpBy_closed {s : State} {a : Nat} {k : Nat}  (hq_ : Q s) : Q (State.bumpBy s a k) := by
  unfold State.bumpBy
  repeat' first
    | with_reducible first
      | assumption | intro _ | apply Closed.ite | apply hP.setReg | apply Closed.forN | apply Closed.foldl
    | intro _ | extract_lets | split | exact rfl | exact fun h => h

theorem State.bumpF_closed {s : State} {a : Nat} {hi : Nat} {lo : Nat}  (hq_ : Q s) : Q (State.bumpF s a hi lo) := by
  unfold State.bumpF
  repeat' first
    | with_reducible first
      | assumption | intro _ | apply Closed.ite | apply State.setF_closed hP | apply hP.setReg
      | apply Closed.forN | apply Closed.foldl
    | intro _ | extract_lets | split | exact rfl | exact fun h => h

theorem State.maxReg_closed {s : State} {a : Nat} {v : Nat}  (hq_ : Q s) : Q (State.maxReg s a v) := by
  unfold State.maxReg
  repeat' first
    | with_reducible first
      | assumption | intro _ | apply Closed.ite | apply State.setRegN_closed hP | apply hP.setReg
      | apply Closed.forN | apply Closed.foldl
    | intro _ | extract_lets | split | exact rfl | exact fun h => h

theorem State.setAll_closed {s : State} {as : List Nat} {w : Word}  (hq_ : Q s) : Q (State.setAll s as w) := by
  unfold State.setAll
  repeat' first
    | with_reducible first
      | assumption | intro _ | apply Closed.ite | apply hP.setReg | apply Closed.forN | apply Closed.foldl
    | intro _ | extract_lets | split | exact rfl | exact fun h => h

theorem State.clear_closed {s : State} {as : List Nat}  (hq_ : Q s) : Q (State.clear s as) := by
  unfold State.clear
  repeat' first
    | with_reducible first
      | assumption | intro _ | apply Closed.ite | apply State.setAll_closed hP | apply hP.setReg
      | apply Closed.forN | apply Closed.foldl
    | intro _ | extract_lets | split | exact rfl | exact fun h => h

theorem State.setReg64_closed {s : State} {a : Nat} {v : Nat}  (hq_ : Q s) : Q (State.setReg64 s a v) := by
  unfold State.setReg64
  repeat' first
    | with_reducible first
      | assumption | intro _ | apply Closed.ite | apply State.setRegN_closed hP | apply hP.setReg
      | apply Closed.forN | apply Closed.foldl
    | intro _ | extract_lets | split | exact rfl | exact fun h => h

theorem State.putPgState_closed {s : State} {p : Nat} {v : Nat}  (hq_ : Q s) : Q (State.putPgState s p v) := by
  unfold State.putPgState
  repeat' first
    | with_reducible first
      | assumption | intro _ | apply Closed.ite | apply State.setF_closed hP | apply hP.setReg
      | apply Closed.forN | apply Closed.foldl
    | intro _ | extract_lets | split | exact rfl | exact fun h => h

theorem State.setPgState_closed {s : State} {p : Nat} {v : Nat}  (hq_ : Q s) : Q (State.setPgState s p v) := by
  unfold State.setPgState
  repeat' first
    | with_reducible first
      | assumption | intro _ | apply Closed.ite | apply State.putPgState_closed hP | apply hP.setReg
      | apply Closed.forN | apply Closed.foldl
    | intro _ | extract_lets | split | exact rfl | exact fun h => h

theorem State.setEn_closed {s : State} {p : Nat} {b : Bool}  (hq_ : Q s) : Q (State.setEn s p b) := by
  unfold State.setEn
  repeat' first
    | with_reducible first
      | assumption | intro _ | apply Closed.ite | apply State.setB_closed hP | apply hP.setReg
      | apply Closed.forN | apply Closed.foldl
    | intro _ | extract_lets | split | exact rfl | exact fun h => h

theorem State.send_closed {s : State} {o : Sent}  (hq_ : Q s) : Q (State.send s o) := by
  unfold State.send
  try extract_lets a0_
  try (refine (fun (ha0_ : Q a0_) => ?_) ?_; clear_value a0_)
  repeat' first
    | with_reducible first
      | assumption | intro _ | refine hP.sent _ _ (by assumption) | apply Closed.ite | apply hP.setReg
      | apply Closed.forN | apply Closed.foldl
    | intro _
    | (extract_lets b0_
       try (refine (fun (hb0_ : Q b0_) => ?_) ?_; clear_value b0_))
    | split | with_reducible refine hP.sent _ _ ?_ | exact rfl | exact fun h => h | unfold a0_ | unfold b0_

theorem signalHost_closed {n : Nat} {s : State}  (hq_ : Q s) : Q (signalHost n s) := by
  unfold signalHost
  try extract_lets a0_
  try (refine (fun (ha0_ : Q a0_) => ?_) ?_; clear_value a0_)
  repeat' first
    | with_reducible first
      | assumption | intro _ | apply Closed.ite | apply State.setB_closed hP | apply State.send_closed hP
      | apply hP.setReg | apply Closed.forN | apply Closed.foldl
    | intro _
    | (extract_lets b0_
       try (refine (fun (hb0_ : Q b0_) => ?_) ?_; clear_value b0_))
    | split | exact rfl | exact fun h => h | unfold a0_ | unfold b0_

theorem eventDue_closed {n : Nat} {s : State}  (hq_ : Q s) : Q (eventDue n s) := by
  unfold eventDue
  try extract_lets a0_ a1_ a2_ a3_ a4_
  try (refine (fun (ha0_ : Q a0_) => ?_) ?_; clear_value a0_)
  try (refine (fun (ha1_ : Q a1_) => ?_) ?_; clear_value a1_)
  try (refine (fun (ha2_ : Q a2_) => ?_) ?_; clear_value a2_)
  try (refine (fun (ha3_ : Q a3_) => ?_) ?_; clear_value a3_)
  try (refine (fun (ha4_ : Q a4_) => ?_) ?_; clear_value a4_)
  repeat' first
    | with_reducible first
      | assumption | intro _ | refine hP.shp _ _ (by assumption) | apply Closed.ite
      | apply State.setB_closed hP | apply hP.setReg | apply Closed.forN | apply Closed.foldl
      | apply Memory.writeN_wf | apply Memory.writeLe_wf | apply Memory.copy_wf | apply Memory.splice_wf
      | apply Memory.clear_wf | apply Memory.write_wf | apply Memory.foldl_copy_wf
      | apply Memory.foldl_writeN_wf | apply State.lane_wf
    | intro _
    | (extract_lets b0_ b1_ b2_ b3_ b4_
       try (refine (fun (hb0_ : Q b0_) => ?_) ?_; clear_value b0_)
       try (refine (fun (hb1_ : Q b1_) => ?_) ?_; clear_value b1_)
       try (refine (fun (hb2_ : Q b2_) => ?_) ?_; clear_value b2_)
       try (refine (fun (hb3_ : Q b3_) => ?_) ?_; clear_value b3_)
       try (refine (fun (hb4_ : Q b4_) => ?_) ?_; clear_value b4_))
    | split | with_reducible refine hP.shp _ _ ?_ | exact rfl | exact fun h => h | unfold a0_ | unfold a1_
    | unfold a2_ | unfold a3_ | unfold a4_ | unfold b0_ | unfold b1_ | unfold b2_ | unfold b3_ | unfold b4_

theorem signalOrEvent_closed {b : State} {n : Nat} {t : State} (h : Q t) :
    Q (if t.armed n && t.summary n && !b.summary n then (if n < 2 then signalHost n t else eventDue n t) else t) := by
  exact Closed.ite (Closed.ite (signalHost_closed hP h) (eventDue_closed hP h)) h
theorem msiCheck_closed {before s : State} (h : Q s) : Q (msiCheck before s) := by
  unfold msiCheck
  exact Closed.forN (fun _ _ ht => signalOrEvent_closed hP ht) h

theorem irqSet_closed {p : Nat} {bit : Nat} {s : State}  (hq_ : Q s) : Q (irqSet p bit s) := by
  unfold irqSet
  repeat' first
    | with_reducible first
      | assumption | intro _ | apply Closed.ite | apply msiCheck_closed hP | apply State.setB_closed hP
      | apply hP.setReg | apply Closed.forN | apply Closed.foldl
    | intro _ | extract_lets | split | exact rfl | exact fun h => h

theorem saveCounts_closed {s : State}  (hq_ : Q s) : Q (saveCounts s) := by
  unfold saveCounts
  try extract_lets a0_ a1_
  try (refine (fun (ha0_ : Q a0_) => ?_) ?_; clear_value a0_)
  try (refine (fun (ha1_ : Q a1_) => ?_) ?_; clear_value a1_)
  repeat' first
    | with_reducible first
      | assumption | intro _ | refine hP.life _ _ (by assumption) | apply Closed.ite | apply hP.setReg
      | apply Closed.forN | apply Closed.foldl
    | intro _
    | (extract_lets b0_ b1_
       try (refine (fun (hb0_ : Q b0_) => ?_) ?_; clear_value b0_)
       try (refine (fun (hb1_ : Q b1_) => ?_) ?_; clear_value b1_))
    | split | with_reducible refine hP.life _ _ ?_ | exact rfl | exact fun h => h | unfold a0_ | unfold a1_
    | unfold b0_ | unfold b1_

theorem reportError_closed {p : Nat} {rep : Word} {s : State} (h : Q s) :
    Q (reportError p rep s) := by
  unfold reportError
  extract_lets a b c d e f g i
  have hd : Srcs.wfTo s.srcs (Sparse.put s.srcs p d srcZero) := Sparse.put_wf (fun _ => srcZero) _ _ _
  split
  · have he : Q e := hP.reports { s with srcs := Sparse.put s.srcs p d srcZero } _
      (by intro _; simp only [List.length_append, List.length_cons, List.length_nil]; omega) (hP.srcs _ _ hd h)
    exact Closed.ite (State.setF_closed hP (State.setF_closed hP he)) (State.setF_closed hP he)
  · have hi : Q i := hP.srcs _ _ (Sparse.put_wf (fun _ => srcZero) _ _ _) h
    exact irqSet_closed hP (State.bump_closed hP hi)

theorem tally_closed {w : Nat} {s : State} (h : Q s) : Q (tally w s) :=
  hP.life _ _ h

theorem recordErr_closed {p : Nat} {code : Nat} {src : Nat} {detail : Nat} {s : State}  (hq_ : Q s) : Q (recordErr p code src detail s) := by
  unfold recordErr
  try extract_lets a0_ a1_ a2_ a3_
  try (refine (fun (ha0_ : Q a0_) => ?_) ?_; clear_value a0_)
  try (refine (fun (ha1_ : Q a1_) => ?_) ?_; clear_value a1_)
  try (refine (fun (ha2_ : Q a2_) => ?_) ?_; clear_value a2_)
  try (refine (fun (ha3_ : Q a3_) => ?_) ?_; clear_value a3_)
  repeat' first
    | with_reducible first
      | assumption | intro _ | apply Closed.ite | apply State.setB_closed hP | apply State.setRegN_closed hP
      | apply reportError_closed hP | apply irqSet_closed hP | apply hP.setReg | apply Closed.forN
      | apply Closed.foldl
    | intro _
    | (extract_lets b0_ b1_ b2_ b3_
       try (refine (fun (hb0_ : Q b0_) => ?_) ?_; clear_value b0_)
       try (refine (fun (hb1_ : Q b1_) => ?_) ?_; clear_value b1_)
       try (refine (fun (hb2_ : Q b2_) => ?_) ?_; clear_value b2_)
       try (refine (fun (hb3_ : Q b3_) => ?_) ?_; clear_value b3_))
    | split | exact rfl | exact fun h => h | unfold a0_ | unfold a1_ | unfold a2_ | unfold a3_ | unfold b0_
    | unfold b1_ | unfold b2_ | unfold b3_

theorem setOwner_closed {p : Nat} {o : Nat} {s : State}  (hq_ : Q s) : Q (setOwner p o s) := by
  unfold setOwner
  repeat' first
    | with_reducible first
      | assumption | intro _ | apply Closed.ite | apply irqSet_closed hP | apply State.setF_closed hP
      | apply State.bumpF_closed hP | apply hP.setReg | apply Closed.forN | apply Closed.foldl
    | intro _ | extract_lets | split | exact rfl | exact fun h => h

theorem State.unshow_closed {s : State} {p : Nat}  (hq_ : Q s) : Q (State.unshow s p) := by
  unfold State.unshow
  try extract_lets a0_
  try (refine (fun (ha0_ : Q a0_) => ?_) ?_; clear_value a0_)
  repeat' first
    | with_reducible first
      | assumption | intro _ | refine hP.shown _ _ (by assumption) | apply Closed.ite | apply hP.setReg
      | apply Closed.forN | apply Closed.foldl
    | intro _
    | (extract_lets b0_
       try (refine (fun (hb0_ : Q b0_) => ?_) ?_; clear_value b0_))
    | split | with_reducible refine hP.shown _ _ ?_ | exact rfl | exact fun h => h | unfold a0_
    | unfold b0_

theorem answer_closed {c : Call} {code : Nat} {s : State}  (hq_ : Q s) : Q (answer c code s) := by
  unfold answer
  repeat' first
    | with_reducible first
      | assumption | intro _ | apply Closed.ite | apply State.setRegN_closed hP
      | apply State.unshow_closed hP | apply hP.setReg | apply Closed.forN | apply Closed.foldl
    | intro _ | extract_lets | split | exact rfl | exact fun h => h

theorem answerOver_closed {c : Call} {code : Nat} {s : State}  (hq_ : Q s) : Q (answerOver c code s) := by
  unfold answerOver
  try extract_lets a0_
  try (refine (fun (ha0_ : Q a0_) => ?_) ?_; clear_value a0_)
  repeat' first
    | with_reducible first
      | assumption | intro _ | refine hP.shown _ _ (by assumption) | apply Closed.ite | apply hP.setReg
      | apply Closed.forN | apply Closed.foldl
    | intro _
    | (extract_lets b0_
       try (refine (fun (hb0_ : Q b0_) => ?_) ?_; clear_value b0_))
    | split | with_reducible refine hP.shown _ _ ?_ | exact rfl | exact fun h => h | unfold a0_
    | unfold b0_

theorem answerReject_closed {c : Call} {code : Nat} {s : State}  (hq_ : Q s) : Q (answerReject c code s) := by
  unfold answerReject
  repeat' first
    | with_reducible first
      | assumption | intro _ | apply Closed.ite | apply answer_closed hP | apply answerOver_closed hP
      | apply hP.setReg | apply Closed.forN | apply Closed.foldl
    | intro _ | extract_lets | split | exact rfl | exact fun h => h

theorem reject_closed {c : Call} {code : Nat} {changes : Bool} {s : State}  (hq_ : Q s) : Q (reject c code changes s) := by
  unfold reject
  try extract_lets a0_ a1_
  try (refine (fun (ha0_ : Q a0_) => ?_) ?_; clear_value a0_)
  try (refine (fun (ha1_ : Q a1_) => ?_) ?_; clear_value a1_)
  repeat' first
    | with_reducible first
      | assumption | intro _ | apply Closed.ite | apply answerReject_closed hP | apply State.bump_closed hP
      | apply recordErr_closed hP | apply hP.setReg | apply Closed.forN | apply Closed.foldl
    | intro _
    | (extract_lets b0_ b1_
       try (refine (fun (hb0_ : Q b0_) => ?_) ?_; clear_value b0_)
       try (refine (fun (hb1_ : Q b1_) => ?_) ?_; clear_value b1_))
    | split | exact rfl | exact fun h => h | unfold a0_ | unfold a1_ | unfold b0_ | unfold b1_

theorem countAccess_closed {iss : Issuer} {s : State}  (hq_ : Q s) : Q (countAccess iss s) := by
  unfold countAccess
  repeat' first
    | with_reducible first
      | assumption | intro _ | apply Closed.ite | apply State.bump_closed hP | apply hP.setReg
      | apply Closed.forN | apply Closed.foldl
    | intro _ | extract_lets | split | exact rfl | exact fun h => h

theorem dropUnlock_closed {s : State}  (hq_ : Q s) : Q (dropUnlock s) := by
  unfold dropUnlock
  try extract_lets a0_ a1_ a2_
  try (refine (fun (ha0_ : Q a0_) => ?_) ?_; clear_value a0_)
  try (refine (fun (ha1_ : Q a1_) => ?_) ?_; clear_value a1_)
  try (refine (fun (ha2_ : Q a2_) => ?_) ?_; clear_value a2_)
  repeat' first
    | with_reducible first
      | assumption | intro _ | refine hP.time _ _ ?_ (by assumption) | apply Closed.ite
      | apply State.setB_closed hP | apply hP.setReg | apply Closed.forN | apply Closed.foldl
    | intro _
    | (extract_lets b0_ b1_ b2_
       try (refine (fun (hb0_ : Q b0_) => ?_) ?_; clear_value b0_)
       try (refine (fun (hb1_ : Q b1_) => ?_) ?_; clear_value b1_)
       try (refine (fun (hb2_ : Q b2_) => ?_) ?_; clear_value b2_))
    | split | with_reducible refine hP.time _ _ ?_ ?_ | exact rfl | exact fun h => h | unfold a0_
    | unfold a1_ | unfold a2_ | unfold b0_ | unfold b1_ | unfold b2_

theorem commandAccess_closed {c : Call} {s0 : State}  (hq_ : Q s0) : Q (commandAccess c s0) := by
  unfold commandAccess
  try extract_lets a0_
  try (refine (fun (ha0_ : Q a0_) => ?_) ?_; clear_value a0_)
  repeat' first
    | with_reducible first
      | assumption | intro _ | apply Closed.ite | apply countAccess_closed hP | apply dropUnlock_closed hP
      | apply hP.setReg | apply Closed.forN | apply Closed.foldl
    | intro _
    | (extract_lets b0_
       try (refine (fun (hb0_ : Q b0_) => ?_) ?_; clear_value b0_))
    | split | exact rfl | exact fun h => h | unfold a0_ | unfold b0_

theorem addressReject_closed {iss : Issuer} {detail : Nat} {s : State}  (hq_ : Q s) : Q (addressReject iss detail s) := by
  unfold addressReject
  repeat' first
    | with_reducible first
      | assumption | intro _ | apply Closed.ite | apply recordErr_closed hP | apply hP.setReg
      | apply Closed.forN | apply Closed.foldl
    | intro _ | extract_lets | split | exact rfl | exact fun h => h

theorem accessReject_closed {iss : Issuer} {a : Nat} {s : State}  (hq_ : Q s) : Q (accessReject iss a s) := by
  unfold accessReject
  repeat' first
    | with_reducible first
      | assumption | intro _ | apply Closed.ite | apply recordErr_closed hP | apply hP.setReg
      | apply Closed.forN | apply Closed.foldl
    | intro _ | extract_lets | split | exact rfl | exact fun h => h

theorem command_closed {c : Call} {check : State → Option Nat} {body : State → State} {s0 : State} (h_body : ∀ y0_, Q y0_ → Q (body y0_)) (hq_ : Q s0) : Q (command c check body s0) := by
  unfold command
  try extract_lets a0_ a1_ a2_
  try (refine (fun (ha0_ : Q a0_) => ?_) ?_; clear_value a0_)
  try (refine (fun (ha1_ : Q a1_) => ?_) ?_; clear_value a1_)
  try (refine (fun (ha2_ : Q a2_) => ?_) ?_; clear_value a2_)
  repeat' first
    | with_reducible first
      | assumption | intro _ | apply h_body | apply Closed.ite | apply commandAccess_closed hP
      | apply reject_closed hP | apply answer_closed hP | apply addressReject_closed hP | apply hP.setReg
      | apply Closed.forN | apply Closed.foldl
    | intro _
    | (extract_lets b0_ b1_ b2_
       try (refine (fun (hb0_ : Q b0_) => ?_) ?_; clear_value b0_)
       try (refine (fun (hb1_ : Q b1_) => ?_) ?_; clear_value b1_)
       try (refine (fun (hb2_ : Q b2_) => ?_) ?_; clear_value b2_))
    | split | exact rfl | exact fun h => h | unfold a0_ | unfold a1_ | unfold a2_ | unfold b0_ | unfold b1_
    | unfold b2_

theorem commandKeyed_closed {c : Call} {key : State → Bool} {check : State → Option Nat} {body : State → State} {s0 : State} (h_body : ∀ y0_, Q y0_ → Q (body y0_)) (hq_ : Q s0) : Q (commandKeyed c key check body s0) := by
  unfold commandKeyed
  try extract_lets a0_ a1_ a2_
  try (refine (fun (ha0_ : Q a0_) => ?_) ?_; clear_value a0_)
  try (refine (fun (ha1_ : Q a1_) => ?_) ?_; clear_value a1_)
  try (refine (fun (ha2_ : Q a2_) => ?_) ?_; clear_value a2_)
  repeat' first
    | with_reducible first
      | assumption | intro _ | apply h_body | apply Closed.ite | apply commandAccess_closed hP
      | apply reject_closed hP | apply answer_closed hP | apply addressReject_closed hP | apply hP.setReg
      | apply Closed.forN | apply Closed.foldl
    | intro _
    | (extract_lets b0_ b1_ b2_
       try (refine (fun (hb0_ : Q b0_) => ?_) ?_; clear_value b0_)
       try (refine (fun (hb1_ : Q b1_) => ?_) ?_; clear_value b1_)
       try (refine (fun (hb2_ : Q b2_) => ?_) ?_; clear_value b2_))
    | split | exact rfl | exact fun h => h | unfold a0_ | unfold a1_ | unfold a2_ | unfold b0_ | unfold b1_
    | unfold b2_

theorem finish_closed {p : Nat} {code : Nat} {s : State}  (hq_ : Q s) : Q (finish p code s) := by
  unfold finish
  repeat' first
    | with_reducible first
      | assumption | intro _ | apply Closed.ite | apply irqSet_closed hP | apply State.setF_closed hP
      | apply hP.setReg | apply Closed.forN | apply Closed.foldl
    | intro _ | extract_lets | split | exact rfl | exact fun h => h

theorem finishErr_closed {p : Nat} {code : Nat} {s : State}  (hq_ : Q s) : Q (finishErr p code s) := by
  unfold finishErr
  try extract_lets a0_ a1_
  try (refine (fun (ha0_ : Q a0_) => ?_) ?_; clear_value a0_)
  try (refine (fun (ha1_ : Q a1_) => ?_) ?_; clear_value a1_)
  repeat' first
    | with_reducible first
      | assumption | intro _ | apply Closed.ite | apply recordErr_closed hP | apply finish_closed hP
      | apply hP.setReg | apply Closed.forN | apply Closed.foldl
    | intro _
    | (extract_lets b0_ b1_
       try (refine (fun (hb0_ : Q b0_) => ?_) ?_; clear_value b0_)
       try (refine (fun (hb1_ : Q b1_) => ?_) ?_; clear_value b1_))
    | split | exact rfl | exact fun h => h | unfold a0_ | unfold a1_ | unfold b0_ | unfold b1_

theorem quick_closed {c : Call} {check : State → Option Nat} {f : State → State} {x0_ : State} (h_f : ∀ y0_, Q y0_ → Q (f y0_)) (hq_ : Q x0_) : Q (quick c check f x0_) := by
  unfold quick
  repeat' first
    | with_reducible first
      | assumption | intro _ | apply h_f | apply Closed.ite | apply command_closed hP
      | apply finish_closed hP | apply hP.setReg | apply Closed.forN | apply Closed.foldl
    | intro _ | extract_lets | split | exact rfl | exact fun h => h

theorem quickKeyed_closed {c : Call} {key : State → Bool} {check : State → Option Nat} {f : State → State} {x0_ : State} (h_f : ∀ y0_, Q y0_ → Q (f y0_)) (hq_ : Q x0_) : Q (quickKeyed c key check f x0_) := by
  unfold quickKeyed
  repeat' first
    | with_reducible first
      | assumption | intro _ | apply h_f | apply Closed.ite | apply commandKeyed_closed hP
      | apply finish_closed hP | apply hP.setReg | apply Closed.forN | apply Closed.foldl
    | intro _ | extract_lets | split | exact rfl | exact fun h => h

theorem resetRegs_closed {p : Nat} {s : State} (h : Q s) : Q (resetRegs p s) := by
  unfold resetRegs
  exact hP.held { s with regs := Sparse.drop (fun a => pageOf a == p && resettable (offOf a)) s.regs } _ (hP.dropRegs _ _ h)

theorem raiseAt_closed {tick : Nat} {cls : Nat} {src : Nat} {ts : Nat} {detail : Nat} {qual : Nat} {s : State}  (hq_ : Q s) : Q (raiseAt tick cls src ts detail qual s) := by
  unfold raiseAt
  try extract_lets a0_ a1_ a2_
  try (refine (fun (ha0_ : Q a0_) => ?_) ?_; clear_value a0_)
  try (refine (fun (ha1_ : Q a1_) => ?_) ?_; clear_value a1_)
  try (refine (fun (ha2_ : Q a2_) => ?_) ?_; clear_value a2_)
  repeat' first
    | with_reducible first
      | assumption | intro _ | refine hP.starter _ _ (by assumption) | apply Closed.ite | apply hP.setReg
      | apply Closed.forN | apply Closed.foldl
    | intro _
    | (extract_lets b0_ b1_ b2_
       try (refine (fun (hb0_ : Q b0_) => ?_) ?_; clear_value b0_)
       try (refine (fun (hb1_ : Q b1_) => ?_) ?_; clear_value b1_)
       try (refine (fun (hb2_ : Q b2_) => ?_) ?_; clear_value b2_))
    | split | with_reducible refine hP.starter _ _ ?_ | exact rfl | exact fun h => h | unfold a0_
    | unfold a1_ | unfold a2_ | unfold b0_ | unfold b1_ | unfold b2_

theorem raise_closed {cls : Nat} {src : Nat} {detail : Nat} {qual : Nat} {s : State}  (hq_ : Q s) : Q (raise cls src detail qual s) := by
  unfold raise
  repeat' first
    | with_reducible first
      | assumption | intro _ | apply Closed.ite | apply raiseAt_closed hP | apply hP.setReg
      | apply Closed.forN | apply Closed.foldl
    | intro _ | extract_lets | split | exact rfl | exact fun h => h

theorem State.fresh_closed {s : State}  (hq_ : Q s) : Q (State.fresh s) := by
  unfold State.fresh
  try extract_lets a0_
  try (refine (fun (ha0_ : Q a0_) => ?_) ?_; clear_value a0_)
  repeat' first
    | with_reducible first
      | assumption | intro _ | refine hP.freeCtr _ _ (by assumption) | apply Closed.ite | apply hP.setReg
      | apply Closed.forN | apply Closed.foldl
    | intro _
    | (extract_lets b0_
       try (refine (fun (hb0_ : Q b0_) => ?_) ?_; clear_value b0_))
    | split | with_reducible refine hP.freeCtr _ _ ?_ | exact rfl | exact fun h => h | unfold a0_
    | unfold b0_

end Sys2Proof.Machine
end

