-- ==== Sys2Proof/Laws/ClosedReactions.lean ====
section
/-!
SUPPORT. The operations of Reactions.lean keep every property that the primitive writes keep (Laws/Closed.lean).
-/
set_option Elab.async false
set_option linter.all false
set_option linter.unusedVariables false
set_option linter.tactic.unusedName false

namespace Sys2Proof.Machine

variable {Q : State → Prop} (hP : Closed Q)
include hP

theorem updGroup_closed {g : Nat} {f : Group → Group} {s : State} (h : Q s) : Q (updGroup g f s) :=
  hP.groups _ _ (fun e => (modAt_length _ _ _).trans e) h

theorem updF1_closed {g : Nat} {f : F1 → F1} {x0_ : State}  (hq_ : Q x0_) : Q (updF1 g f x0_) := by
  unfold updF1
  try extract_lets a0_
  try (refine (fun (ha0_ : Q a0_) => ?_) ?_; clear_value a0_)
  repeat' first
    | with_reducible first
      | assumption | intro _ | apply Closed.ite | apply updGroup_closed hP | apply hP.setReg
      | apply Closed.forN | apply Closed.foldl
    | intro _
    | (extract_lets b0_
       try (refine (fun (hb0_ : Q b0_) => ?_) ?_; clear_value b0_))
    | split | exact rfl | exact fun h => h | unfold a0_ | unfold b0_

theorem updSafety_closed {f : Safety → Safety} {s : State} (hf : ∀ x, Safety.wfTo x (f x)) (h : Q s) :
    Q (updSafety f s) := hP.safety _ _ (hf _) h

theorem updPart_closed {f : Partner → Partner} {s : State}  (hq_ : Q s) : Q (updPart f s) := by
  unfold updPart
  try extract_lets a0_
  try (refine (fun (ha0_ : Q a0_) => ?_) ?_; clear_value a0_)
  repeat' first
    | with_reducible first
      | assumption | intro _ | refine hP.part _ _ (by assumption) | apply Closed.ite | apply hP.setReg
      | apply Closed.forN | apply Closed.foldl
    | intro _
    | (extract_lets b0_
       try (refine (fun (hb0_ : Q b0_) => ?_) ?_; clear_value b0_))
    | split | with_reducible refine hP.part _ _ ?_ | exact rfl | exact fun h => h | unfold a0_ | unfold b0_

theorem updExec_closed {f : Exec → Exec} {s : State}  (hq_ : Q s) : Q (updExec f s) := by
  unfold updExec
  try extract_lets a0_
  try (refine (fun (ha0_ : Q a0_) => ?_) ?_; clear_value a0_)
  repeat' first
    | with_reducible first
      | assumption | intro _ | refine hP.exec _ _ (by assumption) | apply Closed.ite | apply hP.setReg
      | apply Closed.forN | apply Closed.foldl
    | intro _
    | (extract_lets b0_
       try (refine (fun (hb0_ : Q b0_) => ?_) ?_; clear_value b0_))
    | split | with_reducible refine hP.exec _ _ ?_ | exact rfl | exact fun h => h | unfold a0_ | unfold b0_

theorem updVoting_closed {f : Voting → Voting} {s : State}  (hq_ : Q s) : Q (updVoting f s) := by
  unfold updVoting
  try extract_lets a0_
  try (refine (fun (ha0_ : Q a0_) => ?_) ?_; clear_value a0_)
  repeat' first
    | with_reducible first
      | assumption | intro _ | refine hP.voting _ _ (by assumption) | apply Closed.ite | apply hP.setReg
      | apply Closed.forN | apply Closed.foldl
    | intro _
    | (extract_lets b0_
       try (refine (fun (hb0_ : Q b0_) => ?_) ?_; clear_value b0_))
    | split | with_reducible refine hP.voting _ _ ?_ | exact rfl | exact fun h => h | unfold a0_
    | unfold b0_

theorem updMems_closed {f : Mems → Mems} {s : State} (hf : ∀ x, Mems.wfTo x (f x)) (h : Q s) :
    Q (updMems f s) := hP.mems _ _ (hf _) h

theorem updStarter_closed {f : Starter → Starter} {s : State}  (hq_ : Q s) : Q (updStarter f s) := by
  unfold updStarter
  try extract_lets a0_
  try (refine (fun (ha0_ : Q a0_) => ?_) ?_; clear_value a0_)
  repeat' first
    | with_reducible first
      | assumption | intro _ | refine hP.starter _ _ (by assumption) | apply Closed.ite | apply hP.setReg
      | apply Closed.forN | apply Closed.foldl
    | intro _
    | (extract_lets b0_
       try (refine (fun (hb0_ : Q b0_) => ?_) ?_; clear_value b0_))
    | split | with_reducible refine hP.starter _ _ ?_ | exact rfl | exact fun h => h | unfold a0_
    | unfold b0_

theorem updTime_closed {f : TimeUnit → TimeUnit} {s : State} (hf : ∀ x, TimeUnit.wfTo x (f x)) (h : Q s) :
    Q (updTime f s) := hP.time _ _ (hf _) h

theorem updBaton_closed {f : Baton → Baton} {s : State} (hf : ∀ x, Baton.wfTo x (f x)) (h : Q s) :
    Q (updBaton f s) := hP.baton _ _ (hf _) h

theorem updSwap_closed {f : Exchange → Exchange} {s : State}  (hq_ : Q s) : Q (updSwap f s) := by
  unfold updSwap
  try extract_lets a0_
  try (refine (fun (ha0_ : Q a0_) => ?_) ?_; clear_value a0_)
  repeat' first
    | with_reducible first
      | assumption | intro _ | refine hP.swap _ _ (by assumption) | apply Closed.ite | apply hP.setReg
      | apply Closed.forN | apply Closed.foldl
    | intro _
    | (extract_lets b0_
       try (refine (fun (hb0_ : Q b0_) => ?_) ?_; clear_value b0_))
    | split | with_reducible refine hP.swap _ _ ?_ | exact rfl | exact fun h => h | unfold a0_ | unfold b0_

theorem updBoot_closed {f : Boot → Boot} {s : State} (hf : ∀ x, Boot.wfTo x (f x)) (h : Q s) :
    Q (updBoot f s) := hP.boot _ _ (hf _) h

theorem setTout_closed {t : Nat} {x : Tout} {x0_ : State}  (hq_ : Q x0_) : Q (setTout t x x0_) := by
  unfold setTout
  try extract_lets a0_
  try (refine (fun (ha0_ : Q a0_) => ?_) ?_; clear_value a0_)
  repeat' first
    | with_reducible first
      | assumption | intro _ | apply Closed.ite | apply updTime_closed hP | apply hP.setReg
      | apply Closed.forN | apply Closed.foldl | apply Memory.writeN_wf | apply Memory.writeLe_wf
      | apply Memory.copy_wf | apply Memory.splice_wf | apply Memory.clear_wf | apply Memory.write_wf
      | apply Memory.foldl_copy_wf | apply Memory.foldl_writeN_wf | apply State.lane_wf
    | intro _
    | (extract_lets b0_
       try (refine (fun (hb0_ : Q b0_) => ?_) ?_; clear_value b0_))
    | split | exact Nat.mod_lt _ (by decide) | exact rfl | exact fun h => h | unfold a0_ | unfold b0_

theorem toutState_closed {t : Nat} {st : Nat} {s : State}  (hq_ : Q s) : Q (toutState t st s) := by
  unfold toutState
  repeat' first
    | with_reducible first
      | assumption | intro _ | apply Closed.ite | apply State.setF_closed hP | apply State.setB_closed hP
      | apply hP.setReg | apply Closed.forN | apply Closed.foldl
    | intro _ | extract_lets | split | exact rfl | exact fun h => h

theorem unqueueDo_closed {i : Nat} {x0_ : State}  (hq_ : Q x0_) : Q (unqueueDo i x0_) := by
  unfold unqueueDo
  try extract_lets a0_
  try (refine (fun (ha0_ : Q a0_) => ?_) ?_; clear_value a0_)
  repeat' first
    | with_reducible first
      | assumption | intro _ | apply Closed.ite | apply updGroup_closed hP | apply hP.setReg
      | apply Closed.forN | apply Closed.foldl
    | intro _
    | (extract_lets b0_
       try (refine (fun (hb0_ : Q b0_) => ?_) ?_; clear_value b0_))
    | split | exact rfl | exact fun h => h | unfold a0_ | unfold b0_

theorem cancelTout_closed {t : Nat} {s : State}  (hq_ : Q s) : Q (cancelTout t s) := by
  unfold cancelTout
  try extract_lets a0_ a1_ a2_
  try (refine (fun (ha0_ : Q a0_) => ?_) ?_; clear_value a0_)
  try (refine (fun (ha1_ : Q a1_) => ?_) ?_; clear_value a1_)
  try (refine (fun (ha2_ : Q a2_) => ?_) ?_; clear_value a2_)
  repeat' first
    | with_reducible first
      | assumption | intro _ | apply Closed.ite | apply unqueueDo_closed hP | apply setTout_closed hP
      | apply irqSet_closed hP | apply toutState_closed hP | apply State.bump_closed hP | apply hP.setReg
      | apply Closed.forN | apply Closed.foldl
    | intro _
    | (extract_lets b0_ b1_ b2_
       try (refine (fun (hb0_ : Q b0_) => ?_) ?_; clear_value b0_)
       try (refine (fun (hb1_ : Q b1_) => ?_) ?_; clear_value b1_)
       try (refine (fun (hb2_ : Q b2_) => ?_) ?_; clear_value b2_))
    | split | exact rfl | exact fun h => h | unfold a0_ | unfold a1_ | unfold a2_ | unfold b0_ | unfold b1_
    | unfold b2_

theorem cancelTouts_closed {s : State}  (hq_ : Q s) : Q (cancelTouts s) := by
  unfold cancelTouts
  repeat' first
    | with_reducible first
      | assumption | intro _ | apply Closed.ite | apply cancelTout_closed hP | apply hP.setReg
      | apply Closed.forN | apply Closed.foldl
    | intro _ | extract_lets | split | exact rfl | exact fun h => h

theorem setTest_closed {i : Nat} {t : SboTest} {x0_ : State}  (hq_ : Q x0_) : Q (setTest i t x0_) := by
  unfold setTest
  try extract_lets a0_
  try (refine (fun (ha0_ : Q a0_) => ?_) ?_; clear_value a0_)
  repeat' first
    | with_reducible first
      | assumption | intro _ | apply Closed.ite | apply updSafety_closed hP | apply hP.setReg
      | apply Closed.forN | apply Closed.foldl | apply Memory.writeN_wf | apply Memory.writeLe_wf
      | apply Memory.copy_wf | apply Memory.splice_wf | apply Memory.clear_wf | apply Memory.write_wf
      | apply Memory.foldl_copy_wf | apply Memory.foldl_writeN_wf | apply State.lane_wf
    | intro _
    | (extract_lets b0_
       try (refine (fun (hb0_ : Q b0_) => ?_) ?_; clear_value b0_))
    | split | exact rfl | exact fun h => h | unfold a0_ | unfold b0_

theorem sboPageState_closed {s : State}  (hq_ : Q s) : Q (sboPageState s) := by
  unfold sboPageState
  repeat' first
    | with_reducible first
      | assumption | intro _ | apply Closed.ite | apply State.setPgState_closed hP | apply hP.setReg
      | apply Closed.forN | apply Closed.foldl
    | intro _ | extract_lets | split | exact rfl | exact fun h => h

theorem quiet_closed {i : Nat} {s : State}  (hq_ : Q s) : Q (quiet i s) := by
  unfold quiet
  try extract_lets a0_
  try (refine (fun (ha0_ : Q a0_) => ?_) ?_; clear_value a0_)
  repeat' first
    | with_reducible first
      | assumption | intro _ | apply Closed.ite | apply updSafety_closed hP | apply hP.setReg
      | apply Closed.forN | apply Closed.foldl | apply Memory.writeN_wf | apply Memory.writeLe_wf
      | apply Memory.copy_wf | apply Memory.splice_wf | apply Memory.clear_wf | apply Memory.write_wf
      | apply Memory.foldl_copy_wf | apply Memory.foldl_writeN_wf | apply State.lane_wf
    | intro _
    | (extract_lets b0_
       try (refine (fun (hb0_ : Q b0_) => ?_) ?_; clear_value b0_))
    | split | exact rfl | exact fun h => h | unfold a0_ | unfold b0_

theorem abortTest_closed {i : Nat} {s : State}  (hq_ : Q s) : Q (abortTest i s) := by
  unfold abortTest
  try extract_lets a0_ a1_ a2_ a3_
  try (refine (fun (ha0_ : Q a0_) => ?_) ?_; clear_value a0_)
  try (refine (fun (ha1_ : Q a1_) => ?_) ?_; clear_value a1_)
  try (refine (fun (ha2_ : Q a2_) => ?_) ?_; clear_value a2_)
  try (refine (fun (ha3_ : Q a3_) => ?_) ?_; clear_value a3_)
  repeat' first
    | with_reducible first
      | assumption | intro _ | apply Closed.ite | apply setTest_closed hP | apply quiet_closed hP
      | apply State.setF_closed hP | apply State.bump_closed hP | apply sboPageState_closed hP
      | apply hP.setReg | apply Closed.forN | apply Closed.foldl
    | intro _
    | (extract_lets b0_ b1_ b2_ b3_
       try (refine (fun (hb0_ : Q b0_) => ?_) ?_; clear_value b0_)
       try (refine (fun (hb1_ : Q b1_) => ?_) ?_; clear_value b1_)
       try (refine (fun (hb2_ : Q b2_) => ?_) ?_; clear_value b2_)
       try (refine (fun (hb3_ : Q b3_) => ?_) ?_; clear_value b3_))
    | split | exact rfl | exact fun h => h | unfold a0_ | unfold a1_ | unfold a2_ | unfold a3_ | unfold b0_
    | unfold b1_ | unfold b2_ | unfold b3_

theorem setGroup_closed {g : Nat} {st : Nat} {s : State}  (hq_ : Q s) : Q (setGroup g st s) := by
  unfold setGroup
  try extract_lets a0_ a1_ a2_ a3_
  try (refine (fun (ha0_ : Q a0_) => ?_) ?_; clear_value a0_)
  try (refine (fun (ha1_ : Q a1_) => ?_) ?_; clear_value a1_)
  try (refine (fun (ha2_ : Q a2_) => ?_) ?_; clear_value a2_)
  try (refine (fun (ha3_ : Q a3_) => ?_) ?_; clear_value a3_)
  repeat' first
    | with_reducible first
      | assumption | intro _ | apply Closed.ite | apply abortTest_closed hP | apply cancelTout_closed hP
      | apply State.setF_closed hP | apply updSafety_closed hP | apply hP.setReg | apply Closed.forN
      | apply Closed.foldl | apply Memory.writeN_wf | apply Memory.writeLe_wf | apply Memory.copy_wf
      | apply Memory.splice_wf | apply Memory.clear_wf | apply Memory.write_wf | apply Memory.foldl_copy_wf
      | apply Memory.foldl_writeN_wf | apply State.lane_wf
    | intro _
    | (extract_lets b0_ b1_ b2_ b3_
       try (refine (fun (hb0_ : Q b0_) => ?_) ?_; clear_value b0_)
       try (refine (fun (hb1_ : Q b1_) => ?_) ?_; clear_value b1_)
       try (refine (fun (hb2_ : Q b2_) => ?_) ?_; clear_value b2_)
       try (refine (fun (hb3_ : Q b3_) => ?_) ?_; clear_value b3_))
    | split | exact rfl | exact fun h => h | unfold a0_ | unfold a1_ | unfold a2_ | unfold a3_ | unfold b0_
    | unfold b1_ | unfold b2_ | unfold b3_

theorem groupSafe_closed {g : Nat} {s : State}  (hq_ : Q s) : Q (groupSafe g s) := by
  unfold groupSafe
  repeat' first
    | with_reducible first
      | assumption | intro _ | apply Closed.ite | apply setGroup_closed hP | apply hP.setReg
      | apply Closed.forN | apply Closed.foldl
    | intro _ | extract_lets | split | exact rfl | exact fun h => h

theorem allGroupsSafe_closed {s : State}  (hq_ : Q s) : Q (allGroupsSafe s) := by
  unfold allGroupsSafe
  repeat' first
    | with_reducible first
      | assumption | intro _ | apply Closed.ite | apply groupSafe_closed hP | apply hP.setReg
      | apply Closed.forN | apply Closed.foldl
    | intro _ | extract_lets | split | exact rfl | exact fun h => h

theorem pfcSafeOff_closed {reason : Option Nat} {s : State}  (hq_ : Q s) : Q (pfcSafeOff reason s) := by
  unfold pfcSafeOff
  try extract_lets a0_ a1_ a2_
  try (refine (fun (ha0_ : Q a0_) => ?_) ?_; clear_value a0_)
  try (refine (fun (ha1_ : Q a1_) => ?_) ?_; clear_value a1_)
  try (refine (fun (ha2_ : Q a2_) => ?_) ?_; clear_value a2_)
  repeat' first
    | with_reducible first
      | assumption | intro _ | apply Closed.ite | apply State.setF_closed hP | apply State.setB_closed hP
      | apply hP.setReg | apply Closed.forN | apply Closed.foldl
    | intro _
    | (extract_lets b0_ b1_ b2_
       try (refine (fun (hb0_ : Q b0_) => ?_) ?_; clear_value b0_)
       try (refine (fun (hb1_ : Q b1_) => ?_) ?_; clear_value b1_)
       try (refine (fun (hb2_ : Q b2_) => ?_) ?_; clear_value b2_))
    | split | exact rfl | exact fun h => h | unfold a0_ | unfold a1_ | unfold a2_ | unfold b0_ | unfold b1_
    | unfold b2_

theorem unitSafeOff_closed {f : Nat} {s : State}  (hq_ : Q s) : Q (unitSafeOff f s) := by
  unfold unitSafeOff
  try extract_lets a0_
  try (refine (fun (ha0_ : Q a0_) => ?_) ?_; clear_value a0_)
  repeat' first
    | with_reducible first
      | assumption | intro _ | apply Closed.ite | apply updGroup_closed hP | apply State.setB_closed hP
      | apply hP.setReg | apply Closed.forN | apply Closed.foldl
    | intro _
    | (extract_lets b0_
       try (refine (fun (hb0_ : Q b0_) => ?_) ?_; clear_value b0_))
    | split | exact rfl | exact fun h => h | unfold a0_ | unfold b0_

theorem storeLocks_closed {s : State}  (hq_ : Q s) : Q (storeLocks s) := by
  unfold storeLocks
  try extract_lets a0_ a1_
  try (refine (fun (ha0_ : Q a0_) => ?_) ?_; clear_value a0_)
  try (refine (fun (ha1_ : Q a1_) => ?_) ?_; clear_value a1_)
  repeat' first
    | with_reducible first
      | assumption | intro _ | apply Closed.ite | apply State.setRegN_closed hP | apply State.send_closed hP
      | apply hP.setReg | apply Closed.forN | apply Closed.foldl
    | intro _
    | (extract_lets b0_ b1_
       try (refine (fun (hb0_ : Q b0_) => ?_) ?_; clear_value b0_)
       try (refine (fun (hb1_ : Q b1_) => ?_) ?_; clear_value b1_))
    | split | exact rfl | exact fun h => h | unfold a0_ | unfold a1_ | unfold b0_ | unfold b1_

theorem endBrake_closed {g : Nat} {s : State}  (hq_ : Q s) : Q (endBrake g s) := by
  unfold endBrake
  try extract_lets a0_ a1_ a2_ a3_ a4_ a5_
  try (refine (fun (ha0_ : Q a0_) => ?_) ?_; clear_value a0_)
  try (refine (fun (ha1_ : Q a1_) => ?_) ?_; clear_value a1_)
  try (refine (fun (ha2_ : Q a2_) => ?_) ?_; clear_value a2_)
  try (refine (fun (ha3_ : Q a3_) => ?_) ?_; clear_value a3_)
  try (refine (fun (ha4_ : Q a4_) => ?_) ?_; clear_value a4_)
  try (refine (fun (ha5_ : Q a5_) => ?_) ?_; clear_value a5_)
  repeat' first
    | with_reducible first
      | assumption | intro _ | apply Closed.ite | apply setTest_closed hP | apply quiet_closed hP
      | apply State.setF_closed hP | apply recordErr_closed hP | apply irqSet_closed hP
      | apply finish_closed hP | apply sboPageState_closed hP | apply hP.setReg | apply Closed.forN
      | apply Closed.foldl
    | intro _
    | (extract_lets b0_ b1_ b2_ b3_ b4_ b5_
       try (refine (fun (hb0_ : Q b0_) => ?_) ?_; clear_value b0_)
       try (refine (fun (hb1_ : Q b1_) => ?_) ?_; clear_value b1_)
       try (refine (fun (hb2_ : Q b2_) => ?_) ?_; clear_value b2_)
       try (refine (fun (hb3_ : Q b3_) => ?_) ?_; clear_value b3_)
       try (refine (fun (hb4_ : Q b4_) => ?_) ?_; clear_value b4_)
       try (refine (fun (hb5_ : Q b5_) => ?_) ?_; clear_value b5_))
    | split | exact rfl | exact fun h => h | unfold a0_ | unfold a1_ | unfold a2_ | unfold a3_ | unfold a4_
    | unfold a5_ | unfold b0_ | unfold b1_ | unfold b2_ | unfold b3_ | unfold b4_ | unfold b5_

theorem lockGroup_closed {g : Nat} {cause : Nat} {detail : Nat} {s : State}  (hq_ : Q s) : Q (lockGroup g cause detail s) := by
  unfold lockGroup
  try extract_lets a0_ a1_ a2_ a3_ a4_ a5_ a6_ a7_ a8_ a9_ a10_
  try (refine (fun (ha0_ : Q a0_) => ?_) ?_; clear_value a0_)
  try (refine (fun (ha1_ : Q a1_) => ?_) ?_; clear_value a1_)
  try (refine (fun (ha2_ : Q a2_) => ?_) ?_; clear_value a2_)
  try (refine (fun (ha3_ : Q a3_) => ?_) ?_; clear_value a3_)
  try (refine (fun (ha4_ : Q a4_) => ?_) ?_; clear_value a4_)
  try (refine (fun (ha5_ : Q a5_) => ?_) ?_; clear_value a5_)
  try (refine (fun (ha6_ : Q a6_) => ?_) ?_; clear_value a6_)
  try (refine (fun (ha7_ : Q a7_) => ?_) ?_; clear_value a7_)
  try (refine (fun (ha8_ : Q a8_) => ?_) ?_; clear_value a8_)
  try (refine (fun (ha9_ : Q a9_) => ?_) ?_; clear_value a9_)
  try (refine (fun (ha10_ : Q a10_) => ?_) ?_; clear_value a10_)
  repeat' first
    | with_reducible first
      | assumption | intro _ | apply Closed.ite | apply State.setRegN_closed hP | apply endBrake_closed hP
      | apply setGroup_closed hP | apply updSafety_closed hP | apply recordErr_closed hP
      | apply State.setB_closed hP | apply State.setF_closed hP | apply tally_closed hP
      | apply State.bump_closed hP | apply State.setReg64_closed hP | apply unitSafeOff_closed hP
      | apply raise_closed hP | apply storeLocks_closed hP | apply irqSet_closed hP | apply hP.setReg
      | apply Closed.forN | apply Closed.foldl | apply Memory.writeN_wf | apply Memory.writeLe_wf
      | apply Memory.copy_wf | apply Memory.splice_wf | apply Memory.clear_wf | apply Memory.write_wf
      | apply Memory.foldl_copy_wf | apply Memory.foldl_writeN_wf | apply State.lane_wf
    | intro _
    | (extract_lets b0_ b1_ b2_ b3_ b4_ b5_ b6_ b7_ b8_ b9_ b10_
       try (refine (fun (hb0_ : Q b0_) => ?_) ?_; clear_value b0_)
       try (refine (fun (hb1_ : Q b1_) => ?_) ?_; clear_value b1_)
       try (refine (fun (hb2_ : Q b2_) => ?_) ?_; clear_value b2_)
       try (refine (fun (hb3_ : Q b3_) => ?_) ?_; clear_value b3_)
       try (refine (fun (hb4_ : Q b4_) => ?_) ?_; clear_value b4_)
       try (refine (fun (hb5_ : Q b5_) => ?_) ?_; clear_value b5_)
       try (refine (fun (hb6_ : Q b6_) => ?_) ?_; clear_value b6_)
       try (refine (fun (hb7_ : Q b7_) => ?_) ?_; clear_value b7_)
       try (refine (fun (hb8_ : Q b8_) => ?_) ?_; clear_value b8_)
       try (refine (fun (hb9_ : Q b9_) => ?_) ?_; clear_value b9_)
       try (refine (fun (hb10_ : Q b10_) => ?_) ?_; clear_value b10_))
    | split | exact rfl | exact fun h => h | unfold a0_ | unfold a1_ | unfold a2_ | unfold a3_ | unfold a4_
    | unfold a5_ | unfold a6_ | unfold a7_ | unfold a8_ | unfold a9_ | unfold a10_ | unfold b0_
    | unfold b1_ | unfold b2_ | unfold b3_ | unfold b4_ | unfold b5_ | unfold b6_ | unfold b7_ | unfold b8_
    | unfold b9_ | unfold b10_

theorem lockAll_closed {cause : Nat} {detail : Nat} {s : State}  (hq_ : Q s) : Q (lockAll cause detail s) := by
  unfold lockAll
  repeat' first
    | with_reducible first
      | assumption | intro _ | apply Closed.ite | apply lockGroup_closed hP | apply hP.setReg
      | apply Closed.forN | apply Closed.foldl
    | intro _ | extract_lets | split | exact rfl | exact fun h => h

theorem lockField_closed {f : Nat} {cause : Nat} {s : State}  (hq_ : Q s) : Q (lockField f cause s) := by
  unfold lockField
  repeat' first
    | with_reducible first
      | assumption | intro _ | apply Closed.ite | apply lockGroup_closed hP | apply hP.setReg
      | apply Closed.forN | apply Closed.foldl
    | intro _ | extract_lets | split | exact rfl | exact fun h => h

theorem setMode_closed {m : Nat} {s : State}  (hq_ : Q s) : Q (setMode m s) := by
  unfold setMode
  try extract_lets a0_ a1_ a2_ a3_ a4_ a5_ a6_
  try (refine (fun (ha0_ : Q a0_) => ?_) ?_; clear_value a0_)
  try (refine (fun (ha1_ : Q a1_) => ?_) ?_; clear_value a1_)
  try (refine (fun (ha2_ : Q a2_) => ?_) ?_; clear_value a2_)
  try (refine (fun (ha3_ : Q a3_) => ?_) ?_; clear_value a3_)
  try (refine (fun (ha4_ : Q a4_) => ?_) ?_; clear_value a4_)
  try (refine (fun (ha5_ : Q a5_) => ?_) ?_; clear_value a5_)
  try (refine (fun (ha6_ : Q a6_) => ?_) ?_; clear_value a6_)
  repeat' first
    | with_reducible first
      | assumption | intro _ | apply Closed.ite | apply State.setF_closed hP
      | apply State.setPgState_closed hP | apply State.setB_closed hP | apply cancelTouts_closed hP
      | apply irqSet_closed hP | apply hP.setReg | apply Closed.forN | apply Closed.foldl
    | intro _
    | (extract_lets b0_ b1_ b2_ b3_ b4_ b5_ b6_
       try (refine (fun (hb0_ : Q b0_) => ?_) ?_; clear_value b0_)
       try (refine (fun (hb1_ : Q b1_) => ?_) ?_; clear_value b1_)
       try (refine (fun (hb2_ : Q b2_) => ?_) ?_; clear_value b2_)
       try (refine (fun (hb3_ : Q b3_) => ?_) ?_; clear_value b3_)
       try (refine (fun (hb4_ : Q b4_) => ?_) ?_; clear_value b4_)
       try (refine (fun (hb5_ : Q b5_) => ?_) ?_; clear_value b5_)
       try (refine (fun (hb6_ : Q b6_) => ?_) ?_; clear_value b6_))
    | split | exact rfl | exact fun h => h | unfold a0_ | unfold a1_ | unfold a2_ | unfold a3_ | unfold a4_
    | unfold a5_ | unfold a6_ | unfold b0_ | unfold b1_ | unfold b2_ | unfold b3_ | unfold b4_ | unfold b5_
    | unfold b6_

theorem stopOutputs_closed {s : State}  (hq_ : Q s) : Q (stopOutputs s) := by
  unfold stopOutputs
  try extract_lets a0_ a1_ a2_ a3_ a4_ a5_
  try (refine (fun (ha0_ : Q a0_) => ?_) ?_; clear_value a0_)
  try (refine (fun (ha1_ : Q a1_) => ?_) ?_; clear_value a1_)
  try (refine (fun (ha2_ : Q a2_) => ?_) ?_; clear_value a2_)
  try (refine (fun (ha3_ : Q a3_) => ?_) ?_; clear_value a3_)
  try (refine (fun (ha4_ : Q a4_) => ?_) ?_; clear_value a4_)
  try (refine (fun (ha5_ : Q a5_) => ?_) ?_; clear_value a5_)
  repeat' first
    | with_reducible first
      | assumption | intro _ | apply Closed.ite | apply updExec_closed hP | apply setTout_closed hP
      | apply updSwap_closed hP | apply hP.setReg | apply Closed.forN | apply Closed.foldl
      | apply Memory.writeN_wf | apply Memory.writeLe_wf | apply Memory.copy_wf | apply Memory.splice_wf
      | apply Memory.clear_wf | apply Memory.write_wf | apply Memory.foldl_copy_wf
      | apply Memory.foldl_writeN_wf | apply State.lane_wf
    | intro _
    | (extract_lets b0_ b1_ b2_ b3_ b4_ b5_
       try (refine (fun (hb0_ : Q b0_) => ?_) ?_; clear_value b0_)
       try (refine (fun (hb1_ : Q b1_) => ?_) ?_; clear_value b1_)
       try (refine (fun (hb2_ : Q b2_) => ?_) ?_; clear_value b2_)
       try (refine (fun (hb3_ : Q b3_) => ?_) ?_; clear_value b3_)
       try (refine (fun (hb4_ : Q b4_) => ?_) ?_; clear_value b4_)
       try (refine (fun (hb5_ : Q b5_) => ?_) ?_; clear_value b5_))
    | split | exact rfl | exact fun h => h | unfold a0_ | unfold a1_ | unfold a2_ | unfold a3_ | unfold a4_
    | unfold a5_ | unfold b0_ | unfold b1_ | unfold b2_ | unfold b3_ | unfold b4_ | unfold b5_

theorem discardStride_closed {s : State}  (hq_ : Q s) : Q (discardStride s) := by
  unfold discardStride
  try extract_lets a0_ a1_
  try (refine (fun (ha0_ : Q a0_) => ?_) ?_; clear_value a0_)
  try (refine (fun (ha1_ : Q a1_) => ?_) ?_; clear_value a1_)
  repeat' first
    | with_reducible first
      | assumption | intro _ | apply Closed.ite | apply updExec_closed hP | apply State.setB_closed hP
      | apply hP.setReg | apply Closed.forN | apply Closed.foldl
    | intro _
    | (extract_lets b0_ b1_
       try (refine (fun (hb0_ : Q b0_) => ?_) ?_; clear_value b0_)
       try (refine (fun (hb1_ : Q b1_) => ?_) ?_; clear_value b1_))
    | split | exact rfl | exact fun h => h | unfold a0_ | unfold a1_ | unfold b0_ | unfold b1_

theorem enterStop_closed {cause : Nat} {s : State}  (hq_ : Q s) : Q (enterStop cause s) := by
  unfold enterStop
  try extract_lets a0_
  try (refine (fun (ha0_ : Q a0_) => ?_) ?_; clear_value a0_)
  repeat' first
    | with_reducible first
      | assumption | intro _ | apply Closed.ite | apply discardStride_closed hP
      | apply allGroupsSafe_closed hP | apply stopOutputs_closed hP | apply setMode_closed hP
      | apply State.setF_closed hP | apply hP.setReg | apply Closed.forN | apply Closed.foldl
    | intro _
    | (extract_lets b0_
       try (refine (fun (hb0_ : Q b0_) => ?_) ?_; clear_value b0_))
    | split | exact rfl | exact fun h => h | unfold a0_ | unfold b0_

theorem moduleCause_closed {stopCause : Nat} {s : State}  (hq_ : Q s) : Q (moduleCause stopCause s) := by
  unfold moduleCause
  try extract_lets a0_ a1_ a2_ a3_ a4_
  try (refine (fun (ha0_ : Q a0_) => ?_) ?_; clear_value a0_)
  try (refine (fun (ha1_ : Q a1_) => ?_) ?_; clear_value a1_)
  try (refine (fun (ha2_ : Q a2_) => ?_) ?_; clear_value a2_)
  try (refine (fun (ha3_ : Q a3_) => ?_) ?_; clear_value a3_)
  try (refine (fun (ha4_ : Q a4_) => ?_) ?_; clear_value a4_)
  repeat' first
    | with_reducible first
      | assumption | intro _ | apply Closed.ite | apply raise_closed hP | apply lockAll_closed hP
      | apply unitSafeOff_closed hP | apply updExec_closed hP | apply enterStop_closed hP | apply hP.setReg
      | apply Closed.forN | apply Closed.foldl
    | intro _
    | (extract_lets b0_ b1_ b2_ b3_ b4_
       try (refine (fun (hb0_ : Q b0_) => ?_) ?_; clear_value b0_)
       try (refine (fun (hb1_ : Q b1_) => ?_) ?_; clear_value b1_)
       try (refine (fun (hb2_ : Q b2_) => ?_) ?_; clear_value b2_)
       try (refine (fun (hb3_ : Q b3_) => ?_) ?_; clear_value b3_)
       try (refine (fun (hb4_ : Q b4_) => ?_) ?_; clear_value b4_))
    | split | exact rfl | exact fun h => h | unfold a0_ | unfold a1_ | unfold a2_ | unfold a3_ | unfold a4_
    | unfold b0_ | unfold b1_ | unfold b2_ | unfold b3_ | unfold b4_

theorem setRole_closed {r : Nat} {s : State}  (hq_ : Q s) : Q (setRole r s) := by
  unfold setRole
  try extract_lets a0_ a1_ a2_ a3_ a4_
  try (refine (fun (ha0_ : Q a0_) => ?_) ?_; clear_value a0_)
  try (refine (fun (ha1_ : Q a1_) => ?_) ?_; clear_value a1_)
  try (refine (fun (ha2_ : Q a2_) => ?_) ?_; clear_value a2_)
  try (refine (fun (ha3_ : Q a3_) => ?_) ?_; clear_value a3_)
  try (refine (fun (ha4_ : Q a4_) => ?_) ?_; clear_value a4_)
  repeat' first
    | with_reducible first
      | assumption | intro _ | apply Closed.ite | apply State.setF_closed hP
      | apply State.setPgState_closed hP | apply State.setB_closed hP | apply irqSet_closed hP
      | apply hP.setReg | apply Closed.forN | apply Closed.foldl
    | intro _
    | (extract_lets b0_ b1_ b2_ b3_ b4_
       try (refine (fun (hb0_ : Q b0_) => ?_) ?_; clear_value b0_)
       try (refine (fun (hb1_ : Q b1_) => ?_) ?_; clear_value b1_)
       try (refine (fun (hb2_ : Q b2_) => ?_) ?_; clear_value b2_)
       try (refine (fun (hb3_ : Q b3_) => ?_) ?_; clear_value b3_)
       try (refine (fun (hb4_ : Q b4_) => ?_) ?_; clear_value b4_))
    | split | exact rfl | exact fun h => h | unfold a0_ | unfold a1_ | unfold a2_ | unfold a3_ | unfold a4_
    | unfold b0_ | unfold b1_ | unfold b2_ | unfold b3_ | unfold b4_

theorem dropClaim_closed {s : State}  (hq_ : Q s) : Q (dropClaim s) := by
  unfold dropClaim
  try extract_lets a0_
  try (refine (fun (ha0_ : Q a0_) => ?_) ?_; clear_value a0_)
  repeat' first
    | with_reducible first
      | assumption | intro _ | apply Closed.ite | apply updPart_closed hP | apply hP.setReg
      | apply Closed.forN | apply Closed.foldl
    | intro _
    | (extract_lets b0_
       try (refine (fun (hb0_ : Q b0_) => ?_) ?_; clear_value b0_))
    | split | exact rfl | exact fun h => h | unfold a0_ | unfold b0_

theorem closeGate_closed {s : State}  (hq_ : Q s) : Q (closeGate s) := by
  unfold closeGate
  try extract_lets a0_ a1_
  try (refine (fun (ha0_ : Q a0_) => ?_) ?_; clear_value a0_)
  try (refine (fun (ha1_ : Q a1_) => ?_) ?_; clear_value a1_)
  repeat' first
    | with_reducible first
      | assumption | intro _ | apply Closed.ite | apply State.setB_closed hP | apply abortTest_closed hP
      | apply hP.setReg | apply Closed.forN | apply Closed.foldl
    | intro _
    | (extract_lets b0_ b1_
       try (refine (fun (hb0_ : Q b0_) => ?_) ?_; clear_value b0_)
       try (refine (fun (hb1_ : Q b1_) => ?_) ?_; clear_value b1_))
    | split | exact rfl | exact fun h => h | unfold a0_ | unfold a1_ | unfold b0_ | unfold b1_

theorem withdrawNow_closed {cause : Nat} {s : State}  (hq_ : Q s) : Q (withdrawNow cause s) := by
  unfold withdrawNow
  try extract_lets a0_
  try (refine (fun (ha0_ : Q a0_) => ?_) ?_; clear_value a0_)
  repeat' first
    | with_reducible first
      | assumption | intro _ | apply Closed.ite | apply State.send_closed hP | apply setRole_closed hP
      | apply dropClaim_closed hP | apply State.bump_closed hP | apply hP.setReg | apply Closed.forN
      | apply Closed.foldl
    | intro _
    | (extract_lets b0_
       try (refine (fun (hb0_ : Q b0_) => ?_) ?_; clear_value b0_))
    | split | exact rfl | exact fun h => h | unfold a0_ | unfold b0_

theorem halt_closed {reason : Option Nat} {s : State}  (hq_ : Q s) : Q (halt reason s) := by
  unfold halt
  try extract_lets a0_ a1_ a2_ a3_ a4_
  try (refine (fun (ha0_ : Q a0_) => ?_) ?_; clear_value a0_)
  try (refine (fun (ha1_ : Q a1_) => ?_) ?_; clear_value a1_)
  try (refine (fun (ha2_ : Q a2_) => ?_) ?_; clear_value a2_)
  try (refine (fun (ha3_ : Q a3_) => ?_) ?_; clear_value a3_)
  try (refine (fun (ha4_ : Q a4_) => ?_) ?_; clear_value a4_)
  repeat' first
    | with_reducible first
      | assumption | intro _ | apply Closed.ite | apply State.setB_closed hP | apply pfcSafeOff_closed hP
      | apply moduleCause_closed hP | apply withdrawNow_closed hP | apply irqSet_closed hP | apply hP.setReg
      | apply Closed.forN | apply Closed.foldl
    | intro _
    | (extract_lets b0_ b1_ b2_ b3_ b4_
       try (refine (fun (hb0_ : Q b0_) => ?_) ?_; clear_value b0_)
       try (refine (fun (hb1_ : Q b1_) => ?_) ?_; clear_value b1_)
       try (refine (fun (hb2_ : Q b2_) => ?_) ?_; clear_value b2_)
       try (refine (fun (hb3_ : Q b3_) => ?_) ?_; clear_value b3_)
       try (refine (fun (hb4_ : Q b4_) => ?_) ?_; clear_value b4_))
    | split | exact rfl | exact fun h => h | unfold a0_ | unfold a1_ | unfold a2_ | unfold a3_ | unfold a4_
    | unfold b0_ | unfold b1_ | unfold b2_ | unfold b3_ | unfold b4_

end Sys2Proof.Machine
end

