-- ==== Sys2Proof/Laws/ClosedUnits.lean ====
section
/-!
SUPPORT. The operations of Units.lean keep every property that the primitive writes keep (Laws/Closed.lean).
-/
set_option Elab.async false
set_option linter.all false
set_option linter.unusedVariables false
set_option linter.tactic.unusedName false

namespace Sys2Proof.Machine

variable {Q : State → Prop} (hP : Closed Q)
include hP

theorem updBlock_closed {page : Nat} {chan : Nat} {f : Block → Block} {x0_ : State}  (hq_ : Q x0_) : Q (updBlock page chan f x0_) := by
  unfold updBlock
  try extract_lets a0_ a1_
  try (refine (fun (ha0_ : Q a0_) => ?_) ?_; clear_value a0_)
  try (refine (fun (ha1_ : Q a1_) => ?_) ?_; clear_value a1_)
  repeat' first
    | with_reducible first
      | assumption | intro _ | apply Closed.ite | apply updExec_closed hP | apply hP.setReg
      | apply Closed.forN | apply Closed.foldl | apply Memory.writeN_wf | apply Memory.writeLe_wf
      | apply Memory.copy_wf | apply Memory.splice_wf | apply Memory.clear_wf | apply Memory.write_wf
      | apply Memory.foldl_copy_wf | apply Memory.foldl_writeN_wf | apply State.lane_wf
    | intro _
    | (extract_lets b0_ b1_
       try (refine (fun (hb0_ : Q b0_) => ?_) ?_; clear_value b0_)
       try (refine (fun (hb1_ : Q b1_) => ?_) ?_; clear_value b1_))
    | split | exact rfl | exact fun h => h | unfold a0_ | unfold a1_ | unfold b0_ | unfold b1_

theorem pushUnit_closed {page : Nat} {chan : Nat} {data : List Byte} {seq : Nat} {qual : Nat} {s : State}  (hq_ : Q s) : Q (pushUnit page chan data seq qual s) := by
  unfold pushUnit
  try extract_lets a0_
  try (refine (fun (ha0_ : Q a0_) => ?_) ?_; clear_value a0_)
  repeat' first
    | with_reducible first
      | assumption | intro _ | apply Closed.ite | apply updBlock_closed hP | apply hP.setReg
      | apply Closed.forN | apply Closed.foldl
    | intro _
    | (extract_lets b0_
       try (refine (fun (hb0_ : Q b0_) => ?_) ?_; clear_value b0_))
    | split | exact rfl | exact fun h => h | unfold a0_ | unfold b0_

theorem dropBlock_closed {page : Nat} {chan : Nat} {x0_ : State}  (hq_ : Q x0_) : Q (dropBlock page chan x0_) := by
  unfold dropBlock
  try extract_lets a0_
  try (refine (fun (ha0_ : Q a0_) => ?_) ?_; clear_value a0_)
  repeat' first
    | with_reducible first
      | assumption | intro _ | apply Closed.ite | apply updExec_closed hP | apply hP.setReg
      | apply Closed.forN | apply Closed.foldl
    | intro _
    | (extract_lets b0_
       try (refine (fun (hb0_ : Q b0_) => ?_) ?_; clear_value b0_))
    | split | exact rfl | exact fun h => h | unfold a0_ | unfold b0_

theorem dropBlocks_closed {page : Nat} {x0_ : State}  (hq_ : Q x0_) : Q (dropBlocks page x0_) := by
  unfold dropBlocks
  try extract_lets a0_
  try (refine (fun (ha0_ : Q a0_) => ?_) ?_; clear_value a0_)
  repeat' first
    | with_reducible first
      | assumption | intro _ | apply Closed.ite | apply updExec_closed hP | apply hP.setReg
      | apply Closed.forN | apply Closed.foldl
    | intro _
    | (extract_lets b0_
       try (refine (fun (hb0_ : Q b0_) => ?_) ?_; clear_value b0_))
    | split | exact rfl | exact fun h => h | unfold a0_ | unfold b0_

theorem txNote_closed {mb : Nat} {status : Nat} {sent : Bool} {s : State}  (hq_ : Q s) : Q (txNote mb status sent s) := by
  unfold txNote
  try extract_lets a0_ a1_ a2_
  try (refine (fun (ha0_ : Q a0_) => ?_) ?_; clear_value a0_)
  try (refine (fun (ha1_ : Q a1_) => ?_) ?_; clear_value a1_)
  try (refine (fun (ha2_ : Q a2_) => ?_) ?_; clear_value a2_)
  repeat' first
    | with_reducible first
      | assumption | intro _ | apply Closed.ite | apply updExec_closed hP | apply hP.setReg
      | apply Closed.forN | apply Closed.foldl
    | intro _
    | (extract_lets b0_ b1_ b2_
       try (refine (fun (hb0_ : Q b0_) => ?_) ?_; clear_value b0_)
       try (refine (fun (hb1_ : Q b1_) => ?_) ?_; clear_value b1_)
       try (refine (fun (hb2_ : Q b2_) => ?_) ?_; clear_value b2_))
    | split | exact rfl | exact fun h => h | unfold a0_ | unfold a1_ | unfold a2_ | unfold b0_ | unfold b1_
    | unfold b2_

end Sys2Proof.Machine
end

