-- ==== Sys2Proof/Laws/ClosedCapture.lean ====
section
/-!
SUPPORT. The operations of Capture.lean keep every property that the primitive writes keep (Laws/Closed.lean).
-/
set_option Elab.async false
set_option linter.all false
set_option linter.unusedVariables false
set_option linter.tactic.unusedName false

namespace Sys2Proof.Machine

variable {Q : State → Prop} (hP : Closed Q)
include hP

theorem capture_closed {j : Nat} {ts : Nat} {s : State}  (hq_ : Q s) : Q (capture j ts s) := by
  unfold capture
  try extract_lets a0_ a1_
  try (refine (fun (ha0_ : Q a0_) => ?_) ?_; clear_value a0_)
  try (refine (fun (ha1_ : Q a1_) => ?_) ?_; clear_value a1_)
  repeat' first
    | with_reducible first
      | assumption | intro _ | apply Closed.ite | apply pushUnit_closed hP | apply State.bump_closed hP
      | apply hP.setReg | apply Closed.forN | apply Closed.foldl
    | intro _
    | (extract_lets b0_ b1_
       try (refine (fun (hb0_ : Q b0_) => ?_) ?_; clear_value b0_)
       try (refine (fun (hb1_ : Q b1_) => ?_) ?_; clear_value b1_))
    | split | exact rfl | exact fun h => h | unfold a0_ | unfold a1_ | unfold b0_ | unfold b1_

theorem captures_closed {src : Nat} {idx : Nat} {ts : Nat} {s : State}  (hq_ : Q s) : Q (captures src idx ts s) := by
  unfold captures
  repeat' first
    | with_reducible first
      | assumption | intro _ | apply Closed.ite | apply capture_closed hP | apply hP.setReg
      | apply Closed.forN | apply Closed.foldl
    | intro _ | extract_lets | split | exact rfl | exact fun h => h

end Sys2Proof.Machine
end

