-- ==== Sys2Proof/Laws/ClosedMemOps.lean ====
section
/-!
SUPPORT. The operations of MemOps.lean keep every property that the primitive writes keep (Laws/Closed.lean).
-/
set_option Elab.async false
set_option linter.all false
set_option linter.unusedVariables false
set_option linter.tactic.unusedName false

namespace Sys2Proof.Machine

variable {Q : State → Prop} (hP : Closed Q)
include hP

omit hP in
theorem getAt_mem {α : Type} {d : α} {l : List α} {i : Nat} : getAt d l i = d ∨ getAt d l i ∈ l := by
  induction l generalizing i with
  | nil => exact .inl rfl
  | cons x l ih =>
    cases i with
    | zero => simp [getAt]
    | succ i => rcases ih (i := i) with h | h <;> simp [getAt, h]
omit hP in
/-- A lane's memory is canonical when every one is. -/
theorem State.lane_wf {s : State} {l : Nat} (h : ∀ x ∈ s.lanes, Memory.wf x.sram = true) :
    Memory.wf (s.lane l).sram = true := by
  rcases getAt_mem (d := laneZero) (l := s.lanes) (i := l) with hl | hl
  · unfold State.lane; rw [hl]; rfl
  · exact h _ hl
theorem updLane_closed {l : Nat} {f : Lane → Lane} {s : State} (hf : Lane.wfTo s.lanes f) (h : Q s) :
    Q (updLane l f s) := hP.lanes _ _ _ hf h

theorem strikeWord_closed {m : Nat} {w : Nat} {e : Ecc} {s : State}  (hq_ : Q s) : Q (strikeWord m w e s) := by
  unfold strikeWord
  try extract_lets a0_
  try (refine (fun (ha0_ : Q a0_) => ?_) ?_; clear_value a0_)
  repeat' first
    | with_reducible first
      | assumption | intro _ | apply Closed.ite | apply updMems_closed hP | apply hP.setReg
      | apply Closed.forN | apply Closed.foldl | apply Memory.writeN_wf | apply Memory.writeLe_wf
      | apply Memory.copy_wf | apply Memory.splice_wf | apply Memory.clear_wf | apply Memory.write_wf
      | apply Memory.foldl_copy_wf | apply Memory.foldl_writeN_wf | apply State.lane_wf
    | intro _
    | (extract_lets b0_
       try (refine (fun (hb0_ : Q b0_) => ?_) ?_; clear_value b0_))
    | split | exact rfl | exact fun h => h | unfold a0_ | unfold b0_

theorem freshWords_closed {m : Nat} {a : Nat} {n : Nat} {s : State}  (hq_ : Q s) : Q (freshWords m a n s) := by
  unfold freshWords
  try extract_lets a0_
  try (refine (fun (ha0_ : Q a0_) => ?_) ?_; clear_value a0_)
  repeat' first
    | with_reducible first
      | assumption | intro _ | apply Closed.ite | apply updMems_closed hP | apply hP.setReg
      | apply Closed.forN | apply Closed.foldl
    | intro _
    | (extract_lets b0_
       try (refine (fun (hb0_ : Q b0_) => ?_) ?_; clear_value b0_))
    | split | exact rfl | exact fun h => h | unfold a0_ | unfold b0_

theorem loadLastErr_closed {m : Nat} {addrOff : Nat} {infoOff : Nat} {a : Nat} {master : Nat} {syn : Nat} {s : State}  (hq_ : Q s) : Q (loadLastErr m addrOff infoOff a master syn s) := by
  unfold loadLastErr
  repeat' first
    | with_reducible first
      | assumption | intro _ | apply Closed.ite | apply State.setRegN_closed hP | apply hP.setReg
      | apply Closed.forN | apply Closed.foldl
    | intro _ | extract_lets | split | exact rfl | exact fun h => h

theorem singleError_closed {m : Nat} {a : Nat} {master : Nat} {syn : Nat} {s : State}  (hq_ : Q s) : Q (singleError m a master syn s) := by
  unfold singleError
  try extract_lets a0_ a1_ a2_ a3_ a4_
  try (refine (fun (ha0_ : Q a0_) => ?_) ?_; clear_value a0_)
  try (refine (fun (ha1_ : Q a1_) => ?_) ?_; clear_value a1_)
  try (refine (fun (ha2_ : Q a2_) => ?_) ?_; clear_value a2_)
  try (refine (fun (ha3_ : Q a3_) => ?_) ?_; clear_value a3_)
  try (refine (fun (ha4_ : Q a4_) => ?_) ?_; clear_value a4_)
  repeat' first
    | with_reducible first
      | assumption | intro _ | apply Closed.ite | apply State.bump_closed hP | apply loadLastErr_closed hP
      | apply updMems_closed hP | apply irqSet_closed hP | apply hP.setReg | apply Closed.forN
      | apply Closed.foldl
    | intro _
    | (extract_lets b0_ b1_ b2_ b3_ b4_
       try (refine (fun (hb0_ : Q b0_) => ?_) ?_; clear_value b0_)
       try (refine (fun (hb1_ : Q b1_) => ?_) ?_; clear_value b1_)
       try (refine (fun (hb2_ : Q b2_) => ?_) ?_; clear_value b2_)
       try (refine (fun (hb3_ : Q b3_) => ?_) ?_; clear_value b3_)
       try (refine (fun (hb4_ : Q b4_) => ?_) ?_; clear_value b4_))
    | split | exact rfl | exact fun h => h | unfold a0_ | unfold a1_ | unfold a2_ | unfold a3_ | unfold a4_
    | unfold b0_ | unfold b1_ | unfold b2_ | unfold b3_ | unfold b4_

theorem markClone_closed {a : Nat} {n : Nat} {s : State}  (hq_ : Q s) : Q (markClone a n s) := by
  unfold markClone
  try extract_lets a0_ a1_ a2_
  try (refine (fun (ha0_ : Q a0_) => ?_) ?_; clear_value a0_)
  try (refine (fun (ha1_ : Q a1_) => ?_) ?_; clear_value a1_)
  try (refine (fun (ha2_ : Q a2_) => ?_) ?_; clear_value a2_)
  repeat' first
    | with_reducible first
      | assumption | intro _ | apply Closed.ite | apply updVoting_closed hP | apply hP.setReg
      | apply Closed.forN | apply Closed.foldl
    | intro _
    | (extract_lets b0_ b1_ b2_
       try (refine (fun (hb0_ : Q b0_) => ?_) ?_; clear_value b0_)
       try (refine (fun (hb1_ : Q b1_) => ?_) ?_; clear_value b1_)
       try (refine (fun (hb2_ : Q b2_) => ?_) ?_; clear_value b2_))
    | split | exact rfl | exact fun h => h | unfold a0_ | unfold a1_ | unfold a2_ | unfold b0_ | unfold b1_
    | unfold b2_

theorem laneBytes_closed {l : Nat} {a : Nat} {bs : List Byte} {s : State}  (hq_ : Q s) : Q (laneBytes l a bs s) := by
  unfold laneBytes
  try extract_lets a0_
  try (refine (fun (ha0_ : Q a0_) => ?_) ?_; clear_value a0_)
  repeat' first
    | with_reducible first
      | assumption | intro _ | refine hP.lanes _ _ ?_ ?_ (by assumption) | apply Closed.ite
      | apply freshWords_closed hP | apply updLane_closed hP | apply hP.setReg | apply Closed.forN
      | apply Closed.foldl | apply Memory.writeN_wf | apply Memory.writeLe_wf | apply Memory.copy_wf
      | apply Memory.splice_wf | apply Memory.clear_wf | apply Memory.write_wf | apply Memory.foldl_copy_wf
      | apply Memory.foldl_writeN_wf | apply State.lane_wf
    | intro _
    | (extract_lets b0_
       try (refine (fun (hb0_ : Q b0_) => ?_) ?_; clear_value b0_))
    | split | with_reducible refine hP.lanes _ _ ?_ ?_ ?_ | exact rfl | exact fun h => h
    | exact fun _ _ h => h | unfold a0_ | unfold b0_

theorem loaderWrite_closed {a : Nat} {bs : List Byte} {s : State}  (hq_ : Q s) : Q (loaderWrite a bs s) := by
  unfold loaderWrite
  repeat' first
    | with_reducible first
      | assumption | intro _ | apply Closed.ite | apply markClone_closed hP | apply laneBytes_closed hP
      | apply hP.setReg | apply Closed.forN | apply Closed.foldl
    | intro _ | extract_lets | split | exact rfl | exact fun h => h

theorem loaderBlock_closed {a : Nat} {bs : List Byte} {s : State}  (hq_ : Q s) : Q (loaderBlock a bs s) := by
  unfold loaderBlock
  try extract_lets a0_
  try (refine (fun (ha0_ : Q a0_) => ?_) ?_; clear_value a0_)
  repeat' first
    | with_reducible first
      | assumption | intro _ | refine hP.lanes _ _ ?_ ?_ (by assumption) | apply Closed.ite
      | apply markClone_closed hP | apply freshWords_closed hP | apply updLane_closed hP | apply hP.setReg
      | apply Closed.forN | apply Closed.foldl | apply Memory.writeN_wf | apply Memory.writeLe_wf
      | apply Memory.copy_wf | apply Memory.splice_wf | apply Memory.clear_wf | apply Memory.write_wf
      | apply Memory.foldl_copy_wf | apply Memory.foldl_writeN_wf | apply State.lane_wf
    | intro _
    | (extract_lets b0_
       try (refine (fun (hb0_ : Q b0_) => ?_) ?_; clear_value b0_))
    | split | with_reducible refine hP.lanes _ _ ?_ ?_ ?_ | exact rfl | exact fun h => h
    | exact fun _ _ h => h | unfold a0_ | unfold b0_

theorem knowPoison_closed {w : Nat} {s : State}  (hq_ : Q s) : Q (knowPoison w s) := by
  unfold knowPoison
  try extract_lets a0_
  try (refine (fun (ha0_ : Q a0_) => ?_) ?_; clear_value a0_)
  repeat' first
    | with_reducible first
      | assumption | intro _ | apply Closed.ite | apply updMems_closed hP | apply hP.setReg
      | apply Closed.forN | apply Closed.foldl
    | intro _
    | (extract_lets b0_
       try (refine (fun (hb0_ : Q b0_) => ?_) ?_; clear_value b0_))
    | split | exact rfl | exact fun h => h | unfold a0_ | unfold b0_

theorem poisonDetected_closed {master : Nat} {w : Nat} {syn : Nat} {s : State}  (hq_ : Q s) : Q (poisonDetected master w syn s) := by
  unfold poisonDetected
  try extract_lets a0_ a1_
  try (refine (fun (ha0_ : Q a0_) => ?_) ?_; clear_value a0_)
  try (refine (fun (ha1_ : Q a1_) => ?_) ?_; clear_value a1_)
  repeat' first
    | with_reducible first
      | assumption | intro _ | apply Closed.ite | apply State.bump_closed hP | apply loadLastErr_closed hP
      | apply recordErr_closed hP | apply irqSet_closed hP | apply knowPoison_closed hP | apply hP.setReg
      | apply Closed.forN | apply Closed.foldl
    | intro _
    | (extract_lets b0_ b1_
       try (refine (fun (hb0_ : Q b0_) => ?_) ?_; clear_value b0_)
       try (refine (fun (hb1_ : Q b1_) => ?_) ?_; clear_value b1_))
    | split | exact rfl | exact fun h => h | unfold a0_ | unfold a1_ | unfold b0_ | unfold b1_

theorem commsWordRead_closed {master : Nat} {w : Nat} {e : Ecc} {s : State}  (hq_ : Q s) : Q (commsWordRead master w e s) := by
  unfold commsWordRead
  try extract_lets a0_
  try (refine (fun (ha0_ : Q a0_) => ?_) ?_; clear_value a0_)
  repeat' first
    | with_reducible first
      | assumption | intro _ | apply Closed.ite | apply singleError_closed hP
      | apply poisonDetected_closed hP | apply hP.setReg | apply Closed.forN | apply Closed.foldl
    | intro _
    | (extract_lets b0_
       try (refine (fun (hb0_ : Q b0_) => ?_) ?_; clear_value b0_))
    | split | exact rfl | exact fun h => h | unfold a0_ | unfold b0_

theorem commsRead_closed {master : Nat} {a : Nat} {n : Nat} {s : State}  (hq_ : Q s) : Q (commsRead master a n s) := by
  unfold commsRead
  repeat' first
    | with_reducible first
      | assumption | intro _ | apply Closed.ite | apply commsWordRead_closed hP | apply hP.setReg
      | apply Closed.forN | apply Closed.foldl
    | intro _ | extract_lets | split | exact rfl | exact fun h => h

theorem commsPart_closed {src : Nat} {a : Nat} {bs : List Byte} {s : State}  (hq_ : Q s) : Q (commsPart src a bs s) := by
  unfold commsPart
  try extract_lets a0_ a1_
  try (refine (fun (ha0_ : Q a0_) => ?_) ?_; clear_value a0_)
  try (refine (fun (ha1_ : Q a1_) => ?_) ?_; clear_value a1_)
  repeat' first
    | with_reducible first
      | assumption | intro _ | apply Closed.ite | apply recordErr_closed hP | apply knowPoison_closed hP
      | apply freshWords_closed hP | apply updMems_closed hP | apply hP.setReg | apply Closed.forN
      | apply Closed.foldl | apply Memory.writeN_wf | apply Memory.writeLe_wf | apply Memory.copy_wf
      | apply Memory.splice_wf | apply Memory.clear_wf | apply Memory.write_wf | apply Memory.foldl_copy_wf
      | apply Memory.foldl_writeN_wf | apply State.lane_wf
    | intro _
    | (extract_lets b0_ b1_
       try (refine (fun (hb0_ : Q b0_) => ?_) ?_; clear_value b0_)
       try (refine (fun (hb1_ : Q b1_) => ?_) ?_; clear_value b1_))
    | split | exact rfl | exact fun h => h | unfold a0_ | unfold a1_ | unfold b0_ | unfold b1_

theorem commsWriteK_closed {src : Nat} {x0_ : Nat} {x1_ : Nat} {x2_ : List Byte} {x3_ : State}  (hq_ : Q x3_) : Q (commsWriteK src x0_ x1_ x2_ x3_) := by
  revert hq_
  fun_induction commsWriteK src x0_ x1_ x2_ x3_ <;> intro hq_
  all_goals try repeat' first
      | with_reducible first
        | assumption | intro _ | refine (by assumption : Q _ → Q _) ?_ | apply Closed.ite
        | apply commsPart_closed hP | apply hP.setReg | apply Closed.forN | apply Closed.foldl
      | intro _
      | (extract_lets b0_
         try (refine (fun (hb0_ : Q b0_) => ?_) ?_; clear_value b0_))
      | split | exact rfl | exact fun h => h | unfold a0_ | unfold b0_

theorem commsWrite_closed {src : Nat} {a : Nat} {bs : List Byte} {s : State}  (hq_ : Q s) : Q (commsWrite src a bs s) := by
  unfold commsWrite
  repeat' first
    | with_reducible first
      | assumption | intro _ | apply Closed.ite | apply commsWriteK_closed hP | apply hP.setReg
      | apply Closed.forN | apply Closed.foldl
    | intro _ | extract_lets | split | exact rfl | exact fun h => h

theorem commsEnabled_closed {w : Nat} {be : BitVec 8} {data : DWord} {s : State}  (hq_ : Q s) : Q (commsEnabled w be data s) := by
  unfold commsEnabled
  repeat' first
    | with_reducible first
      | assumption | intro _ | apply Closed.ite | apply commsWrite_closed hP | apply recordErr_closed hP
      | apply knowPoison_closed hP | apply hP.setReg | apply Closed.forN | apply Closed.foldl
    | intro _ | extract_lets | split | exact rfl | exact fun h => h

theorem commsAtomic_closed {master : Nat} {swap : Bool} {w : Nat} {opnd : DWord} {s : State}  (hq_ : Q s) : Q ((commsAtomic master swap w opnd s).2) := by
  unfold commsAtomic
  try extract_lets a0_ a1_ a2_
  try (refine (fun (ha0_ : Q a0_) => ?_) ?_; clear_value a0_)
  try (refine (fun (ha1_ : Q a1_) => ?_) ?_; clear_value a1_)
  try (refine (fun (ha2_ : Q a2_) => ?_) ?_; clear_value a2_)
  repeat' first
    | with_reducible first
      | assumption | intro _ | apply Closed.ite | apply commsRead_closed hP | apply commsWrite_closed hP
      | apply State.bump_closed hP | apply hP.setReg | apply Closed.forN | apply Closed.foldl
    | intro _
    | (extract_lets b0_ b1_ b2_
       try (refine (fun (hb0_ : Q b0_) => ?_) ?_; clear_value b0_)
       try (refine (fun (hb1_ : Q b1_) => ?_) ?_; clear_value b1_)
       try (refine (fun (hb2_ : Q b2_) => ?_) ?_; clear_value b2_))
    | split | exact rfl | exact fun h => h | unfold a0_ | unfold a1_ | unfold a2_ | unfold b0_ | unfold b1_
    | unfold b2_
theorem commsAtomic_next {master : Nat} {swap : Bool} {w : Nat} {opnd : DWord} {s : State} {r0_} {t_ : State} (e : commsAtomic master swap w opnd s = (r0_, t_))  (hq_ : Q s) : Q t_ := by
  have h2_ : Q ((commsAtomic master swap w opnd s).2) := commsAtomic_closed hP  hq_
  rw [e] at h2_; exact h2_

end Sys2Proof.Machine
end

