-- ==== Sys2Proof/Laws/ClosedRelayBase.lean ====
section
/-!
SUPPORT. The operations of RelayBase.lean keep every property that the primitive writes keep (Laws/Closed.lean).
-/
set_option Elab.async false
set_option linter.all false
set_option linter.unusedVariables false
set_option linter.tactic.unusedName false

namespace Sys2Proof.Machine

variable {Q : State → Prop} (hP : Closed Q)
include hP

theorem updRelay_closed {f : Relay → Relay} {s : State} (hf : ∀ x, Relay.wfTo x (f x)) (h : Q s) :
    Q (updRelay f s) := hP.relay _ _ (hf _) h

theorem relayIngress_closed {u : RUnit} {s : State}  (hq_ : Q s) : Q (relayIngress u s) := by
  unfold relayIngress
  try extract_lets a0_
  try (refine (fun (ha0_ : Q a0_) => ?_) ?_; clear_value a0_)
  repeat' first
    | with_reducible first
      | assumption | intro _ | apply Closed.ite | apply State.bump_closed hP | apply updRelay_closed hP
      | apply hP.setReg | apply Closed.forN | apply Closed.foldl | apply Memory.writeN_wf
      | apply Memory.writeLe_wf | apply Memory.copy_wf | apply Memory.splice_wf | apply Memory.clear_wf
      | apply Memory.write_wf | apply Memory.foldl_copy_wf | apply Memory.foldl_writeN_wf
      | apply State.lane_wf
    | intro _
    | (extract_lets b0_
       try (refine (fun (hb0_ : Q b0_) => ?_) ?_; clear_value b0_))
    | split | exact rfl | exact fun h => h | unfold a0_ | unfold b0_

theorem relayEvent_closed {port : Nat} {code : Nat} {detail : Nat} {s : State}  (hq_ : Q s) : Q (relayEvent port code detail s) := by
  unfold relayEvent
  try extract_lets a0_ a1_ a2_ a3_
  try (refine (fun (ha0_ : Q a0_) => ?_) ?_; clear_value a0_)
  try (refine (fun (ha1_ : Q a1_) => ?_) ?_; clear_value a1_)
  try (refine (fun (ha2_ : Q a2_) => ?_) ?_; clear_value a2_)
  try (refine (fun (ha3_ : Q a3_) => ?_) ?_; clear_value a3_)
  repeat' first
    | with_reducible first
      | assumption | intro _ | apply Closed.ite | apply State.bump_closed hP | apply relayIngress_closed hP
      | apply updRelay_closed hP | apply hP.setReg | apply Closed.forN | apply Closed.foldl
    | intro _
    | (extract_lets b0_ b1_ b2_ b3_
       try (refine (fun (hb0_ : Q b0_) => ?_) ?_; clear_value b0_)
       try (refine (fun (hb1_ : Q b1_) => ?_) ?_; clear_value b1_)
       try (refine (fun (hb2_ : Q b2_) => ?_) ?_; clear_value b2_)
       try (refine (fun (hb3_ : Q b3_) => ?_) ?_; clear_value b3_))
    | split | exact rfl | exact fun h => h | unfold a0_ | unfold a1_ | unfold a2_ | unfold a3_ | unfold b0_
    | unfold b1_ | unfold b2_ | unfold b3_

theorem relayGrador_closed {ch : Nat} {n : Nat} {data : List Byte} {s : State}  (hq_ : Q s) : Q (relayGrador ch n data s) := by
  unfold relayGrador
  try extract_lets a0_
  try (refine (fun (ha0_ : Q a0_) => ?_) ?_; clear_value a0_)
  repeat' first
    | with_reducible first
      | assumption | intro _ | apply Closed.ite | apply relayIngress_closed hP | apply hP.setReg
      | apply Closed.forN | apply Closed.foldl
    | intro _
    | (extract_lets b0_
       try (refine (fun (hb0_ : Q b0_) => ?_) ?_; clear_value b0_))
    | split | exact rfl | exact fun h => h | unfold a0_ | unfold b0_

end Sys2Proof.Machine
end

