-- ==== Sys2Proof/Laws/ClosedCan.lean ====
section
/-!
SUPPORT. The operations of Can.lean keep every property that the primitive writes keep (Laws/Closed.lean).
-/
set_option Elab.async false
set_option linter.all false
set_option linter.unusedVariables false
set_option linter.tactic.unusedName false

namespace Sys2Proof.Machine

variable {Q : State → Prop} (hP : Closed Q)
include hP

theorem updCan_closed {n : Nat} {f : CanCtl → CanCtl} {s : State}  (hq_ : Q s) : Q (updCan n f s) := by
  unfold updCan
  try extract_lets a0_
  try (refine (fun (ha0_ : Q a0_) => ?_) ?_; clear_value a0_)
  repeat' first
    | with_reducible first
      | assumption | intro _ | refine hP.can _ _ (by assumption) | apply Closed.ite | apply hP.setReg
      | apply Closed.forN | apply Closed.foldl | apply Memory.writeN_wf | apply Memory.writeLe_wf
      | apply Memory.copy_wf | apply Memory.splice_wf | apply Memory.clear_wf | apply Memory.write_wf
      | apply Memory.foldl_copy_wf | apply Memory.foldl_writeN_wf | apply State.lane_wf
    | intro _
    | (extract_lets b0_
       try (refine (fun (hb0_ : Q b0_) => ?_) ?_; clear_value b0_))
    | split | with_reducible refine hP.can _ _ ?_ | exact rfl | exact fun h => h | unfold a0_ | unfold b0_

theorem setCanState_closed {n : Nat} {st : Nat} {s : State}  (hq_ : Q s) : Q (setCanState n st s) := by
  unfold setCanState
  try extract_lets a0_ a1_
  try (refine (fun (ha0_ : Q a0_) => ?_) ?_; clear_value a0_)
  try (refine (fun (ha1_ : Q a1_) => ?_) ?_; clear_value a1_)
  repeat' first
    | with_reducible first
      | assumption | intro _ | apply Closed.ite | apply irqSet_closed hP | apply State.setF_closed hP
      | apply State.setPgState_closed hP | apply hP.setReg | apply Closed.forN | apply Closed.foldl
    | intro _
    | (extract_lets b0_ b1_
       try (refine (fun (hb0_ : Q b0_) => ?_) ?_; clear_value b0_)
       try (refine (fun (hb1_ : Q b1_) => ?_) ?_; clear_value b1_))
    | split | exact rfl | exact fun h => h | unfold a0_ | unfold a1_ | unfold b0_ | unfold b1_

theorem rxfShow_closed {n : Nat} {level : Nat} {s : State}  (hq_ : Q s) : Q (rxfShow n level s) := by
  unfold rxfShow
  try extract_lets a0_ a1_
  try (refine (fun (ha0_ : Q a0_) => ?_) ?_; clear_value a0_)
  try (refine (fun (ha1_ : Q a1_) => ?_) ?_; clear_value a1_)
  repeat' first
    | with_reducible first
      | assumption | intro _ | apply Closed.ite | apply State.setF_closed hP | apply State.setRegN_closed hP
      | apply hP.setReg | apply Closed.forN | apply Closed.foldl
    | intro _
    | (extract_lets b0_ b1_
       try (refine (fun (hb0_ : Q b0_) => ?_) ?_; clear_value b0_)
       try (refine (fun (hb1_ : Q b1_) => ?_) ?_; clear_value b1_))
    | split | exact rfl | exact fun h => h | unfold a0_ | unfold a1_ | unfold b0_ | unfold b1_

theorem txShow_closed {n : Nat} {s : State}  (hq_ : Q s) : Q (txShow n s) := by
  unfold txShow
  try extract_lets a0_ a1_ a2_ a3_ a4_
  try (refine (fun (ha0_ : Q a0_) => ?_) ?_; clear_value a0_)
  try (refine (fun (ha1_ : Q a1_) => ?_) ?_; clear_value a1_)
  try (refine (fun (ha2_ : Q a2_) => ?_) ?_; clear_value a2_)
  try (refine (fun (ha3_ : Q a3_) => ?_) ?_; clear_value a3_)
  try (refine (fun (ha4_ : Q a4_) => ?_) ?_; clear_value a4_)
  repeat' first
    | with_reducible first
      | assumption | intro _ | apply Closed.ite | apply State.setRegN_closed hP | apply State.setF_closed hP
      | apply hP.setReg | apply Closed.forN | apply Closed.foldl
    | intro _
    | (extract_lets b0_ b1_ b2_ b3_ b4_
       try (refine (fun (hb0_ : Q b0_) => ?_) ?_; clear_value b0_)
       try (refine (fun (hb1_ : Q b1_) => ?_) ?_; clear_value b1_)
       try (refine (fun (hb2_ : Q b2_) => ?_) ?_; clear_value b2_)
       try (refine (fun (hb3_ : Q b3_) => ?_) ?_; clear_value b3_)
       try (refine (fun (hb4_ : Q b4_) => ?_) ?_; clear_value b4_))
    | split | exact rfl | exact fun h => h | unfold a0_ | unfold a1_ | unfold a2_ | unfold a3_ | unfold a4_
    | unfold b0_ | unfold b1_ | unfold b2_ | unfold b3_ | unfold b4_

theorem canStart_closed {n : Nat} {s : State}  (hq_ : Q s) : Q (canStart n s) := by
  unfold canStart
  try extract_lets a0_ a1_ a2_ a3_
  try (refine (fun (ha0_ : Q a0_) => ?_) ?_; clear_value a0_)
  try (refine (fun (ha1_ : Q a1_) => ?_) ?_; clear_value a1_)
  try (refine (fun (ha2_ : Q a2_) => ?_) ?_; clear_value a2_)
  try (refine (fun (ha3_ : Q a3_) => ?_) ?_; clear_value a3_)
  repeat' first
    | with_reducible first
      | assumption | intro _ | apply Closed.ite | apply txShow_closed hP | apply updCan_closed hP
      | apply hP.setReg | apply Closed.forN | apply Closed.foldl
    | intro _
    | (extract_lets b0_ b1_ b2_ b3_
       try (refine (fun (hb0_ : Q b0_) => ?_) ?_; clear_value b0_)
       try (refine (fun (hb1_ : Q b1_) => ?_) ?_; clear_value b1_)
       try (refine (fun (hb2_ : Q b2_) => ?_) ?_; clear_value b2_)
       try (refine (fun (hb3_ : Q b3_) => ?_) ?_; clear_value b3_))
    | split | exact rfl | exact fun h => h | unfold a0_ | unfold a1_ | unfold a2_ | unfold a3_ | unfold b0_
    | unfold b1_ | unfold b2_ | unfold b3_

theorem canDiscard_closed {n : Nat} {k : Nat} {s : State}  (hq_ : Q s) : Q (canDiscard n k s) := by
  unfold canDiscard
  repeat' first
    | with_reducible first
      | assumption | intro _ | apply Closed.ite | apply State.bumpBy_closed hP | apply hP.setReg
      | apply Closed.forN | apply Closed.foldl
    | intro _ | extract_lets | split | exact rfl | exact fun h => h

theorem updTb_closed {n : Nat} {j : Nat} {f : CanTb → CanTb} {x0_ : State}  (hq_ : Q x0_) : Q (updTb n j f x0_) := by
  unfold updTb
  try extract_lets a0_
  try (refine (fun (ha0_ : Q a0_) => ?_) ?_; clear_value a0_)
  repeat' first
    | with_reducible first
      | assumption | intro _ | apply Closed.ite | apply updCan_closed hP | apply hP.setReg
      | apply Closed.forN | apply Closed.foldl | apply Memory.writeN_wf | apply Memory.writeLe_wf
      | apply Memory.copy_wf | apply Memory.splice_wf | apply Memory.clear_wf | apply Memory.write_wf
      | apply Memory.foldl_copy_wf | apply Memory.foldl_writeN_wf | apply State.lane_wf
    | intro _
    | (extract_lets b0_
       try (refine (fun (hb0_ : Q b0_) => ?_) ?_; clear_value b0_))
    | split | exact rfl | exact fun h => h | unfold a0_ | unfold b0_

theorem dropTx_closed {n : Nat} {counted : Bool} {s : State}  (hq_ : Q s) : Q (dropTx n counted s) := by
  unfold dropTx
  try extract_lets a0_ a1_ a2_
  try (refine (fun (ha0_ : Q a0_) => ?_) ?_; clear_value a0_)
  try (refine (fun (ha1_ : Q a1_) => ?_) ?_; clear_value a1_)
  try (refine (fun (ha2_ : Q a2_) => ?_) ?_; clear_value a2_)
  repeat' first
    | with_reducible first
      | assumption | intro _ | apply Closed.ite | apply canDiscard_closed hP | apply txShow_closed hP
      | apply updCan_closed hP | apply hP.setReg | apply Closed.forN | apply Closed.foldl
      | apply Memory.writeN_wf | apply Memory.writeLe_wf | apply Memory.copy_wf | apply Memory.splice_wf
      | apply Memory.clear_wf | apply Memory.write_wf | apply Memory.foldl_copy_wf
      | apply Memory.foldl_writeN_wf | apply State.lane_wf
    | intro _
    | (extract_lets b0_ b1_ b2_
       try (refine (fun (hb0_ : Q b0_) => ?_) ?_; clear_value b0_)
       try (refine (fun (hb1_ : Q b1_) => ?_) ?_; clear_value b1_)
       try (refine (fun (hb2_ : Q b2_) => ?_) ?_; clear_value b2_))
    | split | exact rfl | exact fun h => h | unfold a0_ | unfold a1_ | unfold a2_ | unfold b0_ | unfold b1_
    | unfold b2_

theorem loadTb_closed {n : Nat} {j : Nat} {f : CanFrame} {s : State}  (hq_ : Q s) : Q (loadTb n j f s) := by
  unfold loadTb
  try extract_lets a0_ a1_ a2_ a3_
  try (refine (fun (ha0_ : Q a0_) => ?_) ?_; clear_value a0_)
  try (refine (fun (ha1_ : Q a1_) => ?_) ?_; clear_value a1_)
  try (refine (fun (ha2_ : Q a2_) => ?_) ?_; clear_value a2_)
  try (refine (fun (ha3_ : Q a3_) => ?_) ?_; clear_value a3_)
  repeat' first
    | with_reducible first
      | assumption | intro _ | apply Closed.ite | apply updTb_closed hP | apply canDiscard_closed hP
      | apply hP.setReg | apply Closed.forN | apply Closed.foldl
    | intro _
    | (extract_lets b0_ b1_ b2_ b3_
       try (refine (fun (hb0_ : Q b0_) => ?_) ?_; clear_value b0_)
       try (refine (fun (hb1_ : Q b1_) => ?_) ?_; clear_value b1_)
       try (refine (fun (hb2_ : Q b2_) => ?_) ?_; clear_value b2_)
       try (refine (fun (hb3_ : Q b3_) => ?_) ?_; clear_value b3_))
    | split | exact rfl | exact fun h => h | unfold a0_ | unfold a1_ | unfold a2_ | unfold a3_ | unfold b0_
    | unfold b1_ | unfold b2_ | unfold b3_

theorem pushTxf_closed {n : Nat} {f : CanFrame} {x0_ : State}  (hq_ : Q x0_) : Q (pushTxf n f x0_) := by
  unfold pushTxf
  try extract_lets a0_
  try (refine (fun (ha0_ : Q a0_) => ?_) ?_; clear_value a0_)
  repeat' first
    | with_reducible first
      | assumption | intro _ | apply Closed.ite | apply updCan_closed hP | apply hP.setReg
      | apply Closed.forN | apply Closed.foldl
    | intro _
    | (extract_lets b0_
       try (refine (fun (hb0_ : Q b0_) => ?_) ?_; clear_value b0_))
    | split | exact rfl | exact fun h => h | unfold a0_ | unfold b0_

theorem canNote_closed {n : Nat} {j : Nat} {status : Nat} {age : Nat} {units : Nat} {s : State}  (hq_ : Q s) : Q (canNote n j status age units s) := by
  unfold canNote
  try extract_lets a0_ a1_ a2_ a3_
  try (refine (fun (ha0_ : Q a0_) => ?_) ?_; clear_value a0_)
  try (refine (fun (ha1_ : Q a1_) => ?_) ?_; clear_value a1_)
  try (refine (fun (ha2_ : Q a2_) => ?_) ?_; clear_value a2_)
  try (refine (fun (ha3_ : Q a3_) => ?_) ?_; clear_value a3_)
  repeat' first
    | with_reducible first
      | assumption | intro _ | apply Closed.ite | apply updExec_closed hP | apply hP.setReg
      | apply Closed.forN | apply Closed.foldl
    | intro _
    | (extract_lets b0_ b1_ b2_ b3_
       try (refine (fun (hb0_ : Q b0_) => ?_) ?_; clear_value b0_)
       try (refine (fun (hb1_ : Q b1_) => ?_) ?_; clear_value b1_)
       try (refine (fun (hb2_ : Q b2_) => ?_) ?_; clear_value b2_)
       try (refine (fun (hb3_ : Q b3_) => ?_) ?_; clear_value b3_))
    | split | exact rfl | exact fun h => h | unfold a0_ | unfold a1_ | unfold a2_ | unfold a3_ | unfold b0_
    | unfold b1_ | unfold b2_ | unfold b3_

theorem tbStatus_closed {n : Nat} {j : Nat} {code : Nat} {s : State}  (hq_ : Q s) : Q (tbStatus n j code s) := by
  unfold tbStatus
  repeat' first
    | with_reducible first
      | assumption | intro _ | apply Closed.ite | apply State.setF_closed hP | apply hP.setReg
      | apply Closed.forN | apply Closed.foldl
    | intro _ | extract_lets | split | exact rfl | exact fun h => h

theorem canCommit_closed {n : Nat} {j : Nat} {unit : List Byte} {s : State}  (hq_ : Q s) : Q (canCommit n j unit s) := by
  unfold canCommit
  try extract_lets a0_ a1_ a2_ a3_ a4_
  try (refine (fun (ha0_ : Q a0_) => ?_) ?_; clear_value a0_)
  try (refine (fun (ha1_ : Q a1_) => ?_) ?_; clear_value a1_)
  try (refine (fun (ha2_ : Q a2_) => ?_) ?_; clear_value a2_)
  try (refine (fun (ha3_ : Q a3_) => ?_) ?_; clear_value a3_)
  try (refine (fun (ha4_ : Q a4_) => ?_) ?_; clear_value a4_)
  repeat' first
    | with_reducible first
      | assumption | intro _ | apply Closed.ite | apply canNote_closed hP | apply tbStatus_closed hP
      | apply pushTxf_closed hP | apply loadTb_closed hP | apply updTb_closed hP | apply hP.setReg
      | apply Closed.forN | apply Closed.foldl
    | intro _
    | (extract_lets b0_ b1_ b2_ b3_ b4_
       try (refine (fun (hb0_ : Q b0_) => ?_) ?_; clear_value b0_)
       try (refine (fun (hb1_ : Q b1_) => ?_) ?_; clear_value b1_)
       try (refine (fun (hb2_ : Q b2_) => ?_) ?_; clear_value b2_)
       try (refine (fun (hb3_ : Q b3_) => ?_) ?_; clear_value b3_)
       try (refine (fun (hb4_ : Q b4_) => ?_) ?_; clear_value b4_))
    | split | exact rfl | exact fun h => h | unfold a0_ | unfold a1_ | unfold a2_ | unfold a3_ | unfold a4_
    | unfold b0_ | unfold b1_ | unfold b2_ | unfold b3_ | unfold b4_

theorem canCyclic_closed {n : Nat} {j : Nat} {s : State}  (hq_ : Q s) : Q (canCyclic n j s) := by
  unfold canCyclic
  try extract_lets a0_ a1_ a2_ a3_ a4_ a5_ a6_
  try (refine (fun (ha0_ : Q a0_) => ?_) ?_; clear_value a0_)
  try (refine (fun (ha1_ : Q a1_) => ?_) ?_; clear_value a1_)
  try (refine (fun (ha2_ : Q a2_) => ?_) ?_; clear_value a2_)
  try (refine (fun (ha3_ : Q a3_) => ?_) ?_; clear_value a3_)
  try (refine (fun (ha4_ : Q a4_) => ?_) ?_; clear_value a4_)
  try (refine (fun (ha5_ : Q a5_) => ?_) ?_; clear_value a5_)
  try (refine (fun (ha6_ : Q a6_) => ?_) ?_; clear_value a6_)
  repeat' first
    | with_reducible first
      | assumption | intro _ | apply Closed.ite | apply canNote_closed hP | apply updTb_closed hP
      | apply loadTb_closed hP | apply hP.setReg | apply Closed.forN | apply Closed.foldl
    | intro _
    | (extract_lets b0_ b1_ b2_ b3_ b4_ b5_ b6_
       try (refine (fun (hb0_ : Q b0_) => ?_) ?_; clear_value b0_)
       try (refine (fun (hb1_ : Q b1_) => ?_) ?_; clear_value b1_)
       try (refine (fun (hb2_ : Q b2_) => ?_) ?_; clear_value b2_)
       try (refine (fun (hb3_ : Q b3_) => ?_) ?_; clear_value b3_)
       try (refine (fun (hb4_ : Q b4_) => ?_) ?_; clear_value b4_)
       try (refine (fun (hb5_ : Q b5_) => ?_) ?_; clear_value b5_)
       try (refine (fun (hb6_ : Q b6_) => ?_) ?_; clear_value b6_))
    | split | exact rfl | exact fun h => h | unfold a0_ | unfold a1_ | unfold a2_ | unfold a3_ | unfold a4_
    | unfold a5_ | unfold a6_ | unfold b0_ | unfold b1_ | unfold b2_ | unfold b3_ | unfold b4_ | unfold b5_
    | unfold b6_

theorem rxfStore_closed {n : Nat} {f : CanFrame} {stamp : Nat} {s : State}  (hq_ : Q s) : Q (rxfStore n f stamp s) := by
  unfold rxfStore
  try extract_lets a0_ a1_ a2_ a3_ a4_
  try (refine (fun (ha0_ : Q a0_) => ?_) ?_; clear_value a0_)
  try (refine (fun (ha1_ : Q a1_) => ?_) ?_; clear_value a1_)
  try (refine (fun (ha2_ : Q a2_) => ?_) ?_; clear_value a2_)
  try (refine (fun (ha3_ : Q a3_) => ?_) ?_; clear_value a3_)
  try (refine (fun (ha4_ : Q a4_) => ?_) ?_; clear_value a4_)
  repeat' first
    | with_reducible first
      | assumption | intro _ | apply Closed.ite | apply irqSet_closed hP | apply State.bump_closed hP
      | apply relayEvent_closed hP | apply recordErr_closed hP | apply commsWrite_closed hP
      | apply rxfShow_closed hP | apply hP.setReg | apply Closed.forN | apply Closed.foldl
      | apply Memory.writeN_wf | apply Memory.writeLe_wf | apply Memory.copy_wf | apply Memory.splice_wf
      | apply Memory.clear_wf | apply Memory.write_wf | apply Memory.foldl_copy_wf
      | apply Memory.foldl_writeN_wf | apply State.lane_wf
    | intro _
    | (extract_lets b0_ b1_ b2_ b3_ b4_
       try (refine (fun (hb0_ : Q b0_) => ?_) ?_; clear_value b0_)
       try (refine (fun (hb1_ : Q b1_) => ?_) ?_; clear_value b1_)
       try (refine (fun (hb2_ : Q b2_) => ?_) ?_; clear_value b2_)
       try (refine (fun (hb3_ : Q b3_) => ?_) ?_; clear_value b3_)
       try (refine (fun (hb4_ : Q b4_) => ?_) ?_; clear_value b4_))
    | split | exact rfl | exact fun h => h | unfold a0_ | unfold a1_ | unfold a2_ | unfold a3_ | unfold a4_
    | unfold b0_ | unfold b1_ | unfold b2_ | unfold b3_ | unfold b4_

theorem recGood_closed {n : Nat} {s : State}  (hq_ : Q s) : Q (recGood n s) := by
  unfold recGood
  try extract_lets a0_
  try (refine (fun (ha0_ : Q a0_) => ?_) ?_; clear_value a0_)
  repeat' first
    | with_reducible first
      | assumption | intro _ | apply Closed.ite | apply State.setF_closed hP | apply State.fresh_closed hP
      | apply hP.setReg | apply Closed.forN | apply Closed.foldl
    | intro _
    | (extract_lets b0_
       try (refine (fun (hb0_ : Q b0_) => ?_) ?_; clear_value b0_))
    | split | exact rfl | exact fun h => h | unfold a0_ | unfold b0_

theorem canConfine_closed {n : Nat} {s : State}  (hq_ : Q s) : Q (canConfine n s) := by
  unfold canConfine
  try extract_lets a0_ a1_
  try (refine (fun (ha0_ : Q a0_) => ?_) ?_; clear_value a0_)
  try (refine (fun (ha1_ : Q a1_) => ?_) ?_; clear_value a1_)
  repeat' first
    | with_reducible first
      | assumption | intro _ | apply Closed.ite | apply State.setB_closed hP | apply setCanState_closed hP
      | apply hP.setReg | apply Closed.forN | apply Closed.foldl
    | intro _
    | (extract_lets b0_ b1_
       try (refine (fun (hb0_ : Q b0_) => ?_) ?_; clear_value b0_)
       try (refine (fun (hb1_ : Q b1_) => ?_) ?_; clear_value b1_))
    | split | exact rfl | exact fun h => h | unfold a0_ | unfold a1_ | unfold b0_ | unfold b1_

theorem canDeliver_closed {n : Nat} {id : Word} {ctl : Nat} {len : Nat} {data : List Byte} {stamp : Nat} {s : State}  (hq_ : Q s) : Q (canDeliver n id ctl len data stamp s) := by
  unfold canDeliver
  try extract_lets a0_ a1_ a2_ a3_ a4_ a5_ a6_ a7_ a8_ a9_ a10_
  try (refine (fun (ha0_ : Q a0_) => ?_) ?_; clear_value a0_)
  try (refine (fun (ha1_ : Q a1_) => ?_) ?_; clear_value a1_)
  try (refine (fun (ha2_ : Q a2_) => ?_) ?_; clear_value a2_)
  try (refine (fun (ha3_ : Q a3_) => ?_) ?_; clear_value a3_)
  try (refine (fun (ha4_ : Q a4_) => ?_) ?_; clear_value a4_)
  try (refine (fun (ha5_ : Q a5_) => ?_) ?_; clear_value a5_)
  try (refine (fun (ha6_ : Q a6_) => ?_) ?_; clear_value a6_)
  try (refine (fun (ha7_ : Q a7_) => ?_) ?_; clear_value a7_)
  try (refine (fun (ha8_ : Q a8_) => ?_) ?_; clear_value a8_)
  try (refine (fun (ha9_ : Q a9_) => ?_) ?_; clear_value a9_)
  try (refine (fun (ha10_ : Q a10_) => ?_) ?_; clear_value a10_)
  repeat' first
    | with_reducible first
      | assumption | intro _ | apply Closed.ite | apply State.bump_closed hP | apply rxfStore_closed hP
      | apply updCan_closed hP | apply raiseAt_closed hP | apply pushUnit_closed hP
      | apply relayIngress_closed hP | apply hP.setReg | apply Closed.forN | apply Closed.foldl
      | apply Memory.writeN_wf | apply Memory.writeLe_wf | apply Memory.copy_wf | apply Memory.splice_wf
      | apply Memory.clear_wf | apply Memory.write_wf | apply Memory.foldl_copy_wf
      | apply Memory.foldl_writeN_wf | apply State.lane_wf
    | intro _
    | (extract_lets b0_ b1_ b2_ b3_ b4_ b5_ b6_ b7_ b8_ b9_ b10_
       try (refine (fun (hb0_ : Q b0_) => ?_) ?_; clear_value b0_)
       try (refine (fun (hb1_ : Q b1_) => ?_) ?_; clear_value b1_)
       try (refine (fun (hb2_ : Q b2_) => ?_) ?_; clear_value b2_)
       try (refine (fun (hb3_ : Q b3_) => ?_) ?_; clear_value b3_)
       try (refine (fun (hb4_ : Q b4_) => ?_) ?_; clear_value b4_)
       try (refine (fun (hb5_ : Q b5_) => ?_) ?_; clear_value b5_)
       try (refine (fun (hb6_ : Q b6_) => ?_) ?_; clear_value b6_)
       try (refine (fun (hb7_ : Q b7_) => ?_) ?_; clear_value b7_)
       try (refine (fun (hb8_ : Q b8_) => ?_) ?_; clear_value b8_)
       try (refine (fun (hb9_ : Q b9_) => ?_) ?_; clear_value b9_)
       try (refine (fun (hb10_ : Q b10_) => ?_) ?_; clear_value b10_))
    | split | exact rfl | exact fun h => h | unfold a0_ | unfold a1_ | unfold a2_ | unfold a3_ | unfold a4_
    | unfold a5_ | unfold a6_ | unfold a7_ | unfold a8_ | unfold a9_ | unfold a10_ | unfold b0_
    | unfold b1_ | unfold b2_ | unfold b3_ | unfold b4_ | unfold b5_ | unfold b6_ | unfold b7_ | unfold b8_
    | unfold b9_ | unfold b10_

theorem canRx_closed {n : Nat} {id : Word} {brs : Bool} {esi : Bool} {dlc : Nat} {data : List Byte} {stamp : Nat} {s : State}  (hq_ : Q s) : Q (canRx n id brs esi dlc data stamp s) := by
  unfold canRx
  try extract_lets a0_
  try (refine (fun (ha0_ : Q a0_) => ?_) ?_; clear_value a0_)
  repeat' first
    | with_reducible first
      | assumption | intro _ | apply Closed.ite | apply canConfine_closed hP | apply recGood_closed hP
      | apply canDeliver_closed hP | apply hP.setReg | apply Closed.forN | apply Closed.foldl
    | intro _
    | (extract_lets b0_
       try (refine (fun (hb0_ : Q b0_) => ?_) ?_; clear_value b0_))
    | split | exact rfl | exact fun h => h | unfold a0_ | unfold b0_

theorem rxfPop_closed {n : Nat} {s : State}  (hq_ : Q s) : Q (rxfPop n s) := by
  unfold rxfPop
  try extract_lets a0_ a1_ a2_ a3_
  try (refine (fun (ha0_ : Q a0_) => ?_) ?_; clear_value a0_)
  try (refine (fun (ha1_ : Q a1_) => ?_) ?_; clear_value a1_)
  try (refine (fun (ha2_ : Q a2_) => ?_) ?_; clear_value a2_)
  try (refine (fun (ha3_ : Q a3_) => ?_) ?_; clear_value a3_)
  repeat' first
    | with_reducible first
      | assumption | intro _ | apply Closed.ite | apply updCan_closed hP | apply rxfShow_closed hP
      | apply irqSet_closed hP | apply hP.setReg | apply Closed.forN | apply Closed.foldl
    | intro _
    | (extract_lets b0_ b1_ b2_ b3_
       try (refine (fun (hb0_ : Q b0_) => ?_) ?_; clear_value b0_)
       try (refine (fun (hb1_ : Q b1_) => ?_) ?_; clear_value b1_)
       try (refine (fun (hb2_ : Q b2_) => ?_) ?_; clear_value b2_)
       try (refine (fun (hb3_ : Q b3_) => ?_) ?_; clear_value b3_))
    | split | exact rfl | exact fun h => h | unfold a0_ | unfold a1_ | unfold a2_ | unfold a3_ | unfold b0_
    | unfold b1_ | unfold b2_ | unfold b3_

theorem rxfRead_closed {n : Nat} {s : State}  (hq_ : Q s) : Q (rxfRead n s) := by
  unfold rxfRead
  try extract_lets a0_ a1_
  try (refine (fun (ha0_ : Q a0_) => ?_) ?_; clear_value a0_)
  try (refine (fun (ha1_ : Q a1_) => ?_) ?_; clear_value a1_)
  repeat' first
    | with_reducible first
      | assumption | intro _ | apply Closed.ite | apply commsRead_closed hP | apply rxfPop_closed hP
      | apply updCan_closed hP | apply hP.setReg | apply Closed.forN | apply Closed.foldl
    | intro _
    | (extract_lets b0_ b1_
       try (refine (fun (hb0_ : Q b0_) => ?_) ?_; clear_value b0_)
       try (refine (fun (hb1_ : Q b1_) => ?_) ?_; clear_value b1_))
    | split | exact rfl | exact fun h => h | unfold a0_ | unfold a1_ | unfold b0_ | unfold b1_

theorem canAttempt_closed {n : Nat} {how : CanEnd} {s : State}  (hq_ : Q s) : Q (canAttempt n how s) := by
  unfold canAttempt
  try extract_lets a0_ a1_ a2_ a3_ a4_ a5_ a6_ a7_ a8_ a9_ a10_ a11_ a12_ a13_ a14_ a15_ a16_
  try (refine (fun (ha0_ : Q a0_) => ?_) ?_; clear_value a0_)
  try (refine (fun (ha1_ : Q a1_) => ?_) ?_; clear_value a1_)
  try (refine (fun (ha2_ : Q a2_) => ?_) ?_; clear_value a2_)
  try (refine (fun (ha3_ : Q a3_) => ?_) ?_; clear_value a3_)
  try (refine (fun (ha4_ : Q a4_) => ?_) ?_; clear_value a4_)
  try (refine (fun (ha5_ : Q a5_) => ?_) ?_; clear_value a5_)
  try (refine (fun (ha6_ : Q a6_) => ?_) ?_; clear_value a6_)
  try (refine (fun (ha7_ : Q a7_) => ?_) ?_; clear_value a7_)
  try (refine (fun (ha8_ : Q a8_) => ?_) ?_; clear_value a8_)
  try (refine (fun (ha9_ : Q a9_) => ?_) ?_; clear_value a9_)
  try (refine (fun (ha10_ : Q a10_) => ?_) ?_; clear_value a10_)
  try (refine (fun (ha11_ : Q a11_) => ?_) ?_; clear_value a11_)
  try (refine (fun (ha12_ : Q a12_) => ?_) ?_; clear_value a12_)
  try (refine (fun (ha13_ : Q a13_) => ?_) ?_; clear_value a13_)
  try (refine (fun (ha14_ : Q a14_) => ?_) ?_; clear_value a14_)
  try (refine (fun (ha15_ : Q a15_) => ?_) ?_; clear_value a15_)
  try (refine (fun (ha16_ : Q a16_) => ?_) ?_; clear_value a16_)
  repeat' first
    | with_reducible first
      | assumption | intro _ | apply Closed.ite | apply updCan_closed hP | apply irqSet_closed hP
      | apply State.bump_closed hP | apply State.setF_closed hP | apply canNote_closed hP
      | apply updTb_closed hP | apply State.setReg64_closed hP | apply canDeliver_closed hP
      | apply canDiscard_closed hP | apply canStart_closed hP | apply canConfine_closed hP | apply hP.setReg
      | apply Closed.forN | apply Closed.foldl
    | intro _
    | (extract_lets b0_ b1_ b2_ b3_ b4_ b5_ b6_ b7_ b8_ b9_ b10_ b11_ b12_ b13_ b14_ b15_ b16_
       try (refine (fun (hb0_ : Q b0_) => ?_) ?_; clear_value b0_)
       try (refine (fun (hb1_ : Q b1_) => ?_) ?_; clear_value b1_)
       try (refine (fun (hb2_ : Q b2_) => ?_) ?_; clear_value b2_)
       try (refine (fun (hb3_ : Q b3_) => ?_) ?_; clear_value b3_)
       try (refine (fun (hb4_ : Q b4_) => ?_) ?_; clear_value b4_)
       try (refine (fun (hb5_ : Q b5_) => ?_) ?_; clear_value b5_)
       try (refine (fun (hb6_ : Q b6_) => ?_) ?_; clear_value b6_)
       try (refine (fun (hb7_ : Q b7_) => ?_) ?_; clear_value b7_)
       try (refine (fun (hb8_ : Q b8_) => ?_) ?_; clear_value b8_)
       try (refine (fun (hb9_ : Q b9_) => ?_) ?_; clear_value b9_)
       try (refine (fun (hb10_ : Q b10_) => ?_) ?_; clear_value b10_)
       try (refine (fun (hb11_ : Q b11_) => ?_) ?_; clear_value b11_)
       try (refine (fun (hb12_ : Q b12_) => ?_) ?_; clear_value b12_)
       try (refine (fun (hb13_ : Q b13_) => ?_) ?_; clear_value b13_)
       try (refine (fun (hb14_ : Q b14_) => ?_) ?_; clear_value b14_)
       try (refine (fun (hb15_ : Q b15_) => ?_) ?_; clear_value b15_)
       try (refine (fun (hb16_ : Q b16_) => ?_) ?_; clear_value b16_))
    | split | exact rfl | exact fun h => h | unfold a0_ | unfold a1_ | unfold a2_ | unfold a3_ | unfold a4_
    | unfold a5_ | unfold a6_ | unfold a7_ | unfold a8_ | unfold a9_ | unfold a10_ | unfold a11_
    | unfold a12_ | unfold a13_ | unfold a14_ | unfold a15_ | unfold a16_ | unfold b0_ | unfold b1_
    | unfold b2_ | unfold b3_ | unfold b4_ | unfold b5_ | unfold b6_ | unfold b7_ | unfold b8_ | unfold b9_
    | unfold b10_ | unfold b11_ | unfold b12_ | unfold b13_ | unfold b14_ | unfold b15_ | unfold b16_

theorem goBusOff_closed {n : Nat} {s : State}  (hq_ : Q s) : Q (goBusOff n s) := by
  unfold goBusOff
  try extract_lets a0_ a1_ a2_ a3_ a4_
  try (refine (fun (ha0_ : Q a0_) => ?_) ?_; clear_value a0_)
  try (refine (fun (ha1_ : Q a1_) => ?_) ?_; clear_value a1_)
  try (refine (fun (ha2_ : Q a2_) => ?_) ?_; clear_value a2_)
  try (refine (fun (ha3_ : Q a3_) => ?_) ?_; clear_value a3_)
  try (refine (fun (ha4_ : Q a4_) => ?_) ?_; clear_value a4_)
  repeat' first
    | with_reducible first
      | assumption | intro _ | apply Closed.ite | apply dropTx_closed hP | apply irqSet_closed hP
      | apply State.bump_closed hP | apply recordErr_closed hP | apply relayEvent_closed hP
      | apply setCanState_closed hP | apply hP.setReg | apply Closed.forN | apply Closed.foldl
    | intro _
    | (extract_lets b0_ b1_ b2_ b3_ b4_
       try (refine (fun (hb0_ : Q b0_) => ?_) ?_; clear_value b0_)
       try (refine (fun (hb1_ : Q b1_) => ?_) ?_; clear_value b1_)
       try (refine (fun (hb2_ : Q b2_) => ?_) ?_; clear_value b2_)
       try (refine (fun (hb3_ : Q b3_) => ?_) ?_; clear_value b3_)
       try (refine (fun (hb4_ : Q b4_) => ?_) ?_; clear_value b4_))
    | split | exact rfl | exact fun h => h | unfold a0_ | unfold a1_ | unfold a2_ | unfold a3_ | unfold a4_
    | unfold b0_ | unfold b1_ | unfold b2_ | unfold b3_ | unfold b4_

theorem canError_closed {n : Nat} {code : Nat} {dataPhase : Bool} {asTx : Bool} {heavy : Bool} {s : State}  (hq_ : Q s) : Q (canError n code dataPhase asTx heavy s) := by
  unfold canError
  try extract_lets a0_ a1_ a2_ a3_
  try (refine (fun (ha0_ : Q a0_) => ?_) ?_; clear_value a0_)
  try (refine (fun (ha1_ : Q a1_) => ?_) ?_; clear_value a1_)
  try (refine (fun (ha2_ : Q a2_) => ?_) ?_; clear_value a2_)
  try (refine (fun (ha3_ : Q a3_) => ?_) ?_; clear_value a3_)
  repeat' first
    | with_reducible first
      | assumption | intro _ | apply Closed.ite | apply tally_closed hP | apply State.setRegN_closed hP
      | apply State.bump_closed hP | apply State.setF_closed hP | apply goBusOff_closed hP
      | apply canConfine_closed hP | apply hP.setReg | apply Closed.forN | apply Closed.foldl
    | intro _
    | (extract_lets b0_ b1_ b2_ b3_
       try (refine (fun (hb0_ : Q b0_) => ?_) ?_; clear_value b0_)
       try (refine (fun (hb1_ : Q b1_) => ?_) ?_; clear_value b1_)
       try (refine (fun (hb2_ : Q b2_) => ?_) ?_; clear_value b2_)
       try (refine (fun (hb3_ : Q b3_) => ?_) ?_; clear_value b3_))
    | split | exact rfl | exact fun h => h | unfold a0_ | unfold a1_ | unfold a2_ | unfold a3_ | unfold b0_
    | unfold b1_ | unfold b2_ | unfold b3_

theorem canUp_closed {n : Nat} {s : State}  (hq_ : Q s) : Q (canUp n s) := by
  unfold canUp
  repeat' first
    | with_reducible first
      | assumption | intro _ | apply Closed.ite | apply relayEvent_closed hP | apply setCanState_closed hP
      | apply hP.setReg | apply Closed.forN | apply Closed.foldl
    | intro _ | extract_lets | split | exact rfl | exact fun h => h

theorem canIntegrated_closed {n : Nat} {s : State}  (hq_ : Q s) : Q (canIntegrated n s) := by
  unfold canIntegrated
  repeat' first
    | with_reducible first
      | assumption | intro _ | apply Closed.ite | apply canStart_closed hP | apply canUp_closed hP
      | apply hP.setReg | apply Closed.forN | apply Closed.foldl
    | intro _ | extract_lets | split | exact rfl | exact fun h => h

theorem canRecovered_closed {n : Nat} {s : State}  (hq_ : Q s) : Q (canRecovered n s) := by
  unfold canRecovered
  try extract_lets a0_
  try (refine (fun (ha0_ : Q a0_) => ?_) ?_; clear_value a0_)
  repeat' first
    | with_reducible first
      | assumption | intro _ | apply Closed.ite | apply State.setF_closed hP | apply State.setB_closed hP
      | apply canStart_closed hP | apply canUp_closed hP | apply hP.setReg | apply Closed.forN
      | apply Closed.foldl
    | intro _
    | (extract_lets b0_
       try (refine (fun (hb0_ : Q b0_) => ?_) ?_; clear_value b0_))
    | split | exact rfl | exact fun h => h | unfold a0_ | unfold b0_

theorem canEnable_closed {n : Nat} {s : State}  (hq_ : Q s) : Q (canEnable n s) := by
  unfold canEnable
  try extract_lets a0_ a1_ a2_
  try (refine (fun (ha0_ : Q a0_) => ?_) ?_; clear_value a0_)
  try (refine (fun (ha1_ : Q a1_) => ?_) ?_; clear_value a1_)
  try (refine (fun (ha2_ : Q a2_) => ?_) ?_; clear_value a2_)
  repeat' first
    | with_reducible first
      | assumption | intro _ | apply Closed.ite | apply updCan_closed hP | apply State.setEn_closed hP
      | apply State.setF_closed hP | apply State.setB_closed hP | apply setCanState_closed hP
      | apply hP.setReg | apply Closed.forN | apply Closed.foldl
    | intro _
    | (extract_lets b0_ b1_ b2_
       try (refine (fun (hb0_ : Q b0_) => ?_) ?_; clear_value b0_)
       try (refine (fun (hb1_ : Q b1_) => ?_) ?_; clear_value b1_)
       try (refine (fun (hb2_ : Q b2_) => ?_) ?_; clear_value b2_))
    | split | exact rfl | exact fun h => h | unfold a0_ | unfold a1_ | unfold a2_ | unfold b0_ | unfold b1_
    | unfold b2_

theorem canResetDone_closed {n : Nat} {s : State}  (hq_ : Q s) : Q (canResetDone n s) := by
  unfold canResetDone
  try extract_lets a0_ a1_ a2_ a3_ a4_ a5_ a6_ a7_
  try (refine (fun (ha0_ : Q a0_) => ?_) ?_; clear_value a0_)
  try (refine (fun (ha1_ : Q a1_) => ?_) ?_; clear_value a1_)
  try (refine (fun (ha2_ : Q a2_) => ?_) ?_; clear_value a2_)
  try (refine (fun (ha3_ : Q a3_) => ?_) ?_; clear_value a3_)
  try (refine (fun (ha4_ : Q a4_) => ?_) ?_; clear_value a4_)
  try (refine (fun (ha5_ : Q a5_) => ?_) ?_; clear_value a5_)
  try (refine (fun (ha6_ : Q a6_) => ?_) ?_; clear_value a6_)
  try (refine (fun (ha7_ : Q a7_) => ?_) ?_; clear_value a7_)
  repeat' first
    | with_reducible first
      | assumption | intro _ | apply Closed.ite | apply dropTx_closed hP | apply updCan_closed hP
      | apply rxfShow_closed hP | apply resetRegs_closed hP | apply setCanState_closed hP
      | apply State.setEn_closed hP | apply State.setPgState_closed hP | apply relayEvent_closed hP
      | apply finish_closed hP | apply hP.setReg | apply Closed.forN | apply Closed.foldl
    | intro _
    | (extract_lets b0_ b1_ b2_ b3_ b4_ b5_ b6_ b7_
       try (refine (fun (hb0_ : Q b0_) => ?_) ?_; clear_value b0_)
       try (refine (fun (hb1_ : Q b1_) => ?_) ?_; clear_value b1_)
       try (refine (fun (hb2_ : Q b2_) => ?_) ?_; clear_value b2_)
       try (refine (fun (hb3_ : Q b3_) => ?_) ?_; clear_value b3_)
       try (refine (fun (hb4_ : Q b4_) => ?_) ?_; clear_value b4_)
       try (refine (fun (hb5_ : Q b5_) => ?_) ?_; clear_value b5_)
       try (refine (fun (hb6_ : Q b6_) => ?_) ?_; clear_value b6_)
       try (refine (fun (hb7_ : Q b7_) => ?_) ?_; clear_value b7_))
    | split | exact rfl | exact fun h => h | unfold a0_ | unfold a1_ | unfold a2_ | unfold a3_ | unfold a4_
    | unfold a5_ | unfold a6_ | unfold a7_ | unfold b0_ | unfold b1_ | unfold b2_ | unfold b3_ | unfold b4_
    | unfold b5_ | unfold b6_ | unfold b7_

theorem canIdle_closed {n : Nat} {s : State}  (hq_ : Q s) : Q (canIdle n s) := by
  unfold canIdle
  try extract_lets a0_ a1_
  try (refine (fun (ha0_ : Q a0_) => ?_) ?_; clear_value a0_)
  try (refine (fun (ha1_ : Q a1_) => ?_) ?_; clear_value a1_)
  repeat' first
    | with_reducible first
      | assumption | intro _ | apply Closed.ite | apply canResetDone_closed hP | apply relayEvent_closed hP
      | apply updCan_closed hP | apply setCanState_closed hP | apply dropTx_closed hP | apply hP.setReg
      | apply Closed.forN | apply Closed.foldl
    | intro _
    | (extract_lets b0_ b1_
       try (refine (fun (hb0_ : Q b0_) => ?_) ?_; clear_value b0_)
       try (refine (fun (hb1_ : Q b1_) => ?_) ?_; clear_value b1_))
    | split | exact rfl | exact fun h => h | unfold a0_ | unfold a1_ | unfold b0_ | unfold b1_

theorem canDisable_closed {n : Nat} {s : State}  (hq_ : Q s) : Q (canDisable n s) := by
  unfold canDisable
  try extract_lets a0_ a1_
  try (refine (fun (ha0_ : Q a0_) => ?_) ?_; clear_value a0_)
  try (refine (fun (ha1_ : Q a1_) => ?_) ?_; clear_value a1_)
  repeat' first
    | with_reducible first
      | assumption | intro _ | apply Closed.ite | apply updCan_closed hP | apply State.setEn_closed hP
      | apply canIdle_closed hP | apply hP.setReg | apply Closed.forN | apply Closed.foldl
    | intro _
    | (extract_lets b0_ b1_
       try (refine (fun (hb0_ : Q b0_) => ?_) ?_; clear_value b0_)
       try (refine (fun (hb1_ : Q b1_) => ?_) ?_; clear_value b1_))
    | split | exact rfl | exact fun h => h | unfold a0_ | unfold a1_ | unfold b0_ | unfold b1_

theorem canReset_closed {n : Nat} {s : State}  (hq_ : Q s) : Q (canReset n s) := by
  unfold canReset
  try extract_lets a0_
  try (refine (fun (ha0_ : Q a0_) => ?_) ?_; clear_value a0_)
  repeat' first
    | with_reducible first
      | assumption | intro _ | apply Closed.ite | apply canResetDone_closed hP | apply updCan_closed hP
      | apply hP.setReg | apply Closed.forN | apply Closed.foldl
    | intro _
    | (extract_lets b0_
       try (refine (fun (hb0_ : Q b0_) => ?_) ?_; clear_value b0_))
    | split | exact rfl | exact fun h => h | unfold a0_ | unfold b0_

theorem cmdPop_closed {n : Nat} {iss : Issuer} {x0_ : State}  (hq_ : Q x0_) : Q (cmdPop n iss x0_) := by
  unfold cmdPop
  try extract_lets a0_
  try (refine (fun (ha0_ : Q a0_) => ?_) ?_; clear_value a0_)
  repeat' first
    | with_reducible first
      | assumption | intro _ | apply Closed.ite | apply quick_closed hP | apply rxfPop_closed hP
      | apply updCan_closed hP | apply hP.setReg | apply Closed.forN | apply Closed.foldl
    | intro _
    | (extract_lets b0_
       try (refine (fun (hb0_ : Q b0_) => ?_) ?_; clear_value b0_))
    | split | exact rfl | exact fun h => h | unfold a0_ | unfold b0_

theorem cmdTbLoad_closed {n : Nat} {j : Nat} {iss : Issuer} {s : State}  (hq_ : Q s) : Q (cmdTbLoad n j iss s) := by
  unfold cmdTbLoad
  try extract_lets a0_ a1_ a2_
  try (refine (fun (ha0_ : Q a0_) => ?_) ?_; clear_value a0_)
  try (refine (fun (ha1_ : Q a1_) => ?_) ?_; clear_value a1_)
  try (refine (fun (ha2_ : Q a2_) => ?_) ?_; clear_value a2_)
  repeat' first
    | with_reducible first
      | assumption | intro _ | apply Closed.ite | apply tbStatus_closed hP | apply quick_closed hP
      | apply canStart_closed hP | apply loadTb_closed hP | apply hP.setReg | apply Closed.forN
      | apply Closed.foldl
    | intro _
    | (extract_lets b0_ b1_ b2_
       try (refine (fun (hb0_ : Q b0_) => ?_) ?_; clear_value b0_)
       try (refine (fun (hb1_ : Q b1_) => ?_) ?_; clear_value b1_)
       try (refine (fun (hb2_ : Q b2_) => ?_) ?_; clear_value b2_))
    | split | exact rfl | exact fun h => h | unfold a0_ | unfold a1_ | unfold a2_ | unfold b0_ | unfold b1_
    | unfold b2_

theorem cmdTxfPush_closed {n : Nat} {iss : Issuer} {x0_ : State}  (hq_ : Q x0_) : Q (cmdTxfPush n iss x0_) := by
  unfold cmdTxfPush
  try extract_lets a0_ a1_
  try (refine (fun (ha0_ : Q a0_) => ?_) ?_; clear_value a0_)
  try (refine (fun (ha1_ : Q a1_) => ?_) ?_; clear_value a1_)
  repeat' first
    | with_reducible first
      | assumption | intro _ | apply Closed.ite | apply quick_closed hP | apply canStart_closed hP
      | apply pushTxf_closed hP | apply hP.setReg | apply Closed.forN | apply Closed.foldl
    | intro _
    | (extract_lets b0_ b1_
       try (refine (fun (hb0_ : Q b0_) => ?_) ?_; clear_value b0_)
       try (refine (fun (hb1_ : Q b1_) => ?_) ?_; clear_value b1_))
    | split | exact rfl | exact fun h => h | unfold a0_ | unfold a1_ | unfold b0_ | unfold b1_

theorem cmdTbAbort_closed {n : Nat} {j : Nat} {iss : Issuer} {x0_ : State}  (hq_ : Q x0_) : Q (cmdTbAbort n j iss x0_) := by
  unfold cmdTbAbort
  try extract_lets a0_ a1_ a2_ a3_
  try (refine (fun (ha0_ : Q a0_) => ?_) ?_; clear_value a0_)
  try (refine (fun (ha1_ : Q a1_) => ?_) ?_; clear_value a1_)
  try (refine (fun (ha2_ : Q a2_) => ?_) ?_; clear_value a2_)
  try (refine (fun (ha3_ : Q a3_) => ?_) ?_; clear_value a3_)
  repeat' first
    | with_reducible first
      | assumption | intro _ | apply Closed.ite | apply quick_closed hP | apply updTb_closed hP
      | apply canDiscard_closed hP | apply txShow_closed hP | apply hP.setReg | apply Closed.forN
      | apply Closed.foldl
    | intro _
    | (extract_lets b0_ b1_ b2_ b3_
       try (refine (fun (hb0_ : Q b0_) => ?_) ?_; clear_value b0_)
       try (refine (fun (hb1_ : Q b1_) => ?_) ?_; clear_value b1_)
       try (refine (fun (hb2_ : Q b2_) => ?_) ?_; clear_value b2_)
       try (refine (fun (hb3_ : Q b3_) => ?_) ?_; clear_value b3_))
    | split | exact rfl | exact fun h => h | unfold a0_ | unfold a1_ | unfold a2_ | unfold a3_ | unfold b0_
    | unfold b1_ | unfold b2_ | unfold b3_

theorem cmdAbortHead_closed {n : Nat} {iss : Issuer} {x0_ : State}  (hq_ : Q x0_) : Q (cmdAbortHead n iss x0_) := by
  unfold cmdAbortHead
  try extract_lets a0_ a1_ a2_
  try (refine (fun (ha0_ : Q a0_) => ?_) ?_; clear_value a0_)
  try (refine (fun (ha1_ : Q a1_) => ?_) ?_; clear_value a1_)
  try (refine (fun (ha2_ : Q a2_) => ?_) ?_; clear_value a2_)
  repeat' first
    | with_reducible first
      | assumption | intro _ | apply Closed.ite | apply quick_closed hP | apply updCan_closed hP
      | apply canStart_closed hP | apply canDiscard_closed hP | apply hP.setReg | apply Closed.forN
      | apply Closed.foldl
    | intro _
    | (extract_lets b0_ b1_ b2_
       try (refine (fun (hb0_ : Q b0_) => ?_) ?_; clear_value b0_)
       try (refine (fun (hb1_ : Q b1_) => ?_) ?_; clear_value b1_)
       try (refine (fun (hb2_ : Q b2_) => ?_) ?_; clear_value b2_))
    | split | exact rfl | exact fun h => h | unfold a0_ | unfold a1_ | unfold a2_ | unfold b0_ | unfold b1_
    | unfold b2_

theorem cmdTxfFlush_closed {n : Nat} {iss : Issuer} {x0_ : State}  (hq_ : Q x0_) : Q (cmdTxfFlush n iss x0_) := by
  unfold cmdTxfFlush
  try extract_lets a0_ a1_ a2_
  try (refine (fun (ha0_ : Q a0_) => ?_) ?_; clear_value a0_)
  try (refine (fun (ha1_ : Q a1_) => ?_) ?_; clear_value a1_)
  try (refine (fun (ha2_ : Q a2_) => ?_) ?_; clear_value a2_)
  repeat' first
    | with_reducible first
      | assumption | intro _ | apply Closed.ite | apply quick_closed hP | apply txShow_closed hP
      | apply updCan_closed hP | apply canDiscard_closed hP | apply hP.setReg | apply Closed.forN
      | apply Closed.foldl
    | intro _
    | (extract_lets b0_ b1_ b2_
       try (refine (fun (hb0_ : Q b0_) => ?_) ?_; clear_value b0_)
       try (refine (fun (hb1_ : Q b1_) => ?_) ?_; clear_value b1_)
       try (refine (fun (hb2_ : Q b2_) => ?_) ?_; clear_value b2_))
    | split | exact rfl | exact fun h => h | unfold a0_ | unfold a1_ | unfold a2_ | unfold b0_ | unfold b1_
    | unfold b2_

theorem cmdCanRestart_closed {n : Nat} {iss : Issuer} {x0_ : State}  (hq_ : Q x0_) : Q (cmdCanRestart n iss x0_) := by
  unfold cmdCanRestart
  repeat' first
    | with_reducible first
      | assumption | intro _ | apply Closed.ite | apply quick_closed hP | apply setCanState_closed hP
      | apply hP.setReg | apply Closed.forN | apply Closed.foldl
    | intro _ | extract_lets | split | exact rfl | exact fun h => h

theorem cmdCanClr_closed {n : Nat} {iss : Issuer} {x0_ : State}  (hq_ : Q x0_) : Q (cmdCanClr n iss x0_) := by
  unfold cmdCanClr
  repeat' first
    | with_reducible first
      | assumption | intro _ | apply Closed.ite | apply quick_closed hP | apply State.clear_closed hP
      | apply State.setF_closed hP | apply hP.setReg | apply Closed.forN | apply Closed.foldl
      | apply Memory.writeN_wf | apply Memory.writeLe_wf | apply Memory.copy_wf | apply Memory.splice_wf
      | apply Memory.clear_wf | apply Memory.write_wf | apply Memory.foldl_copy_wf
      | apply Memory.foldl_writeN_wf | apply State.lane_wf
    | intro _ | extract_lets | split | exact rfl | exact fun h => h

end Sys2Proof.Machine
end

