-- ==== Sys2Proof/Laws/ClosedSmsg.lean ====
section
/-!
SUPPORT. The operations of Smsg.lean keep every property that the primitive writes keep (Laws/Closed.lean).
-/
set_option Elab.async false
set_option linter.all false
set_option linter.unusedVariables false
set_option linter.tactic.unusedName false

namespace Sys2Proof.Machine

variable {Q : State → Prop} (hP : Closed Q)
include hP

theorem setConn_closed {c : Nat} {x : Conn} {x0_ : State}  (hq_ : Q x0_) : Q (setConn c x x0_) := by
  unfold setConn
  try extract_lets a0_
  try (refine (fun (ha0_ : Q a0_) => ?_) ?_; clear_value a0_)
  repeat' first
    | with_reducible first
      | assumption | intro _ | apply Closed.ite | apply updSafety_closed hP | apply hP.setReg
      | apply Closed.forN | apply Closed.foldl
    | intro _
    | (extract_lets b0_
       try (refine (fun (hb0_ : Q b0_) => ?_) ?_; clear_value b0_))
    | split | exact rfl | exact fun h => h | unfold a0_ | unfold b0_

theorem setMap_closed {base : Nat} {c : Nat} {b : Bool} {s : State}  (hq_ : Q s) : Q (setMap base c b s) := by
  unfold setMap
  repeat' first
    | with_reducible first
      | assumption | intro _ | apply Closed.ite | apply State.setB_closed hP | apply hP.setReg
      | apply Closed.forN | apply Closed.foldl
    | intro _ | extract_lets | split | exact rfl | exact fun h => h

theorem smsgFetch_closed {c : Nat} {node : Nat} {stamp : Nat} {s : State}  (hq_ : Q s) : Q ((smsgFetch c node stamp s).2) := by
  unfold smsgFetch
  try extract_lets a0_ a1_ a2_ a3_ a4_ a5_ a6_ a7_ a8_ a9_ a10_ a11_
  try (refine (fun (ha0_ : Q a0_) => ?_) ?_; clear_value a0_)
  try (refine (fun (ha1_ : Q a1_) => ?_) ?_; clear_value a1_)
  try (refine (fun (ha2_ : Q a2_) => ?_) ?_; clear_value a2_)
  try (refine (fun (ha3_ : Q a3_) => ?_) ?_; clear_value a3_)
  try (refine (fun (ha4_ : Q a4_) => ?_) ?_; clear_value a4_)
  try (refine (fun (ha5_ : Q a5_) => ?_) ?_; clear_value a5_)
  try (refine (fun (ha6_ : Q a6_) => ?_) ?_; clear_value a6_)
  try (refine (fun (ha7_ : Q a7_) => ?_) ?_; clear_value a7_)
  try (refine (fun (ha8_ : Q a8_) => ?_) ?_; clear_value a8_)
  try (refine (fun (ha9_ : Q a9_) => ?_) ?_; clear_value a9_)
  try (refine (fun (ha10_ : Q a10_) => ?_) ?_; clear_value a10_)
  try (refine (fun (ha11_ : Q a11_) => ?_) ?_; clear_value a11_)
  repeat' first
    | with_reducible first
      | assumption | intro _ | apply Closed.ite | apply setConn_closed hP | apply State.send_closed hP
      | apply State.bump_closed hP | apply State.setB_closed hP | apply State.setPgState_closed hP
      | apply recordErr_closed hP | apply irqSet_closed hP | apply lockAll_closed hP | apply hP.setReg
      | apply Closed.forN | apply Closed.foldl
    | intro _
    | (extract_lets b0_ b1_ b2_ b3_ b4_ b5_ b6_ b7_ b8_ b9_ b10_ b11_
       try (refine (fun (hb0_ : Q b0_) => ?_) ?_; clear_value b0_)
       try (refine (fun (hb1_ : Q b1_) => ?_) ?_; clear_value b1_)
       try (refine (fun (hb2_ : Q b2_) => ?_) ?_; clear_value b2_)
       try (refine (fun (hb3_ : Q b3_) => ?_) ?_; clear_value b3_)
       try (refine (fun (hb4_ : Q b4_) => ?_) ?_; clear_value b4_)
       try (refine (fun (hb5_ : Q b5_) => ?_) ?_; clear_value b5_)
       try (refine (fun (hb6_ : Q b6_) => ?_) ?_; clear_value b6_)
       try (refine (fun (hb7_ : Q b7_) => ?_) ?_; clear_value b7_)
       try (refine (fun (hb8_ : Q b8_) => ?_) ?_; clear_value b8_)
       try (refine (fun (hb9_ : Q b9_) => ?_) ?_; clear_value b9_)
       try (refine (fun (hb10_ : Q b10_) => ?_) ?_; clear_value b10_)
       try (refine (fun (hb11_ : Q b11_) => ?_) ?_; clear_value b11_))
    | split | exact rfl | exact fun h => h | unfold a0_ | unfold a1_ | unfold a2_ | unfold a3_ | unfold a4_
    | unfold a5_ | unfold a6_ | unfold a7_ | unfold a8_ | unfold a9_ | unfold a10_ | unfold a11_
    | unfold b0_ | unfold b1_ | unfold b2_ | unfold b3_ | unfold b4_ | unfold b5_ | unfold b6_ | unfold b7_
    | unfold b8_ | unfold b9_ | unfold b10_ | unfold b11_
theorem smsgFetch_next {c : Nat} {node : Nat} {stamp : Nat} {s : State} {r0_} {t_ : State} (e : smsgFetch c node stamp s = (r0_, t_))  (hq_ : Q s) : Q t_ := by
  have h2_ : Q ((smsgFetch c node stamp s).2) := smsgFetch_closed hP  hq_
  rw [e] at h2_; exact h2_

theorem noteReject_closed {c : Nat} {ch : Nat} {code : Nat} {s : State}  (hq_ : Q s) : Q (noteReject c ch code s) := by
  unfold noteReject
  repeat' first
    | with_reducible first
      | assumption | intro _ | apply Closed.ite | apply State.setRegN_closed hP | apply hP.setReg
      | apply Closed.forN | apply Closed.foldl
    | intro _ | extract_lets | split | exact rfl | exact fun h => h

theorem countCode_closed {code : Nat} {s : State}  (hq_ : Q s) : Q (countCode code s) := by
  unfold countCode
  repeat' first
    | with_reducible first
      | assumption | intro _ | apply Closed.ite | apply State.bump_closed hP | apply hP.setReg
      | apply Closed.forN | apply Closed.foldl
    | intro _ | extract_lets | split | exact rfl | exact fun h => h

theorem smsgAccept_closed {c : Nat} {bs : List Byte} {single : Bool} {s : State}  (hq_ : Q s) : Q ((smsgAccept c bs single s).2) := by
  unfold smsgAccept
  try extract_lets a0_ a1_ a2_ a3_ a4_ a5_ a6_ a7_ a8_ a9_ a10_ a11_ a12_ a13_
  try (refine (fun (ha0_ : Q a0_) => ?_) ?_; clear_value a0_)
  try (refine (fun (ha1_ : Q a1_) => ?_) ?_; clear_value a1_)
  try (refine (fun (ha2_ : Q a2_) => ?_) ?_; clear_value a2_)
  try (refine (fun (ha3_ : Q a3_) => ?_) ?_; clear_value a3_)
  try (refine (fun (ha4_ : Q a4_) => ?_) ?_; clear_value a4_)
  try (refine (fun (ha5_ : Q a5_) => ?_) ?_; clear_value a5_)
  try (refine (fun (ha6_ : Q a6_) => ?_) ?_; clear_value a6_)
  try (refine (fun (ha7_ : Q a7_) => ?_) ?_; clear_value a7_)
  try (refine (fun (ha8_ : Q a8_) => ?_) ?_; clear_value a8_)
  try (refine (fun (ha9_ : Q a9_) => ?_) ?_; clear_value a9_)
  try (refine (fun (ha10_ : Q a10_) => ?_) ?_; clear_value a10_)
  try (refine (fun (ha11_ : Q a11_) => ?_) ?_; clear_value a11_)
  try (refine (fun (ha12_ : Q a12_) => ?_) ?_; clear_value a12_)
  try (refine (fun (ha13_ : Q a13_) => ?_) ?_; clear_value a13_)
  repeat' first
    | with_reducible first
      | assumption | intro _ | apply Closed.ite | apply State.bump_closed hP | apply setMap_closed hP
      | apply pushUnit_closed hP | apply setConn_closed hP | apply hP.setReg | apply Closed.forN
      | apply Closed.foldl | apply Memory.writeN_wf | apply Memory.writeLe_wf | apply Memory.copy_wf
      | apply Memory.splice_wf | apply Memory.clear_wf | apply Memory.write_wf | apply Memory.foldl_copy_wf
      | apply Memory.foldl_writeN_wf | apply State.lane_wf
    | intro _
    | (extract_lets b0_ b1_ b2_ b3_ b4_ b5_ b6_ b7_ b8_ b9_ b10_ b11_ b12_ b13_
       try (refine (fun (hb0_ : Q b0_) => ?_) ?_; clear_value b0_)
       try (refine (fun (hb1_ : Q b1_) => ?_) ?_; clear_value b1_)
       try (refine (fun (hb2_ : Q b2_) => ?_) ?_; clear_value b2_)
       try (refine (fun (hb3_ : Q b3_) => ?_) ?_; clear_value b3_)
       try (refine (fun (hb4_ : Q b4_) => ?_) ?_; clear_value b4_)
       try (refine (fun (hb5_ : Q b5_) => ?_) ?_; clear_value b5_)
       try (refine (fun (hb6_ : Q b6_) => ?_) ?_; clear_value b6_)
       try (refine (fun (hb7_ : Q b7_) => ?_) ?_; clear_value b7_)
       try (refine (fun (hb8_ : Q b8_) => ?_) ?_; clear_value b8_)
       try (refine (fun (hb9_ : Q b9_) => ?_) ?_; clear_value b9_)
       try (refine (fun (hb10_ : Q b10_) => ?_) ?_; clear_value b10_)
       try (refine (fun (hb11_ : Q b11_) => ?_) ?_; clear_value b11_)
       try (refine (fun (hb12_ : Q b12_) => ?_) ?_; clear_value b12_)
       try (refine (fun (hb13_ : Q b13_) => ?_) ?_; clear_value b13_))
    | split | exact rfl | exact fun h => h | unfold a0_ | unfold a1_ | unfold a2_ | unfold a3_ | unfold a4_
    | unfold a5_ | unfold a6_ | unfold a7_ | unfold a8_ | unfold a9_ | unfold a10_ | unfold a11_
    | unfold a12_ | unfold a13_ | unfold b0_ | unfold b1_ | unfold b2_ | unfold b3_ | unfold b4_
    | unfold b5_ | unfold b6_ | unfold b7_ | unfold b8_ | unfold b9_ | unfold b10_ | unfold b11_
    | unfold b12_ | unfold b13_
theorem smsgAccept_next {c : Nat} {bs : List Byte} {single : Bool} {s : State} {r0_} {t_ : State} (e : smsgAccept c bs single s = (r0_, t_))  (hq_ : Q s) : Q t_ := by
  have h2_ : Q ((smsgAccept c bs single s).2) := smsgAccept_closed hP  hq_
  rw [e] at h2_; exact h2_

theorem smsgCompare_closed {c : Nat} {a : Nat × List Byte} {b : Nat × List Byte} {s : State}  (hq_ : Q s) : Q ((smsgCompare c a b s).2) := by
  unfold smsgCompare
  try extract_lets a0_ a1_ a2_ a3_ a4_ a5_ a6_ a7_ a8_ a9_ a10_ a11_ a12_ a13_ a14_ a15_ a16_
  try (refine (fun (ha0_ : Q a0_) => ?_) ?_; clear_value a0_)
  try (refine (fun (ha1_ : Q a1_) => ?_) ?_; clear_value a1_)
  try (refine (fun (ha2_ : Q a2_) => ?_) ?_; clear_value a2_)
  try (refine (fun (ha3_ : Q a3_) => ?_) ?_; clear_value a3_)
  try (refine (fun (ha4_ : Q a4_) => ?_) ?_; clear_value a4_)
  try (refine (fun (ha5_ : Q a5_) => ?_) ?_; clear_value a5_)
  try (refine (fun (ha6_ : Q a6_) => ?_) ?_; clear_value a6_)
  try (refine (fun (ha7_ : Q a7_) => ?_) ?_; clear_value a7_)
  try (refine (fun (ha8_ : Q a8_) => ?_) ?_; clear_value a8_)
  try (refine (fun (ha9_ : Q a9_) => ?_) ?_; clear_value a9_)
  try (refine (fun (ha10_ : Q a10_) => ?_) ?_; clear_value a10_)
  try (refine (fun (ha11_ : Q a11_) => ?_) ?_; clear_value a11_)
  try (refine (fun (ha12_ : Q a12_) => ?_) ?_; clear_value a12_)
  try (refine (fun (ha13_ : Q a13_) => ?_) ?_; clear_value a13_)
  try (refine (fun (ha14_ : Q a14_) => ?_) ?_; clear_value a14_)
  try (refine (fun (ha15_ : Q a15_) => ?_) ?_; clear_value a15_)
  try (refine (fun (ha16_ : Q a16_) => ?_) ?_; clear_value a16_)
  repeat' first
    | with_reducible first
      | assumption | intro _ | apply Closed.ite | apply setConn_closed hP | apply smsgAccept_closed hP
      | apply noteReject_closed hP | apply irqSet_closed hP | apply State.bump_closed hP
      | apply countCode_closed hP | apply hP.setReg | apply Closed.forN | apply Closed.foldl
    | intro _ | refine smsgAccept_next hP (by assumption) ?_
    | (extract_lets b0_ b1_ b2_ b3_ b4_ b5_ b6_ b7_ b8_ b9_ b10_ b11_ b12_ b13_ b14_ b15_ b16_
       try (refine (fun (hb0_ : Q b0_) => ?_) ?_; clear_value b0_)
       try (refine (fun (hb1_ : Q b1_) => ?_) ?_; clear_value b1_)
       try (refine (fun (hb2_ : Q b2_) => ?_) ?_; clear_value b2_)
       try (refine (fun (hb3_ : Q b3_) => ?_) ?_; clear_value b3_)
       try (refine (fun (hb4_ : Q b4_) => ?_) ?_; clear_value b4_)
       try (refine (fun (hb5_ : Q b5_) => ?_) ?_; clear_value b5_)
       try (refine (fun (hb6_ : Q b6_) => ?_) ?_; clear_value b6_)
       try (refine (fun (hb7_ : Q b7_) => ?_) ?_; clear_value b7_)
       try (refine (fun (hb8_ : Q b8_) => ?_) ?_; clear_value b8_)
       try (refine (fun (hb9_ : Q b9_) => ?_) ?_; clear_value b9_)
       try (refine (fun (hb10_ : Q b10_) => ?_) ?_; clear_value b10_)
       try (refine (fun (hb11_ : Q b11_) => ?_) ?_; clear_value b11_)
       try (refine (fun (hb12_ : Q b12_) => ?_) ?_; clear_value b12_)
       try (refine (fun (hb13_ : Q b13_) => ?_) ?_; clear_value b13_)
       try (refine (fun (hb14_ : Q b14_) => ?_) ?_; clear_value b14_)
       try (refine (fun (hb15_ : Q b15_) => ?_) ?_; clear_value b15_)
       try (refine (fun (hb16_ : Q b16_) => ?_) ?_; clear_value b16_))
    | split | exact rfl | exact fun h => h | unfold a0_ | unfold a1_ | unfold a2_ | unfold a3_ | unfold a4_
    | unfold a5_ | unfold a6_ | unfold a7_ | unfold a8_ | unfold a9_ | unfold a10_ | unfold a11_
    | unfold a12_ | unfold a13_ | unfold a14_ | unfold a15_ | unfold a16_ | unfold b0_ | unfold b1_
    | unfold b2_ | unfold b3_ | unfold b4_ | unfold b5_ | unfold b6_ | unfold b7_ | unfold b8_ | unfold b9_
    | unfold b10_ | unfold b11_ | unfold b12_ | unfold b13_ | unfold b14_ | unfold b15_ | unfold b16_
theorem smsgCompare_next {c : Nat} {a : Nat × List Byte} {b : Nat × List Byte} {s : State} {r0_} {t_ : State} (e : smsgCompare c a b s = (r0_, t_))  (hq_ : Q s) : Q t_ := by
  have h2_ : Q ((smsgCompare c a b s).2) := smsgCompare_closed hP  hq_
  rw [e] at h2_; exact h2_

theorem smsgCopy_closed {c : Nat} {ch : Nat} {status : Nat} {gLen : Nat} {bs : List Byte} {at_ : Option Nat} {s : State}  (hq_ : Q s) : Q ((smsgCopy c ch status gLen bs at_ s).2) := by
  unfold smsgCopy
  try extract_lets a0_ a1_ a2_ a3_ a4_ a5_ a6_ a7_
  try (refine (fun (ha0_ : Q a0_) => ?_) ?_; clear_value a0_)
  try (refine (fun (ha1_ : Q a1_) => ?_) ?_; clear_value a1_)
  try (refine (fun (ha2_ : Q a2_) => ?_) ?_; clear_value a2_)
  try (refine (fun (ha3_ : Q a3_) => ?_) ?_; clear_value a3_)
  try (refine (fun (ha4_ : Q a4_) => ?_) ?_; clear_value a4_)
  try (refine (fun (ha5_ : Q a5_) => ?_) ?_; clear_value a5_)
  try (refine (fun (ha6_ : Q a6_) => ?_) ?_; clear_value a6_)
  try (refine (fun (ha7_ : Q a7_) => ?_) ?_; clear_value a7_)
  repeat' first
    | with_reducible first
      | assumption | intro _ | apply Closed.ite | apply setConn_closed hP | apply smsgCompare_closed hP
      | apply hP.setReg | apply Closed.forN | apply Closed.foldl
    | intro _ | refine smsgCompare_next hP (by assumption) ?_
    | (extract_lets b0_ b1_ b2_ b3_ b4_ b5_ b6_ b7_
       try (refine (fun (hb0_ : Q b0_) => ?_) ?_; clear_value b0_)
       try (refine (fun (hb1_ : Q b1_) => ?_) ?_; clear_value b1_)
       try (refine (fun (hb2_ : Q b2_) => ?_) ?_; clear_value b2_)
       try (refine (fun (hb3_ : Q b3_) => ?_) ?_; clear_value b3_)
       try (refine (fun (hb4_ : Q b4_) => ?_) ?_; clear_value b4_)
       try (refine (fun (hb5_ : Q b5_) => ?_) ?_; clear_value b5_)
       try (refine (fun (hb6_ : Q b6_) => ?_) ?_; clear_value b6_)
       try (refine (fun (hb7_ : Q b7_) => ?_) ?_; clear_value b7_))
    | split | exact rfl | exact fun h => h | unfold a0_ | unfold a1_ | unfold a2_ | unfold a3_ | unfold a4_
    | unfold a5_ | unfold a6_ | unfold a7_ | unfold b0_ | unfold b1_ | unfold b2_ | unfold b3_ | unfold b4_
    | unfold b5_ | unfold b6_ | unfold b7_
theorem smsgCopy_next {c : Nat} {ch : Nat} {status : Nat} {gLen : Nat} {bs : List Byte} {at_ : Option Nat} {s : State} {r0_} {t_ : State} (e : smsgCopy c ch status gLen bs at_ s = (r0_, t_))  (hq_ : Q s) : Q t_ := by
  have h2_ : Q ((smsgCopy c ch status gLen bs at_ s).2) := smsgCopy_closed hP  hq_
  rw [e] at h2_; exact h2_

theorem smsgCycle_closed {s : State}  (hq_ : Q s) : Q (smsgCycle s) := by
  unfold smsgCycle
  try extract_lets a0_ a1_
  try (refine (fun (ha0_ : Q a0_) => ?_) ?_; clear_value a0_)
  try (refine (fun (ha1_ : Q a1_) => ?_) ?_; clear_value a1_)
  repeat' first
    | with_reducible first
      | assumption | intro _ | apply Closed.ite | apply updSafety_closed hP | apply hP.setReg
      | apply Closed.forN | apply Closed.foldl | apply Memory.writeN_wf | apply Memory.writeLe_wf
      | apply Memory.copy_wf | apply Memory.splice_wf | apply Memory.clear_wf | apply Memory.write_wf
      | apply Memory.foldl_copy_wf | apply Memory.foldl_writeN_wf | apply State.lane_wf
    | intro _
    | (extract_lets b0_ b1_
       try (refine (fun (hb0_ : Q b0_) => ?_) ?_; clear_value b0_)
       try (refine (fun (hb1_ : Q b1_) => ?_) ?_; clear_value b1_))
    | split | exact rfl | exact fun h => h | unfold a0_ | unfold a1_ | unfold b0_ | unfold b1_

theorem smsgTimeout_closed {c : Nat} {s : State}  (hq_ : Q s) : Q (smsgTimeout c s) := by
  unfold smsgTimeout
  try extract_lets a0_ a1_ a2_ a3_
  try (refine (fun (ha0_ : Q a0_) => ?_) ?_; clear_value a0_)
  try (refine (fun (ha1_ : Q a1_) => ?_) ?_; clear_value a1_)
  try (refine (fun (ha2_ : Q a2_) => ?_) ?_; clear_value a2_)
  try (refine (fun (ha3_ : Q a3_) => ?_) ?_; clear_value a3_)
  repeat' first
    | with_reducible first
      | assumption | intro _ | apply Closed.ite | apply setConn_closed hP | apply setMap_closed hP
      | apply irqSet_closed hP | apply State.bump_closed hP | apply lockGroup_closed hP | apply hP.setReg
      | apply Closed.forN | apply Closed.foldl
    | intro _
    | (extract_lets b0_ b1_ b2_ b3_
       try (refine (fun (hb0_ : Q b0_) => ?_) ?_; clear_value b0_)
       try (refine (fun (hb1_ : Q b1_) => ?_) ?_; clear_value b1_)
       try (refine (fun (hb2_ : Q b2_) => ?_) ?_; clear_value b2_)
       try (refine (fun (hb3_ : Q b3_) => ?_) ?_; clear_value b3_))
    | split | exact rfl | exact fun h => h | unfold a0_ | unfold a1_ | unfold a2_ | unfold a3_ | unfold b0_
    | unfold b1_ | unfold b2_ | unfold b3_

theorem smsgClear_closed {s : State}  (hq_ : Q s) : Q (smsgClear s) := by
  unfold smsgClear
  try extract_lets a0_ a1_ a2_
  try (refine (fun (ha0_ : Q a0_) => ?_) ?_; clear_value a0_)
  try (refine (fun (ha1_ : Q a1_) => ?_) ?_; clear_value a1_)
  try (refine (fun (ha2_ : Q a2_) => ?_) ?_; clear_value a2_)
  repeat' first
    | with_reducible first
      | assumption | intro _ | apply Closed.ite | apply State.clear_closed hP | apply updSafety_closed hP
      | apply hP.setReg | apply Closed.forN | apply Closed.foldl | apply Memory.writeN_wf
      | apply Memory.writeLe_wf | apply Memory.copy_wf | apply Memory.splice_wf | apply Memory.clear_wf
      | apply Memory.write_wf | apply Memory.foldl_copy_wf | apply Memory.foldl_writeN_wf
      | apply State.lane_wf
    | intro _
    | (extract_lets b0_ b1_ b2_
       try (refine (fun (hb0_ : Q b0_) => ?_) ?_; clear_value b0_)
       try (refine (fun (hb1_ : Q b1_) => ?_) ?_; clear_value b1_)
       try (refine (fun (hb2_ : Q b2_) => ?_) ?_; clear_value b2_))
    | split | exact rfl | exact fun h => h | unfold a0_ | unfold a1_ | unfold a2_ | unfold b0_ | unfold b1_
    | unfold b2_

theorem cmdSmsgClr_closed {iss : Issuer} {x0_ : State}  (hq_ : Q x0_) : Q (cmdSmsgClr iss x0_) := by
  unfold cmdSmsgClr
  repeat' first
    | with_reducible first
      | assumption | intro _ | apply Closed.ite | apply quick_closed hP | apply smsgClear_closed hP
      | apply hP.setReg | apply Closed.forN | apply Closed.foldl
    | intro _ | extract_lets | split | exact rfl | exact fun h => h

end Sys2Proof.Machine
end

