-- ==== Sys2Proof/Laws/ClosedGradorBase.lean ====
section
/-!
SUPPORT. The operations of GradorBase.lean keep every property that the primitive writes keep (Laws/Closed.lean).
-/
set_option Elab.async false
set_option linter.all false
set_option linter.unusedVariables false
set_option linter.tactic.unusedName false

namespace Sys2Proof.Machine

variable {Q : State → Prop} (hP : Closed Q)
include hP

theorem beat_closed {grador : Bool} {s : State}  (hq_ : Q s) : Q (beat grador s) := by
  unfold beat
  try extract_lets a0_ a1_ a2_ a3_
  try (refine (fun (ha0_ : Q a0_) => ?_) ?_; clear_value a0_)
  try (refine (fun (ha1_ : Q a1_) => ?_) ?_; clear_value a1_)
  try (refine (fun (ha2_ : Q a2_) => ?_) ?_; clear_value a2_)
  try (refine (fun (ha3_ : Q a3_) => ?_) ?_; clear_value a3_)
  repeat' first
    | with_reducible first
      | assumption | intro _ | apply Closed.ite | apply updPart_closed hP | apply State.setB_closed hP
      | apply hP.setReg | apply Closed.forN | apply Closed.foldl | apply Memory.writeN_wf
      | apply Memory.writeLe_wf | apply Memory.copy_wf | apply Memory.splice_wf | apply Memory.clear_wf
      | apply Memory.write_wf | apply Memory.foldl_copy_wf | apply Memory.foldl_writeN_wf
      | apply State.lane_wf
    | intro _
    | (extract_lets b0_ b1_ b2_ b3_
       try (refine (fun (hb0_ : Q b0_) => ?_) ?_; clear_value b0_)
       try (refine (fun (hb1_ : Q b1_) => ?_) ?_; clear_value b1_)
       try (refine (fun (hb2_ : Q b2_) => ?_) ?_; clear_value b2_)
       try (refine (fun (hb3_ : Q b3_) => ?_) ?_; clear_value b3_))
    | split | exact rfl | exact fun h => h | unfold a0_ | unfold a1_ | unfold a2_ | unfold a3_ | unfold b0_
    | unfold b1_ | unfold b2_ | unfold b3_

theorem updGrd_closed {f : Grador → Grador} {s : State} (hf : ∀ x, Grador.wfTo x (f x)) (h : Q s) :
    Q (updGrd f s) := hP.grd _ _ (hf _) h

theorem setBuf_closed {n : Nat} {b : GrdBuf} {x0_ : State}  (hq_ : Q x0_) : Q (setBuf n b x0_) := by
  unfold setBuf
  try extract_lets a0_
  try (refine (fun (ha0_ : Q a0_) => ?_) ?_; clear_value a0_)
  repeat' first
    | with_reducible first
      | assumption | intro _ | apply Closed.ite | apply updGrd_closed hP | apply hP.setReg
      | apply Closed.forN | apply Closed.foldl
    | intro _
    | (extract_lets b0_
       try (refine (fun (hb0_ : Q b0_) => ?_) ?_; clear_value b0_))
    | split | exact rfl | exact fun h => h | unfold a0_ | unfold b0_

theorem setBufMap_closed {base : Nat} {n : Nat} {b : Bool} {s : State}  (hq_ : Q s) : Q (setBufMap base n b s) := by
  unfold setBufMap
  repeat' first
    | with_reducible first
      | assumption | intro _ | apply Closed.ite | apply State.setB_closed hP | apply hP.setReg
      | apply Closed.forN | apply Closed.foldl
    | intro _ | extract_lets | split | exact rfl | exact fun h => h

theorem bufWord_closed {n : Nat} {off : Nat} {v : Nat} {x0_ : State}  (hq_ : Q x0_) : Q (bufWord n off v x0_) := by
  unfold bufWord
  repeat' first
    | with_reducible first
      | assumption | intro _ | apply Closed.ite | apply commsWrite_closed hP | apply hP.setReg
      | apply Closed.forN | apply Closed.foldl
    | intro _ | extract_lets | split | exact rfl | exact fun h => h

theorem bufStatus_closed {n : Nat} {st : Nat} {s : State}  (hq_ : Q s) : Q (bufStatus n st s) := by
  unfold bufStatus
  try extract_lets a0_ a1_ a2_ a3_ a4_
  try (refine (fun (ha0_ : Q a0_) => ?_) ?_; clear_value a0_)
  try (refine (fun (ha1_ : Q a1_) => ?_) ?_; clear_value a1_)
  try (refine (fun (ha2_ : Q a2_) => ?_) ?_; clear_value a2_)
  try (refine (fun (ha3_ : Q a3_) => ?_) ?_; clear_value a3_)
  try (refine (fun (ha4_ : Q a4_) => ?_) ?_; clear_value a4_)
  repeat' first
    | with_reducible first
      | assumption | intro _ | apply Closed.ite | apply setBufMap_closed hP | apply setBuf_closed hP
      | apply bufWord_closed hP | apply hP.setReg | apply Closed.forN | apply Closed.foldl
    | intro _
    | (extract_lets b0_ b1_ b2_ b3_ b4_
       try (refine (fun (hb0_ : Q b0_) => ?_) ?_; clear_value b0_)
       try (refine (fun (hb1_ : Q b1_) => ?_) ?_; clear_value b1_)
       try (refine (fun (hb2_ : Q b2_) => ?_) ?_; clear_value b2_)
       try (refine (fun (hb3_ : Q b3_) => ?_) ?_; clear_value b3_)
       try (refine (fun (hb4_ : Q b4_) => ?_) ?_; clear_value b4_))
    | split | exact rfl | exact fun h => h | unfold a0_ | unfold a1_ | unfold a2_ | unfold a3_ | unfold a4_
    | unfold b0_ | unfold b1_ | unfold b2_ | unfold b3_ | unfold b4_

theorem bufStore_closed {n : Nat} {cycle : Nat} {age : Nat} {dlen : Nat} {data : List Byte} {s : State}  (hq_ : Q s) : Q (bufStore n cycle age dlen data s) := by
  unfold bufStore
  try extract_lets a0_ a1_ a2_ a3_ a4_ a5_ a6_
  try (refine (fun (ha0_ : Q a0_) => ?_) ?_; clear_value a0_)
  try (refine (fun (ha1_ : Q a1_) => ?_) ?_; clear_value a1_)
  try (refine (fun (ha2_ : Q a2_) => ?_) ?_; clear_value a2_)
  try (refine (fun (ha3_ : Q a3_) => ?_) ?_; clear_value a3_)
  try (refine (fun (ha4_ : Q a4_) => ?_) ?_; clear_value a4_)
  try (refine (fun (ha5_ : Q a5_) => ?_) ?_; clear_value a5_)
  try (refine (fun (ha6_ : Q a6_) => ?_) ?_; clear_value a6_)
  repeat' first
    | with_reducible first
      | assumption | intro _ | apply Closed.ite | apply setBuf_closed hP | apply commsWrite_closed hP
      | apply bufWord_closed hP | apply setBufMap_closed hP | apply irqSet_closed hP
      | apply relayGrador_closed hP | apply pushUnit_closed hP | apply hP.setReg | apply Closed.forN
      | apply Closed.foldl
    | intro _
    | (extract_lets b0_ b1_ b2_ b3_ b4_ b5_ b6_
       try (refine (fun (hb0_ : Q b0_) => ?_) ?_; clear_value b0_)
       try (refine (fun (hb1_ : Q b1_) => ?_) ?_; clear_value b1_)
       try (refine (fun (hb2_ : Q b2_) => ?_) ?_; clear_value b2_)
       try (refine (fun (hb3_ : Q b3_) => ?_) ?_; clear_value b3_)
       try (refine (fun (hb4_ : Q b4_) => ?_) ?_; clear_value b4_)
       try (refine (fun (hb5_ : Q b5_) => ?_) ?_; clear_value b5_)
       try (refine (fun (hb6_ : Q b6_) => ?_) ?_; clear_value b6_))
    | split | exact rfl | exact fun h => h | unfold a0_ | unfold a1_ | unfold a2_ | unfold a3_ | unfold a4_
    | unfold a5_ | unfold a6_ | unfold b0_ | unfold b1_ | unfold b2_ | unfold b3_ | unfold b4_ | unfold b5_
    | unfold b6_

theorem bufNote_closed {n : Nat} {s : State}  (hq_ : Q s) : Q (bufNote n s) := by
  unfold bufNote
  try extract_lets a0_ a1_ a2_
  try (refine (fun (ha0_ : Q a0_) => ?_) ?_; clear_value a0_)
  try (refine (fun (ha1_ : Q a1_) => ?_) ?_; clear_value a1_)
  try (refine (fun (ha2_ : Q a2_) => ?_) ?_; clear_value a2_)
  repeat' first
    | with_reducible first
      | assumption | intro _ | apply Closed.ite | apply updExec_closed hP | apply hP.setReg
      | apply Closed.forN | apply Closed.foldl
    | intro _
    | (extract_lets b0_ b1_ b2_
       try (refine (fun (hb0_ : Q b0_) => ?_) ?_; clear_value b0_)
       try (refine (fun (hb1_ : Q b1_) => ?_) ?_; clear_value b1_)
       try (refine (fun (hb2_ : Q b2_) => ?_) ?_; clear_value b2_))
    | split | exact rfl | exact fun h => h | unfold a0_ | unfold a1_ | unfold a2_ | unfold b0_ | unfold b1_
    | unfold b2_

theorem grdCommit_closed {n : Nat} {tb : Nat} {unit : List Byte} {s : State}  (hq_ : Q s) : Q (grdCommit n tb unit s) := by
  unfold grdCommit
  try extract_lets a0_ a1_ a2_ a3_ a4_ a5_ a6_ a7_
  try (refine (fun (ha0_ : Q a0_) => ?_) ?_; clear_value a0_)
  try (refine (fun (ha1_ : Q a1_) => ?_) ?_; clear_value a1_)
  try (refine (fun (ha2_ : Q a2_) => ?_) ?_; clear_value a2_)
  try (refine (fun (ha3_ : Q a3_) => ?_) ?_; clear_value a3_)
  try (refine (fun (ha4_ : Q a4_) => ?_) ?_; clear_value a4_)
  try (refine (fun (ha5_ : Q a5_) => ?_) ?_; clear_value a5_)
  try (refine (fun (ha6_ : Q a6_) => ?_) ?_; clear_value a6_)
  try (refine (fun (ha7_ : Q a7_) => ?_) ?_; clear_value a7_)
  repeat' first
    | with_reducible first
      | assumption | intro _ | apply Closed.ite | apply setBuf_closed hP | apply recordErr_closed hP
      | apply State.bump_closed hP | apply bufNote_closed hP | apply bufWord_closed hP
      | apply commsWrite_closed hP | apply hP.setReg | apply Closed.forN | apply Closed.foldl
    | intro _
    | (extract_lets b0_ b1_ b2_ b3_ b4_ b5_ b6_ b7_
       try (refine (fun (hb0_ : Q b0_) => ?_) ?_; clear_value b0_)
       try (refine (fun (hb1_ : Q b1_) => ?_) ?_; clear_value b1_)
       try (refine (fun (hb2_ : Q b2_) => ?_) ?_; clear_value b2_)
       try (refine (fun (hb3_ : Q b3_) => ?_) ?_; clear_value b3_)
       try (refine (fun (hb4_ : Q b4_) => ?_) ?_; clear_value b4_)
       try (refine (fun (hb5_ : Q b5_) => ?_) ?_; clear_value b5_)
       try (refine (fun (hb6_ : Q b6_) => ?_) ?_; clear_value b6_)
       try (refine (fun (hb7_ : Q b7_) => ?_) ?_; clear_value b7_))
    | split | exact rfl | exact fun h => h | unfold a0_ | unfold a1_ | unfold a2_ | unfold a3_ | unfold a4_
    | unfold a5_ | unfold a6_ | unfold a7_ | unfold b0_ | unfold b1_ | unfold b2_ | unfold b3_ | unfold b4_
    | unfold b5_ | unfold b6_ | unfold b7_

theorem pairCommit_closed {a : Nat} {b : Nat} {tb : Nat} {unit : List Byte} {s : State}  (hq_ : Q s) : Q (pairCommit a b tb unit s) := by
  unfold pairCommit
  try extract_lets a0_ a1_ a2_
  try (refine (fun (ha0_ : Q a0_) => ?_) ?_; clear_value a0_)
  try (refine (fun (ha1_ : Q a1_) => ?_) ?_; clear_value a1_)
  try (refine (fun (ha2_ : Q a2_) => ?_) ?_; clear_value a2_)
  repeat' first
    | with_reducible first
      | assumption | intro _ | apply Closed.ite | apply setBuf_closed hP | apply hP.setReg
      | apply Closed.forN | apply Closed.foldl
    | intro _
    | (extract_lets b0_ b1_ b2_
       try (refine (fun (hb0_ : Q b0_) => ?_) ?_; clear_value b0_)
       try (refine (fun (hb1_ : Q b1_) => ?_) ?_; clear_value b1_)
       try (refine (fun (hb2_ : Q b2_) => ?_) ?_; clear_value b2_))
    | split | exact rfl | exact fun h => h | unfold a0_ | unfold a1_ | unfold a2_ | unfold b0_ | unfold b1_
    | unfold b2_

theorem latchBuf_closed {n : Nat} {s : State}  (hq_ : Q s) : Q (latchBuf n s) := by
  unfold latchBuf
  try extract_lets a0_ a1_ a2_ a3_
  try (refine (fun (ha0_ : Q a0_) => ?_) ?_; clear_value a0_)
  try (refine (fun (ha1_ : Q a1_) => ?_) ?_; clear_value a1_)
  try (refine (fun (ha2_ : Q a2_) => ?_) ?_; clear_value a2_)
  try (refine (fun (ha3_ : Q a3_) => ?_) ?_; clear_value a3_)
  repeat' first
    | with_reducible first
      | assumption | intro _ | apply Closed.ite | apply setBuf_closed hP | apply hP.setReg
      | apply Closed.forN | apply Closed.foldl
    | intro _
    | (extract_lets b0_ b1_ b2_ b3_
       try (refine (fun (hb0_ : Q b0_) => ?_) ?_; clear_value b0_)
       try (refine (fun (hb1_ : Q b1_) => ?_) ?_; clear_value b1_)
       try (refine (fun (hb2_ : Q b2_) => ?_) ?_; clear_value b2_)
       try (refine (fun (hb3_ : Q b3_) => ?_) ?_; clear_value b3_))
    | split | exact rfl | exact fun h => h | unfold a0_ | unfold a1_ | unfold a2_ | unfold a3_ | unfold b0_
    | unfold b1_ | unfold b2_ | unfold b3_

theorem stationWord_closed {node : Nat} {v : Nat} {x0_ : State}  (hq_ : Q x0_) : Q (stationWord node v x0_) := by
  unfold stationWord
  try extract_lets a0_
  try (refine (fun (ha0_ : Q a0_) => ?_) ?_; clear_value a0_)
  repeat' first
    | with_reducible first
      | assumption | intro _ | apply Closed.ite | apply updGrd_closed hP | apply hP.setReg
      | apply Closed.forN | apply Closed.foldl | apply Memory.writeN_wf | apply Memory.writeLe_wf
      | apply Memory.copy_wf | apply Memory.splice_wf | apply Memory.clear_wf | apply Memory.write_wf
      | apply Memory.foldl_copy_wf | apply Memory.foldl_writeN_wf | apply State.lane_wf
    | intro _
    | (extract_lets b0_
       try (refine (fun (hb0_ : Q b0_) => ?_) ?_; clear_value b0_))
    | split | exact rfl | exact fun h => h | unfold a0_ | unfold b0_

theorem setAbsent_closed {node : Nat} {b : Bool} {s : State}  (hq_ : Q s) : Q (setAbsent node b s) := by
  unfold setAbsent
  try extract_lets a0_ a1_ a2_ a3_ a4_ a5_ a6_
  try (refine (fun (ha0_ : Q a0_) => ?_) ?_; clear_value a0_)
  try (refine (fun (ha1_ : Q a1_) => ?_) ?_; clear_value a1_)
  try (refine (fun (ha2_ : Q a2_) => ?_) ?_; clear_value a2_)
  try (refine (fun (ha3_ : Q a3_) => ?_) ?_; clear_value a3_)
  try (refine (fun (ha4_ : Q a4_) => ?_) ?_; clear_value a4_)
  try (refine (fun (ha5_ : Q a5_) => ?_) ?_; clear_value a5_)
  try (refine (fun (ha6_ : Q a6_) => ?_) ?_; clear_value a6_)
  repeat' first
    | with_reducible first
      | assumption | intro _ | apply Closed.ite | apply stationWord_closed hP | apply State.setB_closed hP
      | apply State.setRegN_closed hP | apply relayEvent_closed hP | apply irqSet_closed hP
      | apply State.bump_closed hP | apply hP.setReg | apply Closed.forN | apply Closed.foldl
    | intro _
    | (extract_lets b0_ b1_ b2_ b3_ b4_ b5_ b6_
       try (refine (fun (hb0_ : Q b0_) => ?_) ?_; clear_value b0_)
       try (refine (fun (hb1_ : Q b1_) => ?_) ?_; clear_value b1_)
       try (refine (fun (hb2_ : Q b2_) => ?_) ?_; clear_value b2_)
       try (refine (fun (hb3_ : Q b3_) => ?_) ?_; clear_value b3_)
       try (refine (fun (hb4_ : Q b4_) => ?_) ?_; clear_value b4_)
       try (refine (fun (hb5_ : Q b5_) => ?_) ?_; clear_value b5_)
       try (refine (fun (hb6_ : Q b6_) => ?_) ?_; clear_value b6_))
    | split | exact rfl | exact fun h => h | unfold a0_ | unfold a1_ | unfold a2_ | unfold a3_ | unfold a4_
    | unfold a5_ | unfold a6_ | unfold b0_ | unfold b1_ | unfold b2_ | unfold b3_ | unfold b4_ | unfold b5_
    | unfold b6_

theorem showAbsent_closed {s : State}  (hq_ : Q s) : Q (showAbsent s) := by
  unfold showAbsent
  try extract_lets a0_ a1_
  try (refine (fun (ha0_ : Q a0_) => ?_) ?_; clear_value a0_)
  try (refine (fun (ha1_ : Q a1_) => ?_) ?_; clear_value a1_)
  repeat' first
    | with_reducible first
      | assumption | intro _ | apply Closed.ite | apply State.clear_closed hP | apply State.setRegN_closed hP
      | apply State.setB_closed hP | apply hP.setReg | apply Closed.forN | apply Closed.foldl
      | apply Memory.writeN_wf | apply Memory.writeLe_wf | apply Memory.copy_wf | apply Memory.splice_wf
      | apply Memory.clear_wf | apply Memory.write_wf | apply Memory.foldl_copy_wf
      | apply Memory.foldl_writeN_wf | apply State.lane_wf
    | intro _
    | (extract_lets b0_ b1_
       try (refine (fun (hb0_ : Q b0_) => ?_) ?_; clear_value b0_)
       try (refine (fun (hb1_ : Q b1_) => ?_) ?_; clear_value b1_))
    | split | exact rfl | exact fun h => h | unfold a0_ | unfold a1_ | unfold b0_ | unfold b1_

theorem stationsLoaded_closed {s : State}  (hq_ : Q s) : Q (stationsLoaded s) := by
  unfold stationsLoaded
  try extract_lets a0_
  try (refine (fun (ha0_ : Q a0_) => ?_) ?_; clear_value a0_)
  repeat' first
    | with_reducible first
      | assumption | intro _ | apply Closed.ite | apply stationWord_closed hP | apply showAbsent_closed hP
      | apply hP.setReg | apply Closed.forN | apply Closed.foldl
    | intro _
    | (extract_lets b0_
       try (refine (fun (hb0_ : Q b0_) => ?_) ?_; clear_value b0_))
    | split | exact rfl | exact fun h => h | unfold a0_ | unfold b0_

omit hP in
/-- Bytes loaded outside the schedule's own table keep the memory canonical. -/
theorem schedPut_wf {off : Nat} {l : List (Byte × Nat)} {m : List Host.Cell} (h : Memory.wf m = true) :
    Memory.wf (l.foldl (fun m x => if schedOwn (off + x.2) then m else Memory.write m (off + x.2) x.1) m) = true := by
  induction l generalizing m with
  | nil => exact h
  | cons x l ih =>
    refine ih ?_
    show Memory.wf (if _ then _ else _) = true
    split
    · exact h
    · exact Memory.write_wf h
theorem schedLoad_closed {off : Nat} {bs : List Byte} {s : State} (h : Q s) : Q (schedLoad off bs s) :=
  stationsLoaded_closed hP (updGrd_closed hP (fun _ hg => schedPut_wf hg) h)

theorem allAbsent_closed {s : State}  (hq_ : Q s) : Q (allAbsent s) := by
  unfold allAbsent
  try extract_lets a0_
  try (refine (fun (ha0_ : Q a0_) => ?_) ?_; clear_value a0_)
  repeat' first
    | with_reducible first
      | assumption | intro _ | apply Closed.ite | apply updGrd_closed hP | apply setAbsent_closed hP
      | apply hP.setReg | apply Closed.forN | apply Closed.foldl
    | intro _
    | (extract_lets b0_
       try (refine (fun (hb0_ : Q b0_) => ?_) ?_; clear_value b0_))
    | split | exact rfl | exact fun h => h | unfold a0_ | unfold b0_

theorem bufEmpty_closed {n : Nat} {s : State}  (hq_ : Q s) : Q (bufEmpty n s) := by
  unfold bufEmpty
  repeat' first
    | with_reducible first
      | assumption | intro _ | apply Closed.ite | apply bufWord_closed hP | apply hP.setReg
      | apply Closed.forN | apply Closed.foldl
    | intro _ | extract_lets | split | exact rfl | exact fun h => h

theorem stationSupv_closed {node : Nat} {supv : Nat} {s : State}  (hq_ : Q s) : Q (stationSupv node supv s) := by
  unfold stationSupv
  try extract_lets a0_
  try (refine (fun (ha0_ : Q a0_) => ?_) ?_; clear_value a0_)
  repeat' first
    | with_reducible first
      | assumption | intro _ | apply Closed.ite | apply stationWord_closed hP | apply hP.setReg
      | apply Closed.forN | apply Closed.foldl
    | intro _
    | (extract_lets b0_
       try (refine (fun (hb0_ : Q b0_) => ?_) ?_; clear_value b0_))
    | split | exact rfl | exact fun h => h | unfold a0_ | unfold b0_

theorem stationHeard_closed {node : Nat} {ok : Bool} {s : State}  (hq_ : Q s) : Q (stationHeard node ok s) := by
  unfold stationHeard
  try extract_lets a0_ a1_ a2_ a3_
  try (refine (fun (ha0_ : Q a0_) => ?_) ?_; clear_value a0_)
  try (refine (fun (ha1_ : Q a1_) => ?_) ?_; clear_value a1_)
  try (refine (fun (ha2_ : Q a2_) => ?_) ?_; clear_value a2_)
  try (refine (fun (ha3_ : Q a3_) => ?_) ?_; clear_value a3_)
  repeat' first
    | with_reducible first
      | assumption | intro _ | apply Closed.ite | apply setAbsent_closed hP | apply updGrd_closed hP
      | apply hP.setReg | apply Closed.forN | apply Closed.foldl
    | intro _
    | (extract_lets b0_ b1_ b2_ b3_
       try (refine (fun (hb0_ : Q b0_) => ?_) ?_; clear_value b0_)
       try (refine (fun (hb1_ : Q b1_) => ?_) ?_; clear_value b1_)
       try (refine (fun (hb2_ : Q b2_) => ?_) ?_; clear_value b2_)
       try (refine (fun (hb3_ : Q b3_) => ?_) ?_; clear_value b3_))
    | split | exact rfl | exact fun h => h | unfold a0_ | unfold a1_ | unfold a2_ | unfold a3_ | unfold b0_
    | unfold b1_ | unfold b2_ | unfold b3_

end Sys2Proof.Machine
end

