-- ==== Sys2Proof/Laws/ClosedImage.lean ====
section
/-!
SUPPORT. The operations of Image.lean keep every property that the primitive writes keep (Laws/Closed.lean).
-/
set_option Elab.async false
set_option linter.all false
set_option linter.unusedVariables false
set_option linter.tactic.unusedName false

namespace Sys2Proof.Machine

variable {Q : State → Prop} (hP : Closed Q)
include hP

theorem placeCode_closed {area : Nat} {p : Program} {s : State}  (hq_ : Q s) : Q (placeCode area p s) := by
  unfold placeCode
  try extract_lets a0_
  try (refine (fun (ha0_ : Q a0_) => ?_) ?_; clear_value a0_)
  repeat' first
    | with_reducible first
      | assumption | intro _ | apply Closed.ite | apply loaderWrite_closed hP | apply hP.setReg
      | apply Closed.forN | apply Closed.foldl
    | intro _
    | (extract_lets b0_
       try (refine (fun (hb0_ : Q b0_) => ?_) ?_; clear_value b0_))
    | split | exact rfl | exact fun h => h | unfold a0_ | unfold b0_

theorem placeData_closed {area : Nat} {p : Program} {s : State}  (hq_ : Q s) : Q (placeData area p s) := by
  unfold placeData
  repeat' first
    | with_reducible first
      | assumption | intro _ | apply Closed.ite | apply loaderWrite_closed hP | apply hP.setReg
      | apply Closed.forN | apply Closed.foldl
    | intro _ | extract_lets | split | exact rfl | exact fun h => h

end Sys2Proof.Machine
end

