-- ==== Sys2Proof/Laws/ClosedLanes.lean ====
section
/-!
SUPPORT. The operations of Lanes.lean keep every property that the primitive writes keep (Laws/Closed.lean).
-/
set_option Elab.async false
set_option linter.all false
set_option linter.unusedVariables false
set_option linter.tactic.unusedName false

namespace Sys2Proof.Machine

variable {Q : State → Prop} (hP : Closed Q)
include hP

theorem pushLog_closed {base : Nat} {n : Nat} {w : Nat} {entry : List Nat} {s : State}  (hq_ : Q s) : Q (pushLog base n w entry s) := by
  unfold pushLog
  try extract_lets a0_
  try (refine (fun (ha0_ : Q a0_) => ?_) ?_; clear_value a0_)
  repeat' first
    | with_reducible first
      | assumption | intro _ | apply Closed.ite | apply State.setRegN_closed hP | apply hP.setReg
      | apply Closed.forN | apply Closed.foldl
    | intro _
    | (extract_lets b0_
       try (refine (fun (hb0_ : Q b0_) => ?_) ?_; clear_value b0_))
    | split | exact rfl | exact fun h => h | unfold a0_ | unfold b0_

theorem loadLast_closed {e : LaneEvent} {fwd : BitVec 112} {s : State}  (hq_ : Q s) : Q (loadLast e fwd s) := by
  unfold loadLast
  try extract_lets a0_ a1_ a2_ a3_ a4_ a5_
  try (refine (fun (ha0_ : Q a0_) => ?_) ?_; clear_value a0_)
  try (refine (fun (ha1_ : Q a1_) => ?_) ?_; clear_value a1_)
  try (refine (fun (ha2_ : Q a2_) => ?_) ?_; clear_value a2_)
  try (refine (fun (ha3_ : Q a3_) => ?_) ?_; clear_value a3_)
  try (refine (fun (ha4_ : Q a4_) => ?_) ?_; clear_value a4_)
  try (refine (fun (ha5_ : Q a5_) => ?_) ?_; clear_value a5_)
  repeat' first
    | with_reducible first
      | assumption | intro _ | apply Closed.ite | apply State.setReg64_closed hP
      | apply State.setRegN_closed hP | apply pushLog_closed hP | apply hP.setReg | apply Closed.forN
      | apply Closed.foldl
    | intro _
    | (extract_lets b0_ b1_ b2_ b3_ b4_ b5_
       try (refine (fun (hb0_ : Q b0_) => ?_) ?_; clear_value b0_)
       try (refine (fun (hb1_ : Q b1_) => ?_) ?_; clear_value b1_)
       try (refine (fun (hb2_ : Q b2_) => ?_) ?_; clear_value b2_)
       try (refine (fun (hb3_ : Q b3_) => ?_) ?_; clear_value b3_)
       try (refine (fun (hb4_ : Q b4_) => ?_) ?_; clear_value b4_)
       try (refine (fun (hb5_ : Q b5_) => ?_) ?_; clear_value b5_))
    | split | exact rfl | exact fun h => h | unfold a0_ | unfold a1_ | unfold a2_ | unfold a3_ | unfold a4_
    | unfold a5_ | unfold b0_ | unfold b1_ | unfold b2_ | unfold b3_ | unfold b4_ | unfold b5_

theorem haltLane_closed {l : Nat} {s : State}  (hq_ : Q s) : Q (haltLane l s) := by
  unfold haltLane
  repeat' first
    | with_reducible first
      | assumption | intro _ | apply Closed.ite | apply State.setRegN_closed hP | apply hP.setReg
      | apply Closed.forN | apply Closed.foldl
    | intro _ | extract_lets | split | exact rfl | exact fun h => h

theorem retire_closed {l : Nat} {kind : Nat} {s : State}  (hq_ : Q s) : Q (retire l kind s) := by
  unfold retire
  try extract_lets a0_ a1_ a2_ a3_ a4_ a5_ a6_ a7_
  try (refine (fun (ha0_ : Q a0_) => ?_) ?_; clear_value a0_)
  try (refine (fun (ha1_ : Q a1_) => ?_) ?_; clear_value a1_)
  try (refine (fun (ha2_ : Q a2_) => ?_) ?_; clear_value a2_)
  try (refine (fun (ha3_ : Q a3_) => ?_) ?_; clear_value a3_)
  try (refine (fun (ha4_ : Q a4_) => ?_) ?_; clear_value a4_)
  try (refine (fun (ha5_ : Q a5_) => ?_) ?_; clear_value a5_)
  try (refine (fun (ha6_ : Q a6_) => ?_) ?_; clear_value a6_)
  try (refine (fun (ha7_ : Q a7_) => ?_) ?_; clear_value a7_)
  repeat' first
    | with_reducible first
      | assumption | intro _ | apply Closed.ite | apply State.setF_closed hP | apply State.setReg64_closed hP
      | apply State.setRegN_closed hP | apply haltLane_closed hP | apply State.setPgState_closed hP
      | apply updVoting_closed hP | apply irqSet_closed hP | apply recordErr_closed hP | apply hP.setReg
      | apply Closed.forN | apply Closed.foldl
    | intro _
    | (extract_lets b0_ b1_ b2_ b3_ b4_ b5_ b6_ b7_
       try (refine (fun (hb0_ : Q b0_) => ?_) ?_; clear_value b0_)
       try (refine (fun (hb1_ : Q b1_) => ?_) ?_; clear_value b1_)
       try (refine (fun (hb2_ : Q b2_) => ?_) ?_; clear_value b2_)
       try (refine (fun (hb3_ : Q b3_) => ?_) ?_; clear_value b3_)
       try (refine (fun (hb4_ : Q b4_) => ?_) ?_; clear_value b4_)
       try (refine (fun (hb5_ : Q b5_) => ?_) ?_; clear_value b5_)
       try (refine (fun (hb6_ : Q b6_) => ?_) ?_; clear_value b6_)
       try (refine (fun (hb7_ : Q b7_) => ?_) ?_; clear_value b7_))
    | split | exact rfl | exact fun h => h | unfold a0_ | unfold a1_ | unfold a2_ | unfold a3_ | unfold a4_
    | unfold a5_ | unfold a6_ | unfold a7_ | unfold b0_ | unfold b1_ | unfold b2_ | unfold b3_ | unfold b4_
    | unfold b5_ | unfold b6_ | unfold b7_

theorem countedLanes_closed {s : State}  (hq_ : Q s) : Q (countedLanes s) := by
  unfold countedLanes
  try extract_lets a0_ a1_ a2_ a3_ a4_
  try (refine (fun (ha0_ : Q a0_) => ?_) ?_; clear_value a0_)
  try (refine (fun (ha1_ : Q a1_) => ?_) ?_; clear_value a1_)
  try (refine (fun (ha2_ : Q a2_) => ?_) ?_; clear_value a2_)
  try (refine (fun (ha3_ : Q a3_) => ?_) ?_; clear_value a3_)
  try (refine (fun (ha4_ : Q a4_) => ?_) ?_; clear_value a4_)
  repeat' first
    | with_reducible first
      | assumption | intro _ | apply Closed.ite | apply updVoting_closed hP | apply State.setF_closed hP
      | apply State.setB_closed hP | apply State.setPgState_closed hP | apply hP.setReg | apply Closed.forN
      | apply Closed.foldl
    | intro _
    | (extract_lets b0_ b1_ b2_ b3_ b4_
       try (refine (fun (hb0_ : Q b0_) => ?_) ?_; clear_value b0_)
       try (refine (fun (hb1_ : Q b1_) => ?_) ?_; clear_value b1_)
       try (refine (fun (hb2_ : Q b2_) => ?_) ?_; clear_value b2_)
       try (refine (fun (hb3_ : Q b3_) => ?_) ?_; clear_value b3_)
       try (refine (fun (hb4_ : Q b4_) => ?_) ?_; clear_value b4_))
    | split | exact rfl | exact fun h => h | unfold a0_ | unfold a1_ | unfold a2_ | unfold a3_ | unfold a4_
    | unfold b0_ | unfold b1_ | unfold b2_ | unfold b3_ | unfold b4_

theorem fenceLane_closed {l : Nat} {kind : Nat} {s : State}  (hq_ : Q s) : Q (fenceLane l kind s) := by
  unfold fenceLane
  try extract_lets a0_ a1_ a2_ a3_ a4_ a5_
  try (refine (fun (ha0_ : Q a0_) => ?_) ?_; clear_value a0_)
  try (refine (fun (ha1_ : Q a1_) => ?_) ?_; clear_value a1_)
  try (refine (fun (ha2_ : Q a2_) => ?_) ?_; clear_value a2_)
  try (refine (fun (ha3_ : Q a3_) => ?_) ?_; clear_value a3_)
  try (refine (fun (ha4_ : Q a4_) => ?_) ?_; clear_value a4_)
  try (refine (fun (ha5_ : Q a5_) => ?_) ?_; clear_value a5_)
  repeat' first
    | with_reducible first
      | assumption | intro _ | apply Closed.ite | apply State.setF_closed hP | apply State.setReg64_closed hP
      | apply State.setPgState_closed hP | apply haltLane_closed hP | apply updVoting_closed hP
      | apply irqSet_closed hP | apply hP.setReg | apply Closed.forN | apply Closed.foldl
    | intro _
    | (extract_lets b0_ b1_ b2_ b3_ b4_ b5_
       try (refine (fun (hb0_ : Q b0_) => ?_) ?_; clear_value b0_)
       try (refine (fun (hb1_ : Q b1_) => ?_) ?_; clear_value b1_)
       try (refine (fun (hb2_ : Q b2_) => ?_) ?_; clear_value b2_)
       try (refine (fun (hb3_ : Q b3_) => ?_) ?_; clear_value b3_)
       try (refine (fun (hb4_ : Q b4_) => ?_) ?_; clear_value b4_)
       try (refine (fun (hb5_ : Q b5_) => ?_) ?_; clear_value b5_))
    | split | exact rfl | exact fun h => h | unfold a0_ | unfold a1_ | unfold a2_ | unfold a3_ | unfold a4_
    | unfold a5_ | unfold b0_ | unfold b1_ | unfold b2_ | unfold b3_ | unfold b4_ | unfold b5_

theorem attributed_closed {e : LaneEvent} {fwd : BitVec 112} {s : State}  (hq_ : Q s) : Q (attributed e fwd s) := by
  unfold attributed
  try extract_lets a0_ a1_ a2_ a3_ a4_ a5_ a6_ a7_ a8_
  try (refine (fun (ha0_ : Q a0_) => ?_) ?_; clear_value a0_)
  try (refine (fun (ha1_ : Q a1_) => ?_) ?_; clear_value a1_)
  try (refine (fun (ha2_ : Q a2_) => ?_) ?_; clear_value a2_)
  try (refine (fun (ha3_ : Q a3_) => ?_) ?_; clear_value a3_)
  try (refine (fun (ha4_ : Q a4_) => ?_) ?_; clear_value a4_)
  try (refine (fun (ha5_ : Q a5_) => ?_) ?_; clear_value a5_)
  try (refine (fun (ha6_ : Q a6_) => ?_) ?_; clear_value a6_)
  try (refine (fun (ha7_ : Q a7_) => ?_) ?_; clear_value a7_)
  try (refine (fun (ha8_ : Q a8_) => ?_) ?_; clear_value a8_)
  repeat' first
    | with_reducible first
      | assumption | intro _ | apply Closed.ite | apply irqSet_closed hP | apply recordErr_closed hP
      | apply loadLast_closed hP | apply tally_closed hP | apply State.bump_closed hP
      | apply State.setF_closed hP | apply pushLog_closed hP | apply State.setReg64_closed hP
      | apply retire_closed hP | apply hP.setReg | apply Closed.forN | apply Closed.foldl
    | intro _
    | (extract_lets b0_ b1_ b2_ b3_ b4_ b5_ b6_ b7_ b8_
       try (refine (fun (hb0_ : Q b0_) => ?_) ?_; clear_value b0_)
       try (refine (fun (hb1_ : Q b1_) => ?_) ?_; clear_value b1_)
       try (refine (fun (hb2_ : Q b2_) => ?_) ?_; clear_value b2_)
       try (refine (fun (hb3_ : Q b3_) => ?_) ?_; clear_value b3_)
       try (refine (fun (hb4_ : Q b4_) => ?_) ?_; clear_value b4_)
       try (refine (fun (hb5_ : Q b5_) => ?_) ?_; clear_value b5_)
       try (refine (fun (hb6_ : Q b6_) => ?_) ?_; clear_value b6_)
       try (refine (fun (hb7_ : Q b7_) => ?_) ?_; clear_value b7_)
       try (refine (fun (hb8_ : Q b8_) => ?_) ?_; clear_value b8_))
    | split | exact rfl | exact fun h => h | unfold a0_ | unfold a1_ | unfold a2_ | unfold a3_ | unfold a4_
    | unfold a5_ | unfold a6_ | unfold a7_ | unfold a8_ | unfold b0_ | unfold b1_ | unfold b2_ | unfold b3_
    | unfold b4_ | unfold b5_ | unfold b6_ | unfold b7_ | unfold b8_

theorem fenceOrRetired_closed {l : Nat} {kind : Nat} {s : State}  (hq_ : Q s) : Q (fenceOrRetired l kind s) := by
  unfold fenceOrRetired
  repeat' first
    | with_reducible first
      | assumption | intro _ | apply Closed.ite | apply fenceLane_closed hP | apply hP.setReg
      | apply Closed.forN | apply Closed.foldl
    | intro _ | extract_lets | split | exact rfl | exact fun h => h

theorem forward_closed {b : BitVec 112} {s : State}  (hq_ : Q s) : Q (forward b s) := by
  unfold forward
  try extract_lets a0_ a1_ a2_ a3_ a4_ a5_ a6_ a7_ a8_
  try (refine (fun (ha0_ : Q a0_) => ?_) ?_; clear_value a0_)
  try (refine (fun (ha1_ : Q a1_) => ?_) ?_; clear_value a1_)
  try (refine (fun (ha2_ : Q a2_) => ?_) ?_; clear_value a2_)
  try (refine (fun (ha3_ : Q a3_) => ?_) ?_; clear_value a3_)
  try (refine (fun (ha4_ : Q a4_) => ?_) ?_; clear_value a4_)
  try (refine (fun (ha5_ : Q a5_) => ?_) ?_; clear_value a5_)
  try (refine (fun (ha6_ : Q a6_) => ?_) ?_; clear_value a6_)
  try (refine (fun (ha7_ : Q a7_) => ?_) ?_; clear_value a7_)
  try (refine (fun (ha8_ : Q a8_) => ?_) ?_; clear_value a8_)
  repeat' first
    | with_reducible first
      | assumption | intro _ | apply Closed.ite | apply updVoting_closed hP | apply State.fresh_closed hP
      | apply commsEnabled_closed hP | apply commsAtomic_closed hP | apply commsRead_closed hP
      | apply hP.setReg | apply Closed.forN | apply Closed.foldl
    | intro _ | refine commsAtomic_next hP (by assumption) ?_
    | (extract_lets b0_ b1_ b2_ b3_ b4_ b5_ b6_ b7_ b8_
       try (refine (fun (hb0_ : Q b0_) => ?_) ?_; clear_value b0_)
       try (refine (fun (hb1_ : Q b1_) => ?_) ?_; clear_value b1_)
       try (refine (fun (hb2_ : Q b2_) => ?_) ?_; clear_value b2_)
       try (refine (fun (hb3_ : Q b3_) => ?_) ?_; clear_value b3_)
       try (refine (fun (hb4_ : Q b4_) => ?_) ?_; clear_value b4_)
       try (refine (fun (hb5_ : Q b5_) => ?_) ?_; clear_value b5_)
       try (refine (fun (hb6_ : Q b6_) => ?_) ?_; clear_value b6_)
       try (refine (fun (hb7_ : Q b7_) => ?_) ?_; clear_value b7_)
       try (refine (fun (hb8_ : Q b8_) => ?_) ?_; clear_value b8_))
    | split | exact rfl | exact fun h => h | unfold a0_ | unfold a1_ | unfold a2_ | unfold a3_ | unfold a4_
    | unfold a5_ | unfold a6_ | unfold a7_ | unfold a8_ | unfold b0_ | unfold b1_ | unfold b2_ | unfold b3_
    | unfold b4_ | unfold b5_ | unfold b6_ | unfold b7_ | unfold b8_

theorem voteCounts_closed {bads : Nat} {r : VoteResult} {s : State}  (hq_ : Q s) : Q (voteCounts bads r s) := by
  unfold voteCounts
  try extract_lets a0_ a1_
  try (refine (fun (ha0_ : Q a0_) => ?_) ?_; clear_value a0_)
  try (refine (fun (ha1_ : Q a1_) => ?_) ?_; clear_value a1_)
  repeat' first
    | with_reducible first
      | assumption | intro _ | apply Closed.ite | apply State.bumpBy_closed hP | apply halt_closed hP
      | apply State.bump_closed hP | apply State.setB_closed hP | apply hP.setReg | apply Closed.forN
      | apply Closed.foldl
    | intro _
    | (extract_lets b0_ b1_
       try (refine (fun (hb0_ : Q b0_) => ?_) ?_; clear_value b0_)
       try (refine (fun (hb1_ : Q b1_) => ?_) ?_; clear_value b1_))
    | split | exact rfl | exact fun h => h | unfold a0_ | unfold a1_ | unfold b0_ | unfold b1_

theorem applyVote_closed {bads : Nat} {r : VoteResult} {s : State}  (hq_ : Q s) : Q (applyVote bads r s) := by
  unfold applyVote
  try extract_lets a0_ a1_ a2_ a3_ a4_ a5_ a6_ a7_
  try (refine (fun (ha0_ : Q a0_) => ?_) ?_; clear_value a0_)
  try (refine (fun (ha1_ : Q a1_) => ?_) ?_; clear_value a1_)
  try (refine (fun (ha2_ : Q a2_) => ?_) ?_; clear_value a2_)
  try (refine (fun (ha3_ : Q a3_) => ?_) ?_; clear_value a3_)
  try (refine (fun (ha4_ : Q a4_) => ?_) ?_; clear_value a4_)
  try (refine (fun (ha5_ : Q a5_) => ?_) ?_; clear_value a5_)
  try (refine (fun (ha6_ : Q a6_) => ?_) ?_; clear_value a6_)
  try (refine (fun (ha7_ : Q a7_) => ?_) ?_; clear_value a7_)
  repeat' first
    | with_reducible first
      | assumption | intro _ | apply Closed.ite | apply voteCounts_closed hP | apply attributed_closed hP
      | apply forward_closed hP | apply fenceOrRetired_closed hP | apply State.setPgState_closed hP
      | apply halt_closed hP | apply hP.setReg | apply Closed.forN | apply Closed.foldl
    | intro _
    | (extract_lets b0_ b1_ b2_ b3_ b4_ b5_ b6_ b7_
       try (refine (fun (hb0_ : Q b0_) => ?_) ?_; clear_value b0_)
       try (refine (fun (hb1_ : Q b1_) => ?_) ?_; clear_value b1_)
       try (refine (fun (hb2_ : Q b2_) => ?_) ?_; clear_value b2_)
       try (refine (fun (hb3_ : Q b3_) => ?_) ?_; clear_value b3_)
       try (refine (fun (hb4_ : Q b4_) => ?_) ?_; clear_value b4_)
       try (refine (fun (hb5_ : Q b5_) => ?_) ?_; clear_value b5_)
       try (refine (fun (hb6_ : Q b6_) => ?_) ?_; clear_value b6_)
       try (refine (fun (hb7_ : Q b7_) => ?_) ?_; clear_value b7_))
    | split | exact rfl | exact fun h => h | unfold a0_ | unfold a1_ | unfold a2_ | unfold a3_ | unfold a4_
    | unfold a5_ | unfold a6_ | unfold a7_ | unfold b0_ | unfold b1_ | unfold b2_ | unfold b3_ | unfold b4_
    | unfold b5_ | unfold b6_ | unfold b7_

theorem voteStep_closed {a : LaneCopy} {b : LaneCopy} {c : LaneCopy} {diff : BitVec 112} {s : State}  (hq_ : Q s) : Q (voteStep a b c diff s) := by
  unfold voteStep
  try extract_lets a0_ a1_
  try (refine (fun (ha0_ : Q a0_) => ?_) ?_; clear_value a0_)
  try (refine (fun (ha1_ : Q a1_) => ?_) ?_; clear_value a1_)
  repeat' first
    | with_reducible first
      | assumption | intro _ | apply Closed.ite | apply applyVote_closed hP | apply hP.setReg
      | apply Closed.forN | apply Closed.foldl
    | intro _
    | (extract_lets b0_ b1_
       try (refine (fun (hb0_ : Q b0_) => ?_) ?_; clear_value b0_)
       try (refine (fun (hb1_ : Q b1_) => ?_) ?_; clear_value b1_))
    | split | exact rfl | exact fun h => h | unfold a0_ | unfold a1_ | unfold b0_ | unfold b1_

theorem beatTick_closed {s : State}  (hq_ : Q s) : Q (beatTick s) := by
  unfold beatTick
  repeat' first
    | with_reducible first
      | assumption | intro _ | apply Closed.ite | apply voteStep_closed hP | apply beat_closed hP
      | apply hP.setReg | apply Closed.forN | apply Closed.foldl
    | intro _ | extract_lets | split | exact rfl | exact fun h => h

theorem laneEvent_closed {l : Nat} {kind : Nat} {fwd : BitVec 112} {diff : BitVec 112} {s : State}  (hq_ : Q s) : Q (laneEvent l kind fwd diff s) := by
  unfold laneEvent
  try extract_lets a0_ a1_ a2_
  try (refine (fun (ha0_ : Q a0_) => ?_) ?_; clear_value a0_)
  try (refine (fun (ha1_ : Q a1_) => ?_) ?_; clear_value a1_)
  try (refine (fun (ha2_ : Q a2_) => ?_) ?_; clear_value a2_)
  repeat' first
    | with_reducible first
      | assumption | intro _ | apply Closed.ite | apply attributed_closed hP | apply fenceOrRetired_closed hP
      | apply State.setPgState_closed hP | apply halt_closed hP | apply hP.setReg | apply Closed.forN
      | apply Closed.foldl
    | intro _
    | (extract_lets b0_ b1_ b2_
       try (refine (fun (hb0_ : Q b0_) => ?_) ?_; clear_value b0_)
       try (refine (fun (hb1_ : Q b1_) => ?_) ?_; clear_value b1_)
       try (refine (fun (hb2_ : Q b2_) => ?_) ?_; clear_value b2_))
    | split | exact rfl | exact fun h => h | unfold a0_ | unfold a1_ | unfold a2_ | unfold b0_ | unfold b1_
    | unfold b2_

theorem laneFault_closed {l : Nat} {kind : Nat} {s : State}  (hq_ : Q s) : Q (laneFault l kind s) := by
  unfold laneFault
  repeat' first
    | with_reducible first
      | assumption | intro _ | apply Closed.ite | apply laneEvent_closed hP | apply hP.setReg
      | apply Closed.forN | apply Closed.foldl
    | intro _ | extract_lets | split | exact rfl | exact fun h => h

theorem doubleError_closed {l : Nat} {a : Nat} {master : Nat} {syn : Nat} {s : State}  (hq_ : Q s) : Q (doubleError l a master syn s) := by
  unfold doubleError
  try extract_lets a0_ a1_
  try (refine (fun (ha0_ : Q a0_) => ?_) ?_; clear_value a0_)
  try (refine (fun (ha1_ : Q a1_) => ?_) ?_; clear_value a1_)
  repeat' first
    | with_reducible first
      | assumption | intro _ | apply Closed.ite | apply State.bump_closed hP | apply loadLastErr_closed hP
      | apply laneFault_closed hP | apply recordErr_closed hP | apply irqSet_closed hP | apply hP.setReg
      | apply Closed.forN | apply Closed.foldl
    | intro _
    | (extract_lets b0_ b1_
       try (refine (fun (hb0_ : Q b0_) => ?_) ?_; clear_value b0_)
       try (refine (fun (hb1_ : Q b1_) => ?_) ?_; clear_value b1_))
    | split | exact rfl | exact fun h => h | unfold a0_ | unfold a1_ | unfold b0_ | unfold b1_

theorem eccRead_closed {m : Nat} {a : Nat} {master : Nat} {e : Ecc} {s : State}  (hq_ : Q s) : Q (eccRead m a master e s) := by
  unfold eccRead
  try extract_lets a0_
  try (refine (fun (ha0_ : Q a0_) => ?_) ?_; clear_value a0_)
  repeat' first
    | with_reducible first
      | assumption | intro _ | apply Closed.ite | apply commsWordRead_closed hP | apply singleError_closed hP
      | apply doubleError_closed hP | apply hP.setReg | apply Closed.forN | apply Closed.foldl
    | intro _
    | (extract_lets b0_
       try (refine (fun (hb0_ : Q b0_) => ?_) ?_; clear_value b0_))
    | split | exact rfl | exact fun h => h | unfold a0_ | unfold b0_

theorem eccReads_closed {m : Nat} {a : Nat} {n : Nat} {master : Nat} {s : State}  (hq_ : Q s) : Q (eccReads m a n master s) := by
  unfold eccReads
  repeat' first
    | with_reducible first
      | assumption | intro _ | apply Closed.ite | apply eccRead_closed hP | apply hP.setReg
      | apply Closed.forN | apply Closed.foldl
    | intro _ | extract_lets | split | exact rfl | exact fun h => h

theorem lanesRead_closed {a : Nat} {n : Nat} {master : Nat} {s : State}  (hq_ : Q s) : Q (lanesRead a n master s) := by
  unfold lanesRead
  repeat' first
    | with_reducible first
      | assumption | intro _ | apply Closed.ite | apply eccReads_closed hP | apply hP.setReg
      | apply Closed.forN | apply Closed.foldl
    | intro _ | extract_lets | split | exact rfl | exact fun h => h

theorem struck_closed {m : Nat} {w : Nat} {e : Ecc} {s : State}  (hq_ : Q s) : Q (struck m w e s) := by
  unfold struck
  repeat' first
    | with_reducible first
      | assumption | intro _ | apply Closed.ite | apply strikeWord_closed hP | apply hP.setReg
      | apply Closed.forN | apply Closed.foldl
    | intro _ | extract_lets | split | exact rfl | exact fun h => h

theorem decisionFault_closed {l : Nat} {s : State}  (hq_ : Q s) : Q (decisionFault l s) := by
  unfold decisionFault
  repeat' first
    | with_reducible first
      | assumption | intro _ | apply Closed.ite | apply laneEvent_closed hP | apply State.fresh_closed hP
      | apply hP.setReg | apply Closed.forN | apply Closed.foldl
    | intro _ | extract_lets | split | exact rfl | exact fun h => h

theorem cloneTick_closed {s : State}  (hq_ : Q s) : Q (cloneTick s) := by
  unfold cloneTick
  try extract_lets a0_ a1_ a2_ a3_ a4_
  try (refine (fun (ha0_ : Q a0_) => ?_) ?_; clear_value a0_)
  try (refine (fun (ha1_ : Q a1_) => ?_) ?_; clear_value a1_)
  try (refine (fun (ha2_ : Q a2_) => ?_) ?_; clear_value a2_)
  try (refine (fun (ha3_ : Q a3_) => ?_) ?_; clear_value a3_)
  try (refine (fun (ha4_ : Q a4_) => ?_) ?_; clear_value a4_)
  repeat' first
    | with_reducible first
      | assumption | intro _ | apply Closed.ite | apply updVoting_closed hP | apply State.fresh_closed hP
      | apply hP.setReg | apply Closed.forN | apply Closed.foldl
    | intro _
    | (extract_lets b0_ b1_ b2_ b3_ b4_
       try (refine (fun (hb0_ : Q b0_) => ?_) ?_; clear_value b0_)
       try (refine (fun (hb1_ : Q b1_) => ?_) ?_; clear_value b1_)
       try (refine (fun (hb2_ : Q b2_) => ?_) ?_; clear_value b2_)
       try (refine (fun (hb3_ : Q b3_) => ?_) ?_; clear_value b3_)
       try (refine (fun (hb4_ : Q b4_) => ?_) ?_; clear_value b4_))
    | split | exact rfl | exact fun h => h | unfold a0_ | unfold a1_ | unfold a2_ | unfold a3_ | unfold a4_
    | unfold b0_ | unfold b1_ | unfold b2_ | unfold b3_ | unfold b4_

theorem startResync_closed {l : Nat} {s : State}  (hq_ : Q s) : Q (startResync l s) := by
  unfold startResync
  try extract_lets a0_ a1_ a2_ a3_ a4_
  try (refine (fun (ha0_ : Q a0_) => ?_) ?_; clear_value a0_)
  try (refine (fun (ha1_ : Q a1_) => ?_) ?_; clear_value a1_)
  try (refine (fun (ha2_ : Q a2_) => ?_) ?_; clear_value a2_)
  try (refine (fun (ha3_ : Q a3_) => ?_) ?_; clear_value a3_)
  try (refine (fun (ha4_ : Q a4_) => ?_) ?_; clear_value a4_)
  repeat' first
    | with_reducible first
      | assumption | intro _ | apply Closed.ite | apply State.setF_closed hP
      | apply State.setPgState_closed hP | apply State.setRegN_closed hP | apply State.setReg64_closed hP
      | apply updVoting_closed hP | apply hP.setReg | apply Closed.forN | apply Closed.foldl
    | intro _
    | (extract_lets b0_ b1_ b2_ b3_ b4_
       try (refine (fun (hb0_ : Q b0_) => ?_) ?_; clear_value b0_)
       try (refine (fun (hb1_ : Q b1_) => ?_) ?_; clear_value b1_)
       try (refine (fun (hb2_ : Q b2_) => ?_) ?_; clear_value b2_)
       try (refine (fun (hb3_ : Q b3_) => ?_) ?_; clear_value b3_)
       try (refine (fun (hb4_ : Q b4_) => ?_) ?_; clear_value b4_))
    | split | exact rfl | exact fun h => h | unfold a0_ | unfold a1_ | unfold a2_ | unfold a3_ | unfold a4_
    | unfold b0_ | unfold b1_ | unfold b2_ | unfold b3_ | unfold b4_

theorem resyncAuto_closed {l : Nat} {s : State}  (hq_ : Q s) : Q (resyncAuto l s) := by
  unfold resyncAuto
  repeat' first
    | with_reducible first
      | assumption | intro _ | apply Closed.ite | apply startResync_closed hP | apply hP.setReg
      | apply Closed.forN | apply Closed.foldl
    | intro _ | extract_lets | split | exact rfl | exact fun h => h

theorem cloneReads_closed {all : Bool} {lines : List Nat} {s : State}  (hq_ : Q s) : Q (cloneReads all lines s) := by
  unfold cloneReads
  repeat' first
    | with_reducible first
      | assumption | intro _ | apply Closed.ite | apply lanesRead_closed hP | apply hP.setReg
      | apply Closed.forN | apply Closed.foldl
    | intro _ | extract_lets | split | exact rfl | exact fun h => h

theorem cloneLines_closed {l : Nat} {all : Bool} {lines : List Nat} {s : State}  (hq_ : Q s) : Q (cloneLines l all lines s) := by
  unfold cloneLines
  try extract_lets a0_ a1_ a2_
  try (refine (fun (ha0_ : Q a0_) => ?_) ?_; clear_value a0_)
  try (refine (fun (ha1_ : Q a1_) => ?_) ?_; clear_value a1_)
  try (refine (fun (ha2_ : Q a2_) => ?_) ?_; clear_value a2_)
  repeat' first
    | with_reducible first
      | assumption | intro _ | refine hP.lanes _ _ ?_ ?_ (by assumption) | apply Closed.ite
      | apply freshWords_closed hP | apply updLane_closed hP | apply hP.setReg | apply Closed.forN
      | apply Closed.foldl | apply Memory.writeN_wf | apply Memory.writeLe_wf | apply Memory.copy_wf
      | apply Memory.splice_wf | apply Memory.clear_wf | apply Memory.write_wf | apply Memory.foldl_copy_wf
      | apply Memory.foldl_writeN_wf | apply State.lane_wf
    | intro _
    | (extract_lets b0_ b1_ b2_
       try (refine (fun (hb0_ : Q b0_) => ?_) ?_; clear_value b0_)
       try (refine (fun (hb1_ : Q b1_) => ?_) ?_; clear_value b1_)
       try (refine (fun (hb2_ : Q b2_) => ?_) ?_; clear_value b2_))
    | split | with_reducible refine hP.lanes _ _ ?_ ?_ ?_ | exact rfl | exact fun h => h
    | exact fun _ _ h => h | unfold a0_ | unfold a1_ | unfold a2_ | unfold b0_ | unfold b1_ | unfold b2_

theorem clonePass_closed {same : Bool} {s : State}  (hq_ : Q s) : Q (clonePass same s) := by
  unfold clonePass
  try extract_lets a0_ a1_ a2_ a3_ a4_ a5_ a6_ a7_ a8_ a9_
  try (refine (fun (ha0_ : Q a0_) => ?_) ?_; clear_value a0_)
  try (refine (fun (ha1_ : Q a1_) => ?_) ?_; clear_value a1_)
  try (refine (fun (ha2_ : Q a2_) => ?_) ?_; clear_value a2_)
  try (refine (fun (ha3_ : Q a3_) => ?_) ?_; clear_value a3_)
  try (refine (fun (ha4_ : Q a4_) => ?_) ?_; clear_value a4_)
  try (refine (fun (ha5_ : Q a5_) => ?_) ?_; clear_value a5_)
  try (refine (fun (ha6_ : Q a6_) => ?_) ?_; clear_value a6_)
  try (refine (fun (ha7_ : Q a7_) => ?_) ?_; clear_value a7_)
  try (refine (fun (ha8_ : Q a8_) => ?_) ?_; clear_value a8_)
  try (refine (fun (ha9_ : Q a9_) => ?_) ?_; clear_value a9_)
  repeat' first
    | with_reducible first
      | assumption | intro _ | apply Closed.ite | apply cloneReads_closed hP | apply recordErr_closed hP
      | apply halt_closed hP | apply attributed_closed hP | apply State.bump_closed hP
      | apply cloneLines_closed hP | apply State.setReg64_closed hP | apply State.setF_closed hP
      | apply State.bumpF_closed hP | apply updVoting_closed hP | apply hP.setReg | apply Closed.forN
      | apply Closed.foldl
    | intro _
    | (extract_lets b0_ b1_ b2_ b3_ b4_ b5_ b6_ b7_ b8_ b9_
       try (refine (fun (hb0_ : Q b0_) => ?_) ?_; clear_value b0_)
       try (refine (fun (hb1_ : Q b1_) => ?_) ?_; clear_value b1_)
       try (refine (fun (hb2_ : Q b2_) => ?_) ?_; clear_value b2_)
       try (refine (fun (hb3_ : Q b3_) => ?_) ?_; clear_value b3_)
       try (refine (fun (hb4_ : Q b4_) => ?_) ?_; clear_value b4_)
       try (refine (fun (hb5_ : Q b5_) => ?_) ?_; clear_value b5_)
       try (refine (fun (hb6_ : Q b6_) => ?_) ?_; clear_value b6_)
       try (refine (fun (hb7_ : Q b7_) => ?_) ?_; clear_value b7_)
       try (refine (fun (hb8_ : Q b8_) => ?_) ?_; clear_value b8_)
       try (refine (fun (hb9_ : Q b9_) => ?_) ?_; clear_value b9_))
    | split | exact rfl | exact fun h => h | unfold a0_ | unfold a1_ | unfold a2_ | unfold a3_ | unfold a4_
    | unfold a5_ | unfold a6_ | unfold a7_ | unfold a8_ | unfold a9_ | unfold b0_ | unfold b1_ | unfold b2_
    | unfold b3_ | unfold b4_ | unfold b5_ | unfold b6_ | unfold b7_ | unfold b8_ | unfold b9_

theorem reserveCheck_closed {s : State}  (hq_ : Q s) : Q (reserveCheck s) := by
  unfold reserveCheck
  try extract_lets a0_ a1_ a2_
  try (refine (fun (ha0_ : Q a0_) => ?_) ?_; clear_value a0_)
  try (refine (fun (ha1_ : Q a1_) => ?_) ?_; clear_value a1_)
  try (refine (fun (ha2_ : Q a2_) => ?_) ?_; clear_value a2_)
  repeat' first
    | with_reducible first
      | assumption | intro _ | apply Closed.ite | apply State.setF_closed hP | apply State.setB_closed hP
      | apply hP.setReg | apply Closed.forN | apply Closed.foldl
    | intro _
    | (extract_lets b0_ b1_ b2_
       try (refine (fun (hb0_ : Q b0_) => ?_) ?_; clear_value b0_)
       try (refine (fun (hb1_ : Q b1_) => ?_) ?_; clear_value b1_)
       try (refine (fun (hb2_ : Q b2_) => ?_) ?_; clear_value b2_))
    | split | exact rfl | exact fun h => h | unfold a0_ | unfold a1_ | unfold a2_ | unfold b0_ | unfold b1_
    | unfold b2_

theorem rejoin_closed {s : State}  (hq_ : Q s) : Q (rejoin s) := by
  unfold rejoin
  try extract_lets a0_ a1_ a2_ a3_ a4_ a5_ a6_ a7_
  try (refine (fun (ha0_ : Q a0_) => ?_) ?_; clear_value a0_)
  try (refine (fun (ha1_ : Q a1_) => ?_) ?_; clear_value a1_)
  try (refine (fun (ha2_ : Q a2_) => ?_) ?_; clear_value a2_)
  try (refine (fun (ha3_ : Q a3_) => ?_) ?_; clear_value a3_)
  try (refine (fun (ha4_ : Q a4_) => ?_) ?_; clear_value a4_)
  try (refine (fun (ha5_ : Q a5_) => ?_) ?_; clear_value a5_)
  try (refine (fun (ha6_ : Q a6_) => ?_) ?_; clear_value a6_)
  try (refine (fun (ha7_ : Q a7_) => ?_) ?_; clear_value a7_)
  repeat' first
    | with_reducible first
      | assumption | intro _ | apply Closed.ite | apply State.setF_closed hP
      | apply State.setPgState_closed hP | apply State.bump_closed hP | apply State.setRegN_closed hP
      | apply updVoting_closed hP | apply irqSet_closed hP | apply hP.setReg | apply Closed.forN
      | apply Closed.foldl
    | intro _
    | (extract_lets b0_ b1_ b2_ b3_ b4_ b5_ b6_ b7_
       try (refine (fun (hb0_ : Q b0_) => ?_) ?_; clear_value b0_)
       try (refine (fun (hb1_ : Q b1_) => ?_) ?_; clear_value b1_)
       try (refine (fun (hb2_ : Q b2_) => ?_) ?_; clear_value b2_)
       try (refine (fun (hb3_ : Q b3_) => ?_) ?_; clear_value b3_)
       try (refine (fun (hb4_ : Q b4_) => ?_) ?_; clear_value b4_)
       try (refine (fun (hb5_ : Q b5_) => ?_) ?_; clear_value b5_)
       try (refine (fun (hb6_ : Q b6_) => ?_) ?_; clear_value b6_)
       try (refine (fun (hb7_ : Q b7_) => ?_) ?_; clear_value b7_))
    | split | exact rfl | exact fun h => h | unfold a0_ | unfold a1_ | unfold a2_ | unfold a3_ | unfold a4_
    | unfold a5_ | unfold a6_ | unfold a7_ | unfold b0_ | unfold b1_ | unfold b2_ | unfold b3_ | unfold b4_
    | unfold b5_ | unfold b6_ | unfold b7_

theorem finalEnd_closed {s : State}  (hq_ : Q s) : Q (finalEnd s) := by
  unfold finalEnd
  try extract_lets a0_ a1_ a2_ a3_ a4_ a5_ a6_ a7_ a8_ a9_ a10_ a11_ a12_ a13_ a14_ a15_
  try (refine (fun (ha0_ : Q a0_) => ?_) ?_; clear_value a0_)
  try (refine (fun (ha1_ : Q a1_) => ?_) ?_; clear_value a1_)
  try (refine (fun (ha2_ : Q a2_) => ?_) ?_; clear_value a2_)
  try (refine (fun (ha3_ : Q a3_) => ?_) ?_; clear_value a3_)
  try (refine (fun (ha4_ : Q a4_) => ?_) ?_; clear_value a4_)
  try (refine (fun (ha5_ : Q a5_) => ?_) ?_; clear_value a5_)
  try (refine (fun (ha6_ : Q a6_) => ?_) ?_; clear_value a6_)
  try (refine (fun (ha7_ : Q a7_) => ?_) ?_; clear_value a7_)
  try (refine (fun (ha8_ : Q a8_) => ?_) ?_; clear_value a8_)
  try (refine (fun (ha9_ : Q a9_) => ?_) ?_; clear_value a9_)
  try (refine (fun (ha10_ : Q a10_) => ?_) ?_; clear_value a10_)
  try (refine (fun (ha11_ : Q a11_) => ?_) ?_; clear_value a11_)
  try (refine (fun (ha12_ : Q a12_) => ?_) ?_; clear_value a12_)
  try (refine (fun (ha13_ : Q a13_) => ?_) ?_; clear_value a13_)
  try (refine (fun (ha14_ : Q a14_) => ?_) ?_; clear_value a14_)
  try (refine (fun (ha15_ : Q a15_) => ?_) ?_; clear_value a15_)
  repeat' first
    | with_reducible first
      | assumption | intro _ | refine hP.lanes _ _ ?_ ?_ (by assumption) | apply Closed.ite
      | apply cloneReads_closed hP | apply cloneLines_closed hP | apply updLane_closed hP
      | apply State.setRegN_closed hP | apply State.maxReg_closed hP | apply State.setReg64_closed hP
      | apply State.setB_closed hP | apply updVoting_closed hP | apply rejoin_closed hP | apply hP.setReg
      | apply Closed.forN | apply Closed.foldl | apply Memory.writeN_wf | apply Memory.writeLe_wf
      | apply Memory.copy_wf | apply Memory.splice_wf | apply Memory.clear_wf | apply Memory.write_wf
      | apply Memory.foldl_copy_wf | apply Memory.foldl_writeN_wf | apply State.lane_wf
    | intro _
    | (extract_lets b0_ b1_ b2_ b3_ b4_ b5_ b6_ b7_ b8_ b9_ b10_ b11_ b12_ b13_ b14_ b15_
       try (refine (fun (hb0_ : Q b0_) => ?_) ?_; clear_value b0_)
       try (refine (fun (hb1_ : Q b1_) => ?_) ?_; clear_value b1_)
       try (refine (fun (hb2_ : Q b2_) => ?_) ?_; clear_value b2_)
       try (refine (fun (hb3_ : Q b3_) => ?_) ?_; clear_value b3_)
       try (refine (fun (hb4_ : Q b4_) => ?_) ?_; clear_value b4_)
       try (refine (fun (hb5_ : Q b5_) => ?_) ?_; clear_value b5_)
       try (refine (fun (hb6_ : Q b6_) => ?_) ?_; clear_value b6_)
       try (refine (fun (hb7_ : Q b7_) => ?_) ?_; clear_value b7_)
       try (refine (fun (hb8_ : Q b8_) => ?_) ?_; clear_value b8_)
       try (refine (fun (hb9_ : Q b9_) => ?_) ?_; clear_value b9_)
       try (refine (fun (hb10_ : Q b10_) => ?_) ?_; clear_value b10_)
       try (refine (fun (hb11_ : Q b11_) => ?_) ?_; clear_value b11_)
       try (refine (fun (hb12_ : Q b12_) => ?_) ?_; clear_value b12_)
       try (refine (fun (hb13_ : Q b13_) => ?_) ?_; clear_value b13_)
       try (refine (fun (hb14_ : Q b14_) => ?_) ?_; clear_value b14_)
       try (refine (fun (hb15_ : Q b15_) => ?_) ?_; clear_value b15_))
    | split | with_reducible refine hP.lanes _ _ ?_ ?_ ?_ | exact rfl | exact fun h => h
    | exact fun _ _ h => h | unfold a0_ | unfold a1_ | unfold a2_ | unfold a3_ | unfold a4_ | unfold a5_
    | unfold a6_ | unfold a7_ | unfold a8_ | unfold a9_ | unfold a10_ | unfold a11_ | unfold a12_
    | unfold a13_ | unfold a14_ | unfold a15_ | unfold b0_ | unfold b1_ | unfold b2_ | unfold b3_
    | unfold b4_ | unfold b5_ | unfold b6_ | unfold b7_ | unfold b8_ | unfold b9_ | unfold b10_
    | unfold b11_ | unfold b12_ | unfold b13_ | unfold b14_ | unfold b15_

theorem startInj_closed {s : State}  (hq_ : Q s) : Q (startInj s) := by
  unfold startInj
  try extract_lets a0_
  try (refine (fun (ha0_ : Q a0_) => ?_) ?_; clear_value a0_)
  repeat' first
    | with_reducible first
      | assumption | intro _ | apply Closed.ite | apply State.setF_closed hP | apply pfcSafeOff_closed hP
      | apply State.setPgState_closed hP | apply hP.setReg | apply Closed.forN | apply Closed.foldl
    | intro _
    | (extract_lets b0_
       try (refine (fun (hb0_ : Q b0_) => ?_) ?_; clear_value b0_))
    | split | exact rfl | exact fun h => h | unfold a0_ | unfold b0_

theorem injEnd_closed {rep : InjReport} {s : State}  (hq_ : Q s) : Q (injEnd rep s) := by
  unfold injEnd
  try extract_lets a0_ a1_ a2_ a3_ a4_ a5_ a6_ a7_ a8_ a9_
  try (refine (fun (ha0_ : Q a0_) => ?_) ?_; clear_value a0_)
  try (refine (fun (ha1_ : Q a1_) => ?_) ?_; clear_value a1_)
  try (refine (fun (ha2_ : Q a2_) => ?_) ?_; clear_value a2_)
  try (refine (fun (ha3_ : Q a3_) => ?_) ?_; clear_value a3_)
  try (refine (fun (ha4_ : Q a4_) => ?_) ?_; clear_value a4_)
  try (refine (fun (ha5_ : Q a5_) => ?_) ?_; clear_value a5_)
  try (refine (fun (ha6_ : Q a6_) => ?_) ?_; clear_value a6_)
  try (refine (fun (ha7_ : Q a7_) => ?_) ?_; clear_value a7_)
  try (refine (fun (ha8_ : Q a8_) => ?_) ?_; clear_value a8_)
  try (refine (fun (ha9_ : Q a9_) => ?_) ?_; clear_value a9_)
  repeat' first
    | with_reducible first
      | assumption | intro _ | apply Closed.ite | apply State.setF_closed hP | apply State.setReg64_closed hP
      | apply updVoting_closed hP | apply State.setPgState_closed hP | apply irqSet_closed hP
      | apply State.setRegN_closed hP | apply halt_closed hP | apply recordErr_closed hP
      | apply finish_closed hP | apply hP.setReg | apply Closed.forN | apply Closed.foldl
    | intro _
    | (extract_lets b0_ b1_ b2_ b3_ b4_ b5_ b6_ b7_ b8_ b9_
       try (refine (fun (hb0_ : Q b0_) => ?_) ?_; clear_value b0_)
       try (refine (fun (hb1_ : Q b1_) => ?_) ?_; clear_value b1_)
       try (refine (fun (hb2_ : Q b2_) => ?_) ?_; clear_value b2_)
       try (refine (fun (hb3_ : Q b3_) => ?_) ?_; clear_value b3_)
       try (refine (fun (hb4_ : Q b4_) => ?_) ?_; clear_value b4_)
       try (refine (fun (hb5_ : Q b5_) => ?_) ?_; clear_value b5_)
       try (refine (fun (hb6_ : Q b6_) => ?_) ?_; clear_value b6_)
       try (refine (fun (hb7_ : Q b7_) => ?_) ?_; clear_value b7_)
       try (refine (fun (hb8_ : Q b8_) => ?_) ?_; clear_value b8_)
       try (refine (fun (hb9_ : Q b9_) => ?_) ?_; clear_value b9_))
    | split | exact rfl | exact fun h => h | unfold a0_ | unfold a1_ | unfold a2_ | unfold a3_ | unfold a4_
    | unfold a5_ | unfold a6_ | unfold a7_ | unfold a8_ | unfold a9_ | unfold b0_ | unfold b1_ | unfold b2_
    | unfold b3_ | unfold b4_ | unfold b5_ | unfold b6_ | unfold b7_ | unfold b8_ | unfold b9_

theorem injRelease_closed {s : State}  (hq_ : Q s) : Q (injRelease s) := by
  unfold injRelease
  try extract_lets a0_ a1_
  try (refine (fun (ha0_ : Q a0_) => ?_) ?_; clear_value a0_)
  try (refine (fun (ha1_ : Q a1_) => ?_) ?_; clear_value a1_)
  repeat' first
    | with_reducible first
      | assumption | intro _ | apply Closed.ite | apply State.setRegN_closed hP | apply updF1_closed hP
      | apply State.setB_closed hP | apply hP.setReg | apply Closed.forN | apply Closed.foldl
    | intro _
    | (extract_lets b0_ b1_
       try (refine (fun (hb0_ : Q b0_) => ?_) ?_; clear_value b0_)
       try (refine (fun (hb1_ : Q b1_) => ?_) ?_; clear_value b1_))
    | split | exact rfl | exact fun h => h | unfold a0_ | unfold a1_ | unfold b0_ | unfold b1_

theorem fenceForTest_closed {l : Nat} {s : State}  (hq_ : Q s) : Q (fenceForTest l s) := by
  unfold fenceForTest
  try extract_lets a0_
  try (refine (fun (ha0_ : Q a0_) => ?_) ?_; clear_value a0_)
  repeat' first
    | with_reducible first
      | assumption | intro _ | apply Closed.ite | apply fenceLane_closed hP
      | apply State.setPgState_closed hP | apply hP.setReg | apply Closed.forN | apply Closed.foldl
    | intro _
    | (extract_lets b0_
       try (refine (fun (hb0_ : Q b0_) => ?_) ?_; clear_value b0_))
    | split | exact rfl | exact fun h => h | unfold a0_ | unfold b0_

theorem pfcClear_closed {s : State}  (hq_ : Q s) : Q (pfcClear s) := by
  unfold pfcClear
  repeat' first
    | with_reducible first
      | assumption | intro _ | apply Closed.ite | apply State.clear_closed hP | apply hP.setReg
      | apply Closed.forN | apply Closed.foldl | apply Memory.writeN_wf | apply Memory.writeLe_wf
      | apply Memory.copy_wf | apply Memory.splice_wf | apply Memory.clear_wf | apply Memory.write_wf
      | apply Memory.foldl_copy_wf | apply Memory.foldl_writeN_wf | apply State.lane_wf
    | intro _ | extract_lets | split | exact rfl | exact fun h => h

theorem laneClear_closed {l : Nat} {s : State}  (hq_ : Q s) : Q (laneClear l s) := by
  unfold laneClear
  repeat' first
    | with_reducible first
      | assumption | intro _ | apply Closed.ite | apply State.clear_closed hP | apply hP.setReg
      | apply Closed.forN | apply Closed.foldl | apply Memory.writeN_wf | apply Memory.writeLe_wf
      | apply Memory.copy_wf | apply Memory.splice_wf | apply Memory.clear_wf | apply Memory.write_wf
      | apply Memory.foldl_copy_wf | apply Memory.foldl_writeN_wf | apply State.lane_wf
    | intro _ | extract_lets | split | exact rfl | exact fun h => h

theorem xchgClear_closed {s : State}  (hq_ : Q s) : Q (xchgClear s) := by
  unfold xchgClear
  repeat' first
    | with_reducible first
      | assumption | intro _ | apply Closed.ite | apply State.clear_closed hP | apply hP.setReg
      | apply Closed.forN | apply Closed.foldl | apply Memory.writeN_wf | apply Memory.writeLe_wf
      | apply Memory.copy_wf | apply Memory.splice_wf | apply Memory.clear_wf | apply Memory.write_wf
      | apply Memory.foldl_copy_wf | apply Memory.foldl_writeN_wf | apply State.lane_wf
    | intro _ | extract_lets | split | exact rfl | exact fun h => h

theorem cmdInjTest_closed {iss : Issuer} {x0_ : State}  (hq_ : Q x0_) : Q (cmdInjTest iss x0_) := by
  unfold cmdInjTest
  repeat' first
    | with_reducible first
      | assumption | intro _ | apply Closed.ite | apply command_closed hP | apply startInj_closed hP
      | apply hP.setReg | apply Closed.forN | apply Closed.foldl
    | intro _ | extract_lets | split | exact rfl | exact fun h => h

theorem cmdPfcClr_closed {iss : Issuer} {x0_ : State}  (hq_ : Q x0_) : Q (cmdPfcClr iss x0_) := by
  unfold cmdPfcClr
  repeat' first
    | with_reducible first
      | assumption | intro _ | apply Closed.ite | apply quick_closed hP | apply pfcClear_closed hP
      | apply hP.setReg | apply Closed.forN | apply Closed.foldl
    | intro _ | extract_lets | split | exact rfl | exact fun h => h

theorem cmdResync_closed {l : Nat} {iss : Issuer} {x0_ : State}  (hq_ : Q x0_) : Q (cmdResync l iss x0_) := by
  unfold cmdResync
  repeat' first
    | with_reducible first
      | assumption | intro _ | apply Closed.ite | apply quick_closed hP | apply startResync_closed hP
      | apply hP.setReg | apply Closed.forN | apply Closed.foldl
    | intro _ | extract_lets | split | exact rfl | exact fun h => h

theorem cmdFence_closed {l : Nat} {iss : Issuer} {x0_ : State}  (hq_ : Q x0_) : Q (cmdFence l iss x0_) := by
  unfold cmdFence
  repeat' first
    | with_reducible first
      | assumption | intro _ | apply Closed.ite | apply quick_closed hP | apply fenceForTest_closed hP
      | apply hP.setReg | apply Closed.forN | apply Closed.foldl
    | intro _ | extract_lets | split | exact rfl | exact fun h => h

theorem cmdLaneClr_closed {l : Nat} {iss : Issuer} {x0_ : State}  (hq_ : Q x0_) : Q (cmdLaneClr l iss x0_) := by
  unfold cmdLaneClr
  repeat' first
    | with_reducible first
      | assumption | intro _ | apply Closed.ite | apply quick_closed hP | apply laneClear_closed hP
      | apply hP.setReg | apply Closed.forN | apply Closed.foldl
    | intro _ | extract_lets | split | exact rfl | exact fun h => h

theorem cmdXchgClr_closed {iss : Issuer} {x0_ : State}  (hq_ : Q x0_) : Q (cmdXchgClr iss x0_) := by
  unfold cmdXchgClr
  repeat' first
    | with_reducible first
      | assumption | intro _ | apply Closed.ite | apply quick_closed hP | apply xchgClear_closed hP
      | apply hP.setReg | apply Closed.forN | apply Closed.foldl
    | intro _ | extract_lets | split | exact rfl | exact fun h => h

theorem cmdClrMargin_closed {iss : Issuer} {x0_ : State}  (hq_ : Q x0_) : Q (cmdClrMargin iss x0_) := by
  unfold cmdClrMargin
  repeat' first
    | with_reducible first
      | assumption | intro _ | apply Closed.ite | apply quick_closed hP | apply State.setF_closed hP
      | apply hP.setReg | apply Closed.forN | apply Closed.foldl
    | intro _ | extract_lets | split | exact rfl | exact fun h => h

end Sys2Proof.Machine
end

