-- ==== Sys2Proof/Laws/ClosedHeader.lean ====
section
/-!
SUPPORT. The operations of Header.lean keep every property that the primitive writes keep (Laws/Closed.lean).
-/
set_option Elab.async false
set_option linter.all false
set_option linter.unusedVariables false
set_option linter.tactic.unusedName false

namespace Sys2Proof.Machine

variable {Q : State → Prop} (hP : Closed Q)
include hP

theorem clearErr_closed {p : Nat} {s : State}  (hq_ : Q s) : Q (clearErr p s) := by
  unfold clearErr
  repeat' first
    | with_reducible first
      | assumption | intro _ | apply Closed.ite | apply State.clear_closed hP | apply hP.setReg
      | apply Closed.forN | apply Closed.foldl | apply Memory.writeN_wf | apply Memory.writeLe_wf
      | apply Memory.copy_wf | apply Memory.splice_wf | apply Memory.clear_wf | apply Memory.write_wf
      | apply Memory.foldl_copy_wf | apply Memory.foldl_writeN_wf | apply State.lane_wf
    | intro _ | extract_lets | split | exact rfl | exact fun h => h

theorem headerEffect_closed {c : Call} {s : State}  (hq_ : Q s) : Q (headerEffect c s) := by
  unfold headerEffect
  repeat' first
    | with_reducible first
      | assumption | intro _ | apply Closed.ite | apply setOwner_closed hP | apply clearErr_closed hP
      | apply hP.setReg | apply Closed.forN | apply Closed.foldl
    | intro _ | extract_lets | split | exact rfl | exact fun h => h

theorem endArming_closed {s : State}  (hq_ : Q s) : Q (endArming s) := by
  unfold endArming
  try extract_lets a0_
  try (refine (fun (ha0_ : Q a0_) => ?_) ?_; clear_value a0_)
  repeat' first
    | with_reducible first
      | assumption | intro _ | apply Closed.ite | apply updSafety_closed hP | apply State.setF_closed hP
      | apply hP.setReg | apply Closed.forN | apply Closed.foldl
    | intro _
    | (extract_lets b0_
       try (refine (fun (hb0_ : Q b0_) => ?_) ?_; clear_value b0_))
    | split | exact rfl | exact fun h => h | unfold a0_ | unfold b0_

theorem header_closed {c : Call} {s0 : State}  (hq_ : Q s0) : Q (header c s0) := by
  unfold header
  try extract_lets a0_ a1_ a2_
  try (refine (fun (ha0_ : Q a0_) => ?_) ?_; clear_value a0_)
  try (refine (fun (ha1_ : Q a1_) => ?_) ?_; clear_value a1_)
  try (refine (fun (ha2_ : Q a2_) => ?_) ?_; clear_value a2_)
  repeat' first
    | with_reducible first
      | assumption | intro _ | apply Closed.ite | apply commandAccess_closed hP | apply reject_closed hP
      | apply finish_closed hP | apply headerEffect_closed hP | apply answer_closed hP
      | apply endArming_closed hP | apply addressReject_closed hP | apply hP.setReg | apply Closed.forN
      | apply Closed.foldl
    | intro _
    | (extract_lets b0_ b1_ b2_
       try (refine (fun (hb0_ : Q b0_) => ?_) ?_; clear_value b0_)
       try (refine (fun (hb1_ : Q b1_) => ?_) ?_; clear_value b1_)
       try (refine (fun (hb2_ : Q b2_) => ?_) ?_; clear_value b2_))
    | split | exact rfl | exact fun h => h | unfold a0_ | unfold a1_ | unfold a2_ | unfold b0_ | unfold b1_
    | unfold b2_

end Sys2Proof.Machine
end

