-- ==== Sys2Proof/Laws/ClosedSlots.lean ====
section
/-!
SUPPORT. The operations of Slots.lean keep every property that the primitive writes keep (Laws/Closed.lean).
-/
set_option Elab.async false
set_option linter.all false
set_option linter.unusedVariables false
set_option linter.tactic.unusedName false

namespace Sys2Proof.Machine

variable {Q : State → Prop} (hP : Closed Q)
include hP

theorem slotChanged_closed {s : State}  (hq_ : Q s) : Q (slotChanged s) := by
  unfold slotChanged
  repeat' first
    | with_reducible first
      | assumption | intro _ | apply Closed.ite | apply irqSet_closed hP | apply hP.setReg
      | apply Closed.forN | apply Closed.foldl
    | intro _ | extract_lets | split | exact rfl | exact fun h => h

theorem setSlot_closed {k : Nat} {st : Nat} {why : Nat} {s : State}  (hq_ : Q s) : Q (setSlot k st why s) := by
  unfold setSlot
  repeat' first
    | with_reducible first
      | assumption | intro _ | apply Closed.ite | apply slotChanged_closed hP | apply State.setF_closed hP
      | apply hP.setReg | apply Closed.forN | apply Closed.foldl
    | intro _ | extract_lets | split | exact rfl | exact fun h => h

theorem setUpd_closed {st : Nat} {kind : Nat} {s : State}  (hq_ : Q s) : Q (setUpd st kind s) := by
  unfold setUpd
  try extract_lets a0_
  try (refine (fun (ha0_ : Q a0_) => ?_) ?_; clear_value a0_)
  repeat' first
    | with_reducible first
      | assumption | intro _ | apply Closed.ite | apply State.setF_closed hP
      | apply State.setPgState_closed hP | apply hP.setReg | apply Closed.forN | apply Closed.foldl
    | intro _
    | (extract_lets b0_
       try (refine (fun (hb0_ : Q b0_) => ?_) ?_; clear_value b0_))
    | split | exact rfl | exact fun h => h | unfold a0_ | unfold b0_

theorem updIdle_closed {s : State}  (hq_ : Q s) : Q (updIdle s) := by
  unfold updIdle
  repeat' first
    | with_reducible first
      | assumption | intro _ | apply Closed.ite | apply setUpd_closed hP | apply hP.setReg
      | apply Closed.forN | apply Closed.foldl
    | intro _ | extract_lets | split | exact rfl | exact fun h => h

omit hP in
theorem bitOf_setBit_of {n : Nat} {w : BitVec n} {i j : Nat} (h : bitOf w j = true) : bitOf (setBit w i true) j = true := by
  simp_all [bitOf, setBit]
theorem blowFuse_closed {i : Nat} {s : State} (h : Q s) : Q (blowFuse i s) :=
  updBoot_closed hP (fun _ => ⟨fun h => h, fun _ => ⟨bitOf_setBit_of, bitOf_setBit_of, bitOf_setBit_of⟩⟩) h

theorem advanceArb_closed {k : Nat} {s : State}  (hq_ : Q s) : Q (advanceArb k s) := by
  unfold advanceArb
  try extract_lets a0_ a1_
  try (refine (fun (ha0_ : Q a0_) => ?_) ?_; clear_value a0_)
  try (refine (fun (ha1_ : Q a1_) => ?_) ?_; clear_value a1_)
  repeat' first
    | with_reducible first
      | assumption | intro _ | apply Closed.ite | apply blowFuse_closed hP | apply State.setF_closed hP
      | apply hP.setReg | apply Closed.forN | apply Closed.foldl
    | intro _
    | (extract_lets b0_ b1_
       try (refine (fun (hb0_ : Q b0_) => ?_) ?_; clear_value b0_)
       try (refine (fun (hb1_ : Q b1_) => ?_) ?_; clear_value b1_))
    | split | exact rfl | exact fun h => h | unfold a0_ | unfold a1_ | unfold b0_ | unfold b1_

theorem confirmSlot_closed {k : Nat} {s : State}  (hq_ : Q s) : Q (confirmSlot k s) := by
  unfold confirmSlot
  repeat' first
    | with_reducible first
      | assumption | intro _ | apply Closed.ite | apply advanceArb_closed hP | apply irqSet_closed hP
      | apply updIdle_closed hP | apply setSlot_closed hP | apply State.setF_closed hP | apply hP.setReg
      | apply Closed.forN | apply Closed.foldl
    | intro _ | extract_lets | split | exact rfl | exact fun h => h

theorem fallBack_closed {k : Nat} {why : Nat} {s : State}  (hq_ : Q s) : Q (fallBack k why s) := by
  unfold fallBack
  try extract_lets a0_
  try (refine (fun (ha0_ : Q a0_) => ?_) ?_; clear_value a0_)
  repeat' first
    | with_reducible first
      | assumption | intro _ | apply Closed.ite | apply setSlot_closed hP | apply State.setF_closed hP
      | apply irqSet_closed hP | apply updIdle_closed hP | apply State.setB_closed hP
      | apply State.bump_closed hP | apply hP.setReg | apply Closed.forN | apply Closed.foldl
    | intro _
    | (extract_lets b0_
       try (refine (fun (hb0_ : Q b0_) => ?_) ?_; clear_value b0_))
    | split | exact rfl | exact fun h => h | unfold a0_ | unfold b0_

end Sys2Proof.Machine
end

