-- ==== Sys2Proof/Laws/ClosedLaneMem.lean ====
section
/-!
SUPPORT. The operations of LaneMem.lean keep every property that the primitive writes keep (Laws/Closed.lean).
-/
set_option Elab.async false
set_option linter.all false
set_option linter.unusedVariables false
set_option linter.tactic.unusedName false

namespace Sys2Proof.Machine

variable {Q : State → Prop} (hP : Closed Q)
include hP

theorem copyOnWrite_closed {r : Nat} {s : State}  (hq_ : Q s) : Q (copyOnWrite r s) := by
  unfold copyOnWrite
  try extract_lets a0_ a1_ a2_ a3_ a4_
  try (refine (fun (ha0_ : Q a0_) => ?_) ?_; clear_value a0_)
  try (refine (fun (ha1_ : Q a1_) => ?_) ?_; clear_value a1_)
  try (refine (fun (ha2_ : Q a2_) => ?_) ?_; clear_value a2_)
  try (refine (fun (ha3_ : Q a3_) => ?_) ?_; clear_value a3_)
  try (refine (fun (ha4_ : Q a4_) => ?_) ?_; clear_value a4_)
  repeat' first
    | with_reducible first
      | assumption | intro _ | apply Closed.ite | apply lanesRead_closed hP | apply laneBytes_closed hP
      | apply updMems_closed hP | apply markClone_closed hP | apply hP.setReg | apply Closed.forN
      | apply Closed.foldl
    | intro _
    | (extract_lets b0_ b1_ b2_ b3_ b4_
       try (refine (fun (hb0_ : Q b0_) => ?_) ?_; clear_value b0_)
       try (refine (fun (hb1_ : Q b1_) => ?_) ?_; clear_value b1_)
       try (refine (fun (hb2_ : Q b2_) => ?_) ?_; clear_value b2_)
       try (refine (fun (hb3_ : Q b3_) => ?_) ?_; clear_value b3_)
       try (refine (fun (hb4_ : Q b4_) => ?_) ?_; clear_value b4_))
    | split | exact rfl | exact fun h => h | unfold a0_ | unfold a1_ | unfold a2_ | unfold a3_ | unfold a4_
    | unfold b0_ | unfold b1_ | unfold b2_ | unfold b3_ | unfold b4_

theorem markBaton_closed {a : Nat} {n : Nat} {s : State}  (hq_ : Q s) : Q (markBaton a n s) := by
  unfold markBaton
  try extract_lets a0_ a1_
  try (refine (fun (ha0_ : Q a0_) => ?_) ?_; clear_value a0_)
  try (refine (fun (ha1_ : Q a1_) => ?_) ?_; clear_value a1_)
  repeat' first
    | with_reducible first
      | assumption | intro _ | apply Closed.ite | apply updMems_closed hP | apply copyOnWrite_closed hP
      | apply hP.setReg | apply Closed.forN | apply Closed.foldl
    | intro _
    | (extract_lets b0_ b1_
       try (refine (fun (hb0_ : Q b0_) => ?_) ?_; clear_value b0_)
       try (refine (fun (hb1_ : Q b1_) => ?_) ?_; clear_value b1_))
    | split | exact rfl | exact fun h => h | unfold a0_ | unfold a1_ | unfold b0_ | unfold b1_

theorem engineWriteLane_closed {l : Nat} {a : Nat} {bs : List Byte} {s : State}  (hq_ : Q s) : Q (engineWriteLane l a bs s) := by
  unfold engineWriteLane
  repeat' first
    | with_reducible first
      | assumption | intro _ | apply Closed.ite | apply laneBytes_closed hP | apply hP.setReg
      | apply Closed.forN | apply Closed.foldl
    | intro _ | extract_lets | split | exact rfl | exact fun h => h

theorem engineMarks_closed {a : Nat} {n : Nat} {s : State}  (hq_ : Q s) : Q (engineMarks a n s) := by
  unfold engineMarks
  repeat' first
    | with_reducible first
      | assumption | intro _ | apply Closed.ite | apply markClone_closed hP | apply markBaton_closed hP
      | apply hP.setReg | apply Closed.forN | apply Closed.foldl
    | intro _ | extract_lets | split | exact rfl | exact fun h => h

theorem laneAtomic_closed {l : Nat} {master : Nat} {swap : Bool} {w : Nat} {opnd : DWord} {s : State}  (hq_ : Q s) : Q ((laneAtomic l master swap w opnd s).2) := by
  unfold laneAtomic
  try extract_lets a0_ a1_ a2_
  try (refine (fun (ha0_ : Q a0_) => ?_) ?_; clear_value a0_)
  try (refine (fun (ha1_ : Q a1_) => ?_) ?_; clear_value a1_)
  try (refine (fun (ha2_ : Q a2_) => ?_) ?_; clear_value a2_)
  repeat' first
    | with_reducible first
      | assumption | intro _ | apply Closed.ite | apply eccReads_closed hP | apply laneBytes_closed hP
      | apply engineMarks_closed hP | apply State.bump_closed hP | apply hP.setReg | apply Closed.forN
      | apply Closed.foldl
    | intro _
    | (extract_lets b0_ b1_ b2_
       try (refine (fun (hb0_ : Q b0_) => ?_) ?_; clear_value b0_)
       try (refine (fun (hb1_ : Q b1_) => ?_) ?_; clear_value b1_)
       try (refine (fun (hb2_ : Q b2_) => ?_) ?_; clear_value b2_))
    | split | exact rfl | exact fun h => h | unfold a0_ | unfold a1_ | unfold a2_ | unfold b0_ | unfold b1_
    | unfold b2_
theorem laneAtomic_next {l : Nat} {master : Nat} {swap : Bool} {w : Nat} {opnd : DWord} {s : State} {r0_} {t_ : State} (e : laneAtomic l master swap w opnd s = (r0_, t_))  (hq_ : Q s) : Q t_ := by
  have h2_ : Q ((laneAtomic l master swap w opnd s).2) := laneAtomic_closed hP  hq_
  rw [e] at h2_; exact h2_

end Sys2Proof.Machine
end

