-- ==== Sys2Proof/Laws/ClosedZvc.lean ====
section
/-!
SUPPORT. The operations of Zvc.lean keep every property that the primitive writes keep (Laws/Closed.lean).
-/
set_option Elab.async false
set_option linter.all false
set_option linter.unusedVariables false
set_option linter.tactic.unusedName false

namespace Sys2Proof.Machine

variable {Q : State → Prop} (hP : Closed Q)
include hP

theorem arrive_closed {s : State}  (hq_ : Q s) : Q (arrive s) := by
  unfold arrive
  try extract_lets a0_ a1_ a2_ a3_ a4_ a5_ a6_
  try (refine (fun (ha0_ : Q a0_) => ?_) ?_; clear_value a0_)
  try (refine (fun (ha1_ : Q a1_) => ?_) ?_; clear_value a1_)
  try (refine (fun (ha2_ : Q a2_) => ?_) ?_; clear_value a2_)
  try (refine (fun (ha3_ : Q a3_) => ?_) ?_; clear_value a3_)
  try (refine (fun (ha4_ : Q a4_) => ?_) ?_; clear_value a4_)
  try (refine (fun (ha5_ : Q a5_) => ?_) ?_; clear_value a5_)
  try (refine (fun (ha6_ : Q a6_) => ?_) ?_; clear_value a6_)
  repeat' first
    | with_reducible first
      | assumption | intro _ | apply Closed.ite | apply updExec_closed hP | apply State.setRegN_closed hP
      | apply irqSet_closed hP | apply setMode_closed hP | apply State.bump_closed hP | apply hP.setReg
      | apply Closed.forN | apply Closed.foldl
    | intro _
    | (extract_lets b0_ b1_ b2_ b3_ b4_ b5_ b6_
       try (refine (fun (hb0_ : Q b0_) => ?_) ?_; clear_value b0_)
       try (refine (fun (hb1_ : Q b1_) => ?_) ?_; clear_value b1_)
       try (refine (fun (hb2_ : Q b2_) => ?_) ?_; clear_value b2_)
       try (refine (fun (hb3_ : Q b3_) => ?_) ?_; clear_value b3_)
       try (refine (fun (hb4_ : Q b4_) => ?_) ?_; clear_value b4_)
       try (refine (fun (hb5_ : Q b5_) => ?_) ?_; clear_value b5_)
       try (refine (fun (hb6_ : Q b6_) => ?_) ?_; clear_value b6_))
    | split | exact rfl | exact fun h => h | unfold a0_ | unfold a1_ | unfold a2_ | unfold a3_ | unfold a4_
    | unfold a5_ | unfold a6_ | unfold b0_ | unfold b1_ | unfold b2_ | unfold b3_ | unfold b4_ | unfold b5_
    | unfold b6_

theorem startTask_closed {s : State}  (hq_ : Q s) : Q (startTask s) := by
  unfold startTask
  try extract_lets a0_ a1_ a2_ a3_ a4_
  try (refine (fun (ha0_ : Q a0_) => ?_) ?_; clear_value a0_)
  try (refine (fun (ha1_ : Q a1_) => ?_) ?_; clear_value a1_)
  try (refine (fun (ha2_ : Q a2_) => ?_) ?_; clear_value a2_)
  try (refine (fun (ha3_ : Q a3_) => ?_) ?_; clear_value a3_)
  try (refine (fun (ha4_ : Q a4_) => ?_) ?_; clear_value a4_)
  repeat' first
    | with_reducible first
      | assumption | intro _ | refine hP.lanes _ _ ?_ ?_ (by assumption) | apply Closed.ite
      | apply updLane_closed hP | apply arrive_closed hP | apply updExec_closed hP | apply hP.setReg
      | apply Closed.forN | apply Closed.foldl | apply Memory.writeN_wf | apply Memory.writeLe_wf
      | apply Memory.copy_wf | apply Memory.splice_wf | apply Memory.clear_wf | apply Memory.write_wf
      | apply Memory.foldl_copy_wf | apply Memory.foldl_writeN_wf | apply State.lane_wf
    | intro _
    | (extract_lets b0_ b1_ b2_ b3_ b4_
       try (refine (fun (hb0_ : Q b0_) => ?_) ?_; clear_value b0_)
       try (refine (fun (hb1_ : Q b1_) => ?_) ?_; clear_value b1_)
       try (refine (fun (hb2_ : Q b2_) => ?_) ?_; clear_value b2_)
       try (refine (fun (hb3_ : Q b3_) => ?_) ?_; clear_value b3_)
       try (refine (fun (hb4_ : Q b4_) => ?_) ?_; clear_value b4_))
    | split | with_reducible refine hP.lanes _ _ ?_ ?_ ?_ | exact rfl | exact fun h => h
    | exact fun _ _ h => h | unfold a0_ | unfold a1_ | unfold a2_ | unfold a3_ | unfold a4_ | unfold b0_
    | unfold b1_ | unfold b2_ | unfold b3_ | unfold b4_

theorem taskEnd_closed {s : State}  (hq_ : Q s) : Q (taskEnd s) := by
  unfold taskEnd
  try extract_lets a0_ a1_ a2_ a3_ a4_ a5_
  try (refine (fun (ha0_ : Q a0_) => ?_) ?_; clear_value a0_)
  try (refine (fun (ha1_ : Q a1_) => ?_) ?_; clear_value a1_)
  try (refine (fun (ha2_ : Q a2_) => ?_) ?_; clear_value a2_)
  try (refine (fun (ha3_ : Q a3_) => ?_) ?_; clear_value a3_)
  try (refine (fun (ha4_ : Q a4_) => ?_) ?_; clear_value a4_)
  try (refine (fun (ha5_ : Q a5_) => ?_) ?_; clear_value a5_)
  repeat' first
    | with_reducible first
      | assumption | intro _ | apply Closed.ite | apply updExec_closed hP | apply State.setRegN_closed hP
      | apply State.maxReg_closed hP | apply State.bump_closed hP | apply startTask_closed hP
      | apply hP.setReg | apply Closed.forN | apply Closed.foldl
    | intro _
    | (extract_lets b0_ b1_ b2_ b3_ b4_ b5_
       try (refine (fun (hb0_ : Q b0_) => ?_) ?_; clear_value b0_)
       try (refine (fun (hb1_ : Q b1_) => ?_) ?_; clear_value b1_)
       try (refine (fun (hb2_ : Q b2_) => ?_) ?_; clear_value b2_)
       try (refine (fun (hb3_ : Q b3_) => ?_) ?_; clear_value b3_)
       try (refine (fun (hb4_ : Q b4_) => ?_) ?_; clear_value b4_)
       try (refine (fun (hb5_ : Q b5_) => ?_) ?_; clear_value b5_))
    | split | exact rfl | exact fun h => h | unfold a0_ | unfold a1_ | unfold a2_ | unfold a3_ | unfold a4_
    | unfold a5_ | unfold b0_ | unfold b1_ | unfold b2_ | unfold b3_ | unfold b4_ | unfold b5_

theorem trapTask_closed {code : Nat} {pc : Nat} {s : State}  (hq_ : Q s) : Q (trapTask code pc s) := by
  unfold trapTask
  try extract_lets a0_ a1_
  try (refine (fun (ha0_ : Q a0_) => ?_) ?_; clear_value a0_)
  try (refine (fun (ha1_ : Q a1_) => ?_) ?_; clear_value a1_)
  repeat' first
    | with_reducible first
      | assumption | intro _ | apply Closed.ite | apply updExec_closed hP | apply hP.setReg
      | apply Closed.forN | apply Closed.foldl
    | intro _
    | (extract_lets b0_ b1_
       try (refine (fun (hb0_ : Q b0_) => ?_) ?_; clear_value b0_)
       try (refine (fun (hb1_ : Q b1_) => ?_) ?_; clear_value b1_))
    | split | exact rfl | exact fun h => h | unfold a0_ | unfold a1_ | unfold b0_ | unfold b1_

theorem voteValue_closed {addr : Nat} {val : Nat → Nat} {s : State}  (hq_ : Q s) : Q ((voteValue addr val s).2) := by
  unfold voteValue
  try extract_lets a0_ a1_
  try (refine (fun (ha0_ : Q a0_) => ?_) ?_; clear_value a0_)
  try (refine (fun (ha1_ : Q a1_) => ?_) ?_; clear_value a1_)
  repeat' first
    | with_reducible first
      | assumption | intro _ | apply Closed.ite | apply forward_closed hP | apply applyVote_closed hP
      | apply hP.setReg | apply Closed.forN | apply Closed.foldl | apply Memory.writeN_wf
      | apply Memory.writeLe_wf | apply Memory.copy_wf | apply Memory.splice_wf | apply Memory.clear_wf
      | apply Memory.write_wf | apply Memory.foldl_copy_wf | apply Memory.foldl_writeN_wf
      | apply State.lane_wf
    | intro _
    | (extract_lets b0_ b1_
       try (refine (fun (hb0_ : Q b0_) => ?_) ?_; clear_value b0_)
       try (refine (fun (hb1_ : Q b1_) => ?_) ?_; clear_value b1_))
    | split | exact rfl | exact fun h => h | unfold a0_ | unfold a1_ | unfold b0_ | unfold b1_
theorem voteValue_next {addr : Nat} {val : Nat → Nat} {s : State} {r0_} {t_ : State} (e : voteValue addr val s = (r0_, t_))  (hq_ : Q s) : Q t_ := by
  have h2_ : Q ((voteValue addr val s).2) := voteValue_closed hP  hq_
  rw [e] at h2_; exact h2_

theorem voteSlot_closed {slot : Nat} {s : State}  (hq_ : Q s) : Q (voteSlot slot s) := by
  unfold voteSlot
  try extract_lets a0_ a1_ a2_
  try (refine (fun (ha0_ : Q a0_) => ?_) ?_; clear_value a0_)
  try (refine (fun (ha1_ : Q a1_) => ?_) ?_; clear_value a1_)
  try (refine (fun (ha2_ : Q a2_) => ?_) ?_; clear_value a2_)
  repeat' first
    | with_reducible first
      | assumption | intro _ | apply Closed.ite | apply voteValue_closed hP | apply updExec_closed hP
      | apply hP.setReg | apply Closed.forN | apply Closed.foldl
    | intro _ | refine voteValue_next hP (by assumption) ?_
    | (extract_lets b0_ b1_ b2_
       try (refine (fun (hb0_ : Q b0_) => ?_) ?_; clear_value b0_)
       try (refine (fun (hb1_ : Q b1_) => ?_) ?_; clear_value b1_)
       try (refine (fun (hb2_ : Q b2_) => ?_) ?_; clear_value b2_))
    | split | exact rfl | exact fun h => h | unfold a0_ | unfold a1_ | unfold a2_ | unfold b0_ | unfold b1_
    | unfold b2_

theorem voteUnit_closed {mb : Nat} {unit : Nat → List Byte} {x0_ : Nat} {x1_ : List Byte} {x2_ : State}  (hq_ : Q x2_) : Q ((voteUnit mb unit x0_ x1_ x2_).2) := by
  revert hq_
  fun_induction voteUnit mb unit x0_ x1_ x2_ <;> intro hq_
  all_goals try repeat' first
      | with_reducible first
        | assumption | intro _ | refine (by assumption : Q _ → Q _) ?_ | apply Closed.ite
        | apply voteValue_closed hP | apply hP.setReg | apply Closed.forN | apply Closed.foldl
        | apply Memory.writeN_wf | apply Memory.writeLe_wf | apply Memory.copy_wf | apply Memory.splice_wf
        | apply Memory.clear_wf | apply Memory.write_wf | apply Memory.foldl_copy_wf
        | apply Memory.foldl_writeN_wf | apply State.lane_wf
      | intro _ | refine voteValue_next hP (by assumption) ?_
      | (extract_lets b0_ b1_ b2_
         try (refine (fun (hb0_ : Q b0_) => ?_) ?_; clear_value b0_)
         try (refine (fun (hb1_ : Q b1_) => ?_) ?_; clear_value b1_)
         try (refine (fun (hb2_ : Q b2_) => ?_) ?_; clear_value b2_))
      | split | exact rfl | exact fun h => h | refine Closed.snd_of (by assumption) ?_ | unfold a0_
      | unfold a1_ | unfold a2_ | unfold b0_ | unfold b1_ | unfold b2_
theorem voteUnit_next {mb : Nat} {unit : Nat → List Byte} {x0_ : Nat} {x1_ : List Byte} {x2_ : State} {r0_} {t_ : State} (e : voteUnit mb unit x0_ x1_ x2_ = (r0_, t_))  (hq_ : Q x2_) : Q t_ := by
  have h2_ : Q ((voteUnit mb unit x0_ x1_ x2_).2) := voteUnit_closed hP  hq_
  rw [e] at h2_; exact h2_

theorem voteTx_closed {mb : Nat} {unit : Nat → List Byte} {len : Nat} {owner : Nat} {s : State}  (hq_ : Q s) : Q (voteTx mb unit len owner s) := by
  unfold voteTx
  try extract_lets a0_ a1_
  try (refine (fun (ha0_ : Q a0_) => ?_) ?_; clear_value a0_)
  try (refine (fun (ha1_ : Q a1_) => ?_) ?_; clear_value a1_)
  repeat' first
    | with_reducible first
      | assumption | intro _ | apply Closed.ite | apply voteUnit_closed hP | apply updExec_closed hP
      | apply hP.setReg | apply Closed.forN | apply Closed.foldl
    | intro _ | refine voteUnit_next hP (by assumption) ?_
    | (extract_lets b0_ b1_
       try (refine (fun (hb0_ : Q b0_) => ?_) ?_; clear_value b0_)
       try (refine (fun (hb1_ : Q b1_) => ?_) ?_; clear_value b1_))
    | split | exact rfl | exact fun h => h | unfold a0_ | unfold a1_ | unfold b0_ | unfold b1_

theorem engineReads_closed {p : Program} {words : Nat} {f : ZCtx → ZRes} {s : State}  (hq_ : Q s) : Q (engineReads p words f s) := by
  unfold engineReads
  try extract_lets a0_
  try (refine (fun (ha0_ : Q a0_) => ?_) ?_; clear_value a0_)
  repeat' first
    | with_reducible first
      | assumption | intro _ | apply Closed.ite | apply eccReads_closed hP | apply hP.setReg
      | apply Closed.forN | apply Closed.foldl
    | intro _
    | (extract_lets b0_
       try (refine (fun (hb0_ : Q b0_) => ?_) ?_; clear_value b0_))
    | split | exact rfl | exact fun h => h | unfold a0_ | unfold b0_

theorem zRun_closed {words : Nat} {cost : Nat} {ok : ZCtx → Bool} {f : ZCtx → ZRes} {s : State}  (hq_ : Q s) : Q (zRun words cost ok f s) := by
  unfold zRun
  try extract_lets a0_ a1_ a2_ a3_ a4_ a5_ a6_ a7_ a8_ a9_ a10_ a11_ a12_ a13_ a14_ a15_
  try (refine (fun (ha0_ : Q a0_) => ?_) ?_; clear_value a0_)
  try (refine (fun (ha1_ : Q a1_) => ?_) ?_; clear_value a1_)
  try (refine (fun (ha2_ : Q a2_) => ?_) ?_; clear_value a2_)
  try (refine (fun (ha3_ : Q a3_) => ?_) ?_; clear_value a3_)
  try (refine (fun (ha4_ : Q a4_) => ?_) ?_; clear_value a4_)
  try (refine (fun (ha5_ : Q a5_) => ?_) ?_; clear_value a5_)
  try (refine (fun (ha6_ : Q a6_) => ?_) ?_; clear_value a6_)
  try (refine (fun (ha7_ : Q a7_) => ?_) ?_; clear_value a7_)
  try (refine (fun (ha8_ : Q a8_) => ?_) ?_; clear_value a8_)
  try (refine (fun (ha9_ : Q a9_) => ?_) ?_; clear_value a9_)
  try (refine (fun (ha10_ : Q a10_) => ?_) ?_; clear_value a10_)
  try (refine (fun (ha11_ : Q a11_) => ?_) ?_; clear_value a11_)
  try (refine (fun (ha12_ : Q a12_) => ?_) ?_; clear_value a12_)
  try (refine (fun (ha13_ : Q a13_) => ?_) ?_; clear_value a13_)
  try (refine (fun (ha14_ : Q a14_) => ?_) ?_; clear_value a14_)
  try (refine (fun (ha15_ : Q a15_) => ?_) ?_; clear_value a15_)
  repeat' first
    | with_reducible first
      | assumption | intro _ | refine hP.lanes _ _ ?_ ?_ (by assumption) | apply Closed.ite
      | apply engineReads_closed hP | apply trapTask_closed hP | apply engineMarks_closed hP
      | apply engineWriteLane_closed hP | apply updLane_closed hP | apply voteSlot_closed hP
      | apply voteTx_closed hP | apply taskEnd_closed hP | apply arrive_closed hP | apply hP.setReg
      | apply Closed.forN | apply Closed.foldl | apply Memory.writeN_wf | apply Memory.writeLe_wf
      | apply Memory.copy_wf | apply Memory.splice_wf | apply Memory.clear_wf | apply Memory.write_wf
      | apply Memory.foldl_copy_wf | apply Memory.foldl_writeN_wf | apply State.lane_wf
    | intro _
    | (extract_lets b0_ b1_ b2_ b3_ b4_ b5_ b6_ b7_ b8_ b9_ b10_ b11_ b12_ b13_ b14_ b15_
       try (refine (fun (hb0_ : Q b0_) => ?_) ?_; clear_value b0_)
       try (refine (fun (hb1_ : Q b1_) => ?_) ?_; clear_value b1_)
       try (refine (fun (hb2_ : Q b2_) => ?_) ?_; clear_value b2_)
       try (refine (fun (hb3_ : Q b3_) => ?_) ?_; clear_value b3_)
       try (refine (fun (hb4_ : Q b4_) => ?_) ?_; clear_value b4_)
       try (refine (fun (hb5_ : Q b5_) => ?_) ?_; clear_value b5_)
       try (refine (fun (hb6_ : Q b6_) => ?_) ?_; clear_value b6_)
       try (refine (fun (hb7_ : Q b7_) => ?_) ?_; clear_value b7_)
       try (refine (fun (hb8_ : Q b8_) => ?_) ?_; clear_value b8_)
       try (refine (fun (hb9_ : Q b9_) => ?_) ?_; clear_value b9_)
       try (refine (fun (hb10_ : Q b10_) => ?_) ?_; clear_value b10_)
       try (refine (fun (hb11_ : Q b11_) => ?_) ?_; clear_value b11_)
       try (refine (fun (hb12_ : Q b12_) => ?_) ?_; clear_value b12_)
       try (refine (fun (hb13_ : Q b13_) => ?_) ?_; clear_value b13_)
       try (refine (fun (hb14_ : Q b14_) => ?_) ?_; clear_value b14_)
       try (refine (fun (hb15_ : Q b15_) => ?_) ?_; clear_value b15_))
    | split | with_reducible refine hP.lanes _ _ ?_ ?_ ?_ | exact rfl | exact fun h => h
    | exact fun _ _ h => h | unfold a0_ | unfold a1_ | unfold a2_ | unfold a3_ | unfold a4_ | unfold a5_
    | unfold a6_ | unfold a7_ | unfold a8_ | unfold a9_ | unfold a10_ | unfold a11_ | unfold a12_
    | unfold a13_ | unfold a14_ | unfold a15_ | unfold b0_ | unfold b1_ | unfold b2_ | unfold b3_
    | unfold b4_ | unfold b5_ | unfold b6_ | unfold b7_ | unfold b8_ | unfold b9_ | unfold b10_
    | unfold b11_ | unfold b12_ | unfold b13_ | unfold b14_ | unfold b15_

theorem zPlain_closed {words : Nat} {cost : Nat} {ok : ZCtx → Bool} {f : ZCtx → Engine} {x0_ : State}  (hq_ : Q x0_) : Q (zPlain words cost ok f x0_) := by
  unfold zPlain
  repeat' first
    | with_reducible first
      | assumption | intro _ | apply Closed.ite | apply zRun_closed hP | apply hP.setReg | apply Closed.forN
      | apply Closed.foldl
    | intro _ | extract_lets | split | exact rfl | exact fun h => h

theorem zAlu_closed {cost : Nat} {ok : ZCtx → Bool} {d : ZReg} {f : ZCtx → Alu} {x0_ : State}  (hq_ : Q x0_) : Q (zAlu cost ok d f x0_) := by
  unfold zAlu
  try extract_lets a0_
  try (refine (fun (ha0_ : Q a0_) => ?_) ?_; clear_value a0_)
  repeat' first
    | with_reducible first
      | assumption | intro _ | apply Closed.ite | apply zPlain_closed hP | apply hP.setReg
      | apply Closed.forN | apply Closed.foldl
    | intro _
    | (extract_lets b0_
       try (refine (fun (hb0_ : Q b0_) => ?_) ?_; clear_value b0_))
    | split | exact rfl | exact fun h => h | unfold a0_ | unfold b0_

end Sys2Proof.Machine
end

