-- ==== Sys2Proof/Laws/ClosedZArith.lean ====
section
/-!
SUPPORT. The operations of ZArith.lean keep every property that the primitive writes keep (Laws/Closed.lean).
-/
set_option Elab.async false
set_option linter.all false
set_option linter.unusedVariables false
set_option linter.tactic.unusedName false

namespace Sys2Proof.Machine

variable {Q : State → Prop} (hP : Closed Q)
include hP

theorem zAdd_closed {d : ZReg} {a : ZReg} {b : ZReg} {t : ZTy} {sat : Bool} {x0_ : State}  (hq_ : Q x0_) : Q (zAdd d a b t sat x0_) := by
  unfold zAdd
  repeat' first
    | with_reducible first
      | assumption | intro _ | apply Closed.ite | apply zAlu_closed hP | apply hP.setReg | apply Closed.forN
      | apply Closed.foldl
    | intro _ | extract_lets | split | exact rfl | exact fun h => h

theorem zSub_closed {d : ZReg} {a : ZReg} {b : ZReg} {t : ZTy} {sat : Bool} {x0_ : State}  (hq_ : Q x0_) : Q (zSub d a b t sat x0_) := by
  unfold zSub
  repeat' first
    | with_reducible first
      | assumption | intro _ | apply Closed.ite | apply zAlu_closed hP | apply hP.setReg | apply Closed.forN
      | apply Closed.foldl
    | intro _ | extract_lets | split | exact rfl | exact fun h => h

theorem zMul_closed {d : ZReg} {a : ZReg} {b : ZReg} {t : ZTy} {sat : Bool} {x0_ : State}  (hq_ : Q x0_) : Q (zMul d a b t sat x0_) := by
  unfold zMul
  repeat' first
    | with_reducible first
      | assumption | intro _ | apply Closed.ite | apply zAlu_closed hP | apply hP.setReg | apply Closed.forN
      | apply Closed.foldl
    | intro _ | extract_lets | split | exact rfl | exact fun h => h

theorem zDiv_closed {d : ZReg} {a : ZReg} {b : ZReg} {t : ZTy} {sat : Bool} {x0_ : State}  (hq_ : Q x0_) : Q (zDiv d a b t sat x0_) := by
  unfold zDiv
  repeat' first
    | with_reducible first
      | assumption | intro _ | apply Closed.ite | apply zAlu_closed hP | apply hP.setReg | apply Closed.forN
      | apply Closed.foldl
    | intro _ | extract_lets | split | exact rfl | exact fun h => h

theorem zMod_closed {d : ZReg} {a : ZReg} {b : ZReg} {t : ZTy} {x0_ : State}  (hq_ : Q x0_) : Q (zMod d a b t x0_) := by
  unfold zMod
  repeat' first
    | with_reducible first
      | assumption | intro _ | apply Closed.ite | apply zAlu_closed hP | apply hP.setReg | apply Closed.forN
      | apply Closed.foldl
    | intro _ | extract_lets | split | exact rfl | exact fun h => h

theorem zNeg_closed {d : ZReg} {a : ZReg} {t : ZTy} {sat : Bool} {x0_ : State}  (hq_ : Q x0_) : Q (zNeg d a t sat x0_) := by
  unfold zNeg
  repeat' first
    | with_reducible first
      | assumption | intro _ | apply Closed.ite | apply zAlu_closed hP | apply hP.setReg | apply Closed.forN
      | apply Closed.foldl
    | intro _ | extract_lets | split | exact rfl | exact fun h => h

theorem zAbs_closed {d : ZReg} {a : ZReg} {t : ZTy} {sat : Bool} {x0_ : State}  (hq_ : Q x0_) : Q (zAbs d a t sat x0_) := by
  unfold zAbs
  repeat' first
    | with_reducible first
      | assumption | intro _ | apply Closed.ite | apply zAlu_closed hP | apply hP.setReg | apply Closed.forN
      | apply Closed.foldl
    | intro _ | extract_lets | split | exact rfl | exact fun h => h

theorem zMin_closed {d : ZReg} {a : ZReg} {b : ZReg} {t : ZTy} {x0_ : State}  (hq_ : Q x0_) : Q (zMin d a b t x0_) := by
  unfold zMin
  repeat' first
    | with_reducible first
      | assumption | intro _ | apply Closed.ite | apply zAlu_closed hP | apply hP.setReg | apply Closed.forN
      | apply Closed.foldl
    | intro _ | extract_lets | split | exact rfl | exact fun h => h

theorem zMax_closed {d : ZReg} {a : ZReg} {b : ZReg} {t : ZTy} {x0_ : State}  (hq_ : Q x0_) : Q (zMax d a b t x0_) := by
  unfold zMax
  repeat' first
    | with_reducible first
      | assumption | intro _ | apply Closed.ite | apply zAlu_closed hP | apply hP.setReg | apply Closed.forN
      | apply Closed.foldl
    | intro _ | extract_lets | split | exact rfl | exact fun h => h

theorem zAddi_closed {d : ZReg} {a : ZReg} {imm : BitVec 16} {x0_ : State}  (hq_ : Q x0_) : Q (zAddi d a imm x0_) := by
  unfold zAddi
  repeat' first
    | with_reducible first
      | assumption | intro _ | apply Closed.ite | apply zPlain_closed hP | apply hP.setReg
      | apply Closed.forN | apply Closed.foldl
    | intro _ | extract_lets | split | exact rfl | exact fun h => h

theorem zLogic_closed {op : DWord → DWord → DWord} {d : ZReg} {a : ZReg} {b : ZReg} {t : ZTy} {x0_ : State}  (hq_ : Q x0_) : Q (zLogic op d a b t x0_) := by
  unfold zLogic
  repeat' first
    | with_reducible first
      | assumption | intro _ | apply Closed.ite | apply zPlain_closed hP | apply hP.setReg
      | apply Closed.forN | apply Closed.foldl
    | intro _ | extract_lets | split | exact rfl | exact fun h => h

theorem zShift_closed {op : ZTy → DWord → Nat → DWord × Bool} {d : ZReg} {a : ZReg} {b : ZReg} {t : ZTy} {x0_ : State}  (hq_ : Q x0_) : Q (zShift op d a b t x0_) := by
  unfold zShift
  repeat' first
    | with_reducible first
      | assumption | intro _ | apply Closed.ite | apply zPlain_closed hP | apply hP.setReg
      | apply Closed.forN | apply Closed.foldl
    | intro _ | extract_lets | split | exact rfl | exact fun h => h

theorem zAnd_closed {d : ZReg} {a : ZReg} {b : ZReg} {t : ZTy} {x0_ : State}  (hq_ : Q x0_) : Q (zAnd d a b t x0_) := by
  unfold zAnd
  repeat' first
    | with_reducible first
      | assumption | intro _ | apply Closed.ite | apply zLogic_closed hP | apply hP.setReg
      | apply Closed.forN | apply Closed.foldl
    | intro _ | extract_lets | split | exact rfl | exact fun h => h

theorem zOr_closed {d : ZReg} {a : ZReg} {b : ZReg} {t : ZTy} {x0_ : State}  (hq_ : Q x0_) : Q (zOr d a b t x0_) := by
  unfold zOr
  repeat' first
    | with_reducible first
      | assumption | intro _ | apply Closed.ite | apply zLogic_closed hP | apply hP.setReg
      | apply Closed.forN | apply Closed.foldl
    | intro _ | extract_lets | split | exact rfl | exact fun h => h

theorem zXor_closed {d : ZReg} {a : ZReg} {b : ZReg} {t : ZTy} {x0_ : State}  (hq_ : Q x0_) : Q (zXor d a b t x0_) := by
  unfold zXor
  repeat' first
    | with_reducible first
      | assumption | intro _ | apply Closed.ite | apply zLogic_closed hP | apply hP.setReg
      | apply Closed.forN | apply Closed.foldl
    | intro _ | extract_lets | split | exact rfl | exact fun h => h

theorem zNot_closed {d : ZReg} {a : ZReg} {t : ZTy} {x0_ : State}  (hq_ : Q x0_) : Q (zNot d a t x0_) := by
  unfold zNot
  repeat' first
    | with_reducible first
      | assumption | intro _ | apply Closed.ite | apply zPlain_closed hP | apply hP.setReg
      | apply Closed.forN | apply Closed.foldl
    | intro _ | extract_lets | split | exact rfl | exact fun h => h

theorem zShl_closed {d : ZReg} {a : ZReg} {b : ZReg} {t : ZTy} {x0_ : State}  (hq_ : Q x0_) : Q (zShl d a b t x0_) := by
  unfold zShl
  repeat' first
    | with_reducible first
      | assumption | intro _ | apply Closed.ite | apply zShift_closed hP | apply hP.setReg
      | apply Closed.forN | apply Closed.foldl
    | intro _ | extract_lets | split | exact rfl | exact fun h => h

theorem zShr_closed {d : ZReg} {a : ZReg} {b : ZReg} {t : ZTy} {x0_ : State}  (hq_ : Q x0_) : Q (zShr d a b t x0_) := by
  unfold zShr
  repeat' first
    | with_reducible first
      | assumption | intro _ | apply Closed.ite | apply zShift_closed hP | apply hP.setReg
      | apply Closed.forN | apply Closed.foldl
    | intro _ | extract_lets | split | exact rfl | exact fun h => h

theorem zSar_closed {d : ZReg} {a : ZReg} {b : ZReg} {t : ZTy} {x0_ : State}  (hq_ : Q x0_) : Q (zSar d a b t x0_) := by
  unfold zSar
  repeat' first
    | with_reducible first
      | assumption | intro _ | apply Closed.ite | apply zShift_closed hP | apply hP.setReg
      | apply Closed.forN | apply Closed.foldl
    | intro _ | extract_lets | split | exact rfl | exact fun h => h

theorem zRol_closed {d : ZReg} {a : ZReg} {b : ZReg} {t : ZTy} {x0_ : State}  (hq_ : Q x0_) : Q (zRol d a b t x0_) := by
  unfold zRol
  repeat' first
    | with_reducible first
      | assumption | intro _ | apply Closed.ite | apply zShift_closed hP | apply hP.setReg
      | apply Closed.forN | apply Closed.foldl
    | intro _ | extract_lets | split | exact rfl | exact fun h => h

theorem zRor_closed {d : ZReg} {a : ZReg} {b : ZReg} {t : ZTy} {x0_ : State}  (hq_ : Q x0_) : Q (zRor d a b t x0_) := by
  unfold zRor
  repeat' first
    | with_reducible first
      | assumption | intro _ | apply Closed.ite | apply zShift_closed hP | apply hP.setReg
      | apply Closed.forN | apply Closed.foldl
    | intro _ | extract_lets | split | exact rfl | exact fun h => h

theorem zCmp_closed {a : ZReg} {b : ZReg} {t : ZTy} {x0_ : State}  (hq_ : Q x0_) : Q (zCmp a b t x0_) := by
  unfold zCmp
  repeat' first
    | with_reducible first
      | assumption | intro _ | apply Closed.ite | apply zPlain_closed hP | apply hP.setReg
      | apply Closed.forN | apply Closed.foldl
    | intro _ | extract_lets | split | exact rfl | exact fun h => h

theorem zSetc_closed {d : ZReg} {k : ZCond} {x0_ : State}  (hq_ : Q x0_) : Q (zSetc d k x0_) := by
  unfold zSetc
  repeat' first
    | with_reducible first
      | assumption | intro _ | apply Closed.ite | apply zPlain_closed hP | apply hP.setReg
      | apply Closed.forN | apply Closed.foldl
    | intro _ | extract_lets | split | exact rfl | exact fun h => h

theorem zCvt_closed {d : ZReg} {a : ZReg} {t : ZTy} {t2 : ZTy} {sat : Bool} {x0_ : State}  (hq_ : Q x0_) : Q (zCvt d a t t2 sat x0_) := by
  unfold zCvt
  try extract_lets a0_ a1_
  try (refine (fun (ha0_ : Q a0_) => ?_) ?_; clear_value a0_)
  try (refine (fun (ha1_ : Q a1_) => ?_) ?_; clear_value a1_)
  repeat' first
    | with_reducible first
      | assumption | intro _ | apply Closed.ite | apply zPlain_closed hP | apply hP.setReg
      | apply Closed.forN | apply Closed.foldl
    | intro _
    | (extract_lets b0_ b1_
       try (refine (fun (hb0_ : Q b0_) => ?_) ?_; clear_value b0_)
       try (refine (fun (hb1_ : Q b1_) => ?_) ?_; clear_value b1_))
    | split | exact rfl | exact fun h => h | unfold a0_ | unfold a1_ | unfold b0_ | unfold b1_

end Sys2Proof.Machine
end

