-- ==== Sys2Proof/Laws/ClosedPages.lean ====
section
/-!
SUPPORT. The operations of Pages.lean keep every property that the primitive writes keep (Laws/Closed.lean).
-/
set_option Elab.async false
set_option linter.all false
set_option linter.unusedVariables false
set_option linter.tactic.unusedName false

namespace Sys2Proof.Machine

variable {Q : State → Prop} (hP : Closed Q)
include hP

theorem grdState_closed {ch : Nat} {s : State}  (hq_ : Q s) : Q (grdState ch s) := by
  unfold grdState
  repeat' first
    | with_reducible first
      | assumption | intro _ | apply Closed.ite | apply State.setPgState_closed hP | apply hP.setReg
      | apply Closed.forN | apply Closed.foldl
    | intro _ | extract_lets | split | exact rfl | exact fun h => h

theorem pageOn_closed {p : Nat} {st : Nat} {s : State}  (hq_ : Q s) : Q (pageOn p st s) := by
  unfold pageOn
  repeat' first
    | with_reducible first
      | assumption | intro _ | apply Closed.ite | apply State.setEn_closed hP
      | apply State.setPgState_closed hP | apply hP.setReg | apply Closed.forN | apply Closed.foldl
    | intro _ | extract_lets | split | exact rfl | exact fun h => h

theorem enableNow_closed {p : Nat} {s : State}  (hq_ : Q s) : Q (enableNow p s) := by
  unfold enableNow
  try extract_lets a0_ a1_
  try (refine (fun (ha0_ : Q a0_) => ?_) ?_; clear_value a0_)
  try (refine (fun (ha1_ : Q a1_) => ?_) ?_; clear_value a1_)
  repeat' first
    | with_reducible first
      | assumption | intro _ | apply Closed.ite | apply updStarter_closed hP | apply pageOn_closed hP
      | apply grdsStart_closed hP | apply relayStart_closed hP | apply smsgStart_closed hP
      | apply canEnable_closed hP | apply fldStart_closed hP | apply State.setEn_closed hP
      | apply grdState_closed hP | apply timeStat_closed hP | apply ethState_closed hP
      | apply batonIdle_closed hP | apply setSwap_closed hP | apply updRest_closed hP | apply hP.setReg
      | apply Closed.forN | apply Closed.foldl
    | intro _
    | (extract_lets b0_ b1_
       try (refine (fun (hb0_ : Q b0_) => ?_) ?_; clear_value b0_)
       try (refine (fun (hb1_ : Q b1_) => ?_) ?_; clear_value b1_))
    | split | exact rfl | exact fun h => h | unfold a0_ | unfold a1_ | unfold b0_ | unfold b1_

theorem pairStop_closed {p : Nat} {s : State}  (hq_ : Q s) : Q (pairStop p s) := by
  unfold pairStop
  try extract_lets a0_
  try (refine (fun (ha0_ : Q a0_) => ?_) ?_; clear_value a0_)
  repeat' first
    | with_reducible first
      | assumption | intro _ | apply Closed.ite | apply pairTimer_closed hP | apply State.setB_closed hP
      | apply hP.setReg | apply Closed.forN | apply Closed.foldl
    | intro _
    | (extract_lets b0_
       try (refine (fun (hb0_ : Q b0_) => ?_) ?_; clear_value b0_))
    | split | exact rfl | exact fun h => h | unfold a0_ | unfold b0_

theorem disableNow_closed {p : Nat} {s0 : State}  (hq_ : Q s0) : Q (disableNow p s0) := by
  unfold disableNow
  try extract_lets a0_ a1_ a2_ a3_
  try (refine (fun (ha0_ : Q a0_) => ?_) ?_; clear_value a0_)
  try (refine (fun (ha1_ : Q a1_) => ?_) ?_; clear_value a1_)
  try (refine (fun (ha2_ : Q a2_) => ?_) ?_; clear_value a2_)
  try (refine (fun (ha3_ : Q a3_) => ?_) ?_; clear_value a3_)
  repeat' first
    | with_reducible first
      | assumption | intro _ | apply Closed.ite | apply dropBlocks_closed hP | apply State.setEn_closed hP
      | apply State.setPgState_closed hP | apply updStarter_closed hP | apply grdsStop_closed hP
      | apply relayStop_closed hP | apply canDisable_closed hP | apply fldStop_closed hP
      | apply measaStop_closed hP | apply measfStop_closed hP | apply setTest_closed hP
      | apply abortTest_closed hP | apply pairStop_closed hP | apply ethState_closed hP
      | apply ethLink_closed hP | apply closeSession_closed hP | apply hP.setReg | apply Closed.forN
      | apply Closed.foldl
    | intro _
    | (extract_lets b0_ b1_ b2_ b3_
       try (refine (fun (hb0_ : Q b0_) => ?_) ?_; clear_value b0_)
       try (refine (fun (hb1_ : Q b1_) => ?_) ?_; clear_value b1_)
       try (refine (fun (hb2_ : Q b2_) => ?_) ?_; clear_value b2_)
       try (refine (fun (hb3_ : Q b3_) => ?_) ?_; clear_value b3_))
    | split | exact rfl | exact fun h => h | unfold a0_ | unfold a1_ | unfold a2_ | unfold a3_ | unfold b0_
    | unfold b1_ | unfold b2_ | unfold b3_

theorem toutOff_closed {t : Nat} {s : State}  (hq_ : Q s) : Q (toutOff t s) := by
  unfold toutOff
  try extract_lets a0_
  try (refine (fun (ha0_ : Q a0_) => ?_) ?_; clear_value a0_)
  repeat' first
    | with_reducible first
      | assumption | intro _ | apply Closed.ite | apply setTout_closed hP | apply hP.setReg
      | apply Closed.forN | apply Closed.foldl
    | intro _
    | (extract_lets b0_
       try (refine (fun (hb0_ : Q b0_) => ?_) ?_; clear_value b0_))
    | split | exact rfl | exact fun h => h | unfold a0_ | unfold b0_

theorem unqueueCmp_closed {j : Nat} {s : State}  (hq_ : Q s) : Q (unqueueCmp j s) := by
  unfold unqueueCmp
  try extract_lets a0_ a1_ a2_
  try (refine (fun (ha0_ : Q a0_) => ?_) ?_; clear_value a0_)
  try (refine (fun (ha1_ : Q a1_) => ?_) ?_; clear_value a1_)
  try (refine (fun (ha2_ : Q a2_) => ?_) ?_; clear_value a2_)
  repeat' first
    | with_reducible first
      | assumption | intro _ | apply Closed.ite | apply updGroup_closed hP | apply updTime_closed hP
      | apply hP.setReg | apply Closed.forN | apply Closed.foldl | apply Memory.writeN_wf
      | apply Memory.writeLe_wf | apply Memory.copy_wf | apply Memory.splice_wf | apply Memory.clear_wf
      | apply Memory.write_wf | apply Memory.foldl_copy_wf | apply Memory.foldl_writeN_wf
      | apply State.lane_wf
    | intro _
    | (extract_lets b0_ b1_ b2_
       try (refine (fun (hb0_ : Q b0_) => ?_) ?_; clear_value b0_)
       try (refine (fun (hb1_ : Q b1_) => ?_) ?_; clear_value b1_)
       try (refine (fun (hb2_ : Q b2_) => ?_) ?_; clear_value b2_))
    | split | exact Nat.mod_lt _ (by decide) | exact rfl | exact fun h => h | unfold a0_ | unfold a1_
    | unfold a2_ | unfold b0_ | unfold b1_ | unfold b2_

theorem tcapStop_closed {s : State}  (hq_ : Q s) : Q (tcapStop s) := by
  unfold tcapStop
  repeat' first
    | with_reducible first
      | assumption | intro _ | apply Closed.ite | apply unqueueCmp_closed hP | apply toutOff_closed hP
      | apply cancelTouts_closed hP | apply hP.setReg | apply Closed.forN | apply Closed.foldl
    | intro _ | extract_lets | split | exact rfl | exact fun h => h

theorem resetNow_closed {p : Nat} {s0 : State}  (hq_ : Q s0) : Q (resetNow p s0) := by
  unfold resetNow
  try extract_lets a0_ a1_ a2_ a3_ a4_ a5_ a6_ a7_ a8_ a9_ a10_ a11_ a12_ a13_ a14_ a15_ a16_ a17_ a18_ a19_ a20_ a21_ a22_ a23_ a24_
  try (refine (fun (ha0_ : Q a0_) => ?_) ?_; clear_value a0_)
  try (refine (fun (ha1_ : Q a1_) => ?_) ?_; clear_value a1_)
  try (refine (fun (ha2_ : Q a2_) => ?_) ?_; clear_value a2_)
  try (refine (fun (ha3_ : Q a3_) => ?_) ?_; clear_value a3_)
  try (refine (fun (ha4_ : Q a4_) => ?_) ?_; clear_value a4_)
  try (refine (fun (ha5_ : Q a5_) => ?_) ?_; clear_value a5_)
  try (refine (fun (ha6_ : Q a6_) => ?_) ?_; clear_value a6_)
  try (refine (fun (ha7_ : Q a7_) => ?_) ?_; clear_value a7_)
  try (refine (fun (ha8_ : Q a8_) => ?_) ?_; clear_value a8_)
  try (refine (fun (ha9_ : Q a9_) => ?_) ?_; clear_value a9_)
  try (refine (fun (ha10_ : Q a10_) => ?_) ?_; clear_value a10_)
  try (refine (fun (ha11_ : Q a11_) => ?_) ?_; clear_value a11_)
  try (refine (fun (ha12_ : Q a12_) => ?_) ?_; clear_value a12_)
  try (refine (fun (ha13_ : Q a13_) => ?_) ?_; clear_value a13_)
  try (refine (fun (ha14_ : Q a14_) => ?_) ?_; clear_value a14_)
  try (refine (fun (ha15_ : Q a15_) => ?_) ?_; clear_value a15_)
  try (refine (fun (ha16_ : Q a16_) => ?_) ?_; clear_value a16_)
  try (refine (fun (ha17_ : Q a17_) => ?_) ?_; clear_value a17_)
  try (refine (fun (ha18_ : Q a18_) => ?_) ?_; clear_value a18_)
  try (refine (fun (ha19_ : Q a19_) => ?_) ?_; clear_value a19_)
  try (refine (fun (ha20_ : Q a20_) => ?_) ?_; clear_value a20_)
  try (refine (fun (ha21_ : Q a21_) => ?_) ?_; clear_value a21_)
  try (refine (fun (ha22_ : Q a22_) => ?_) ?_; clear_value a22_)
  try (refine (fun (ha23_ : Q a23_) => ?_) ?_; clear_value a23_)
  try (refine (fun (ha24_ : Q a24_) => ?_) ?_; clear_value a24_)
  repeat' first
    | with_reducible first
      | assumption | intro _ | apply Closed.ite | apply dropBlocks_closed hP | apply resetRegs_closed hP
      | apply releaseStaged_closed hP | apply setSwap_closed hP | apply State.setF_closed hP
      | apply updExec_closed hP | apply dropForces_closed hP | apply showForces_closed hP
      | apply State.setPgState_closed hP | apply phyLink_closed hP | apply State.putPgState_closed hP
      | apply updGrd_closed hP | apply grdsStop_closed hP | apply showAbsent_closed hP
      | apply claimCount_closed hP | apply updGroup_closed hP | apply mbClear_closed hP
      | apply tcapStop_closed hP | apply canReset_closed hP | apply relayStop_closed hP
      | apply closePort_closed hP | apply ethLink_closed hP | apply fldStop_closed hP
      | apply State.setB_closed hP | apply measaStop_closed hP | apply measfStop_closed hP
      | apply setTest_closed hP | apply updSafety_closed hP | apply closeSession_closed hP
      | apply updBoot_closed hP | apply updRest_closed hP | apply hP.setReg | apply Closed.forN
      | apply Closed.foldl | apply Memory.writeN_wf | apply Memory.writeLe_wf | apply Memory.copy_wf
      | apply Memory.splice_wf | apply Memory.clear_wf | apply Memory.write_wf | apply Memory.foldl_copy_wf
      | apply Memory.foldl_writeN_wf | apply State.lane_wf
    | intro _
    | (extract_lets b0_ b1_ b2_ b3_ b4_ b5_ b6_ b7_ b8_ b9_ b10_ b11_ b12_ b13_ b14_ b15_ b16_ b17_ b18_ b19_ b20_ b21_ b22_ b23_ b24_
       try (refine (fun (hb0_ : Q b0_) => ?_) ?_; clear_value b0_)
       try (refine (fun (hb1_ : Q b1_) => ?_) ?_; clear_value b1_)
       try (refine (fun (hb2_ : Q b2_) => ?_) ?_; clear_value b2_)
       try (refine (fun (hb3_ : Q b3_) => ?_) ?_; clear_value b3_)
       try (refine (fun (hb4_ : Q b4_) => ?_) ?_; clear_value b4_)
       try (refine (fun (hb5_ : Q b5_) => ?_) ?_; clear_value b5_)
       try (refine (fun (hb6_ : Q b6_) => ?_) ?_; clear_value b6_)
       try (refine (fun (hb7_ : Q b7_) => ?_) ?_; clear_value b7_)
       try (refine (fun (hb8_ : Q b8_) => ?_) ?_; clear_value b8_)
       try (refine (fun (hb9_ : Q b9_) => ?_) ?_; clear_value b9_)
       try (refine (fun (hb10_ : Q b10_) => ?_) ?_; clear_value b10_)
       try (refine (fun (hb11_ : Q b11_) => ?_) ?_; clear_value b11_)
       try (refine (fun (hb12_ : Q b12_) => ?_) ?_; clear_value b12_)
       try (refine (fun (hb13_ : Q b13_) => ?_) ?_; clear_value b13_)
       try (refine (fun (hb14_ : Q b14_) => ?_) ?_; clear_value b14_)
       try (refine (fun (hb15_ : Q b15_) => ?_) ?_; clear_value b15_)
       try (refine (fun (hb16_ : Q b16_) => ?_) ?_; clear_value b16_)
       try (refine (fun (hb17_ : Q b17_) => ?_) ?_; clear_value b17_)
       try (refine (fun (hb18_ : Q b18_) => ?_) ?_; clear_value b18_)
       try (refine (fun (hb19_ : Q b19_) => ?_) ?_; clear_value b19_)
       try (refine (fun (hb20_ : Q b20_) => ?_) ?_; clear_value b20_)
       try (refine (fun (hb21_ : Q b21_) => ?_) ?_; clear_value b21_)
       try (refine (fun (hb22_ : Q b22_) => ?_) ?_; clear_value b22_)
       try (refine (fun (hb23_ : Q b23_) => ?_) ?_; clear_value b23_)
       try (refine (fun (hb24_ : Q b24_) => ?_) ?_; clear_value b24_))
    | split | exact ⟨fun h => h, fun _ => ⟨fun h => h, fun h => h, fun h => h⟩⟩ | exact rfl
    | exact fun h => h | unfold a0_ | unfold a1_ | unfold a2_ | unfold a3_ | unfold a4_ | unfold a5_
    | unfold a6_ | unfold a7_ | unfold a8_ | unfold a9_ | unfold a10_ | unfold a11_ | unfold a12_
    | unfold a13_ | unfold a14_ | unfold a15_ | unfold a16_ | unfold a17_ | unfold a18_ | unfold a19_
    | unfold a20_ | unfold a21_ | unfold a22_ | unfold a23_ | unfold a24_ | unfold b0_ | unfold b1_
    | unfold b2_ | unfold b3_ | unfold b4_ | unfold b5_ | unfold b6_ | unfold b7_ | unfold b8_ | unfold b9_
    | unfold b10_ | unfold b11_ | unfold b12_ | unfold b13_ | unfold b14_ | unfold b15_ | unfold b16_
    | unfold b17_ | unfold b18_ | unfold b19_ | unfold b20_ | unfold b21_ | unfold b22_ | unfold b23_
    | unfold b24_

theorem resetDone_closed {p : Nat} {s : State}  (hq_ : Q s) : Q (resetDone p s) := by
  unfold resetDone
  try extract_lets a0_ a1_
  try (refine (fun (ha0_ : Q a0_) => ?_) ?_; clear_value a0_)
  try (refine (fun (ha1_ : Q a1_) => ?_) ?_; clear_value a1_)
  repeat' first
    | with_reducible first
      | assumption | intro _ | apply Closed.ite | apply resetNow_closed hP | apply finish_closed hP
      | apply hP.setReg | apply Closed.forN | apply Closed.foldl
    | intro _
    | (extract_lets b0_ b1_
       try (refine (fun (hb0_ : Q b0_) => ?_) ?_; clear_value b0_)
       try (refine (fun (hb1_ : Q b1_) => ?_) ?_; clear_value b1_))
    | split | exact rfl | exact fun h => h | unfold a0_ | unfold a1_ | unfold b0_ | unfold b1_

theorem abortCommand_closed {p : Nat} {s : State}  (hq_ : Q s) : Q (abortCommand p s) := by
  unfold abortCommand
  try extract_lets a0_ a1_ a2_ a3_ a4_
  try (refine (fun (ha0_ : Q a0_) => ?_) ?_; clear_value a0_)
  try (refine (fun (ha1_ : Q a1_) => ?_) ?_; clear_value a1_)
  try (refine (fun (ha2_ : Q a2_) => ?_) ?_; clear_value a2_)
  try (refine (fun (ha3_ : Q a3_) => ?_) ?_; clear_value a3_)
  try (refine (fun (ha4_ : Q a4_) => ?_) ?_; clear_value a4_)
  repeat' first
    | with_reducible first
      | assumption | intro _ | refine hP.deferred _ _ (by assumption) | apply Closed.ite
      | apply updExec_closed hP | apply hP.setReg | apply Closed.forN | apply Closed.foldl
      | apply Memory.writeN_wf | apply Memory.writeLe_wf | apply Memory.copy_wf | apply Memory.splice_wf
      | apply Memory.clear_wf | apply Memory.write_wf | apply Memory.foldl_copy_wf
      | apply Memory.foldl_writeN_wf | apply State.lane_wf
    | intro _
    | (extract_lets b0_ b1_ b2_ b3_ b4_
       try (refine (fun (hb0_ : Q b0_) => ?_) ?_; clear_value b0_)
       try (refine (fun (hb1_ : Q b1_) => ?_) ?_; clear_value b1_)
       try (refine (fun (hb2_ : Q b2_) => ?_) ?_; clear_value b2_)
       try (refine (fun (hb3_ : Q b3_) => ?_) ?_; clear_value b3_)
       try (refine (fun (hb4_ : Q b4_) => ?_) ?_; clear_value b4_))
    | split | with_reducible refine hP.deferred _ _ ?_ | exact rfl | exact fun h => h | unfold a0_
    | unfold a1_ | unfold a2_ | unfold a3_ | unfold a4_ | unfold b0_ | unfold b1_ | unfold b2_ | unfold b3_
    | unfold b4_

theorem functionReset_closed {p : Nat} {iss : Issuer} {v : Word} {s0 : State}  (hq_ : Q s0) : Q (functionReset p iss v s0) := by
  unfold functionReset
  try extract_lets a0_ a1_ a2_ a3_ a4_ a5_
  try (refine (fun (ha0_ : Q a0_) => ?_) ?_; clear_value a0_)
  try (refine (fun (ha1_ : Q a1_) => ?_) ?_; clear_value a1_)
  try (refine (fun (ha2_ : Q a2_) => ?_) ?_; clear_value a2_)
  try (refine (fun (ha3_ : Q a3_) => ?_) ?_; clear_value a3_)
  try (refine (fun (ha4_ : Q a4_) => ?_) ?_; clear_value a4_)
  try (refine (fun (ha5_ : Q a5_) => ?_) ?_; clear_value a5_)
  repeat' first
    | with_reducible first
      | assumption | intro _ | refine hP.deferred _ _ (by assumption) | apply Closed.ite
      | apply commandAccess_closed hP | apply addressReject_closed hP | apply reject_closed hP
      | apply answer_closed hP | apply abortCommand_closed hP | apply resetDone_closed hP | apply hP.setReg
      | apply Closed.forN | apply Closed.foldl
    | intro _
    | (extract_lets b0_ b1_ b2_ b3_ b4_ b5_
       try (refine (fun (hb0_ : Q b0_) => ?_) ?_; clear_value b0_)
       try (refine (fun (hb1_ : Q b1_) => ?_) ?_; clear_value b1_)
       try (refine (fun (hb2_ : Q b2_) => ?_) ?_; clear_value b2_)
       try (refine (fun (hb3_ : Q b3_) => ?_) ?_; clear_value b3_)
       try (refine (fun (hb4_ : Q b4_) => ?_) ?_; clear_value b4_)
       try (refine (fun (hb5_ : Q b5_) => ?_) ?_; clear_value b5_))
    | split | with_reducible refine hP.deferred _ _ ?_ | exact rfl | exact fun h => h | unfold a0_
    | unfold a1_ | unfold a2_ | unfold a3_ | unfold a4_ | unfold a5_ | unfold b0_ | unfold b1_ | unfold b2_
    | unfold b3_ | unfold b4_ | unfold b5_

theorem badAi_closed {off : Nat} {s : State}  (hq_ : Q s) : Q (badAi off s) := by
  unfold badAi
  try extract_lets a0_ a1_ a2_ a3_ a4_
  try (refine (fun (ha0_ : Q a0_) => ?_) ?_; clear_value a0_)
  try (refine (fun (ha1_ : Q a1_) => ?_) ?_; clear_value a1_)
  try (refine (fun (ha2_ : Q a2_) => ?_) ?_; clear_value a2_)
  try (refine (fun (ha3_ : Q a3_) => ?_) ?_; clear_value a3_)
  try (refine (fun (ha4_ : Q a4_) => ?_) ?_; clear_value a4_)
  repeat' first
    | with_reducible first
      | assumption | intro _ | refine hP.meas _ _ (by assumption) | apply Closed.ite | apply hP.setReg
      | apply Closed.forN | apply Closed.foldl | apply Memory.writeN_wf | apply Memory.writeLe_wf
      | apply Memory.copy_wf | apply Memory.splice_wf | apply Memory.clear_wf | apply Memory.write_wf
      | apply Memory.foldl_copy_wf | apply Memory.foldl_writeN_wf | apply State.lane_wf
    | intro _
    | (extract_lets b0_ b1_ b2_ b3_ b4_
       try (refine (fun (hb0_ : Q b0_) => ?_) ?_; clear_value b0_)
       try (refine (fun (hb1_ : Q b1_) => ?_) ?_; clear_value b1_)
       try (refine (fun (hb2_ : Q b2_) => ?_) ?_; clear_value b2_)
       try (refine (fun (hb3_ : Q b3_) => ?_) ?_; clear_value b3_)
       try (refine (fun (hb4_ : Q b4_) => ?_) ?_; clear_value b4_))
    | split | with_reducible refine hP.meas _ _ ?_ | exact rfl | exact fun h => h | unfold a0_ | unfold a1_
    | unfold a2_ | unfold a3_ | unfold a4_ | unfold b0_ | unfold b1_ | unfold b2_ | unfold b3_ | unfold b4_

theorem badFi_closed {off : Nat} {s : State}  (hq_ : Q s) : Q (badFi off s) := by
  unfold badFi
  try extract_lets a0_ a1_ a2_ a3_
  try (refine (fun (ha0_ : Q a0_) => ?_) ?_; clear_value a0_)
  try (refine (fun (ha1_ : Q a1_) => ?_) ?_; clear_value a1_)
  try (refine (fun (ha2_ : Q a2_) => ?_) ?_; clear_value a2_)
  try (refine (fun (ha3_ : Q a3_) => ?_) ?_; clear_value a3_)
  repeat' first
    | with_reducible first
      | assumption | intro _ | refine hP.meas _ _ (by assumption) | apply Closed.ite | apply hP.setReg
      | apply Closed.forN | apply Closed.foldl | apply Memory.writeN_wf | apply Memory.writeLe_wf
      | apply Memory.copy_wf | apply Memory.splice_wf | apply Memory.clear_wf | apply Memory.write_wf
      | apply Memory.foldl_copy_wf | apply Memory.foldl_writeN_wf | apply State.lane_wf
    | intro _
    | (extract_lets b0_ b1_ b2_ b3_
       try (refine (fun (hb0_ : Q b0_) => ?_) ?_; clear_value b0_)
       try (refine (fun (hb1_ : Q b1_) => ?_) ?_; clear_value b1_)
       try (refine (fun (hb2_ : Q b2_) => ?_) ?_; clear_value b2_)
       try (refine (fun (hb3_ : Q b3_) => ?_) ?_; clear_value b3_))
    | split | with_reducible refine hP.meas _ _ ?_ | exact rfl | exact fun h => h | unfold a0_ | unfold a1_
    | unfold a2_ | unfold a3_ | unfold b0_ | unfold b1_ | unfold b2_ | unfold b3_

theorem tcapParity_closed {off : Nat} {s : State}  (hq_ : Q s) : Q (tcapParity off s) := by
  unfold tcapParity
  try extract_lets a0_ a1_
  try (refine (fun (ha0_ : Q a0_) => ?_) ?_; clear_value a0_)
  try (refine (fun (ha1_ : Q a1_) => ?_) ?_; clear_value a1_)
  repeat' first
    | with_reducible first
      | assumption | intro _ | apply Closed.ite | apply State.setB_closed hP | apply unqueueCmp_closed hP
      | apply toutOff_closed hP | apply cancelTout_closed hP | apply hP.setReg | apply Closed.forN
      | apply Closed.foldl
    | intro _
    | (extract_lets b0_ b1_
       try (refine (fun (hb0_ : Q b0_) => ?_) ?_; clear_value b0_)
       try (refine (fun (hb1_ : Q b1_) => ?_) ?_; clear_value b1_))
    | split | exact rfl | exact fun h => h | unfold a0_ | unfold a1_ | unfold b0_ | unfold b1_

theorem parityReact_closed {p : Nat} {off : Nat} {s : State}  (hq_ : Q s) : Q (parityReact p off s) := by
  unfold parityReact
  try extract_lets a0_ a1_ a2_ a3_
  try (refine (fun (ha0_ : Q a0_) => ?_) ?_; clear_value a0_)
  try (refine (fun (ha1_ : Q a1_) => ?_) ?_; clear_value a1_)
  try (refine (fun (ha2_ : Q a2_) => ?_) ?_; clear_value a2_)
  try (refine (fun (ha3_ : Q a3_) => ?_) ?_; clear_value a3_)
  repeat' first
    | with_reducible first
      | assumption | intro _ | refine hP.deferred _ _ (by assumption) | apply Closed.ite
      | apply moduleCause_closed hP | apply setSwap_closed hP | apply timeStat_closed hP
      | apply updTime_closed hP | apply State.setRegN_closed hP | apply tcapParity_closed hP
      | apply dropTx_closed hP | apply fldStop_closed hP | apply badAi_closed hP | apply badFi_closed hP
      | apply lockGroup_closed hP | apply closeSession_closed hP | apply pocCheck_closed hP | apply hP.setReg
      | apply Closed.forN | apply Closed.foldl | apply Memory.writeN_wf | apply Memory.writeLe_wf
      | apply Memory.copy_wf | apply Memory.splice_wf | apply Memory.clear_wf | apply Memory.write_wf
      | apply Memory.foldl_copy_wf | apply Memory.foldl_writeN_wf | apply State.lane_wf
    | intro _
    | (extract_lets b0_ b1_ b2_ b3_
       try (refine (fun (hb0_ : Q b0_) => ?_) ?_; clear_value b0_)
       try (refine (fun (hb1_ : Q b1_) => ?_) ?_; clear_value b1_)
       try (refine (fun (hb2_ : Q b2_) => ?_) ?_; clear_value b2_)
       try (refine (fun (hb3_ : Q b3_) => ?_) ?_; clear_value b3_))
    | split | with_reducible refine hP.deferred _ _ ?_ | exact Nat.mod_lt _ (by decide) | exact rfl
    | exact fun h => h | unfold a0_ | unfold a1_ | unfold a2_ | unfold a3_ | unfold b0_ | unfold b1_
    | unfold b2_ | unfold b3_

theorem servedSafe_closed {p : Nat} {was : State} {s : State}  (hq_ : Q s) : Q (servedSafe p was s) := by
  unfold servedSafe
  repeat' first
    | with_reducible first
      | assumption | intro _ | apply Closed.ite | apply groupSafe_closed hP | apply hP.setReg
      | apply Closed.forN | apply Closed.foldl
    | intro _ | extract_lets | split | exact rfl | exact fun h => h

theorem tableDouble_closed {m : Nat} {w : Nat} {s : State}  (hq_ : Q s) : Q (tableDouble m w s) := by
  unfold tableDouble
  try extract_lets a0_ a1_
  try (refine (fun (ha0_ : Q a0_) => ?_) ?_; clear_value a0_)
  try (refine (fun (ha1_ : Q a1_) => ?_) ?_; clear_value a1_)
  repeat' first
    | with_reducible first
      | assumption | intro _ | apply Closed.ite | apply recordErr_closed hP
      | apply State.putPgState_closed hP | apply servedSafe_closed hP | apply parityReact_closed hP
      | apply hP.setReg | apply Closed.forN | apply Closed.foldl
    | intro _
    | (extract_lets b0_ b1_
       try (refine (fun (hb0_ : Q b0_) => ?_) ?_; clear_value b0_)
       try (refine (fun (hb1_ : Q b1_) => ?_) ?_; clear_value b1_))
    | split | exact rfl | exact fun h => h | unfold a0_ | unfold a1_ | unfold b0_ | unfold b1_

theorem tableRead_closed {m : Nat} {w : Nat} {s : State}  (hq_ : Q s) : Q (tableRead m w s) := by
  unfold tableRead
  try extract_lets a0_
  try (refine (fun (ha0_ : Q a0_) => ?_) ?_; clear_value a0_)
  repeat' first
    | with_reducible first
      | assumption | intro _ | apply Closed.ite | apply freshWords_closed hP | apply tableDouble_closed hP
      | apply hP.setReg | apply Closed.forN | apply Closed.foldl
    | intro _
    | (extract_lets b0_
       try (refine (fun (hb0_ : Q b0_) => ?_) ?_; clear_value b0_))
    | split | exact rfl | exact fun h => h | unfold a0_ | unfold b0_

theorem tableScrub_closed {s : State}  (hq_ : Q s) : Q (tableScrub s) := by
  unfold tableScrub
  repeat' first
    | with_reducible first
      | assumption | intro _ | apply Closed.ite | apply tableRead_closed hP | apply hP.setReg
      | apply Closed.forN | apply Closed.foldl
    | intro _ | extract_lets | split | exact rfl | exact fun h => h

theorem paritySweep_closed {p : Nat} {word : Nat} {bytes : Nat} {s : State}  (hq_ : Q s) : Q (paritySweep p word bytes s) := by
  unfold paritySweep
  try extract_lets a0_ a1_ a2_ a3_ a4_
  try (refine (fun (ha0_ : Q a0_) => ?_) ?_; clear_value a0_)
  try (refine (fun (ha1_ : Q a1_) => ?_) ?_; clear_value a1_)
  try (refine (fun (ha2_ : Q a2_) => ?_) ?_; clear_value a2_)
  try (refine (fun (ha3_ : Q a3_) => ?_) ?_; clear_value a3_)
  try (refine (fun (ha4_ : Q a4_) => ?_) ?_; clear_value a4_)
  repeat' first
    | with_reducible first
      | assumption | intro _ | apply Closed.ite | apply irqSet_closed hP | apply State.setRegN_closed hP
      | apply State.putPgState_closed hP | apply recordErr_closed hP | apply servedSafe_closed hP
      | apply parityReact_closed hP | apply hP.setReg | apply Closed.forN | apply Closed.foldl
    | intro _
    | (extract_lets b0_ b1_ b2_ b3_ b4_
       try (refine (fun (hb0_ : Q b0_) => ?_) ?_; clear_value b0_)
       try (refine (fun (hb1_ : Q b1_) => ?_) ?_; clear_value b1_)
       try (refine (fun (hb2_ : Q b2_) => ?_) ?_; clear_value b2_)
       try (refine (fun (hb3_ : Q b3_) => ?_) ?_; clear_value b3_)
       try (refine (fun (hb4_ : Q b4_) => ?_) ?_; clear_value b4_))
    | split | exact rfl | exact fun h => h | unfold a0_ | unfold a1_ | unfold a2_ | unfold a3_ | unfold a4_
    | unfold b0_ | unfold b1_ | unfold b2_ | unfold b3_ | unfold b4_

end Sys2Proof.Machine
end

