-- ==== Sys2Proof/Laws/ClosedBoot.lean ====
section
/-!
SUPPORT. The operations of Boot.lean keep every property that the primitive writes keep (Laws/Closed.lean).
-/
set_option Elab.async false
set_option linter.all false
set_option linter.unusedVariables false
set_option linter.tactic.unusedName false

namespace Sys2Proof.Machine

variable {Q : State → Prop} (hP : Closed Q)
include hP


theorem loadCounts_closed {s : State}  (hq_ : Q s) : Q (loadCounts s) := by
  unfold loadCounts
  try extract_lets a0_ a1_
  try (refine (fun (ha0_ : Q a0_) => ?_) ?_; clear_value a0_)
  try (refine (fun (ha1_ : Q a1_) => ?_) ?_; clear_value a1_)
  repeat' first
    | with_reducible first
      | assumption | intro _ | apply Closed.ite | apply State.setRegN_closed hP | apply hP.setReg
      | apply Closed.forN | apply Closed.foldl
    | intro _
    | (extract_lets b0_ b1_
       try (refine (fun (hb0_ : Q b0_) => ?_) ?_; clear_value b0_)
       try (refine (fun (hb1_ : Q b1_) => ?_) ?_; clear_value b1_))
    | split | exact rfl | exact fun h => h | unfold a0_ | unfold a1_ | unfold b0_ | unfold b1_

omit hP in
theorem bootKept_wfTo {b : Boot} {x : Boot} (h0 : x.fuse0 = b.fuse0) (h1 : x.fuse1 = b.fuse1) (h2 : x.fuse2 = b.fuse2)
    (hs : x.staging = b.staging) : b.wfTo x := by
  unfold Boot.wfTo Boot.fusesUpTo
  rw [h0, h1, h2, hs]
  exact ⟨fun h => h, fun _ => ⟨fun h => h, fun h => h, fun h => h⟩⟩
theorem inReset_closed {warm : Bool} {s0 : State} (h : Q s0) : Q (inReset warm s0) := by
  unfold inReset
  have hs := dropInstall_closed hP h
  refine Closed.forN (fun _ _ ht => State.setB_closed hP ht) ?_
  refine Closed.ite ?_ (loadCounts_closed hP (hP.blank _ _ _ _ _ (bootKept_wfTo rfl rfl rfl rfl) (fun h => h) hs))
  unfold carryWarm
  refine Closed.foldl (fun _ _ ht => State.setB_closed hP ht) (hP.setReg _ _ _ ?_)
  refine Closed.forN (fun _ _ ht => Closed.ite (State.putPgState_closed hP ht) ht) ?_
  refine Closed.foldl (fun _ _ ht => State.setF_closed hP ht) ?_
  dsimp only
  refine hP.blankWarm (dropInstall s0) _ _ _ _ _ _ _ _ ?_ ?_ ?_ ?_ hs
  · exact bootKept_wfTo rfl rfl rfl rfl
  · exact fun h => h
  · exact fun h => h
  · exact fun e => (List.length_map _).trans e

theorem selectSlots_closed {kind : Nat} {s : State}  (hq_ : Q s) : Q ((selectSlots kind s).2) := by
  unfold selectSlots
  try extract_lets a0_ a1_ a2_ a3_ a4_ a5_
  try (refine (fun (ha0_ : Q a0_) => ?_) ?_; clear_value a0_)
  try (refine (fun (ha1_ : Q a1_) => ?_) ?_; clear_value a1_)
  try (refine (fun (ha2_ : Q a2_) => ?_) ?_; clear_value a2_)
  try (refine (fun (ha3_ : Q a3_) => ?_) ?_; clear_value a3_)
  try (refine (fun (ha4_ : Q a4_) => ?_) ?_; clear_value a4_)
  try (refine (fun (ha5_ : Q a5_) => ?_) ?_; clear_value a5_)
  repeat' first
    | with_reducible first
      | assumption | intro _ | apply Closed.ite | apply fallBack_closed hP | apply State.setF_closed hP
      | apply hP.setReg | apply Closed.forN | apply Closed.foldl
    | intro _
    | (extract_lets b0_ b1_ b2_ b3_ b4_ b5_
       try (refine (fun (hb0_ : Q b0_) => ?_) ?_; clear_value b0_)
       try (refine (fun (hb1_ : Q b1_) => ?_) ?_; clear_value b1_)
       try (refine (fun (hb2_ : Q b2_) => ?_) ?_; clear_value b2_)
       try (refine (fun (hb3_ : Q b3_) => ?_) ?_; clear_value b3_)
       try (refine (fun (hb4_ : Q b4_) => ?_) ?_; clear_value b4_)
       try (refine (fun (hb5_ : Q b5_) => ?_) ?_; clear_value b5_))
    | split | exact rfl | exact fun h => h | unfold a0_ | unfold a1_ | unfold a2_ | unfold a3_ | unfold a4_
    | unfold a5_ | unfold b0_ | unfold b1_ | unfold b2_ | unfold b3_ | unfold b4_ | unfold b5_
theorem selectSlots_next {kind : Nat} {s : State} {r0_} {t_ : State} (e : selectSlots kind s = (r0_, t_))  (hq_ : Q s) : Q t_ := by
  have h2_ : Q ((selectSlots kind s).2) := selectSlots_closed hP  hq_
  rw [e] at h2_; exact h2_

theorem selectSlot_closed {k : Nat} {s : State}  (hq_ : Q s) : Q (selectSlot k s) := by
  unfold selectSlot
  repeat' first
    | with_reducible first
      | assumption | intro _ | apply Closed.ite | apply State.setB_closed hP | apply hP.setReg
      | apply Closed.forN | apply Closed.foldl
    | intro _ | extract_lets | split | exact rfl | exact fun h => h

theorem openSlots_closed {r : BootReport} {take : Nat → State → Bool × State} {ks : List Nat} {s : State}
    (ht : ∀ k t, Q t → Q (take k t).2) (h : Q s) : Q (openSlots r take ks s).2 := by
  induction ks generalizing s with
  | nil => exact h
  | cons k ks ih =>
    unfold openSlots
    extract_lets f t
    have hc : Q t := cryptCount_closed hP h
    split
    · have := ht k t hc
      split
      rename_i ok u e
      rw [e] at this
      split
      · exact selectSlot_closed hP this
      · exact ih this
    · exact ih (setSlot_closed hP hc)
theorem openSlots_next {r : BootReport} {take : Nat → State → Bool × State} {ks : List Nat} {s t : State} {b : Bool}
    (e : openSlots r take ks s = (b, t)) (ht : ∀ k t, Q t → Q (take k t).2) (h : Q s) : Q t := by
  have := openSlots_closed hP (r := r) (ks := ks) ht h
  rw [e] at this; exact this

theorem setKey_closed {j : Nat} {key : List Byte} {s : State}  (hq_ : Q s) : Q (setKey j key s) := by
  unfold setKey
  try extract_lets a0_ a1_
  try (refine (fun (ha0_ : Q a0_) => ?_) ?_; clear_value a0_)
  try (refine (fun (ha1_ : Q a1_) => ?_) ?_; clear_value a1_)
  repeat' first
    | with_reducible first
      | assumption | intro _ | refine hP.shp _ _ (by assumption) | apply Closed.ite
      | apply State.setB_closed hP | apply hP.setReg | apply Closed.forN | apply Closed.foldl
      | apply Memory.writeN_wf | apply Memory.writeLe_wf | apply Memory.copy_wf | apply Memory.splice_wf
      | apply Memory.clear_wf | apply Memory.write_wf | apply Memory.foldl_copy_wf
      | apply Memory.foldl_writeN_wf | apply State.lane_wf
    | intro _
    | (extract_lets b0_ b1_
       try (refine (fun (hb0_ : Q b0_) => ?_) ?_; clear_value b0_)
       try (refine (fun (hb1_ : Q b1_) => ?_) ?_; clear_value b1_))
    | split | with_reducible refine hP.shp _ _ ?_ | exact rfl | exact fun h => h | unfold a0_ | unfold a1_
    | unfold b0_ | unfold b1_

theorem blockWrite_closed {mem : Nat} {off : Nat} {bs : List Byte} {s : State}  (hq_ : Q s) : Q (blockWrite mem off bs s) := by
  unfold blockWrite
  try extract_lets a0_ a1_ a2_
  try (refine (fun (ha0_ : Q a0_) => ?_) ?_; clear_value a0_)
  try (refine (fun (ha1_ : Q a1_) => ?_) ?_; clear_value a1_)
  try (refine (fun (ha2_ : Q a2_) => ?_) ?_; clear_value a2_)
  repeat' first
    | with_reducible first
      | assumption | intro _ | refine hP.relay _ _ ?_ (by assumption) | apply Closed.ite
      | apply freshWords_closed hP | apply schedLoad_closed hP | apply updSafety_closed hP
      | apply setKey_closed hP | apply hP.setReg | apply Closed.forN | apply Closed.foldl
      | apply Memory.writeN_wf | apply Memory.writeLe_wf | apply Memory.copy_wf | apply Memory.splice_wf
      | apply Memory.clear_wf | apply Memory.write_wf | apply Memory.foldl_copy_wf
      | apply Memory.foldl_writeN_wf | apply State.lane_wf
    | intro _
    | (extract_lets b0_ b1_ b2_
       try (refine (fun (hb0_ : Q b0_) => ?_) ?_; clear_value b0_)
       try (refine (fun (hb1_ : Q b1_) => ?_) ?_; clear_value b1_)
       try (refine (fun (hb2_ : Q b2_) => ?_) ?_; clear_value b2_))
    | split | with_reducible refine hP.relay _ _ ?_ ?_ | exact rfl | exact fun h => h | unfold a0_
    | unfold a1_ | unfold a2_ | unfold b0_ | unfold b1_ | unfold b2_

theorem applyCfgEntry_closed {bs : List Byte} {fin pos next : Nat} {s t : State}
    (e : applyCfgEntry bs fin pos s = .inr (next, t)) (h : Q s) : Q t := by
  unfold applyCfgEntry at e
  extract_lets w0 w1 typ page a len at e
  split at e
  · cases e
  · split at e
    · split at e <;> cases e
      exact writeEffect_closed hP h
    · split at e
      · split at e
        · cases e
        · split at e
          · cases e
          · split at e
            · cases e
            · injection e with e
              injection e with _ e
              exact e ▸ blockWrite_closed hP h
      · split at e
        · split at e
          · cases e
          · split at e <;> cases e
            exact updBoot_closed hP (fun _ => bootKept_wfTo rfl rfl rfl rfl) h
        · cases e
theorem applyEntries_closed {bs : List Byte} {fin n i pos : Nat} {s t : State}
    (e : applyEntries bs fin n i pos s = .inr t) (h : Q s) : Q t := by
  induction n generalizing i pos s with
  | zero => cases e; exact h
  | succ n ih =>
    unfold applyEntries at e
    split at e
    · cases e
    · exact ih e (applyCfgEntry_closed hP ‹_› h)
theorem applyRecord_closed {bs : List Byte} {s t : State} (e : applyRecord bs s = .inr t) (h : Q s) : Q t := by
  unfold applyRecord at e
  extract_lets len crc at e
  split at e
  · cases e
  · split at e
    · cases e
    · split at e
      · cases e
      · split at e
        · cases e
        · split at e <;> cases e
          exact State.setRegN_closed hP (applyEntries_closed hP ‹_› h)
theorem takeConfig_closed {k : Nat} {s : State} (h : Q s) : Q (takeConfig k s).2 := by
  unfold takeConfig
  split
  · exact applyRecord_closed hP ‹_› h
  · exact State.setRegN_closed hP h

theorem loadFuses_closed {s : State}  (hq_ : Q s) : Q (loadFuses s) := by
  unfold loadFuses
  try extract_lets a0_ a1_ a2_ a3_ a4_ a5_
  try (refine (fun (ha0_ : Q a0_) => ?_) ?_; clear_value a0_)
  try (refine (fun (ha1_ : Q a1_) => ?_) ?_; clear_value a1_)
  try (refine (fun (ha2_ : Q a2_) => ?_) ?_; clear_value a2_)
  try (refine (fun (ha3_ : Q a3_) => ?_) ?_; clear_value a3_)
  try (refine (fun (ha4_ : Q a4_) => ?_) ?_; clear_value a4_)
  try (refine (fun (ha5_ : Q a5_) => ?_) ?_; clear_value a5_)
  repeat' first
    | with_reducible first
      | assumption | intro _ | apply Closed.ite | apply State.setRegN_closed hP
      | apply State.setReg64_closed hP | apply State.setB_closed hP | apply State.setF_closed hP
      | apply State.setPgState_closed hP | apply hP.setReg | apply Closed.forN | apply Closed.foldl
    | intro _
    | (extract_lets b0_ b1_ b2_ b3_ b4_ b5_
       try (refine (fun (hb0_ : Q b0_) => ?_) ?_; clear_value b0_)
       try (refine (fun (hb1_ : Q b1_) => ?_) ?_; clear_value b1_)
       try (refine (fun (hb2_ : Q b2_) => ?_) ?_; clear_value b2_)
       try (refine (fun (hb3_ : Q b3_) => ?_) ?_; clear_value b3_)
       try (refine (fun (hb4_ : Q b4_) => ?_) ?_; clear_value b4_)
       try (refine (fun (hb5_ : Q b5_) => ?_) ?_; clear_value b5_))
    | split | exact rfl | exact fun h => h | unfold a0_ | unfold a1_ | unfold a2_ | unfold a3_ | unfold a4_
    | unfold a5_ | unfold b0_ | unfold b1_ | unfold b2_ | unfold b3_ | unfold b4_ | unfold b5_

theorem bootStep_closed {j : Nat} {s : State}  (hq_ : Q s) : Q (bootStep j s) := by
  unfold bootStep
  repeat' first
    | with_reducible first
      | assumption | intro _ | apply Closed.ite | apply State.setF_closed hP | apply hP.setReg
      | apply Closed.forN | apply Closed.foldl
    | intro _ | extract_lets | split | exact rfl | exact fun h => h

theorem stageTimes_closed {n : Nat} {s : State}  (hq_ : Q s) : Q (stageTimes n s) := by
  unfold stageTimes
  repeat' first
    | with_reducible first
      | assumption | intro _ | apply Closed.ite | apply State.setRegN_closed hP | apply hP.setReg
      | apply Closed.forN | apply Closed.foldl
    | intro _ | extract_lets | split | exact rfl | exact fun h => h

theorem bootStops_closed {code : Nat} {s : State}  (hq_ : Q s) : Q (bootStops code s) := by
  unfold bootStops
  try extract_lets a0_ a1_ a2_ a3_ a4_ a5_ a6_ a7_ a8_
  try (refine (fun (ha0_ : Q a0_) => ?_) ?_; clear_value a0_)
  try (refine (fun (ha1_ : Q a1_) => ?_) ?_; clear_value a1_)
  try (refine (fun (ha2_ : Q a2_) => ?_) ?_; clear_value a2_)
  try (refine (fun (ha3_ : Q a3_) => ?_) ?_; clear_value a3_)
  try (refine (fun (ha4_ : Q a4_) => ?_) ?_; clear_value a4_)
  try (refine (fun (ha5_ : Q a5_) => ?_) ?_; clear_value a5_)
  try (refine (fun (ha6_ : Q a6_) => ?_) ?_; clear_value a6_)
  try (refine (fun (ha7_ : Q a7_) => ?_) ?_; clear_value a7_)
  try (refine (fun (ha8_ : Q a8_) => ?_) ?_; clear_value a8_)
  repeat' first
    | with_reducible first
      | assumption | intro _ | apply Closed.ite | apply stageTimes_closed hP | apply State.setF_closed hP
      | apply State.bump_closed hP | apply State.putPgState_closed hP | apply State.setB_closed hP
      | apply setOwner_closed hP | apply State.setPgState_closed hP | apply updRest_closed hP
      | apply updBoot_closed hP | apply recordErr_closed hP | apply hP.setReg | apply Closed.forN
      | apply Closed.foldl
    | intro _
    | (extract_lets b0_ b1_ b2_ b3_ b4_ b5_ b6_ b7_ b8_
       try (refine (fun (hb0_ : Q b0_) => ?_) ?_; clear_value b0_)
       try (refine (fun (hb1_ : Q b1_) => ?_) ?_; clear_value b1_)
       try (refine (fun (hb2_ : Q b2_) => ?_) ?_; clear_value b2_)
       try (refine (fun (hb3_ : Q b3_) => ?_) ?_; clear_value b3_)
       try (refine (fun (hb4_ : Q b4_) => ?_) ?_; clear_value b4_)
       try (refine (fun (hb5_ : Q b5_) => ?_) ?_; clear_value b5_)
       try (refine (fun (hb6_ : Q b6_) => ?_) ?_; clear_value b6_)
       try (refine (fun (hb7_ : Q b7_) => ?_) ?_; clear_value b7_)
       try (refine (fun (hb8_ : Q b8_) => ?_) ?_; clear_value b8_))
    | split | exact ⟨fun h => h, fun _ => ⟨fun h => h, fun h => h, fun h => h⟩⟩ | exact rfl
    | exact fun h => h | unfold a0_ | unfold a1_ | unfold a2_ | unfold a3_ | unfold a4_ | unfold a5_
    | unfold a6_ | unfold a7_ | unfold a8_ | unfold b0_ | unfold b1_ | unfold b2_ | unfold b3_ | unfold b4_
    | unfold b5_ | unfold b6_ | unfold b7_ | unfold b8_

theorem bootMarchTest_closed {fails : List MarchFail} {s : State} (h : Q s) : Q (bootMarchTest fails s).2 := by
  unfold bootMarchTest
  extract_lets lanes failOf test a bad b
  have ha : Q a := by
    refine Closed.foldl (fun t m ht => ?_) (State.setB_closed hP h)
    exact State.setRegN_closed hP (State.fresh_closed hP (marchResult_closed hP (marchClears_closed hP ht)))
  show Q b
  clear_value a bad
  unfold b
  split
  · exact laneFault_closed hP ha
  · exact ha
theorem bootMarchTest_next {fails : List MarchFail} {s t : State} {b : Bool} (e : bootMarchTest fails s = (b, t))
    (h : Q s) : Q t := by
  have := bootMarchTest_closed hP (fails := fails) h
  rw [e] at this; exact this

theorem takeFirmware_closed {k : Nat} {s : State}  (hq_ : Q s) : Q ((takeFirmware k s).2) := by
  unfold takeFirmware
  try extract_lets a0_ a1_ a2_
  try (refine (fun (ha0_ : Q a0_) => ?_) ?_; clear_value a0_)
  try (refine (fun (ha1_ : Q a1_) => ?_) ?_; clear_value a1_)
  try (refine (fun (ha2_ : Q a2_) => ?_) ?_; clear_value a2_)
  repeat' first
    | with_reducible first
      | assumption | intro _ | refine hP.lanes _ _ ?_ ?_ (by assumption) | apply Closed.ite
      | apply freshWords_closed hP | apply updLane_closed hP | apply State.setB_closed hP | apply hP.setReg
      | apply Closed.forN | apply Closed.foldl | apply Memory.writeN_wf | apply Memory.writeLe_wf
      | apply Memory.copy_wf | apply Memory.splice_wf | apply Memory.clear_wf | apply Memory.write_wf
      | apply Memory.foldl_copy_wf | apply Memory.foldl_writeN_wf | apply State.lane_wf
    | intro _
    | (extract_lets b0_ b1_ b2_
       try (refine (fun (hb0_ : Q b0_) => ?_) ?_; clear_value b0_)
       try (refine (fun (hb1_ : Q b1_) => ?_) ?_; clear_value b1_)
       try (refine (fun (hb2_ : Q b2_) => ?_) ?_; clear_value b2_))
    | split | with_reducible refine hP.lanes _ _ ?_ ?_ ?_ | exact rfl | exact fun h => h
    | exact fun _ _ h => h | unfold a0_ | unfold a1_ | unfold a2_ | unfold b0_ | unfold b1_ | unfold b2_
theorem takeFirmware_next {k : Nat} {s : State} {r0_} {t_ : State} (e : takeFirmware k s = (r0_, t_))  (hq_ : Q s) : Q t_ := by
  have h2_ : Q ((takeFirmware k s).2) := takeFirmware_closed hP  hq_
  rw [e] at h2_; exact h2_

theorem takeApplication_closed {k : Nat} {s : State}  (hq_ : Q s) : Q ((takeApplication k s).2) := by
  unfold takeApplication
  try extract_lets a0_ a1_ a2_
  try (refine (fun (ha0_ : Q a0_) => ?_) ?_; clear_value a0_)
  try (refine (fun (ha1_ : Q a1_) => ?_) ?_; clear_value a1_)
  try (refine (fun (ha2_ : Q a2_) => ?_) ?_; clear_value a2_)
  repeat' first
    | with_reducible first
      | assumption | intro _ | apply Closed.ite | apply admRecord_closed hP | apply admPassed_closed hP
      | apply installProgram_closed hP | apply setSlot_closed hP | apply hP.setReg | apply Closed.forN
      | apply Closed.foldl
    | intro _
    | (extract_lets b0_ b1_ b2_
       try (refine (fun (hb0_ : Q b0_) => ?_) ?_; clear_value b0_)
       try (refine (fun (hb1_ : Q b1_) => ?_) ?_; clear_value b1_)
       try (refine (fun (hb2_ : Q b2_) => ?_) ?_; clear_value b2_))
    | split | exact rfl | exact fun h => h | unfold a0_ | unfold a1_ | unfold a2_ | unfold b0_ | unfold b1_
    | unfold b2_
theorem takeApplication_next {k : Nat} {s : State} {r0_} {t_ : State} (e : takeApplication k s = (r0_, t_))  (hq_ : Q s) : Q t_ := by
  have h2_ : Q ((takeApplication k s).2) := takeApplication_closed hP  hq_
  rw [e] at h2_; exact h2_

theorem bootImages_closed {r : BootReport} {s : State}  (hq_ : Q s) : Q (bootImages r s) := by
  unfold bootImages
  try extract_lets a0_ a1_ a2_ a3_ a4_ a5_
  try (refine (fun (ha0_ : Q a0_) => ?_) ?_; clear_value a0_)
  try (refine (fun (ha1_ : Q a1_) => ?_) ?_; clear_value a1_)
  try (refine (fun (ha2_ : Q a2_) => ?_) ?_; clear_value a2_)
  try (refine (fun (ha3_ : Q a3_) => ?_) ?_; clear_value a3_)
  try (refine (fun (ha4_ : Q a4_) => ?_) ?_; clear_value a4_)
  try (refine (fun (ha5_ : Q a5_) => ?_) ?_; clear_value a5_)
  repeat' first
    | with_reducible first
      | assumption | intro _ | apply Closed.ite | apply selectSlots_closed hP | apply bootStep_closed hP
      | apply openSlots_closed hP | apply takeConfig_closed hP | apply bootStops_closed hP
      | apply takeFirmware_closed hP | apply takeApplication_closed hP | apply startRestore_closed hP
      | apply State.setB_closed hP | apply hP.setReg | apply Closed.forN | apply Closed.foldl
    | intro _ | refine selectSlots_next hP (by assumption) ?_
    | refine openSlots_next hP (by assumption) ?_ ?_ | refine takeConfig_next hP (by assumption) ?_
    | refine takeFirmware_next hP (by assumption) ?_ | refine takeApplication_next hP (by assumption) ?_
    | (extract_lets b0_ b1_ b2_ b3_ b4_ b5_
       try (refine (fun (hb0_ : Q b0_) => ?_) ?_; clear_value b0_)
       try (refine (fun (hb1_ : Q b1_) => ?_) ?_; clear_value b1_)
       try (refine (fun (hb2_ : Q b2_) => ?_) ?_; clear_value b2_)
       try (refine (fun (hb3_ : Q b3_) => ?_) ?_; clear_value b3_)
       try (refine (fun (hb4_ : Q b4_) => ?_) ?_; clear_value b4_)
       try (refine (fun (hb5_ : Q b5_) => ?_) ?_; clear_value b5_))
    | split | exact rfl | exact fun h => h | unfold a0_ | unfold a1_ | unfold a2_ | unfold a3_ | unfold a4_
    | unfold a5_ | unfold b0_ | unfold b1_ | unfold b2_ | unfold b3_ | unfold b4_ | unfold b5_

theorem bootRun_closed {r : BootReport} {cycle : Bool} {s : State}  (hq_ : Q s) : Q (bootRun r cycle s) := by
  unfold bootRun
  try extract_lets a0_ a1_ a2_ a3_ a4_ a5_ a6_ a7_
  try (refine (fun (ha0_ : Q a0_) => ?_) ?_; clear_value a0_)
  try (refine (fun (ha1_ : Q a1_) => ?_) ?_; clear_value a1_)
  try (refine (fun (ha2_ : Q a2_) => ?_) ?_; clear_value a2_)
  try (refine (fun (ha3_ : Q a3_) => ?_) ?_; clear_value a3_)
  try (refine (fun (ha4_ : Q a4_) => ?_) ?_; clear_value a4_)
  try (refine (fun (ha5_ : Q a5_) => ?_) ?_; clear_value a5_)
  try (refine (fun (ha6_ : Q a6_) => ?_) ?_; clear_value a6_)
  try (refine (fun (ha7_ : Q a7_) => ?_) ?_; clear_value a7_)
  repeat' first
    | with_reducible first
      | assumption | intro _ | apply Closed.ite | apply updBoot_closed hP | apply bootStep_closed hP
      | apply recordResume_closed hP | apply State.bump_closed hP | apply State.putPgState_closed hP
      | apply loadFuses_closed hP | apply bootStops_closed hP | apply State.setRegN_closed hP
      | apply State.setPgState_closed hP | apply bootMarchTest_closed hP | apply injEnd_closed hP
      | apply startInj_closed hP | apply bootImages_closed hP | apply hP.setReg | apply Closed.forN
      | apply Closed.foldl
    | intro _ | refine bootMarchTest_next hP (by assumption) ?_
    | (extract_lets b0_ b1_ b2_ b3_ b4_ b5_ b6_ b7_
       try (refine (fun (hb0_ : Q b0_) => ?_) ?_; clear_value b0_)
       try (refine (fun (hb1_ : Q b1_) => ?_) ?_; clear_value b1_)
       try (refine (fun (hb2_ : Q b2_) => ?_) ?_; clear_value b2_)
       try (refine (fun (hb3_ : Q b3_) => ?_) ?_; clear_value b3_)
       try (refine (fun (hb4_ : Q b4_) => ?_) ?_; clear_value b4_)
       try (refine (fun (hb5_ : Q b5_) => ?_) ?_; clear_value b5_)
       try (refine (fun (hb6_ : Q b6_) => ?_) ?_; clear_value b6_)
       try (refine (fun (hb7_ : Q b7_) => ?_) ?_; clear_value b7_))
    | split | exact ⟨fun h => h, fun _ => ⟨fun h => h, fun h => h, fun h => h⟩⟩ | exact rfl
    | exact fun h => h | unfold a0_ | unfold a1_ | unfold a2_ | unfold a3_ | unfold a4_ | unfold a5_
    | unfold a6_ | unfold a7_ | unfold b0_ | unfold b1_ | unfold b2_ | unfold b3_ | unfold b4_ | unfold b5_
    | unfold b6_ | unfold b7_

theorem showUnswitched_closed {s : State}  (hq_ : Q s) : Q (showUnswitched s) := by
  unfold showUnswitched
  dsimp only
  repeat' first
    | with_reducible first
      | assumption | intro _ | apply Closed.ite | apply State.setPgState_closed hP

theorem bootOwnPages_closed {s : State}  (hq_ : Q s) : Q (bootOwnPages s) := by
  unfold bootOwnPages
  try extract_lets a0_ a1_ a2_ a3_
  try (refine (fun (ha0_ : Q a0_) => ?_) ?_; clear_value a0_)
  try (refine (fun (ha1_ : Q a1_) => ?_) ?_; clear_value a1_)
  try (refine (fun (ha2_ : Q a2_) => ?_) ?_; clear_value a2_)
  try (refine (fun (ha3_ : Q a3_) => ?_) ?_; clear_value a3_)
  repeat' first
    | with_reducible first
      | assumption | intro _ | apply Closed.ite | apply State.setEn_closed hP
      | apply State.setPgState_closed hP | apply State.putPgState_closed hP | apply countedLanes_closed hP | apply showUnswitched_closed hP
      | apply hP.setReg | apply Closed.forN | apply Closed.foldl
    | intro _
    | (extract_lets b0_ b1_ b2_ b3_
       try (refine (fun (hb0_ : Q b0_) => ?_) ?_; clear_value b0_)
       try (refine (fun (hb1_ : Q b1_) => ?_) ?_; clear_value b1_)
       try (refine (fun (hb2_ : Q b2_) => ?_) ?_; clear_value b2_)
       try (refine (fun (hb3_ : Q b3_) => ?_) ?_; clear_value b3_))
    | split | exact rfl | exact fun h => h | unfold a0_ | unfold a1_ | unfold a2_ | unfold a3_ | unfold b0_
    | unfold b1_ | unfold b2_ | unfold b3_

theorem releaseMode_closed {s : State}  (hq_ : Q s) : Q (releaseMode s) := by
  unfold releaseMode
  try extract_lets a0_ a1_ a2_
  try (refine (fun (ha0_ : Q a0_) => ?_) ?_; clear_value a0_)
  try (refine (fun (ha1_ : Q a1_) => ?_) ?_; clear_value a1_)
  try (refine (fun (ha2_ : Q a2_) => ?_) ?_; clear_value a2_)
  repeat' first
    | with_reducible first
      | assumption | intro _ | apply Closed.ite | apply setMode_closed hP | apply State.setF_closed hP
      | apply updBoot_closed hP | apply hP.setReg | apply Closed.forN | apply Closed.foldl
    | intro _
    | (extract_lets b0_ b1_ b2_
       try (refine (fun (hb0_ : Q b0_) => ?_) ?_; clear_value b0_)
       try (refine (fun (hb1_ : Q b1_) => ?_) ?_; clear_value b1_)
       try (refine (fun (hb2_ : Q b2_) => ?_) ?_; clear_value b2_))
    | split | exact ⟨fun h => h, fun _ => ⟨fun h => h, fun h => h, fun h => h⟩⟩ | exact rfl
    | exact fun h => h | unfold a0_ | unfold a1_ | unfold a2_ | unfold b0_ | unfold b1_ | unfold b2_

theorem pendingAdvance_closed {s : State}  (hq_ : Q s) : Q (pendingAdvance s) := by
  unfold pendingAdvance
  repeat' first
    | with_reducible first
      | assumption | intro _ | apply Closed.ite | apply advanceArb_closed hP | apply hP.setReg
      | apply Closed.forN | apply Closed.foldl
    | intro _ | extract_lets | split | exact rfl | exact fun h => h

theorem releaseNow_closed {s : State}  (hq_ : Q s) : Q (releaseNow s) := by
  unfold releaseNow
  try extract_lets a0_ a1_ a2_ a3_ a4_ a5_ a6_ a7_
  try (refine (fun (ha0_ : Q a0_) => ?_) ?_; clear_value a0_)
  try (refine (fun (ha1_ : Q a1_) => ?_) ?_; clear_value a1_)
  try (refine (fun (ha2_ : Q a2_) => ?_) ?_; clear_value a2_)
  try (refine (fun (ha3_ : Q a3_) => ?_) ?_; clear_value a3_)
  try (refine (fun (ha4_ : Q a4_) => ?_) ?_; clear_value a4_)
  try (refine (fun (ha5_ : Q a5_) => ?_) ?_; clear_value a5_)
  try (refine (fun (ha6_ : Q a6_) => ?_) ?_; clear_value a6_)
  try (refine (fun (ha7_ : Q a7_) => ?_) ?_; clear_value a7_)
  repeat' first
    | with_reducible first
      | assumption | intro _ | apply Closed.ite | apply pendingAdvance_closed hP | apply updBoot_closed hP
      | apply setOwner_closed hP | apply bootOwnPages_closed hP | apply enableNow_closed hP
      | apply updRest_closed hP | apply releaseMode_closed hP | apply stageTimes_closed hP
      | apply State.setRegN_closed hP | apply partRelease_closed hP | apply bootStep_closed hP
      | apply State.setF_closed hP | apply hP.setReg | apply Closed.forN | apply Closed.foldl
    | intro _
    | (extract_lets b0_ b1_ b2_ b3_ b4_ b5_ b6_ b7_
       try (refine (fun (hb0_ : Q b0_) => ?_) ?_; clear_value b0_)
       try (refine (fun (hb1_ : Q b1_) => ?_) ?_; clear_value b1_)
       try (refine (fun (hb2_ : Q b2_) => ?_) ?_; clear_value b2_)
       try (refine (fun (hb3_ : Q b3_) => ?_) ?_; clear_value b3_)
       try (refine (fun (hb4_ : Q b4_) => ?_) ?_; clear_value b4_)
       try (refine (fun (hb5_ : Q b5_) => ?_) ?_; clear_value b5_)
       try (refine (fun (hb6_ : Q b6_) => ?_) ?_; clear_value b6_)
       try (refine (fun (hb7_ : Q b7_) => ?_) ?_; clear_value b7_))
    | split | exact ⟨fun h => h, fun _ => ⟨fun h => h, fun h => h, fun h => h⟩⟩ | exact rfl
    | exact fun h => h | unfold a0_ | unfold a1_ | unfold a2_ | unfold a3_ | unfold a4_ | unfold a5_
    | unfold a6_ | unfold a7_ | unfold b0_ | unfold b1_ | unfold b2_ | unfold b3_ | unfold b4_ | unfold b5_
    | unfold b6_ | unfold b7_

theorem bootFinish_closed {s : State}  (hq_ : Q s) : Q (bootFinish s) := by
  unfold bootFinish
  try extract_lets a0_ a1_
  try (refine (fun (ha0_ : Q a0_) => ?_) ?_; clear_value a0_)
  try (refine (fun (ha1_ : Q a1_) => ?_) ?_; clear_value a1_)
  repeat' first
    | with_reducible first
      | assumption | intro _ | apply Closed.ite | apply bootStep_closed hP | apply releaseNow_closed hP
      | apply updBoot_closed hP | apply hP.setReg | apply Closed.forN | apply Closed.foldl
    | intro _
    | (extract_lets b0_ b1_
       try (refine (fun (hb0_ : Q b0_) => ?_) ?_; clear_value b0_)
       try (refine (fun (hb1_ : Q b1_) => ?_) ?_; clear_value b1_))
    | split | exact ⟨fun h => h, fun _ => ⟨fun h => h, fun h => h, fun h => h⟩⟩ | exact rfl
    | exact fun h => h | unfold a0_ | unfold a1_ | unfold b0_ | unfold b1_

theorem restartNow_closed {r : BootReport} {s : State}  (hq_ : Q s) : Q (restartNow r s) := by
  unfold restartNow
  repeat' first
    | with_reducible first
      | assumption | intro _ | apply Closed.ite | apply bootRun_closed hP | apply inReset_closed hP
      | apply hP.setReg | apply Closed.forN | apply Closed.foldl
    | intro _ | extract_lets | split | exact rfl | exact fun h => h

theorem powerUp_closed {r : BootReport} {s : State}  (hq_ : Q s) : Q (powerUp r s) := by
  unfold powerUp
  try extract_lets a0_ a1_
  try (refine (fun (ha0_ : Q a0_) => ?_) ?_; clear_value a0_)
  try (refine (fun (ha1_ : Q a1_) => ?_) ?_; clear_value a1_)
  repeat' first
    | with_reducible first
      | assumption | intro _ | apply Closed.ite | apply bootRun_closed hP | apply inReset_closed hP
      | apply updBoot_closed hP | apply hP.setReg | apply Closed.forN | apply Closed.foldl
    | intro _
    | (extract_lets b0_ b1_
       try (refine (fun (hb0_ : Q b0_) => ?_) ?_; clear_value b0_)
       try (refine (fun (hb1_ : Q b1_) => ?_) ?_; clear_value b1_))
    | split | exact ⟨fun h => h, fun _ => ⟨fun h => h, fun h => h, fun h => h⟩⟩ | exact rfl
    | exact fun h => h | unfold a0_ | unfold a1_ | unfold b0_ | unfold b1_

theorem powerLoss_closed {s : State}  (hq_ : Q s) : Q (powerLoss s) := by
  unfold powerLoss
  repeat' first
    | with_reducible first
      | assumption | intro _ | apply Closed.ite | apply inReset_closed hP | apply hP.setReg
      | apply Closed.forN | apply Closed.foldl
    | intro _ | extract_lets | split | exact rfl | exact fun h => h

theorem addWait_closed {s : State}  (hq_ : Q s) : Q (addWait s) := by
  unfold addWait
  try extract_lets a0_
  try (refine (fun (ha0_ : Q a0_) => ?_) ?_; clear_value a0_)
  repeat' first
    | with_reducible first
      | assumption | intro _ | apply Closed.ite | apply updBoot_closed hP | apply hP.setReg
      | apply Closed.forN | apply Closed.foldl | apply Memory.writeN_wf | apply Memory.writeLe_wf
      | apply Memory.copy_wf | apply Memory.splice_wf | apply Memory.clear_wf | apply Memory.write_wf
      | apply Memory.foldl_copy_wf | apply Memory.foldl_writeN_wf | apply State.lane_wf
    | intro _
    | (extract_lets b0_
       try (refine (fun (hb0_ : Q b0_) => ?_) ?_; clear_value b0_))
    | split | exact ⟨fun h => h, fun _ => ⟨fun h => h, fun h => h, fun h => h⟩⟩ | exact rfl
    | exact fun h => h | unfold a0_ | unfold b0_

theorem holdupCharged_closed {s : State}  (hq_ : Q s) : Q (holdupCharged s) := by
  unfold holdupCharged
  try extract_lets a0_ a1_
  try (refine (fun (ha0_ : Q a0_) => ?_) ?_; clear_value a0_)
  try (refine (fun (ha1_ : Q a1_) => ?_) ?_; clear_value a1_)
  repeat' first
    | with_reducible first
      | assumption | intro _ | apply Closed.ite | apply updBoot_closed hP | apply releaseNow_closed hP
      | apply addWait_closed hP | apply hP.setReg | apply Closed.forN | apply Closed.foldl
    | intro _
    | (extract_lets b0_ b1_
       try (refine (fun (hb0_ : Q b0_) => ?_) ?_; clear_value b0_)
       try (refine (fun (hb1_ : Q b1_) => ?_) ?_; clear_value b1_))
    | split | exact ⟨fun h => h, fun _ => ⟨fun h => h, fun h => h, fun h => h⟩⟩ | exact rfl
    | exact fun h => h | unfold a0_ | unfold a1_ | unfold b0_ | unfold b1_

theorem restoreComplete_closed {us : Nat} {s : State}  (hq_ : Q s) : Q (restoreComplete us s) := by
  unfold restoreComplete
  try extract_lets a0_
  try (refine (fun (ha0_ : Q a0_) => ?_) ?_; clear_value a0_)
  repeat' first
    | with_reducible first
      | assumption | intro _ | apply Closed.ite | apply bootFinish_closed hP | apply restoreNow_closed hP
      | apply takeRestored_closed hP | apply hP.setReg | apply Closed.forN | apply Closed.foldl
    | intro _
    | (extract_lets b0_
       try (refine (fun (hb0_ : Q b0_) => ?_) ?_; clear_value b0_))
    | split | exact rfl | exact fun h => h | unfold a0_ | unfold b0_

theorem cmdRestart_closed {iss : Issuer} {arg : Nat} {r : BootReport} {x0_ : State}  (hq_ : Q x0_) : Q (cmdRestart iss arg r x0_) := by
  unfold cmdRestart
  repeat' first
    | with_reducible first
      | assumption | intro _ | apply Closed.ite | apply commandKeyed_closed hP | apply restartNow_closed hP
      | apply finish_closed hP | apply hP.setReg | apply Closed.forN | apply Closed.foldl
    | intro _ | extract_lets | split | exact rfl | exact fun h => h

theorem cmdBootClr_closed {iss : Issuer} {x0_ : State}  (hq_ : Q x0_) : Q (cmdBootClr iss x0_) := by
  unfold cmdBootClr
  repeat' first
    | with_reducible first
      | assumption | intro _ | apply Closed.ite | apply quick_closed hP | apply State.clear_closed hP
      | apply hP.setReg | apply Closed.forN | apply Closed.foldl | apply Memory.writeN_wf
      | apply Memory.writeLe_wf | apply Memory.copy_wf | apply Memory.splice_wf | apply Memory.clear_wf
      | apply Memory.write_wf | apply Memory.foldl_copy_wf | apply Memory.foldl_writeN_wf
      | apply State.lane_wf
    | intro _ | extract_lets | split | exact rfl | exact fun h => h

theorem trialWinEnds_closed {r : BootReport} {s : State}  (hq_ : Q s) : Q (trialWinEnds r s) := by
  unfold trialWinEnds
  try extract_lets a0_ a1_ a2_
  try (refine (fun (ha0_ : Q a0_) => ?_) ?_; clear_value a0_)
  try (refine (fun (ha1_ : Q a1_) => ?_) ?_; clear_value a1_)
  try (refine (fun (ha2_ : Q a2_) => ?_) ?_; clear_value a2_)
  repeat' first
    | with_reducible first
      | assumption | intro _ | apply Closed.ite | apply fallBack_closed hP | apply startRevert_closed hP
      | apply restartNow_closed hP | apply withdrawNow_closed hP | apply updBoot_closed hP | apply hP.setReg
      | apply Closed.forN | apply Closed.foldl
    | intro _
    | (extract_lets b0_ b1_ b2_
       try (refine (fun (hb0_ : Q b0_) => ?_) ?_; clear_value b0_)
       try (refine (fun (hb1_ : Q b1_) => ?_) ?_; clear_value b1_)
       try (refine (fun (hb2_ : Q b2_) => ?_) ?_; clear_value b2_))
    | split | exact ⟨fun h => h, fun _ => ⟨fun h => h, fun h => h, fun h => h⟩⟩ | exact rfl
    | exact fun h => h | unfold a0_ | unfold a1_ | unfold a2_ | unfold b0_ | unfold b1_ | unfold b2_

end Sys2Proof.Machine
end

