-- ==== Sys2Proof/Laws/ClosedBus.lean ====
section
/-!
SUPPORT. The operations of Bus.lean keep every property that the primitive writes keep (Laws/Closed.lean).
-/
set_option Elab.async false
set_option linter.all false
set_option linter.unusedVariables false
set_option linter.tactic.unusedName false

namespace Sys2Proof.Machine

variable {Q : State → Prop} (hP : Closed Q)
include hP

theorem unknownCommand_closed {c : Call} {s : State} (h : Q s) : Q (unknownCommand c s) := by
  unfold unknownCommand
  exact command_closed hP (fun _ ht => ht) h

theorem pickCommand_closed {c : Call} {cs : List (State → State)} {s : State}
    (hcs : ∀ f ∈ cs, ∀ t, Q t → Q (f t)) (h : Q s) : Q (pickCommand c cs s) := by
  unfold pickCommand
  split
  · exact unknownCommand_closed hP h
  · rcases getAt_mem (d := unknownCommand c) (l := cs) (i := c.op - 0x10) with e | e
    · rw [e]; exact unknownCommand_closed hP h
    · exact hcs _ e _ h

theorem pageCommand_closed {r : BootReport} {iss : Issuer} {p : Nat} {op : Nat} {arg : Nat} {x0_ : State}  (hq_ : Q x0_) : Q (pageCommand r iss p op arg x0_) := by
  unfold pageCommand
  generalize pageKind p = o
  rcases o with _ | ⟨k, i⟩
  · exact unknownCommand_closed hP hq_
  · cases k
    all_goals first
      | exact unknownCommand_closed hP hq_
      | refine pickCommand_closed hP ?_ hq_
    all_goals
      repeat' first
        | refine List.forall_mem_cons.2 ⟨fun t ht => ?_, ?_⟩
        | exact List.forall_mem_nil _
        | with_reducible first
          | assumption | intro _
          | apply unknownCommand_closed hP
          | apply pickCommand_closed hP
          | apply cmdRestart_closed hP
          | apply cmdBootClr_closed hP
          | apply quick_closed hP
          | apply starterClrOvr_closed hP
          | apply starterClrLoad_closed hP
          | apply starterLatch_closed hP
          | apply cmdInjTest_closed hP
          | apply cmdPfcClr_closed hP
          | apply cmdResync_closed hP
          | apply cmdFence_closed hP
          | apply cmdLaneClr_closed hP
          | apply cmdXchgClr_closed hP
          | apply cmdClrMargin_closed hP
          | apply cmdMarch_closed hP
          | apply cmdMemClr_closed hP
          | apply cmdAtomAdd_closed hP
          | apply cmdAtomSwap_closed hP
          | apply cmdLoad_closed hP
          | apply cmdStart_closed hP
          | apply cmdStop_closed hP
          | apply cmdAdmit_closed hP
          | apply cmdUnload_closed hP
          | apply cmdExecClr_closed hP
          | apply cmdStage_closed hP
          | apply cmdArm_closed hP
          | apply cmdDisarm_closed hP
          | apply cmdCancel_closed hP
          | apply cmdConfirm_closed hP
          | apply cmdRevert_closed hP
          | apply cmdSwapClr_closed hP
          | apply cmdHold_closed hP
          | apply cmdStep_closed hP
          | apply cmdContinue_closed hP
          | apply cmdClrForce_closed hP
          | apply cmdDebugClr_closed hP
          | apply cmdBatonClr_closed hP
          | apply cmdDiscard_closed hP
          | apply cmdGrdClr_closed hP
          | apply cmdSlotClaim_closed hP
          | apply cmdSlotRelease_closed hP
          | apply cmdGrdsClr_closed hP
          | apply cmdPacerClr_closed hP
          | apply cmdMbClr_closed hP
          | apply cmdTimeSnap_closed hP
          | apply cmdAdjUnlock_closed hP
          | apply cmdAdjForce_closed hP
          | apply cmdTimeClr_closed hP
          | apply cmdTcapClr_closed hP
          | apply cmdPop_closed hP
          | apply cmdTbLoad_closed hP
          | apply cmdTxfPush_closed hP
          | apply cmdTbAbort_closed hP
          | apply cmdAbortHead_closed hP
          | apply cmdTxfFlush_closed hP
          | apply cmdCanRestart_closed hP
          | apply cmdCanClr_closed hP
          | apply cmdRelayClr_closed hP
          | apply cmdFlush_closed hP
          | apply cmdEthClr_closed hP
          | apply cmdRelink_closed hP
          | apply cmdFldClr_closed hP
          | apply cmdFdgClr_closed hP
          | apply cmdMeasaClr_closed hP
          | apply cmdMeasfClr_closed hP
          | apply cmdResetArm_closed hP
          | apply cmdResetConfirm_closed hP
          | apply cmdSafeClr_closed hP
          | apply cmdSwitchTest_closed hP
          | apply cmdBrakeTest_closed hP
          | apply cmdSboClr_closed hP
          | apply cmdDiscClr_closed hP
          | apply cmdSmsgClr_closed hP
          | apply cmdWithdraw_closed hP
          | apply cmdTakeover_closed hP
          | apply cmdResyncMirror_closed hP
          | apply cmdPartClr_closed hP
          | apply cmdHealthClr_closed hP
          | apply cmdDrop_closed hP
          | apply cmdHostClr_closed hP
          | apply cmdPcieClr_closed hP
          | apply cmdShpClose_closed hP
          | apply cmdShpClr_closed hP
          | apply cmdErase_closed hP
          | apply cmdChunk_closed hP
          | apply cmdInstall_closed hP
          | apply cmdActivate_closed hP
          | apply cmdAbandon_closed hP
          | apply cmdUpdClr_closed hP
          | apply cmdCryptClr_closed hP
          | apply cmdArchived_closed hP
          | apply cmdClrSrc_closed hP
          | apply cmdRecClr_closed hP
          | apply cmdEnvClr_closed hP

theorem cmdWrite_closed {r : BootReport} {iss : Issuer} {p : Nat} {w : Word} {x0_ : State}  (hq_ : Q x0_) : Q (cmdWrite r iss p w x0_) := by
  unfold cmdWrite
  try extract_lets a0_
  try (refine (fun (ha0_ : Q a0_) => ?_) ?_; clear_value a0_)
  repeat' first
    | with_reducible first
      | assumption | intro _ | apply Closed.ite | apply header_closed hP | apply pageCommand_closed hP
      | apply hP.setReg | apply Closed.forN | apply Closed.foldl
    | intro _
    | (extract_lets b0_
       try (refine (fun (hb0_ : Q b0_) => ?_) ?_; clear_value b0_))
    | split | exact rfl | exact fun h => h | unfold a0_ | unfold b0_

theorem busWrite_closed {r : BootReport} {iss : Issuer} {a : Nat} {size : Nat} {w : Word} {s : State}  (hq_ : Q s) : Q (busWrite r iss a size w s) := by
  unfold busWrite
  repeat' first
    | with_reducible first
      | assumption | intro _ | apply Closed.ite | apply regWrite_closed hP | apply cmdWrite_closed hP
      | apply functionReset_closed hP | apply hP.setReg | apply Closed.forN | apply Closed.foldl
    | intro _ | extract_lets | split | exact rfl | exact fun h => h

end Sys2Proof.Machine
end

