-- ==== Sys2Proof/Laws/ClosedRead.lean ====
section
/-!
SUPPORT. The operations of Read.lean keep every property that the primitive writes keep (Laws/Closed.lean).
-/
set_option Elab.async false
set_option linter.all false
set_option linter.unusedVariables false
set_option linter.tactic.unusedName false

namespace Sys2Proof.Machine

variable {Q : State → Prop} (hP : Closed Q)
include hP

theorem busRead_closed {a : Nat} {s : State}  (hq_ : Q s) : Q ((busRead a s).2) := by
  unfold busRead
  try extract_lets a0_ a1_
  try (refine (fun (ha0_ : Q a0_) => ?_) ?_; clear_value a0_)
  try (refine (fun (ha1_ : Q a1_) => ?_) ?_; clear_value a1_)
  repeat' first
    | with_reducible first
      | assumption | intro _ | apply Closed.ite | apply rxfRead_closed hP | apply hP.setReg
      | apply Closed.forN | apply Closed.foldl
    | intro _
    | (extract_lets b0_ b1_
       try (refine (fun (hb0_ : Q b0_) => ?_) ?_; clear_value b0_)
       try (refine (fun (hb1_ : Q b1_) => ?_) ?_; clear_value b1_))
    | split | exact rfl | exact fun h => h | unfold a0_ | unfold a1_ | unfold b0_ | unfold b1_
theorem busRead_next {a : Nat} {s : State} {r0_} {t_ : State} (e : busRead a s = (r0_, t_))  (hq_ : Q s) : Q t_ := by
  have h2_ : Q ((busRead a s).2) := busRead_closed hP  hq_
  rw [e] at h2_; exact h2_

theorem pcieRead_closed {ep : Fin 2} {a : Nat} {size : Nat} {s0 : State}  (hq_ : Q s0) : Q ((pcieRead ep a size s0).2) := by
  unfold pcieRead
  try extract_lets a0_ a1_ a2_
  try (refine (fun (ha0_ : Q a0_) => ?_) ?_; clear_value a0_)
  try (refine (fun (ha1_ : Q a1_) => ?_) ?_; clear_value a1_)
  try (refine (fun (ha2_ : Q a2_) => ?_) ?_; clear_value a2_)
  repeat' first
    | with_reducible first
      | assumption | intro _ | apply Closed.ite | apply countAccess_closed hP | apply accessReject_closed hP
      | apply State.bump_closed hP | apply busRead_closed hP | apply hP.setReg | apply Closed.forN
      | apply Closed.foldl
    | intro _ | refine busRead_next hP (by assumption) ?_
    | (extract_lets b0_ b1_ b2_
       try (refine (fun (hb0_ : Q b0_) => ?_) ?_; clear_value b0_)
       try (refine (fun (hb1_ : Q b1_) => ?_) ?_; clear_value b1_)
       try (refine (fun (hb2_ : Q b2_) => ?_) ?_; clear_value b2_))
    | split | exact rfl | exact fun h => h | unfold a0_ | unfold a1_ | unfold a2_ | unfold b0_ | unfold b1_
    | unfold b2_
theorem pcieRead_next {ep : Fin 2} {a : Nat} {size : Nat} {s0 : State} {r0_} {t_ : State} (e : pcieRead ep a size s0 = (r0_, t_))  (hq_ : Q s0) : Q t_ := by
  have h2_ : Q ((pcieRead ep a size s0).2) := pcieRead_closed hP  hq_
  rw [e] at h2_; exact h2_

end Sys2Proof.Machine
end

