-- ==== Sys2Proof/Laws/ClosedShp.lean ====
section
/-!
SUPPORT. The operations of Shp.lean keep every property that the primitive writes keep (Laws/Closed.lean).
-/
set_option Elab.async false
set_option linter.all false
set_option linter.unusedVariables false
set_option linter.tactic.unusedName false

namespace Sys2Proof.Machine

variable {Q : State → Prop} (hP : Closed Q)
include hP

theorem updSession_closed {j : Nat} {f : Session → Session} {s : State}  (hq_ : Q s) : Q (updSession j f s) := by
  unfold updSession
  try extract_lets a0_ a1_ a2_
  try (refine (fun (ha0_ : Q a0_) => ?_) ?_; clear_value a0_)
  try (refine (fun (ha1_ : Q a1_) => ?_) ?_; clear_value a1_)
  try (refine (fun (ha2_ : Q a2_) => ?_) ?_; clear_value a2_)
  repeat' first
    | with_reducible first
      | assumption | intro _ | refine hP.shp _ _ (by assumption) | apply Closed.ite | apply hP.setReg
      | apply Closed.forN | apply Closed.foldl | apply Memory.writeN_wf | apply Memory.writeLe_wf
      | apply Memory.copy_wf | apply Memory.splice_wf | apply Memory.clear_wf | apply Memory.write_wf
      | apply Memory.foldl_copy_wf | apply Memory.foldl_writeN_wf | apply State.lane_wf
    | intro _
    | (extract_lets b0_ b1_ b2_
       try (refine (fun (hb0_ : Q b0_) => ?_) ?_; clear_value b0_)
       try (refine (fun (hb1_ : Q b1_) => ?_) ?_; clear_value b1_)
       try (refine (fun (hb2_ : Q b2_) => ?_) ?_; clear_value b2_))
    | split | with_reducible refine hP.shp _ _ ?_ | exact rfl | exact fun h => h | unfold a0_ | unfold a1_
    | unfold a2_ | unfold b0_ | unfold b1_ | unfold b2_

theorem ethSent_closed {p : Nat} {s : State}  (hq_ : Q s) : Q (ethSent p s) := by
  unfold ethSent
  repeat' first
    | with_reducible first
      | assumption | intro _ | apply Closed.ite | apply State.bump_closed hP | apply hP.setReg
      | apply Closed.forN | apply Closed.foldl
    | intro _ | extract_lets | split | exact rfl | exact fun h => h

theorem shpSend_closed {x : Session} {j : Nat} {typ : Nat} {seq : Nat} {msg : List Byte} {s : State}  (hq_ : Q s) : Q (shpSend x j typ seq msg s) := by
  unfold shpSend
  repeat' first
    | with_reducible first
      | assumption | intro _ | apply Closed.ite | apply ethSent_closed hP | apply State.send_closed hP
      | apply hP.setReg | apply Closed.forN | apply Closed.foldl
    | intro _ | extract_lets | split | exact rfl | exact fun h => h

theorem eventMessage_closed {x : Session} {j : Nat} {k : Nat} {s : State}  (hq_ : Q s) : Q (eventMessage x j k s) := by
  unfold eventMessage
  repeat' first
    | with_reducible first
      | assumption | intro _ | apply Closed.ite | apply shpSend_closed hP | apply hP.setReg
      | apply Closed.forN | apply Closed.foldl
    | intro _ | extract_lets | split | exact rfl | exact fun h => h

theorem sendEvent_closed {j : Nat} {s : State}  (hq_ : Q s) : Q (sendEvent j s) := by
  unfold sendEvent
  try extract_lets a0_ a1_ a2_ a3_
  try (refine (fun (ha0_ : Q a0_) => ?_) ?_; clear_value a0_)
  try (refine (fun (ha1_ : Q a1_) => ?_) ?_; clear_value a1_)
  try (refine (fun (ha2_ : Q a2_) => ?_) ?_; clear_value a2_)
  try (refine (fun (ha3_ : Q a3_) => ?_) ?_; clear_value a3_)
  repeat' first
    | with_reducible first
      | assumption | intro _ | apply Closed.ite | apply eventMessage_closed hP | apply State.bump_closed hP
      | apply updSession_closed hP | apply State.setB_closed hP | apply hP.setReg | apply Closed.forN
      | apply Closed.foldl
    | intro _
    | (extract_lets b0_ b1_ b2_ b3_
       try (refine (fun (hb0_ : Q b0_) => ?_) ?_; clear_value b0_)
       try (refine (fun (hb1_ : Q b1_) => ?_) ?_; clear_value b1_)
       try (refine (fun (hb2_ : Q b2_) => ?_) ?_; clear_value b2_)
       try (refine (fun (hb3_ : Q b3_) => ?_) ?_; clear_value b3_))
    | split | exact rfl | exact fun h => h | unfold a0_ | unfold a1_ | unfold a2_ | unfold a3_ | unfold b0_
    | unfold b1_ | unfold b2_ | unfold b3_

theorem shpEvent_closed {j : Nat} {s : State}  (hq_ : Q s) : Q (shpEvent j s) := by
  unfold shpEvent
  try extract_lets a0_
  try (refine (fun (ha0_ : Q a0_) => ?_) ?_; clear_value a0_)
  repeat' first
    | with_reducible first
      | assumption | intro _ | apply Closed.ite | apply sendEvent_closed hP | apply hP.setReg
      | apply Closed.forN | apply Closed.foldl
    | intro _
    | (extract_lets b0_
       try (refine (fun (hb0_ : Q b0_) => ?_) ?_; clear_value b0_))
    | split | exact rfl | exact fun h => h | unfold a0_ | unfold b0_

theorem shpEventRepeat_closed {j : Nat} {s : State}  (hq_ : Q s) : Q (shpEventRepeat j s) := by
  unfold shpEventRepeat
  try extract_lets a0_ a1_ a2_
  try (refine (fun (ha0_ : Q a0_) => ?_) ?_; clear_value a0_)
  try (refine (fun (ha1_ : Q a1_) => ?_) ?_; clear_value a1_)
  try (refine (fun (ha2_ : Q a2_) => ?_) ?_; clear_value a2_)
  repeat' first
    | with_reducible first
      | assumption | intro _ | apply Closed.ite | apply updSession_closed hP | apply eventMessage_closed hP
      | apply hP.setReg | apply Closed.forN | apply Closed.foldl
    | intro _
    | (extract_lets b0_ b1_ b2_
       try (refine (fun (hb0_ : Q b0_) => ?_) ?_; clear_value b0_)
       try (refine (fun (hb1_ : Q b1_) => ?_) ?_; clear_value b1_)
       try (refine (fun (hb2_ : Q b2_) => ?_) ?_; clear_value b2_))
    | split | exact rfl | exact fun h => h | unfold a0_ | unfold a1_ | unfold a2_ | unfold b0_ | unfold b1_
    | unfold b2_

theorem rearmShp_closed {j : Nat} {s : State}  (hq_ : Q s) : Q (rearmShp j s) := by
  unfold rearmShp
  try extract_lets a0_ a1_ a2_
  try (refine (fun (ha0_ : Q a0_) => ?_) ?_; clear_value a0_)
  try (refine (fun (ha1_ : Q a1_) => ?_) ?_; clear_value a1_)
  try (refine (fun (ha2_ : Q a2_) => ?_) ?_; clear_value a2_)
  repeat' first
    | with_reducible first
      | assumption | intro _ | apply Closed.ite | apply updSession_closed hP | apply State.setB_closed hP
      | apply sendEvent_closed hP | apply hP.setReg | apply Closed.forN | apply Closed.foldl
    | intro _
    | (extract_lets b0_ b1_ b2_
       try (refine (fun (hb0_ : Q b0_) => ?_) ?_; clear_value b0_)
       try (refine (fun (hb1_ : Q b1_) => ?_) ?_; clear_value b1_)
       try (refine (fun (hb2_ : Q b2_) => ?_) ?_; clear_value b2_))
    | split | exact rfl | exact fun h => h | unfold a0_ | unfold a1_ | unfold a2_ | unfold b0_ | unfold b1_
    | unfold b2_

theorem irqRearm_closed {n : Nat} {s : State}  (hq_ : Q s) : Q (irqRearm n s) := by
  unfold irqRearm
  repeat' first
    | with_reducible first
      | assumption | intro _ | apply Closed.ite | apply rearmPcie_closed hP | apply rearmShp_closed hP
      | apply hP.setReg | apply Closed.forN | apply Closed.foldl
    | intro _ | extract_lets | split | exact rfl | exact fun h => h

theorem authFail_closed {s : State}  (hq_ : Q s) : Q (authFail s) := by
  unfold authFail
  repeat' first
    | with_reducible first
      | assumption | intro _ | apply Closed.ite | apply recordErr_closed hP | apply irqSet_closed hP
      | apply State.bump_closed hP | apply hP.setReg | apply Closed.forN | apply Closed.foldl
    | intro _ | extract_lets | split | exact rfl | exact fun h => h

theorem openSession_closed {m : Message} {key : List Byte} {s : State}  (hq_ : Q s) : Q (openSession m key s) := by
  unfold openSession
  try extract_lets a0_ a1_ a2_ a3_ a4_ a5_ a6_ a7_ a8_ a9_ a10_ a11_ a12_ a13_ a14_ a15_
  try (refine (fun (ha0_ : Q a0_) => ?_) ?_; clear_value a0_)
  try (refine (fun (ha1_ : Q a1_) => ?_) ?_; clear_value a1_)
  try (refine (fun (ha2_ : Q a2_) => ?_) ?_; clear_value a2_)
  try (refine (fun (ha3_ : Q a3_) => ?_) ?_; clear_value a3_)
  try (refine (fun (ha4_ : Q a4_) => ?_) ?_; clear_value a4_)
  try (refine (fun (ha5_ : Q a5_) => ?_) ?_; clear_value a5_)
  try (refine (fun (ha6_ : Q a6_) => ?_) ?_; clear_value a6_)
  try (refine (fun (ha7_ : Q a7_) => ?_) ?_; clear_value a7_)
  try (refine (fun (ha8_ : Q a8_) => ?_) ?_; clear_value a8_)
  try (refine (fun (ha9_ : Q a9_) => ?_) ?_; clear_value a9_)
  try (refine (fun (ha10_ : Q a10_) => ?_) ?_; clear_value a10_)
  try (refine (fun (ha11_ : Q a11_) => ?_) ?_; clear_value a11_)
  try (refine (fun (ha12_ : Q a12_) => ?_) ?_; clear_value a12_)
  try (refine (fun (ha13_ : Q a13_) => ?_) ?_; clear_value a13_)
  try (refine (fun (ha14_ : Q a14_) => ?_) ?_; clear_value a14_)
  try (refine (fun (ha15_ : Q a15_) => ?_) ?_; clear_value a15_)
  repeat' first
    | with_reducible first
      | assumption | intro _ | refine hP.shp _ _ (by assumption) | apply Closed.ite
      | apply closeSession_closed hP | apply State.fresh_closed hP | apply State.setF_closed hP
      | apply State.bump_closed hP | apply State.setRegN_closed hP | apply State.setB_closed hP
      | apply relayEvent_closed hP | apply irqSet_closed hP | apply shpSend_closed hP | apply hP.setReg
      | apply Closed.forN | apply Closed.foldl | apply Memory.writeN_wf | apply Memory.writeLe_wf
      | apply Memory.copy_wf | apply Memory.splice_wf | apply Memory.clear_wf | apply Memory.write_wf
      | apply Memory.foldl_copy_wf | apply Memory.foldl_writeN_wf | apply State.lane_wf
    | intro _
    | (extract_lets b0_ b1_ b2_ b3_ b4_ b5_ b6_ b7_ b8_ b9_ b10_ b11_ b12_ b13_ b14_ b15_
       try (refine (fun (hb0_ : Q b0_) => ?_) ?_; clear_value b0_)
       try (refine (fun (hb1_ : Q b1_) => ?_) ?_; clear_value b1_)
       try (refine (fun (hb2_ : Q b2_) => ?_) ?_; clear_value b2_)
       try (refine (fun (hb3_ : Q b3_) => ?_) ?_; clear_value b3_)
       try (refine (fun (hb4_ : Q b4_) => ?_) ?_; clear_value b4_)
       try (refine (fun (hb5_ : Q b5_) => ?_) ?_; clear_value b5_)
       try (refine (fun (hb6_ : Q b6_) => ?_) ?_; clear_value b6_)
       try (refine (fun (hb7_ : Q b7_) => ?_) ?_; clear_value b7_)
       try (refine (fun (hb8_ : Q b8_) => ?_) ?_; clear_value b8_)
       try (refine (fun (hb9_ : Q b9_) => ?_) ?_; clear_value b9_)
       try (refine (fun (hb10_ : Q b10_) => ?_) ?_; clear_value b10_)
       try (refine (fun (hb11_ : Q b11_) => ?_) ?_; clear_value b11_)
       try (refine (fun (hb12_ : Q b12_) => ?_) ?_; clear_value b12_)
       try (refine (fun (hb13_ : Q b13_) => ?_) ?_; clear_value b13_)
       try (refine (fun (hb14_ : Q b14_) => ?_) ?_; clear_value b14_)
       try (refine (fun (hb15_ : Q b15_) => ?_) ?_; clear_value b15_))
    | split | with_reducible refine hP.shp _ _ ?_ | exact rfl | exact fun h => h | unfold a0_ | unfold a1_
    | unfold a2_ | unfold a3_ | unfold a4_ | unfold a5_ | unfold a6_ | unfold a7_ | unfold a8_ | unfold a9_
    | unfold a10_ | unfold a11_ | unfold a12_ | unfold a13_ | unfold a14_ | unfold a15_ | unfold b0_
    | unfold b1_ | unfold b2_ | unfold b3_ | unfold b4_ | unfold b5_ | unfold b6_ | unfold b7_ | unfold b8_
    | unfold b9_ | unfold b10_ | unfold b11_ | unfold b12_ | unfold b13_ | unfold b14_ | unfold b15_

theorem hello_closed {m : Message} {s : State}  (hq_ : Q s) : Q (hello m s) := by
  unfold hello
  try extract_lets a0_
  try (refine (fun (ha0_ : Q a0_) => ?_) ?_; clear_value a0_)
  repeat' first
    | with_reducible first
      | assumption | intro _ | apply Closed.ite | apply State.bump_closed hP | apply authFail_closed hP
      | apply openSession_closed hP | apply hP.setReg | apply Closed.forN | apply Closed.foldl
    | intro _
    | (extract_lets b0_
       try (refine (fun (hb0_ : Q b0_) => ?_) ?_; clear_value b0_))
    | split | exact rfl | exact fun h => h | unfold a0_ | unfold b0_

theorem readWords_closed {iss : Issuer} {x0_ : Nat} {x1_ : Nat} {x2_ : State}  (hq_ : Q x2_) : Q ((readWords iss x0_ x1_ x2_).2) := by
  revert hq_
  fun_induction readWords iss x0_ x1_ x2_ <;> intro hq_
  all_goals try repeat' first
      | with_reducible first
        | assumption | intro _ | refine (by assumption : Q _ → Q _) ?_ | apply Closed.ite
        | apply busRead_closed hP | apply countAccess_closed hP | apply hP.setReg | apply Closed.forN
        | apply Closed.foldl
      | intro _ | refine busRead_next hP (by assumption) ?_
      | (extract_lets b0_ b1_
         try (refine (fun (hb0_ : Q b0_) => ?_) ?_; clear_value b0_)
         try (refine (fun (hb1_ : Q b1_) => ?_) ?_; clear_value b1_))
      | split | exact rfl | exact fun h => h | refine Closed.snd_of (by assumption) ?_ | unfold a0_
      | unfold a1_ | unfold b0_ | unfold b1_
theorem readWords_next {iss : Issuer} {x0_ : Nat} {x1_ : Nat} {x2_ : State} {r0_} {t_ : State} (e : readWords iss x0_ x1_ x2_ = (r0_, t_))  (hq_ : Q x2_) : Q t_ := by
  have h2_ : Q ((readWords iss x0_ x1_ x2_).2) := readWords_closed hP  hq_
  rw [e] at h2_; exact h2_

theorem shpRead_closed {iss : Issuer} {off : Nat} {count : Nat} {s : State}  (hq_ : Q s) : Q ((shpRead iss off count s).2) := by
  unfold shpRead
  try extract_lets a0_
  try (refine (fun (ha0_ : Q a0_) => ?_) ?_; clear_value a0_)
  repeat' first
    | with_reducible first
      | assumption | intro _ | apply Closed.ite | apply accessReject_closed hP | apply readWords_closed hP
      | apply hP.setReg | apply Closed.forN | apply Closed.foldl
    | intro _ | refine readWords_next hP (by assumption) ?_
    | (extract_lets b0_
       try (refine (fun (hb0_ : Q b0_) => ?_) ?_; clear_value b0_))
    | split | exact rfl | exact fun h => h | unfold a0_ | unfold b0_
theorem shpRead_next {iss : Issuer} {off : Nat} {count : Nat} {s : State} {r0_} {t_ : State} (e : shpRead iss off count s = (r0_, t_))  (hq_ : Q s) : Q t_ := by
  have h2_ : Q ((shpRead iss off count s).2) := shpRead_closed hP  hq_
  rw [e] at h2_; exact h2_

theorem writeOutcome_closed {r : BootReport} {iss : Issuer} {a : Nat} {w : Word} {s : State}  (hq_ : Q s) : Q ((writeOutcome r iss a w s).2) := by
  unfold writeOutcome
  try extract_lets a0_ a1_ a2_
  try (refine (fun (ha0_ : Q a0_) => ?_) ?_; clear_value a0_)
  try (refine (fun (ha1_ : Q a1_) => ?_) ?_; clear_value a1_)
  try (refine (fun (ha2_ : Q a2_) => ?_) ?_; clear_value a2_)
  repeat' first
    | with_reducible first
      | assumption | intro _ | apply Closed.ite | apply busWrite_closed hP | apply State.clear_closed hP
      | apply hP.setReg | apply Closed.forN | apply Closed.foldl | apply Memory.writeN_wf
      | apply Memory.writeLe_wf | apply Memory.copy_wf | apply Memory.splice_wf | apply Memory.clear_wf
      | apply Memory.write_wf | apply Memory.foldl_copy_wf | apply Memory.foldl_writeN_wf
      | apply State.lane_wf
    | intro _
    | (extract_lets b0_ b1_ b2_
       try (refine (fun (hb0_ : Q b0_) => ?_) ?_; clear_value b0_)
       try (refine (fun (hb1_ : Q b1_) => ?_) ?_; clear_value b1_)
       try (refine (fun (hb2_ : Q b2_) => ?_) ?_; clear_value b2_))
    | split | exact rfl | exact fun h => h | unfold a0_ | unfold a1_ | unfold a2_ | unfold b0_ | unfold b1_
    | unfold b2_
theorem writeOutcome_next {r : BootReport} {iss : Issuer} {a : Nat} {w : Word} {s : State} {r0_} {t_ : State} (e : writeOutcome r iss a w s = (r0_, t_))  (hq_ : Q s) : Q t_ := by
  have h2_ : Q ((writeOutcome r iss a w s).2) := writeOutcome_closed hP  hq_
  rw [e] at h2_; exact h2_

theorem shpWrite_closed {r : BootReport} {iss : Issuer} {j : Nat} {x0_ : List (Word × Word)} {x1_ : Nat} {x2_ : State}  (hq_ : Q x2_) : Q ((shpWrite r iss j x0_ x1_ x2_).2) := by
  revert hq_
  fun_induction shpWrite r iss j x0_ x1_ x2_ <;> intro hq_
  all_goals try repeat' first
      | with_reducible first
        | assumption | intro _ | refine (by assumption : Q _ → Q _) ?_ | apply Closed.ite
        | apply addressReject_closed hP | apply accessReject_closed hP | apply countAccess_closed hP
        | apply writeOutcome_closed hP | apply hP.setReg | apply Closed.forN | apply Closed.foldl
      | intro _ | refine writeOutcome_next hP (by assumption) ?_
      | (extract_lets b0_
         try (refine (fun (hb0_ : Q b0_) => ?_) ?_; clear_value b0_))
      | split | exact rfl | exact fun h => h | refine Closed.snd_of (by assumption) ?_ | unfold a0_
      | unfold b0_
theorem shpWrite_next {r : BootReport} {iss : Issuer} {j : Nat} {x0_ : List (Word × Word)} {x1_ : Nat} {x2_ : State} {r0_} {t_ : State} (e : shpWrite r iss j x0_ x1_ x2_ = (r0_, t_))  (hq_ : Q x2_) : Q t_ := by
  have h2_ : Q ((shpWrite r iss j x0_ x1_ x2_).2) := shpWrite_closed hP  hq_
  rw [e] at h2_; exact h2_

theorem shpMemRead_closed {off : Nat} {len : Nat} {s : State}  (hq_ : Q s) : Q ((shpMemRead off len s).2) := by
  unfold shpMemRead
  try extract_lets a0_ a1_
  try (refine (fun (ha0_ : Q a0_) => ?_) ?_; clear_value a0_)
  try (refine (fun (ha1_ : Q a1_) => ?_) ?_; clear_value a1_)
  repeat' first
    | with_reducible first
      | assumption | intro _ | apply Closed.ite | apply commsRead_closed hP | apply hP.setReg
      | apply Closed.forN | apply Closed.foldl | apply Memory.writeN_wf | apply Memory.writeLe_wf
      | apply Memory.copy_wf | apply Memory.splice_wf | apply Memory.clear_wf | apply Memory.write_wf
      | apply Memory.foldl_copy_wf | apply Memory.foldl_writeN_wf | apply State.lane_wf
    | intro _
    | (extract_lets b0_ b1_
       try (refine (fun (hb0_ : Q b0_) => ?_) ?_; clear_value b0_)
       try (refine (fun (hb1_ : Q b1_) => ?_) ?_; clear_value b1_))
    | split | exact rfl | exact fun h => h | unfold a0_ | unfold a1_ | unfold b0_ | unfold b1_
theorem shpMemRead_next {off : Nat} {len : Nat} {s : State} {r0_} {t_ : State} (e : shpMemRead off len s = (r0_, t_))  (hq_ : Q s) : Q t_ := by
  have h2_ : Q ((shpMemRead off len s).2) := shpMemRead_closed hP  hq_
  rw [e] at h2_; exact h2_

theorem shpMemWrite_closed {n : Nat} {off : Nat} {len : Nat} {bs : List Byte} {s : State}  (hq_ : Q s) : Q ((shpMemWrite n off len bs s).2) := by
  unfold shpMemWrite
  try extract_lets a0_
  try (refine (fun (ha0_ : Q a0_) => ?_) ?_; clear_value a0_)
  repeat' first
    | with_reducible first
      | assumption | intro _ | apply Closed.ite | apply regionReject_closed hP | apply hostStore_closed hP
      | apply rearmShp_closed hP | apply clearRearm_closed hP | apply hP.setReg | apply Closed.forN
      | apply Closed.foldl
    | intro _
    | (extract_lets b0_
       try (refine (fun (hb0_ : Q b0_) => ?_) ?_; clear_value b0_))
    | split | exact rfl | exact fun h => h | unfold a0_ | unfold b0_
theorem shpMemWrite_next {n : Nat} {off : Nat} {len : Nat} {bs : List Byte} {s : State} {r0_} {t_ : State} (e : shpMemWrite n off len bs s = (r0_, t_))  (hq_ : Q s) : Q t_ := by
  have h2_ : Q ((shpMemWrite n off len bs s).2) := shpMemWrite_closed hP  hq_
  rw [e] at h2_; exact h2_

theorem shpExecute_closed {r : BootReport} {m : Message} {s : State}  (hq_ : Q s) : Q ((shpExecute r m s).2) := by
  unfold shpExecute
  try extract_lets a0_ a1_ a2_
  try (refine (fun (ha0_ : Q a0_) => ?_) ?_; clear_value a0_)
  try (refine (fun (ha1_ : Q a1_) => ?_) ?_; clear_value a1_)
  try (refine (fun (ha2_ : Q a2_) => ?_) ?_; clear_value a2_)
  repeat' first
    | with_reducible first
      | assumption | intro _ | apply Closed.ite | apply shpRead_closed hP | apply shpWrite_closed hP
      | apply shpMemRead_closed hP | apply shpMemWrite_closed hP | apply rearmShp_closed hP
      | apply closeSession_closed hP | apply hP.setReg | apply Closed.forN | apply Closed.foldl
    | intro _ | refine shpRead_next hP (by assumption) ?_ | refine shpWrite_next hP (by assumption) ?_
    | refine shpMemRead_next hP (by assumption) ?_ | refine shpMemWrite_next hP (by assumption) ?_
    | (extract_lets b0_ b1_ b2_
       try (refine (fun (hb0_ : Q b0_) => ?_) ?_; clear_value b0_)
       try (refine (fun (hb1_ : Q b1_) => ?_) ?_; clear_value b1_)
       try (refine (fun (hb2_ : Q b2_) => ?_) ?_; clear_value b2_))
    | split | exact rfl | exact fun h => h | unfold a0_ | unfold a1_ | unfold a2_ | unfold b0_ | unfold b1_
    | unfold b2_
theorem shpExecute_next {r : BootReport} {m : Message} {s : State} {r0_} {t_ : State} (e : shpExecute r m s = (r0_, t_))  (hq_ : Q s) : Q t_ := by
  have h2_ : Q ((shpExecute r m s).2) := shpExecute_closed hP  hq_
  rw [e] at h2_; exact h2_

theorem acceptRequest_closed {r : BootReport} {m : Message} {x : Session} {s : State}  (hq_ : Q s) : Q (acceptRequest r m x s) := by
  unfold acceptRequest
  try extract_lets a0_ a1_ a2_ a3_ a4_ a5_ a6_ a7_ a8_
  try (refine (fun (ha0_ : Q a0_) => ?_) ?_; clear_value a0_)
  try (refine (fun (ha1_ : Q a1_) => ?_) ?_; clear_value a1_)
  try (refine (fun (ha2_ : Q a2_) => ?_) ?_; clear_value a2_)
  try (refine (fun (ha3_ : Q a3_) => ?_) ?_; clear_value a3_)
  try (refine (fun (ha4_ : Q a4_) => ?_) ?_; clear_value a4_)
  try (refine (fun (ha5_ : Q a5_) => ?_) ?_; clear_value a5_)
  try (refine (fun (ha6_ : Q a6_) => ?_) ?_; clear_value a6_)
  try (refine (fun (ha7_ : Q a7_) => ?_) ?_; clear_value a7_)
  try (refine (fun (ha8_ : Q a8_) => ?_) ?_; clear_value a8_)
  repeat' first
    | with_reducible first
      | assumption | intro _ | apply Closed.ite | apply State.bump_closed hP | apply State.setRegN_closed hP
      | apply updSession_closed hP | apply shpExecute_closed hP | apply shpSend_closed hP | apply hP.setReg
      | apply Closed.forN | apply Closed.foldl
    | intro _ | refine shpExecute_next hP (by assumption) ?_
    | (extract_lets b0_ b1_ b2_ b3_ b4_ b5_ b6_ b7_ b8_
       try (refine (fun (hb0_ : Q b0_) => ?_) ?_; clear_value b0_)
       try (refine (fun (hb1_ : Q b1_) => ?_) ?_; clear_value b1_)
       try (refine (fun (hb2_ : Q b2_) => ?_) ?_; clear_value b2_)
       try (refine (fun (hb3_ : Q b3_) => ?_) ?_; clear_value b3_)
       try (refine (fun (hb4_ : Q b4_) => ?_) ?_; clear_value b4_)
       try (refine (fun (hb5_ : Q b5_) => ?_) ?_; clear_value b5_)
       try (refine (fun (hb6_ : Q b6_) => ?_) ?_; clear_value b6_)
       try (refine (fun (hb7_ : Q b7_) => ?_) ?_; clear_value b7_)
       try (refine (fun (hb8_ : Q b8_) => ?_) ?_; clear_value b8_))
    | split | exact rfl | exact fun h => h | unfold a0_ | unfold a1_ | unfold a2_ | unfold a3_ | unfold a4_
    | unfold a5_ | unfold a6_ | unfold a7_ | unfold a8_ | unfold b0_ | unfold b1_ | unfold b2_ | unfold b3_
    | unfold b4_ | unfold b5_ | unfold b6_ | unfold b7_ | unfold b8_

theorem sequence_closed {r : BootReport} {m : Message} {x : Session} {s : State}  (hq_ : Q s) : Q (sequence r m x s) := by
  unfold sequence
  try extract_lets a0_ a1_
  try (refine (fun (ha0_ : Q a0_) => ?_) ?_; clear_value a0_)
  try (refine (fun (ha1_ : Q a1_) => ?_) ?_; clear_value a1_)
  repeat' first
    | with_reducible first
      | assumption | intro _ | apply Closed.ite | apply shpSend_closed hP | apply State.bump_closed hP
      | apply acceptRequest_closed hP | apply hP.setReg | apply Closed.forN | apply Closed.foldl
    | intro _
    | (extract_lets b0_ b1_
       try (refine (fun (hb0_ : Q b0_) => ?_) ?_; clear_value b0_)
       try (refine (fun (hb1_ : Q b1_) => ?_) ?_; clear_value b1_))
    | split | exact rfl | exact fun h => h | unfold a0_ | unfold a1_ | unfold b0_ | unfold b1_

theorem request_closed {r : BootReport} {m : Message} {s : State}  (hq_ : Q s) : Q (request r m s) := by
  unfold request
  try extract_lets a0_ a1_
  try (refine (fun (ha0_ : Q a0_) => ?_) ?_; clear_value a0_)
  try (refine (fun (ha1_ : Q a1_) => ?_) ?_; clear_value a1_)
  repeat' first
    | with_reducible first
      | assumption | intro _ | apply Closed.ite | apply State.bump_closed hP | apply authFail_closed hP
      | apply sequence_closed hP | apply hP.setReg | apply Closed.forN | apply Closed.foldl
    | intro _
    | (extract_lets b0_ b1_
       try (refine (fun (hb0_ : Q b0_) => ?_) ?_; clear_value b0_)
       try (refine (fun (hb1_ : Q b1_) => ?_) ?_; clear_value b1_))
    | split | exact rfl | exact fun h => h | unfold a0_ | unfold a1_ | unfold b0_ | unfold b1_

theorem shpDatagram_closed {r : BootReport} {eth : Nat} {ip : Word} {port : Nat} {bs : List Byte} {s : State}  (hq_ : Q s) : Q (shpDatagram r eth ip port bs s) := by
  unfold shpDatagram
  try extract_lets a0_ a1_
  try (refine (fun (ha0_ : Q a0_) => ?_) ?_; clear_value a0_)
  try (refine (fun (ha1_ : Q a1_) => ?_) ?_; clear_value a1_)
  repeat' first
    | with_reducible first
      | assumption | intro _ | apply Closed.ite | apply State.bump_closed hP | apply hello_closed hP
      | apply request_closed hP | apply hP.setReg | apply Closed.forN | apply Closed.foldl
    | intro _
    | (extract_lets b0_ b1_
       try (refine (fun (hb0_ : Q b0_) => ?_) ?_; clear_value b0_)
       try (refine (fun (hb1_ : Q b1_) => ?_) ?_; clear_value b1_))
    | split | exact rfl | exact fun h => h | unfold a0_ | unfold a1_ | unfold b0_ | unfold b1_

theorem shpCommand_closed {r : BootReport} {h : ShpHead} {typ : Nat} {body : List Byte} {s : State}  (hq_ : Q s) : Q (shpCommand r h typ body s) := by
  unfold shpCommand
  try extract_lets a0_
  try (refine (fun (ha0_ : Q a0_) => ?_) ?_; clear_value a0_)
  repeat' first
    | with_reducible first
      | assumption | intro _ | apply Closed.ite | apply shpDatagram_closed hP | apply State.bump_closed hP
      | apply hP.setReg | apply Closed.forN | apply Closed.foldl
    | intro _
    | (extract_lets b0_
       try (refine (fun (hb0_ : Q b0_) => ?_) ?_; clear_value b0_))
    | split | exact rfl | exact fun h => h | unfold a0_ | unfold b0_

theorem sessionTimeout_closed {j : Nat} {s : State}  (hq_ : Q s) : Q (sessionTimeout j s) := by
  unfold sessionTimeout
  try extract_lets a0_
  try (refine (fun (ha0_ : Q a0_) => ?_) ?_; clear_value a0_)
  repeat' first
    | with_reducible first
      | assumption | intro _ | apply Closed.ite | apply closeSession_closed hP | apply hP.setReg
      | apply Closed.forN | apply Closed.foldl
    | intro _
    | (extract_lets b0_
       try (refine (fun (hb0_ : Q b0_) => ?_) ?_; clear_value b0_))
    | split | exact rfl | exact fun h => h | unfold a0_ | unfold b0_

theorem ethDrop_closed {p : Nat} {s : State}  (hq_ : Q s) : Q (ethDrop p s) := by
  unfold ethDrop
  repeat' first
    | with_reducible first
      | assumption | intro _ | apply Closed.ite | apply State.bump_closed hP | apply hP.setReg
      | apply Closed.forN | apply Closed.foldl
    | intro _ | extract_lets | split | exact rfl | exact fun h => h

theorem ethSend_closed {p : Nat} {bs : List Byte} {s : State}  (hq_ : Q s) : Q (ethSend p bs s) := by
  unfold ethSend
  repeat' first
    | with_reducible first
      | assumption | intro _ | apply Closed.ite | apply ethSent_closed hP | apply State.send_closed hP
      | apply hP.setReg | apply Closed.forN | apply Closed.foldl
    | intro _ | extract_lets | split | exact rfl | exact fun h => h

theorem arpFrame_closed {p : Nat} {bs : List Byte} {s : State}  (hq_ : Q s) : Q (arpFrame p bs s) := by
  unfold arpFrame
  try extract_lets a0_ a1_
  try (refine (fun (ha0_ : Q a0_) => ?_) ?_; clear_value a0_)
  try (refine (fun (ha1_ : Q a1_) => ?_) ?_; clear_value a1_)
  repeat' first
    | with_reducible first
      | assumption | intro _ | apply Closed.ite | apply ethDrop_closed hP | apply ethSend_closed hP
      | apply hP.setReg | apply Closed.forN | apply Closed.foldl
    | intro _
    | (extract_lets b0_ b1_
       try (refine (fun (hb0_ : Q b0_) => ?_) ?_; clear_value b0_)
       try (refine (fun (hb1_ : Q b1_) => ?_) ?_; clear_value b1_))
    | split | exact rfl | exact fun h => h | unfold a0_ | unfold a1_ | unfold b0_ | unfold b1_

theorem icmpFrame_closed {p : Nat} {src : Nat} {bs : List Byte} {pay : List Byte} {s : State}  (hq_ : Q s) : Q (icmpFrame p src bs pay s) := by
  unfold icmpFrame
  try extract_lets a0_
  try (refine (fun (ha0_ : Q a0_) => ?_) ?_; clear_value a0_)
  repeat' first
    | with_reducible first
      | assumption | intro _ | apply Closed.ite | apply ethDrop_closed hP | apply ethSend_closed hP
      | apply hP.setReg | apply Closed.forN | apply Closed.foldl
    | intro _
    | (extract_lets b0_
       try (refine (fun (hb0_ : Q b0_) => ?_) ?_; clear_value b0_))
    | split | exact rfl | exact fun h => h | unfold a0_ | unfold b0_

theorem udpFrame_closed {r : BootReport} {p : Nat} {src : Nat} {pay : List Byte} {s : State}  (hq_ : Q s) : Q (udpFrame r p src pay s) := by
  unfold udpFrame
  try extract_lets a0_ a1_ a2_ a3_
  try (refine (fun (ha0_ : Q a0_) => ?_) ?_; clear_value a0_)
  try (refine (fun (ha1_ : Q a1_) => ?_) ?_; clear_value a1_)
  try (refine (fun (ha2_ : Q a2_) => ?_) ?_; clear_value a2_)
  try (refine (fun (ha3_ : Q a3_) => ?_) ?_; clear_value a3_)
  repeat' first
    | with_reducible first
      | assumption | intro _ | apply Closed.ite | apply ethDrop_closed hP | apply shpDatagram_closed hP
      | apply relayDatagram_closed hP | apply hP.setReg | apply Closed.forN | apply Closed.foldl
    | intro _
    | (extract_lets b0_ b1_ b2_ b3_
       try (refine (fun (hb0_ : Q b0_) => ?_) ?_; clear_value b0_)
       try (refine (fun (hb1_ : Q b1_) => ?_) ?_; clear_value b1_)
       try (refine (fun (hb2_ : Q b2_) => ?_) ?_; clear_value b2_)
       try (refine (fun (hb3_ : Q b3_) => ?_) ?_; clear_value b3_))
    | split | exact rfl | exact fun h => h | unfold a0_ | unfold a1_ | unfold a2_ | unfold a3_ | unfold b0_
    | unfold b1_ | unfold b2_ | unfold b3_

theorem ipFrame_closed {r : BootReport} {p : Nat} {bs : List Byte} {s : State}  (hq_ : Q s) : Q (ipFrame r p bs s) := by
  unfold ipFrame
  try extract_lets a0_ a1_ a2_ a3_
  try (refine (fun (ha0_ : Q a0_) => ?_) ?_; clear_value a0_)
  try (refine (fun (ha1_ : Q a1_) => ?_) ?_; clear_value a1_)
  try (refine (fun (ha2_ : Q a2_) => ?_) ?_; clear_value a2_)
  try (refine (fun (ha3_ : Q a3_) => ?_) ?_; clear_value a3_)
  repeat' first
    | with_reducible first
      | assumption | intro _ | apply Closed.ite | apply ethDrop_closed hP | apply icmpFrame_closed hP
      | apply udpFrame_closed hP | apply hP.setReg | apply Closed.forN | apply Closed.foldl
    | intro _
    | (extract_lets b0_ b1_ b2_ b3_
       try (refine (fun (hb0_ : Q b0_) => ?_) ?_; clear_value b0_)
       try (refine (fun (hb1_ : Q b1_) => ?_) ?_; clear_value b1_)
       try (refine (fun (hb2_ : Q b2_) => ?_) ?_; clear_value b2_)
       try (refine (fun (hb3_ : Q b3_) => ?_) ?_; clear_value b3_))
    | split | exact rfl | exact fun h => h | unfold a0_ | unfold a1_ | unfold a2_ | unfold a3_ | unfold b0_
    | unfold b1_ | unfold b2_ | unfold b3_

theorem ethFrame_closed {r : BootReport} {p : Nat} {ok : Bool} {bs : List Byte} {s : State}  (hq_ : Q s) : Q (ethFrame r p ok bs s) := by
  unfold ethFrame
  try extract_lets a0_ a1_ a2_
  try (refine (fun (ha0_ : Q a0_) => ?_) ?_; clear_value a0_)
  try (refine (fun (ha1_ : Q a1_) => ?_) ?_; clear_value a1_)
  try (refine (fun (ha2_ : Q a2_) => ?_) ?_; clear_value a2_)
  repeat' first
    | with_reducible first
      | assumption | intro _ | apply Closed.ite | apply State.bump_closed hP | apply ethDrop_closed hP
      | apply arpFrame_closed hP | apply ipFrame_closed hP | apply hP.setReg | apply Closed.forN
      | apply Closed.foldl
    | intro _
    | (extract_lets b0_ b1_ b2_
       try (refine (fun (hb0_ : Q b0_) => ?_) ?_; clear_value b0_)
       try (refine (fun (hb1_ : Q b1_) => ?_) ?_; clear_value b1_)
       try (refine (fun (hb2_ : Q b2_) => ?_) ?_; clear_value b2_))
    | split | exact rfl | exact fun h => h | unfold a0_ | unfold a1_ | unfold a2_ | unfold b0_ | unfold b1_
    | unfold b2_

end Sys2Proof.Machine
end

