-- ==== Sys2Proof/Laws/ClosedTick.lean ====
section
/-!
SUPPORT. The operations of Tick.lean keep every property that the primitive writes keep (Laws/Closed.lean).
-/
set_option Elab.async false
set_option linter.all false
set_option linter.unusedVariables false
set_option linter.tactic.unusedName false

namespace Sys2Proof.Machine

variable {Q : State → Prop} (hP : Closed Q)
include hP

theorem runTime_closed {n : Nat} {s : State}  (hq_ : Q s) : Q (runTime n s) := by
  unfold runTime
  try extract_lets a0_ a1_ a2_
  try (refine (fun (ha0_ : Q a0_) => ?_) ?_; clear_value a0_)
  try (refine (fun (ha1_ : Q a1_) => ?_) ?_; clear_value a1_)
  try (refine (fun (ha2_ : Q a2_) => ?_) ?_; clear_value a2_)
  repeat' first
    | with_reducible first
      | assumption | intro _ | apply Closed.ite | apply updTime_closed hP | apply hP.setReg
      | apply Closed.forN | apply Closed.foldl
    | intro _
    | (extract_lets b0_ b1_ b2_
       try (refine (fun (hb0_ : Q b0_) => ?_) ?_; clear_value b0_)
       try (refine (fun (hb1_ : Q b1_) => ?_) ?_; clear_value b1_)
       try (refine (fun (hb2_ : Q b2_) => ?_) ?_; clear_value b2_))
    | split | exact Nat.mod_lt _ (by decide) | exact rfl | exact fun h => h | unfold a0_ | unfold a1_
    | unfold a2_ | unfold b0_ | unfold b1_ | unfold b2_

theorem tickTimeNow_closed {s : State}  (hq_ : Q s) : Q (tickTimeNow s) := by
  unfold tickTimeNow
  try extract_lets a0_ a1_ a2_ a3_ a4_ a5_ a6_
  try (refine (fun (ha0_ : Q a0_) => ?_) ?_; clear_value a0_)
  try (refine (fun (ha1_ : Q a1_) => ?_) ?_; clear_value a1_)
  try (refine (fun (ha2_ : Q a2_) => ?_) ?_; clear_value a2_)
  try (refine (fun (ha3_ : Q a3_) => ?_) ?_; clear_value a3_)
  try (refine (fun (ha4_ : Q a4_) => ?_) ?_; clear_value a4_)
  try (refine (fun (ha5_ : Q a5_) => ?_) ?_; clear_value a5_)
  try (refine (fun (ha6_ : Q a6_) => ?_) ?_; clear_value a6_)
  repeat' first
    | with_reducible first
      | assumption | intro _ | apply Closed.ite | apply showTime_closed hP | apply runTime_closed hP
      | apply updStarter_closed hP | apply netTick_closed hP | apply captures_closed hP | apply hP.setReg
      | apply Closed.forN | apply Closed.foldl
    | intro _
    | (extract_lets b0_ b1_ b2_ b3_ b4_ b5_ b6_
       try (refine (fun (hb0_ : Q b0_) => ?_) ?_; clear_value b0_)
       try (refine (fun (hb1_ : Q b1_) => ?_) ?_; clear_value b1_)
       try (refine (fun (hb2_ : Q b2_) => ?_) ?_; clear_value b2_)
       try (refine (fun (hb3_ : Q b3_) => ?_) ?_; clear_value b3_)
       try (refine (fun (hb4_ : Q b4_) => ?_) ?_; clear_value b4_)
       try (refine (fun (hb5_ : Q b5_) => ?_) ?_; clear_value b5_)
       try (refine (fun (hb6_ : Q b6_) => ?_) ?_; clear_value b6_))
    | split | exact rfl | exact fun h => h | unfold a0_ | unfold a1_ | unfold a2_ | unfold a3_ | unfold a4_
    | unfold a5_ | unfold a6_ | unfold b0_ | unfold b1_ | unfold b2_ | unfold b3_ | unfold b4_ | unfold b5_
    | unfold b6_

theorem nextTick_closed {s : State}  (hq_ : Q s) : Q (nextTick s) := by
  unfold nextTick
  repeat' first
    | with_reducible first
      | assumption | intro _ | apply Closed.ite | apply State.setReg64_closed hP | apply hP.setReg
      | apply Closed.forN | apply Closed.foldl
    | intro _ | extract_lets | split | exact rfl | exact fun h => h

theorem keepGroupStats_closed {s : State}  (hq_ : Q s) : Q (keepGroupStats s) := by
  unfold keepGroupStats
  try extract_lets a0_
  try (refine (fun (ha0_ : Q a0_) => ?_) ?_; clear_value a0_)
  repeat' first
    | with_reducible first
      | assumption | intro _ | apply Closed.ite | apply updSafety_closed hP | apply hP.setReg
      | apply Closed.forN | apply Closed.foldl | apply Memory.writeN_wf | apply Memory.writeLe_wf
      | apply Memory.copy_wf | apply Memory.splice_wf | apply Memory.clear_wf | apply Memory.write_wf
      | apply Memory.foldl_copy_wf | apply Memory.foldl_writeN_wf | apply State.lane_wf
    | intro _
    | (extract_lets b0_
       try (refine (fun (hb0_ : Q b0_) => ?_) ?_; clear_value b0_))
    | split | exact rfl | exact fun h => h | unfold a0_ | unfold b0_

theorem laneCycles_closed {s : State}  (hq_ : Q s) : Q (laneCycles s) := by
  unfold laneCycles
  try extract_lets a0_
  try (refine (fun (ha0_ : Q a0_) => ?_) ?_; clear_value a0_)
  repeat' first
    | with_reducible first
      | assumption | intro _ | apply Closed.ite | apply State.setReg64_closed hP | apply hP.setReg
      | apply Closed.forN | apply Closed.foldl
    | intro _
    | (extract_lets b0_
       try (refine (fun (hb0_ : Q b0_) => ?_) ?_; clear_value b0_))
    | split | exact rfl | exact fun h => h | unfold a0_ | unfold b0_

theorem tickEvents_closed {s : State}  (hq_ : Q s) : Q (tickEvents s) := by
  unfold tickEvents
  repeat' first
    | with_reducible first
      | assumption | intro _ | apply Closed.ite | apply strideTriggers_closed hP | apply cmpQueue_closed hP
      | apply toutTick_closed hP | apply hP.setReg | apply Closed.forN | apply Closed.foldl
    | intro _ | extract_lets | split | exact rfl | exact fun h => h

theorem tickFields_closed {k : Nat} {s : State}  (hq_ : Q s) : Q (tickFields k s) := by
  unfold tickFields
  repeat' first
    | with_reducible first
      | assumption | intro _ | apply Closed.ite | apply measTick_closed hP | apply f1Tick_closed hP
      | apply sendDown_closed hP | apply hP.setReg | apply Closed.forN | apply Closed.foldl
    | intro _ | extract_lets | split | exact rfl | exact fun h => h

theorem tickOpens_closed {s : State}  (hq_ : Q s) : Q (tickOpens s) := by
  unfold tickOpens
  repeat' first
    | with_reducible first
      | assumption | intro _ | apply Closed.ite | apply tableScrub_closed hP | apply countedLanes_closed hP
      | apply cloneTick_closed hP | apply beatTick_closed hP | apply laneCycles_closed hP
      | apply tickTimeNow_closed hP | apply nextTick_closed hP | apply keepGroupStats_closed hP
      | apply commitLatchAll_closed hP | apply hP.setReg | apply Closed.forN | apply Closed.foldl
    | intro _ | extract_lets | split | exact rfl | exact fun h => h

theorem strikeAll_closed {strikes : List Strike} {s : State}  (hq_ : Q s) : Q (strikeAll strikes s) := by
  unfold strikeAll
  repeat' first
    | with_reducible first
      | assumption | intro _ | apply Closed.ite | apply strikeWord_closed hP | apply hP.setReg
      | apply Closed.forN | apply Closed.foldl
    | intro _ | extract_lets | split | exact rfl | exact fun h => h

theorem canWindow_closed {s : State}  (hq_ : Q s) : Q (canWindow s) := by
  unfold canWindow
  repeat' first
    | with_reducible first
      | assumption | intro _ | apply Closed.ite | apply canStart_closed hP | apply hP.setReg
      | apply Closed.forN | apply Closed.foldl
    | intro _ | extract_lets | split | exact rfl | exact fun h => h

theorem tickWork_closed {upset : Option (Fin 8)} {s : State}  (hq_ : Q s) : Q (tickWork upset s) := by
  unfold tickWork
  try extract_lets a0_
  try (refine (fun (ha0_ : Q a0_) => ?_) ?_; clear_value a0_)
  repeat' first
    | with_reducible first
      | assumption | intro _ | apply Closed.ite | apply safetyTick_closed hP | apply tickEvents_closed hP
      | apply batonTick_closed hP | apply injRelease_closed hP | apply partTick_closed hP
      | apply relayDrain_closed hP | apply canWindow_closed hP | apply pocCheck_closed hP
      | apply tickFields_closed hP | apply hP.setReg | apply Closed.forN | apply Closed.foldl
    | intro _
    | (extract_lets b0_
       try (refine (fun (hb0_ : Q b0_) => ?_) ?_; clear_value b0_))
    | split | exact rfl | exact fun h => h | unfold a0_ | unfold b0_

theorem sampleTick_closed {upset : Option (Fin 8)} {strikes : List Strike} {s : State}  (hq_ : Q s) : Q (sampleTick upset strikes s) := by
  unfold sampleTick
  repeat' first
    | with_reducible first
      | assumption | intro _ | apply Closed.ite | apply tickWork_closed hP | apply tickOpens_closed hP
      | apply strikeAll_closed hP | apply hP.setReg | apply Closed.forN | apply Closed.foldl
    | intro _ | extract_lets | split | exact rfl | exact fun h => h

end Sys2Proof.Machine
end

