-- ==== Sys2Proof/Laws/ClosedZFlow.lean ====
section
/-!
SUPPORT. The operations of ZFlow.lean keep every property that the primitive writes keep (Laws/Closed.lean).
-/
set_option Elab.async false
set_option linter.all false
set_option linter.unusedVariables false
set_option linter.tactic.unusedName false

namespace Sys2Proof.Machine

variable {Q : State → Prop} (hP : Closed Q)
include hP

theorem zBr_closed {k : ZCond} {off : BitVec 20} {x0_ : State}  (hq_ : Q x0_) : Q (zBr k off x0_) := by
  unfold zBr
  repeat' first
    | with_reducible first
      | assumption | intro _ | apply Closed.ite | apply zRun_closed hP | apply hP.setReg | apply Closed.forN
      | apply Closed.foldl
    | intro _ | extract_lets | split | exact rfl | exact fun h => h

theorem zJmp_closed {off : BitVec 24} {x0_ : State}  (hq_ : Q x0_) : Q (zJmp off x0_) := by
  unfold zJmp
  repeat' first
    | with_reducible first
      | assumption | intro _ | apply Closed.ite | apply zRun_closed hP | apply hP.setReg | apply Closed.forN
      | apply Closed.foldl
    | intro _ | extract_lets | split | exact rfl | exact fun h => h

theorem zLoop_closed {d : ZReg} {count : Nat} {body : Nat} {x0_ : State}  (hq_ : Q x0_) : Q (zLoop d count body x0_) := by
  unfold zLoop
  try extract_lets a0_ a1_ a2_
  try (refine (fun (ha0_ : Q a0_) => ?_) ?_; clear_value a0_)
  try (refine (fun (ha1_ : Q a1_) => ?_) ?_; clear_value a1_)
  try (refine (fun (ha2_ : Q a2_) => ?_) ?_; clear_value a2_)
  repeat' first
    | with_reducible first
      | assumption | intro _ | apply Closed.ite | apply zRun_closed hP | apply hP.setReg | apply Closed.forN
      | apply Closed.foldl
    | intro _
    | (extract_lets b0_ b1_ b2_
       try (refine (fun (hb0_ : Q b0_) => ?_) ?_; clear_value b0_)
       try (refine (fun (hb1_ : Q b1_) => ?_) ?_; clear_value b1_)
       try (refine (fun (hb2_ : Q b2_) => ?_) ?_; clear_value b2_))
    | split | exact rfl | exact fun h => h | unfold a0_ | unfold a1_ | unfold a2_ | unfold b0_ | unfold b1_
    | unfold b2_

theorem zCall_closed {typ : Nat} {off : Nat} {x0_ : State}  (hq_ : Q x0_) : Q (zCall typ off x0_) := by
  unfold zCall
  try extract_lets a0_ a1_ a2_ a3_
  try (refine (fun (ha0_ : Q a0_) => ?_) ?_; clear_value a0_)
  try (refine (fun (ha1_ : Q a1_) => ?_) ?_; clear_value a1_)
  try (refine (fun (ha2_ : Q a2_) => ?_) ?_; clear_value a2_)
  try (refine (fun (ha3_ : Q a3_) => ?_) ?_; clear_value a3_)
  repeat' first
    | with_reducible first
      | assumption | intro _ | apply Closed.ite | apply zRun_closed hP | apply hP.setReg | apply Closed.forN
      | apply Closed.foldl
    | intro _
    | (extract_lets b0_ b1_ b2_ b3_
       try (refine (fun (hb0_ : Q b0_) => ?_) ?_; clear_value b0_)
       try (refine (fun (hb1_ : Q b1_) => ?_) ?_; clear_value b1_)
       try (refine (fun (hb2_ : Q b2_) => ?_) ?_; clear_value b2_)
       try (refine (fun (hb3_ : Q b3_) => ?_) ?_; clear_value b3_))
    | split | exact rfl | exact fun h => h | unfold a0_ | unfold a1_ | unfold a2_ | unfold a3_ | unfold b0_
    | unfold b1_ | unfold b2_ | unfold b3_

theorem zRet_closed {x0_ : State}  (hq_ : Q x0_) : Q (zRet x0_) := by
  unfold zRet
  try extract_lets a0_ a1_ a2_ a3_
  try (refine (fun (ha0_ : Q a0_) => ?_) ?_; clear_value a0_)
  try (refine (fun (ha1_ : Q a1_) => ?_) ?_; clear_value a1_)
  try (refine (fun (ha2_ : Q a2_) => ?_) ?_; clear_value a2_)
  try (refine (fun (ha3_ : Q a3_) => ?_) ?_; clear_value a3_)
  repeat' first
    | with_reducible first
      | assumption | intro _ | apply Closed.ite | apply zRun_closed hP | apply hP.setReg | apply Closed.forN
      | apply Closed.foldl
    | intro _
    | (extract_lets b0_ b1_ b2_ b3_
       try (refine (fun (hb0_ : Q b0_) => ?_) ?_; clear_value b0_)
       try (refine (fun (hb1_ : Q b1_) => ?_) ?_; clear_value b1_)
       try (refine (fun (hb2_ : Q b2_) => ?_) ?_; clear_value b2_)
       try (refine (fun (hb3_ : Q b3_) => ?_) ?_; clear_value b3_))
    | split | exact rfl | exact fun h => h | unfold a0_ | unfold a1_ | unfold a2_ | unfold a3_ | unfold b0_
    | unfold b1_ | unfold b2_ | unfold b3_

theorem zTrap_closed {code : Nat} {x0_ : State}  (hq_ : Q x0_) : Q (zTrap code x0_) := by
  unfold zTrap
  repeat' first
    | with_reducible first
      | assumption | intro _ | apply Closed.ite | apply zRun_closed hP | apply hP.setReg | apply Closed.forN
      | apply Closed.foldl
    | intro _ | extract_lets | split | exact rfl | exact fun h => h

end Sys2Proof.Machine
end

