-- ==== Sys2Proof/Laws/ClosedZMove.lean ====
section
/-!
SUPPORT. The operations of ZMove.lean keep every property that the primitive writes keep (Laws/Closed.lean).
-/
set_option Elab.async false
set_option linter.all false
set_option linter.unusedVariables false
set_option linter.tactic.unusedName false

namespace Sys2Proof.Machine

variable {Q : State → Prop} (hP : Closed Q)
include hP

theorem zNop_closed {x0_ : State}  (hq_ : Q x0_) : Q (zNop x0_) := by
  unfold zNop
  repeat' first
    | with_reducible first
      | assumption | intro _ | apply Closed.ite | apply zPlain_closed hP | apply hP.setReg
      | apply Closed.forN | apply Closed.foldl
    | intro _ | extract_lets | split | exact rfl | exact fun h => h

theorem zMov_closed {d : ZReg} {a : ZReg} {x0_ : State}  (hq_ : Q x0_) : Q (zMov d a x0_) := by
  unfold zMov
  repeat' first
    | with_reducible first
      | assumption | intro _ | apply Closed.ite | apply zPlain_closed hP | apply hP.setReg
      | apply Closed.forN | apply Closed.foldl
    | intro _ | extract_lets | split | exact rfl | exact fun h => h

theorem zLdi_closed {d : ZReg} {imm : BitVec 16} {x0_ : State}  (hq_ : Q x0_) : Q (zLdi d imm x0_) := by
  unfold zLdi
  repeat' first
    | with_reducible first
      | assumption | intro _ | apply Closed.ite | apply zPlain_closed hP | apply hP.setReg
      | apply Closed.forN | apply Closed.foldl
    | intro _ | extract_lets | split | exact rfl | exact fun h => h

theorem zLdih_closed {d : ZReg} {imm : BitVec 16} {x0_ : State}  (hq_ : Q x0_) : Q (zLdih d imm x0_) := by
  unfold zLdih
  repeat' first
    | with_reducible first
      | assumption | intro _ | apply Closed.ite | apply zPlain_closed hP | apply hP.setReg
      | apply Closed.forN | apply Closed.foldl
    | intro _ | extract_lets | split | exact rfl | exact fun h => h

theorem zGetf_closed {d : ZReg} {x0_ : State}  (hq_ : Q x0_) : Q (zGetf d x0_) := by
  unfold zGetf
  repeat' first
    | with_reducible first
      | assumption | intro _ | apply Closed.ite | apply zPlain_closed hP | apply hP.setReg
      | apply Closed.forN | apply Closed.foldl
    | intro _ | extract_lets | split | exact rfl | exact fun h => h

theorem zSetf_closed {a : ZReg} {x0_ : State}  (hq_ : Q x0_) : Q (zSetf a x0_) := by
  unfold zSetf
  repeat' first
    | with_reducible first
      | assumption | intro _ | apply Closed.ite | apply zPlain_closed hP | apply hP.setReg
      | apply Closed.forN | apply Closed.foldl
    | intro _ | extract_lets | split | exact rfl | exact fun h => h

theorem zClrq_closed {x0_ : State}  (hq_ : Q x0_) : Q (zClrq x0_) := by
  unfold zClrq
  try extract_lets a0_
  try (refine (fun (ha0_ : Q a0_) => ?_) ?_; clear_value a0_)
  repeat' first
    | with_reducible first
      | assumption | intro _ | apply Closed.ite | apply zPlain_closed hP | apply hP.setReg
      | apply Closed.forN | apply Closed.foldl
    | intro _
    | (extract_lets b0_
       try (refine (fun (hb0_ : Q b0_) => ?_) ?_; clear_value b0_))
    | split | exact rfl | exact fun h => h | unfold a0_ | unfold b0_

theorem zLd_closed {d : ZReg} {sp : ZSpace} {t : ZTy} {off : Nat} {err : Option (Fin 3 × Ecc)} {s : State}  (hq_ : Q s) : Q (zLd d sp t off err s) := by
  unfold zLd
  try extract_lets a0_ a1_ a2_
  try (refine (fun (ha0_ : Q a0_) => ?_) ?_; clear_value a0_)
  try (refine (fun (ha1_ : Q a1_) => ?_) ?_; clear_value a1_)
  try (refine (fun (ha2_ : Q a2_) => ?_) ?_; clear_value a2_)
  repeat' first
    | with_reducible first
      | assumption | intro _ | apply Closed.ite | apply struck_closed hP | apply zRun_closed hP
      | apply hP.setReg | apply Closed.forN | apply Closed.foldl
    | intro _
    | (extract_lets b0_ b1_ b2_
       try (refine (fun (hb0_ : Q b0_) => ?_) ?_; clear_value b0_)
       try (refine (fun (hb1_ : Q b1_) => ?_) ?_; clear_value b1_)
       try (refine (fun (hb2_ : Q b2_) => ?_) ?_; clear_value b2_))
    | split | exact rfl | exact fun h => h | unfold a0_ | unfold a1_ | unfold a2_ | unfold b0_ | unfold b1_
    | unfold b2_

theorem zSt_closed {d : ZReg} {sp : ZSpace} {t : ZTy} {off : Nat} {x0_ : State}  (hq_ : Q x0_) : Q (zSt d sp t off x0_) := by
  unfold zSt
  repeat' first
    | with_reducible first
      | assumption | intro _ | apply Closed.ite | apply zRun_closed hP | apply hP.setReg | apply Closed.forN
      | apply Closed.foldl
    | intro _ | extract_lets | split | exact rfl | exact fun h => h

theorem zLdx_closed {d : ZReg} {x : ZReg} {sp : ZSpace} {t : ZTy} {off : Nat} {count : Nat} {x0_ : State}  (hq_ : Q x0_) : Q (zLdx d x sp t off count x0_) := by
  unfold zLdx
  try extract_lets a0_
  try (refine (fun (ha0_ : Q a0_) => ?_) ?_; clear_value a0_)
  repeat' first
    | with_reducible first
      | assumption | intro _ | apply Closed.ite | apply zRun_closed hP | apply hP.setReg | apply Closed.forN
      | apply Closed.foldl
    | intro _
    | (extract_lets b0_
       try (refine (fun (hb0_ : Q b0_) => ?_) ?_; clear_value b0_))
    | split | exact rfl | exact fun h => h | unfold a0_ | unfold b0_

theorem zStx_closed {d : ZReg} {x : ZReg} {sp : ZSpace} {t : ZTy} {off : Nat} {count : Nat} {x0_ : State}  (hq_ : Q x0_) : Q (zStx d x sp t off count x0_) := by
  unfold zStx
  try extract_lets a0_
  try (refine (fun (ha0_ : Q a0_) => ?_) ?_; clear_value a0_)
  repeat' first
    | with_reducible first
      | assumption | intro _ | apply Closed.ite | apply zRun_closed hP | apply hP.setReg | apply Closed.forN
      | apply Closed.foldl
    | intro _
    | (extract_lets b0_
       try (refine (fun (hb0_ : Q b0_) => ?_) ?_; clear_value b0_))
    | split | exact rfl | exact fun h => h | unfold a0_ | unfold b0_

end Sys2Proof.Machine
end

