-- ==== Sys2Proof/Laws/State.lean ====
section
/-!
SUPPORT. Every field of the state after each primitive update, true by unfolding it, so that no proof unfolds a record
update.
-/
set_option Elab.async false
set_option linter.all false
namespace Sys2Proof.Machine

variable (s : State)

/-! ### State.setReg -/

@[simp] theorem State.setReg_regs (a : Nat) (w : Word) : (s.setReg a w).regs = Sparse.put s.regs a w (regReset a) := rfl
@[simp] theorem State.setReg_held (a : Nat) (w : Word) : (s.setReg a w).held = s.held := rfl
@[simp] theorem State.setReg_shown (a : Nat) (w : Word) : (s.setReg a w).shown = s.shown := rfl
@[simp] theorem State.setReg_deferred (a : Nat) (w : Word) : (s.setReg a w).deferred = s.deferred := rfl
@[simp] theorem State.setReg_starter (a : Nat) (w : Word) : (s.setReg a w).starter = s.starter := rfl
@[simp] theorem State.setReg_voting (a : Nat) (w : Word) : (s.setReg a w).voting = s.voting := rfl
@[simp] theorem State.setReg_lanes (a : Nat) (w : Word) : (s.setReg a w).lanes = s.lanes := rfl
@[simp] theorem State.setReg_mems (a : Nat) (w : Word) : (s.setReg a w).mems = s.mems := rfl
@[simp] theorem State.setReg_exec (a : Nat) (w : Word) : (s.setReg a w).exec = s.exec := rfl
@[simp] theorem State.setReg_groups (a : Nat) (w : Word) : (s.setReg a w).groups = s.groups := rfl
@[simp] theorem State.setReg_safety (a : Nat) (w : Word) : (s.setReg a w).safety = s.safety := rfl
@[simp] theorem State.setReg_part (a : Nat) (w : Word) : (s.setReg a w).part = s.part := rfl
@[simp] theorem State.setReg_time (a : Nat) (w : Word) : (s.setReg a w).time = s.time := rfl
@[simp] theorem State.setReg_boot (a : Nat) (w : Word) : (s.setReg a w).boot = s.boot := rfl
@[simp] theorem State.setReg_meas (a : Nat) (w : Word) : (s.setReg a w).meas = s.meas := rfl
@[simp] theorem State.setReg_swap (a : Nat) (w : Word) : (s.setReg a w).swap = s.swap := rfl
@[simp] theorem State.setReg_baton (a : Nat) (w : Word) : (s.setReg a w).baton = s.baton := rfl
@[simp] theorem State.setReg_grd (a : Nat) (w : Word) : (s.setReg a w).grd = s.grd := rfl
@[simp] theorem State.setReg_can (a : Nat) (w : Word) : (s.setReg a w).can = s.can := rfl
@[simp] theorem State.setReg_relay (a : Nat) (w : Word) : (s.setReg a w).relay = s.relay := rfl
@[simp] theorem State.setReg_shp (a : Nat) (w : Word) : (s.setReg a w).shp = s.shp := rfl
@[simp] theorem State.setReg_life (a : Nat) (w : Word) : (s.setReg a w).life = s.life := rfl
@[simp] theorem State.setReg_srcs (a : Nat) (w : Word) : (s.setReg a w).srcs = s.srcs := rfl
@[simp] theorem State.setReg_reports (a : Nat) (w : Word) : (s.setReg a w).reports = s.reports := rfl
@[simp] theorem State.setReg_sent (a : Nat) (w : Word) : (s.setReg a w).sent = s.sent := rfl
@[simp] theorem State.setReg_pending (a : Nat) (w : Word) : (s.setReg a w).pending = s.pending := rfl
@[simp] theorem State.setReg_freeCtr (a : Nat) (w : Word) : (s.setReg a w).freeCtr = s.freeCtr := rfl

/-! ### State.send -/

@[simp] theorem State.send_regs (o : Sent) : (s.send o).regs = s.regs := rfl
@[simp] theorem State.send_held (o : Sent) : (s.send o).held = s.held := rfl
@[simp] theorem State.send_shown (o : Sent) : (s.send o).shown = s.shown := rfl
@[simp] theorem State.send_deferred (o : Sent) : (s.send o).deferred = s.deferred := rfl
@[simp] theorem State.send_starter (o : Sent) : (s.send o).starter = s.starter := rfl
@[simp] theorem State.send_voting (o : Sent) : (s.send o).voting = s.voting := rfl
@[simp] theorem State.send_lanes (o : Sent) : (s.send o).lanes = s.lanes := rfl
@[simp] theorem State.send_mems (o : Sent) : (s.send o).mems = s.mems := rfl
@[simp] theorem State.send_exec (o : Sent) : (s.send o).exec = s.exec := rfl
@[simp] theorem State.send_groups (o : Sent) : (s.send o).groups = s.groups := rfl
@[simp] theorem State.send_safety (o : Sent) : (s.send o).safety = s.safety := rfl
@[simp] theorem State.send_part (o : Sent) : (s.send o).part = s.part := rfl
@[simp] theorem State.send_time (o : Sent) : (s.send o).time = s.time := rfl
@[simp] theorem State.send_boot (o : Sent) : (s.send o).boot = s.boot := rfl
@[simp] theorem State.send_meas (o : Sent) : (s.send o).meas = s.meas := rfl
@[simp] theorem State.send_swap (o : Sent) : (s.send o).swap = s.swap := rfl
@[simp] theorem State.send_baton (o : Sent) : (s.send o).baton = s.baton := rfl
@[simp] theorem State.send_grd (o : Sent) : (s.send o).grd = s.grd := rfl
@[simp] theorem State.send_can (o : Sent) : (s.send o).can = s.can := rfl
@[simp] theorem State.send_relay (o : Sent) : (s.send o).relay = s.relay := rfl
@[simp] theorem State.send_shp (o : Sent) : (s.send o).shp = s.shp := rfl
@[simp] theorem State.send_life (o : Sent) : (s.send o).life = s.life := rfl
@[simp] theorem State.send_srcs (o : Sent) : (s.send o).srcs = s.srcs := rfl
@[simp] theorem State.send_reports (o : Sent) : (s.send o).reports = s.reports := rfl
@[simp] theorem State.send_sent (o : Sent) : (s.send o).sent = o :: s.sent := rfl
@[simp] theorem State.send_pending (o : Sent) : (s.send o).pending = s.pending := rfl
@[simp] theorem State.send_freeCtr (o : Sent) : (s.send o).freeCtr = s.freeCtr := rfl

/-! ### State.fresh -/

@[simp] theorem State.fresh_regs : (s.fresh).regs = s.regs := rfl
@[simp] theorem State.fresh_held : (s.fresh).held = s.held := rfl
@[simp] theorem State.fresh_shown : (s.fresh).shown = s.shown := rfl
@[simp] theorem State.fresh_deferred : (s.fresh).deferred = s.deferred := rfl
@[simp] theorem State.fresh_starter : (s.fresh).starter = s.starter := rfl
@[simp] theorem State.fresh_voting : (s.fresh).voting = s.voting := rfl
@[simp] theorem State.fresh_lanes : (s.fresh).lanes = s.lanes := rfl
@[simp] theorem State.fresh_mems : (s.fresh).mems = s.mems := rfl
@[simp] theorem State.fresh_exec : (s.fresh).exec = s.exec := rfl
@[simp] theorem State.fresh_groups : (s.fresh).groups = s.groups := rfl
@[simp] theorem State.fresh_safety : (s.fresh).safety = s.safety := rfl
@[simp] theorem State.fresh_part : (s.fresh).part = s.part := rfl
@[simp] theorem State.fresh_time : (s.fresh).time = s.time := rfl
@[simp] theorem State.fresh_boot : (s.fresh).boot = s.boot := rfl
@[simp] theorem State.fresh_meas : (s.fresh).meas = s.meas := rfl
@[simp] theorem State.fresh_swap : (s.fresh).swap = s.swap := rfl
@[simp] theorem State.fresh_baton : (s.fresh).baton = s.baton := rfl
@[simp] theorem State.fresh_grd : (s.fresh).grd = s.grd := rfl
@[simp] theorem State.fresh_can : (s.fresh).can = s.can := rfl
@[simp] theorem State.fresh_relay : (s.fresh).relay = s.relay := rfl
@[simp] theorem State.fresh_shp : (s.fresh).shp = s.shp := rfl
@[simp] theorem State.fresh_life : (s.fresh).life = s.life := rfl
@[simp] theorem State.fresh_srcs : (s.fresh).srcs = s.srcs := rfl
@[simp] theorem State.fresh_reports : (s.fresh).reports = s.reports := rfl
@[simp] theorem State.fresh_sent : (s.fresh).sent = s.sent := rfl
@[simp] theorem State.fresh_pending : (s.fresh).pending = s.pending := rfl
@[simp] theorem State.fresh_freeCtr : (s.fresh).freeCtr = s.freeCtr + 1 := rfl

/-! ### updSafety -/

@[simp] theorem updSafety_regs (f : Safety → Safety) : (updSafety f s).regs = s.regs := rfl
@[simp] theorem updSafety_held (f : Safety → Safety) : (updSafety f s).held = s.held := rfl
@[simp] theorem updSafety_shown (f : Safety → Safety) : (updSafety f s).shown = s.shown := rfl
@[simp] theorem updSafety_deferred (f : Safety → Safety) : (updSafety f s).deferred = s.deferred := rfl
@[simp] theorem updSafety_starter (f : Safety → Safety) : (updSafety f s).starter = s.starter := rfl
@[simp] theorem updSafety_voting (f : Safety → Safety) : (updSafety f s).voting = s.voting := rfl
@[simp] theorem updSafety_lanes (f : Safety → Safety) : (updSafety f s).lanes = s.lanes := rfl
@[simp] theorem updSafety_mems (f : Safety → Safety) : (updSafety f s).mems = s.mems := rfl
@[simp] theorem updSafety_exec (f : Safety → Safety) : (updSafety f s).exec = s.exec := rfl
@[simp] theorem updSafety_groups (f : Safety → Safety) : (updSafety f s).groups = s.groups := rfl
@[simp] theorem updSafety_safety (f : Safety → Safety) : (updSafety f s).safety = f s.safety := rfl
@[simp] theorem updSafety_part (f : Safety → Safety) : (updSafety f s).part = s.part := rfl
@[simp] theorem updSafety_time (f : Safety → Safety) : (updSafety f s).time = s.time := rfl
@[simp] theorem updSafety_boot (f : Safety → Safety) : (updSafety f s).boot = s.boot := rfl
@[simp] theorem updSafety_meas (f : Safety → Safety) : (updSafety f s).meas = s.meas := rfl
@[simp] theorem updSafety_swap (f : Safety → Safety) : (updSafety f s).swap = s.swap := rfl
@[simp] theorem updSafety_baton (f : Safety → Safety) : (updSafety f s).baton = s.baton := rfl
@[simp] theorem updSafety_grd (f : Safety → Safety) : (updSafety f s).grd = s.grd := rfl
@[simp] theorem updSafety_can (f : Safety → Safety) : (updSafety f s).can = s.can := rfl
@[simp] theorem updSafety_relay (f : Safety → Safety) : (updSafety f s).relay = s.relay := rfl
@[simp] theorem updSafety_shp (f : Safety → Safety) : (updSafety f s).shp = s.shp := rfl
@[simp] theorem updSafety_life (f : Safety → Safety) : (updSafety f s).life = s.life := rfl
@[simp] theorem updSafety_srcs (f : Safety → Safety) : (updSafety f s).srcs = s.srcs := rfl
@[simp] theorem updSafety_reports (f : Safety → Safety) : (updSafety f s).reports = s.reports := rfl
@[simp] theorem updSafety_sent (f : Safety → Safety) : (updSafety f s).sent = s.sent := rfl
@[simp] theorem updSafety_pending (f : Safety → Safety) : (updSafety f s).pending = s.pending := rfl
@[simp] theorem updSafety_freeCtr (f : Safety → Safety) : (updSafety f s).freeCtr = s.freeCtr := rfl

/-! ### updPart -/

@[simp] theorem updPart_regs (f : Partner → Partner) : (updPart f s).regs = s.regs := rfl
@[simp] theorem updPart_held (f : Partner → Partner) : (updPart f s).held = s.held := rfl
@[simp] theorem updPart_shown (f : Partner → Partner) : (updPart f s).shown = s.shown := rfl
@[simp] theorem updPart_deferred (f : Partner → Partner) : (updPart f s).deferred = s.deferred := rfl
@[simp] theorem updPart_starter (f : Partner → Partner) : (updPart f s).starter = s.starter := rfl
@[simp] theorem updPart_voting (f : Partner → Partner) : (updPart f s).voting = s.voting := rfl
@[simp] theorem updPart_lanes (f : Partner → Partner) : (updPart f s).lanes = s.lanes := rfl
@[simp] theorem updPart_mems (f : Partner → Partner) : (updPart f s).mems = s.mems := rfl
@[simp] theorem updPart_exec (f : Partner → Partner) : (updPart f s).exec = s.exec := rfl
@[simp] theorem updPart_groups (f : Partner → Partner) : (updPart f s).groups = s.groups := rfl
@[simp] theorem updPart_safety (f : Partner → Partner) : (updPart f s).safety = s.safety := rfl
@[simp] theorem updPart_part (f : Partner → Partner) : (updPart f s).part = f s.part := rfl
@[simp] theorem updPart_time (f : Partner → Partner) : (updPart f s).time = s.time := rfl
@[simp] theorem updPart_boot (f : Partner → Partner) : (updPart f s).boot = s.boot := rfl
@[simp] theorem updPart_meas (f : Partner → Partner) : (updPart f s).meas = s.meas := rfl
@[simp] theorem updPart_swap (f : Partner → Partner) : (updPart f s).swap = s.swap := rfl
@[simp] theorem updPart_baton (f : Partner → Partner) : (updPart f s).baton = s.baton := rfl
@[simp] theorem updPart_grd (f : Partner → Partner) : (updPart f s).grd = s.grd := rfl
@[simp] theorem updPart_can (f : Partner → Partner) : (updPart f s).can = s.can := rfl
@[simp] theorem updPart_relay (f : Partner → Partner) : (updPart f s).relay = s.relay := rfl
@[simp] theorem updPart_shp (f : Partner → Partner) : (updPart f s).shp = s.shp := rfl
@[simp] theorem updPart_life (f : Partner → Partner) : (updPart f s).life = s.life := rfl
@[simp] theorem updPart_srcs (f : Partner → Partner) : (updPart f s).srcs = s.srcs := rfl
@[simp] theorem updPart_reports (f : Partner → Partner) : (updPart f s).reports = s.reports := rfl
@[simp] theorem updPart_sent (f : Partner → Partner) : (updPart f s).sent = s.sent := rfl
@[simp] theorem updPart_pending (f : Partner → Partner) : (updPart f s).pending = s.pending := rfl
@[simp] theorem updPart_freeCtr (f : Partner → Partner) : (updPart f s).freeCtr = s.freeCtr := rfl

/-! ### updExec -/

@[simp] theorem updExec_regs (f : Exec → Exec) : (updExec f s).regs = s.regs := rfl
@[simp] theorem updExec_held (f : Exec → Exec) : (updExec f s).held = s.held := rfl
@[simp] theorem updExec_shown (f : Exec → Exec) : (updExec f s).shown = s.shown := rfl
@[simp] theorem updExec_deferred (f : Exec → Exec) : (updExec f s).deferred = s.deferred := rfl
@[simp] theorem updExec_starter (f : Exec → Exec) : (updExec f s).starter = s.starter := rfl
@[simp] theorem updExec_voting (f : Exec → Exec) : (updExec f s).voting = s.voting := rfl
@[simp] theorem updExec_lanes (f : Exec → Exec) : (updExec f s).lanes = s.lanes := rfl
@[simp] theorem updExec_mems (f : Exec → Exec) : (updExec f s).mems = s.mems := rfl
@[simp] theorem updExec_exec (f : Exec → Exec) : (updExec f s).exec = f s.exec := rfl
@[simp] theorem updExec_groups (f : Exec → Exec) : (updExec f s).groups = s.groups := rfl
@[simp] theorem updExec_safety (f : Exec → Exec) : (updExec f s).safety = s.safety := rfl
@[simp] theorem updExec_part (f : Exec → Exec) : (updExec f s).part = s.part := rfl
@[simp] theorem updExec_time (f : Exec → Exec) : (updExec f s).time = s.time := rfl
@[simp] theorem updExec_boot (f : Exec → Exec) : (updExec f s).boot = s.boot := rfl
@[simp] theorem updExec_meas (f : Exec → Exec) : (updExec f s).meas = s.meas := rfl
@[simp] theorem updExec_swap (f : Exec → Exec) : (updExec f s).swap = s.swap := rfl
@[simp] theorem updExec_baton (f : Exec → Exec) : (updExec f s).baton = s.baton := rfl
@[simp] theorem updExec_grd (f : Exec → Exec) : (updExec f s).grd = s.grd := rfl
@[simp] theorem updExec_can (f : Exec → Exec) : (updExec f s).can = s.can := rfl
@[simp] theorem updExec_relay (f : Exec → Exec) : (updExec f s).relay = s.relay := rfl
@[simp] theorem updExec_shp (f : Exec → Exec) : (updExec f s).shp = s.shp := rfl
@[simp] theorem updExec_life (f : Exec → Exec) : (updExec f s).life = s.life := rfl
@[simp] theorem updExec_srcs (f : Exec → Exec) : (updExec f s).srcs = s.srcs := rfl
@[simp] theorem updExec_reports (f : Exec → Exec) : (updExec f s).reports = s.reports := rfl
@[simp] theorem updExec_sent (f : Exec → Exec) : (updExec f s).sent = s.sent := rfl
@[simp] theorem updExec_pending (f : Exec → Exec) : (updExec f s).pending = s.pending := rfl
@[simp] theorem updExec_freeCtr (f : Exec → Exec) : (updExec f s).freeCtr = s.freeCtr := rfl

/-! ### updVoting -/

@[simp] theorem updVoting_regs (f : Voting → Voting) : (updVoting f s).regs = s.regs := rfl
@[simp] theorem updVoting_held (f : Voting → Voting) : (updVoting f s).held = s.held := rfl
@[simp] theorem updVoting_shown (f : Voting → Voting) : (updVoting f s).shown = s.shown := rfl
@[simp] theorem updVoting_deferred (f : Voting → Voting) : (updVoting f s).deferred = s.deferred := rfl
@[simp] theorem updVoting_starter (f : Voting → Voting) : (updVoting f s).starter = s.starter := rfl
@[simp] theorem updVoting_voting (f : Voting → Voting) : (updVoting f s).voting = f s.voting := rfl
@[simp] theorem updVoting_lanes (f : Voting → Voting) : (updVoting f s).lanes = s.lanes := rfl
@[simp] theorem updVoting_mems (f : Voting → Voting) : (updVoting f s).mems = s.mems := rfl
@[simp] theorem updVoting_exec (f : Voting → Voting) : (updVoting f s).exec = s.exec := rfl
@[simp] theorem updVoting_groups (f : Voting → Voting) : (updVoting f s).groups = s.groups := rfl
@[simp] theorem updVoting_safety (f : Voting → Voting) : (updVoting f s).safety = s.safety := rfl
@[simp] theorem updVoting_part (f : Voting → Voting) : (updVoting f s).part = s.part := rfl
@[simp] theorem updVoting_time (f : Voting → Voting) : (updVoting f s).time = s.time := rfl
@[simp] theorem updVoting_boot (f : Voting → Voting) : (updVoting f s).boot = s.boot := rfl
@[simp] theorem updVoting_meas (f : Voting → Voting) : (updVoting f s).meas = s.meas := rfl
@[simp] theorem updVoting_swap (f : Voting → Voting) : (updVoting f s).swap = s.swap := rfl
@[simp] theorem updVoting_baton (f : Voting → Voting) : (updVoting f s).baton = s.baton := rfl
@[simp] theorem updVoting_grd (f : Voting → Voting) : (updVoting f s).grd = s.grd := rfl
@[simp] theorem updVoting_can (f : Voting → Voting) : (updVoting f s).can = s.can := rfl
@[simp] theorem updVoting_relay (f : Voting → Voting) : (updVoting f s).relay = s.relay := rfl
@[simp] theorem updVoting_shp (f : Voting → Voting) : (updVoting f s).shp = s.shp := rfl
@[simp] theorem updVoting_life (f : Voting → Voting) : (updVoting f s).life = s.life := rfl
@[simp] theorem updVoting_srcs (f : Voting → Voting) : (updVoting f s).srcs = s.srcs := rfl
@[simp] theorem updVoting_reports (f : Voting → Voting) : (updVoting f s).reports = s.reports := rfl
@[simp] theorem updVoting_sent (f : Voting → Voting) : (updVoting f s).sent = s.sent := rfl
@[simp] theorem updVoting_pending (f : Voting → Voting) : (updVoting f s).pending = s.pending := rfl
@[simp] theorem updVoting_freeCtr (f : Voting → Voting) : (updVoting f s).freeCtr = s.freeCtr := rfl

/-! ### updMems -/

@[simp] theorem updMems_regs (f : Mems → Mems) : (updMems f s).regs = s.regs := rfl
@[simp] theorem updMems_held (f : Mems → Mems) : (updMems f s).held = s.held := rfl
@[simp] theorem updMems_shown (f : Mems → Mems) : (updMems f s).shown = s.shown := rfl
@[simp] theorem updMems_deferred (f : Mems → Mems) : (updMems f s).deferred = s.deferred := rfl
@[simp] theorem updMems_starter (f : Mems → Mems) : (updMems f s).starter = s.starter := rfl
@[simp] theorem updMems_voting (f : Mems → Mems) : (updMems f s).voting = s.voting := rfl
@[simp] theorem updMems_lanes (f : Mems → Mems) : (updMems f s).lanes = s.lanes := rfl
@[simp] theorem updMems_mems (f : Mems → Mems) : (updMems f s).mems = f s.mems := rfl
@[simp] theorem updMems_exec (f : Mems → Mems) : (updMems f s).exec = s.exec := rfl
@[simp] theorem updMems_groups (f : Mems → Mems) : (updMems f s).groups = s.groups := rfl
@[simp] theorem updMems_safety (f : Mems → Mems) : (updMems f s).safety = s.safety := rfl
@[simp] theorem updMems_part (f : Mems → Mems) : (updMems f s).part = s.part := rfl
@[simp] theorem updMems_time (f : Mems → Mems) : (updMems f s).time = s.time := rfl
@[simp] theorem updMems_boot (f : Mems → Mems) : (updMems f s).boot = s.boot := rfl
@[simp] theorem updMems_meas (f : Mems → Mems) : (updMems f s).meas = s.meas := rfl
@[simp] theorem updMems_swap (f : Mems → Mems) : (updMems f s).swap = s.swap := rfl
@[simp] theorem updMems_baton (f : Mems → Mems) : (updMems f s).baton = s.baton := rfl
@[simp] theorem updMems_grd (f : Mems → Mems) : (updMems f s).grd = s.grd := rfl
@[simp] theorem updMems_can (f : Mems → Mems) : (updMems f s).can = s.can := rfl
@[simp] theorem updMems_relay (f : Mems → Mems) : (updMems f s).relay = s.relay := rfl
@[simp] theorem updMems_shp (f : Mems → Mems) : (updMems f s).shp = s.shp := rfl
@[simp] theorem updMems_life (f : Mems → Mems) : (updMems f s).life = s.life := rfl
@[simp] theorem updMems_srcs (f : Mems → Mems) : (updMems f s).srcs = s.srcs := rfl
@[simp] theorem updMems_reports (f : Mems → Mems) : (updMems f s).reports = s.reports := rfl
@[simp] theorem updMems_sent (f : Mems → Mems) : (updMems f s).sent = s.sent := rfl
@[simp] theorem updMems_pending (f : Mems → Mems) : (updMems f s).pending = s.pending := rfl
@[simp] theorem updMems_freeCtr (f : Mems → Mems) : (updMems f s).freeCtr = s.freeCtr := rfl

/-! ### updStarter -/

@[simp] theorem updStarter_regs (f : Starter → Starter) : (updStarter f s).regs = s.regs := rfl
@[simp] theorem updStarter_held (f : Starter → Starter) : (updStarter f s).held = s.held := rfl
@[simp] theorem updStarter_shown (f : Starter → Starter) : (updStarter f s).shown = s.shown := rfl
@[simp] theorem updStarter_deferred (f : Starter → Starter) : (updStarter f s).deferred = s.deferred := rfl
@[simp] theorem updStarter_starter (f : Starter → Starter) : (updStarter f s).starter = f s.starter := rfl
@[simp] theorem updStarter_voting (f : Starter → Starter) : (updStarter f s).voting = s.voting := rfl
@[simp] theorem updStarter_lanes (f : Starter → Starter) : (updStarter f s).lanes = s.lanes := rfl
@[simp] theorem updStarter_mems (f : Starter → Starter) : (updStarter f s).mems = s.mems := rfl
@[simp] theorem updStarter_exec (f : Starter → Starter) : (updStarter f s).exec = s.exec := rfl
@[simp] theorem updStarter_groups (f : Starter → Starter) : (updStarter f s).groups = s.groups := rfl
@[simp] theorem updStarter_safety (f : Starter → Starter) : (updStarter f s).safety = s.safety := rfl
@[simp] theorem updStarter_part (f : Starter → Starter) : (updStarter f s).part = s.part := rfl
@[simp] theorem updStarter_time (f : Starter → Starter) : (updStarter f s).time = s.time := rfl
@[simp] theorem updStarter_boot (f : Starter → Starter) : (updStarter f s).boot = s.boot := rfl
@[simp] theorem updStarter_meas (f : Starter → Starter) : (updStarter f s).meas = s.meas := rfl
@[simp] theorem updStarter_swap (f : Starter → Starter) : (updStarter f s).swap = s.swap := rfl
@[simp] theorem updStarter_baton (f : Starter → Starter) : (updStarter f s).baton = s.baton := rfl
@[simp] theorem updStarter_grd (f : Starter → Starter) : (updStarter f s).grd = s.grd := rfl
@[simp] theorem updStarter_can (f : Starter → Starter) : (updStarter f s).can = s.can := rfl
@[simp] theorem updStarter_relay (f : Starter → Starter) : (updStarter f s).relay = s.relay := rfl
@[simp] theorem updStarter_shp (f : Starter → Starter) : (updStarter f s).shp = s.shp := rfl
@[simp] theorem updStarter_life (f : Starter → Starter) : (updStarter f s).life = s.life := rfl
@[simp] theorem updStarter_srcs (f : Starter → Starter) : (updStarter f s).srcs = s.srcs := rfl
@[simp] theorem updStarter_reports (f : Starter → Starter) : (updStarter f s).reports = s.reports := rfl
@[simp] theorem updStarter_sent (f : Starter → Starter) : (updStarter f s).sent = s.sent := rfl
@[simp] theorem updStarter_pending (f : Starter → Starter) : (updStarter f s).pending = s.pending := rfl
@[simp] theorem updStarter_freeCtr (f : Starter → Starter) : (updStarter f s).freeCtr = s.freeCtr := rfl

/-! ### updTime -/

@[simp] theorem updTime_regs (f : TimeUnit → TimeUnit) : (updTime f s).regs = s.regs := rfl
@[simp] theorem updTime_held (f : TimeUnit → TimeUnit) : (updTime f s).held = s.held := rfl
@[simp] theorem updTime_shown (f : TimeUnit → TimeUnit) : (updTime f s).shown = s.shown := rfl
@[simp] theorem updTime_deferred (f : TimeUnit → TimeUnit) : (updTime f s).deferred = s.deferred := rfl
@[simp] theorem updTime_starter (f : TimeUnit → TimeUnit) : (updTime f s).starter = s.starter := rfl
@[simp] theorem updTime_voting (f : TimeUnit → TimeUnit) : (updTime f s).voting = s.voting := rfl
@[simp] theorem updTime_lanes (f : TimeUnit → TimeUnit) : (updTime f s).lanes = s.lanes := rfl
@[simp] theorem updTime_mems (f : TimeUnit → TimeUnit) : (updTime f s).mems = s.mems := rfl
@[simp] theorem updTime_exec (f : TimeUnit → TimeUnit) : (updTime f s).exec = s.exec := rfl
@[simp] theorem updTime_groups (f : TimeUnit → TimeUnit) : (updTime f s).groups = s.groups := rfl
@[simp] theorem updTime_safety (f : TimeUnit → TimeUnit) : (updTime f s).safety = s.safety := rfl
@[simp] theorem updTime_part (f : TimeUnit → TimeUnit) : (updTime f s).part = s.part := rfl
@[simp] theorem updTime_time (f : TimeUnit → TimeUnit) : (updTime f s).time = f s.time := rfl
@[simp] theorem updTime_boot (f : TimeUnit → TimeUnit) : (updTime f s).boot = s.boot := rfl
@[simp] theorem updTime_meas (f : TimeUnit → TimeUnit) : (updTime f s).meas = s.meas := rfl
@[simp] theorem updTime_swap (f : TimeUnit → TimeUnit) : (updTime f s).swap = s.swap := rfl
@[simp] theorem updTime_baton (f : TimeUnit → TimeUnit) : (updTime f s).baton = s.baton := rfl
@[simp] theorem updTime_grd (f : TimeUnit → TimeUnit) : (updTime f s).grd = s.grd := rfl
@[simp] theorem updTime_can (f : TimeUnit → TimeUnit) : (updTime f s).can = s.can := rfl
@[simp] theorem updTime_relay (f : TimeUnit → TimeUnit) : (updTime f s).relay = s.relay := rfl
@[simp] theorem updTime_shp (f : TimeUnit → TimeUnit) : (updTime f s).shp = s.shp := rfl
@[simp] theorem updTime_life (f : TimeUnit → TimeUnit) : (updTime f s).life = s.life := rfl
@[simp] theorem updTime_srcs (f : TimeUnit → TimeUnit) : (updTime f s).srcs = s.srcs := rfl
@[simp] theorem updTime_reports (f : TimeUnit → TimeUnit) : (updTime f s).reports = s.reports := rfl
@[simp] theorem updTime_sent (f : TimeUnit → TimeUnit) : (updTime f s).sent = s.sent := rfl
@[simp] theorem updTime_pending (f : TimeUnit → TimeUnit) : (updTime f s).pending = s.pending := rfl
@[simp] theorem updTime_freeCtr (f : TimeUnit → TimeUnit) : (updTime f s).freeCtr = s.freeCtr := rfl

/-! ### updBaton -/

@[simp] theorem updBaton_regs (f : Baton → Baton) : (updBaton f s).regs = s.regs := rfl
@[simp] theorem updBaton_held (f : Baton → Baton) : (updBaton f s).held = s.held := rfl
@[simp] theorem updBaton_shown (f : Baton → Baton) : (updBaton f s).shown = s.shown := rfl
@[simp] theorem updBaton_deferred (f : Baton → Baton) : (updBaton f s).deferred = s.deferred := rfl
@[simp] theorem updBaton_starter (f : Baton → Baton) : (updBaton f s).starter = s.starter := rfl
@[simp] theorem updBaton_voting (f : Baton → Baton) : (updBaton f s).voting = s.voting := rfl
@[simp] theorem updBaton_lanes (f : Baton → Baton) : (updBaton f s).lanes = s.lanes := rfl
@[simp] theorem updBaton_mems (f : Baton → Baton) : (updBaton f s).mems = s.mems := rfl
@[simp] theorem updBaton_exec (f : Baton → Baton) : (updBaton f s).exec = s.exec := rfl
@[simp] theorem updBaton_groups (f : Baton → Baton) : (updBaton f s).groups = s.groups := rfl
@[simp] theorem updBaton_safety (f : Baton → Baton) : (updBaton f s).safety = s.safety := rfl
@[simp] theorem updBaton_part (f : Baton → Baton) : (updBaton f s).part = s.part := rfl
@[simp] theorem updBaton_time (f : Baton → Baton) : (updBaton f s).time = s.time := rfl
@[simp] theorem updBaton_boot (f : Baton → Baton) : (updBaton f s).boot = s.boot := rfl
@[simp] theorem updBaton_meas (f : Baton → Baton) : (updBaton f s).meas = s.meas := rfl
@[simp] theorem updBaton_swap (f : Baton → Baton) : (updBaton f s).swap = s.swap := rfl
@[simp] theorem updBaton_baton (f : Baton → Baton) : (updBaton f s).baton = f s.baton := rfl
@[simp] theorem updBaton_grd (f : Baton → Baton) : (updBaton f s).grd = s.grd := rfl
@[simp] theorem updBaton_can (f : Baton → Baton) : (updBaton f s).can = s.can := rfl
@[simp] theorem updBaton_relay (f : Baton → Baton) : (updBaton f s).relay = s.relay := rfl
@[simp] theorem updBaton_shp (f : Baton → Baton) : (updBaton f s).shp = s.shp := rfl
@[simp] theorem updBaton_life (f : Baton → Baton) : (updBaton f s).life = s.life := rfl
@[simp] theorem updBaton_srcs (f : Baton → Baton) : (updBaton f s).srcs = s.srcs := rfl
@[simp] theorem updBaton_reports (f : Baton → Baton) : (updBaton f s).reports = s.reports := rfl
@[simp] theorem updBaton_sent (f : Baton → Baton) : (updBaton f s).sent = s.sent := rfl
@[simp] theorem updBaton_pending (f : Baton → Baton) : (updBaton f s).pending = s.pending := rfl
@[simp] theorem updBaton_freeCtr (f : Baton → Baton) : (updBaton f s).freeCtr = s.freeCtr := rfl

/-! ### updSwap -/

@[simp] theorem updSwap_regs (f : Exchange → Exchange) : (updSwap f s).regs = s.regs := rfl
@[simp] theorem updSwap_held (f : Exchange → Exchange) : (updSwap f s).held = s.held := rfl
@[simp] theorem updSwap_shown (f : Exchange → Exchange) : (updSwap f s).shown = s.shown := rfl
@[simp] theorem updSwap_deferred (f : Exchange → Exchange) : (updSwap f s).deferred = s.deferred := rfl
@[simp] theorem updSwap_starter (f : Exchange → Exchange) : (updSwap f s).starter = s.starter := rfl
@[simp] theorem updSwap_voting (f : Exchange → Exchange) : (updSwap f s).voting = s.voting := rfl
@[simp] theorem updSwap_lanes (f : Exchange → Exchange) : (updSwap f s).lanes = s.lanes := rfl
@[simp] theorem updSwap_mems (f : Exchange → Exchange) : (updSwap f s).mems = s.mems := rfl
@[simp] theorem updSwap_exec (f : Exchange → Exchange) : (updSwap f s).exec = s.exec := rfl
@[simp] theorem updSwap_groups (f : Exchange → Exchange) : (updSwap f s).groups = s.groups := rfl
@[simp] theorem updSwap_safety (f : Exchange → Exchange) : (updSwap f s).safety = s.safety := rfl
@[simp] theorem updSwap_part (f : Exchange → Exchange) : (updSwap f s).part = s.part := rfl
@[simp] theorem updSwap_time (f : Exchange → Exchange) : (updSwap f s).time = s.time := rfl
@[simp] theorem updSwap_boot (f : Exchange → Exchange) : (updSwap f s).boot = s.boot := rfl
@[simp] theorem updSwap_meas (f : Exchange → Exchange) : (updSwap f s).meas = s.meas := rfl
@[simp] theorem updSwap_swap (f : Exchange → Exchange) : (updSwap f s).swap = f s.swap := rfl
@[simp] theorem updSwap_baton (f : Exchange → Exchange) : (updSwap f s).baton = s.baton := rfl
@[simp] theorem updSwap_grd (f : Exchange → Exchange) : (updSwap f s).grd = s.grd := rfl
@[simp] theorem updSwap_can (f : Exchange → Exchange) : (updSwap f s).can = s.can := rfl
@[simp] theorem updSwap_relay (f : Exchange → Exchange) : (updSwap f s).relay = s.relay := rfl
@[simp] theorem updSwap_shp (f : Exchange → Exchange) : (updSwap f s).shp = s.shp := rfl
@[simp] theorem updSwap_life (f : Exchange → Exchange) : (updSwap f s).life = s.life := rfl
@[simp] theorem updSwap_srcs (f : Exchange → Exchange) : (updSwap f s).srcs = s.srcs := rfl
@[simp] theorem updSwap_reports (f : Exchange → Exchange) : (updSwap f s).reports = s.reports := rfl
@[simp] theorem updSwap_sent (f : Exchange → Exchange) : (updSwap f s).sent = s.sent := rfl
@[simp] theorem updSwap_pending (f : Exchange → Exchange) : (updSwap f s).pending = s.pending := rfl
@[simp] theorem updSwap_freeCtr (f : Exchange → Exchange) : (updSwap f s).freeCtr = s.freeCtr := rfl

/-! ### updBoot -/

@[simp] theorem updBoot_regs (f : Boot → Boot) : (updBoot f s).regs = s.regs := rfl
@[simp] theorem updBoot_held (f : Boot → Boot) : (updBoot f s).held = s.held := rfl
@[simp] theorem updBoot_shown (f : Boot → Boot) : (updBoot f s).shown = s.shown := rfl
@[simp] theorem updBoot_deferred (f : Boot → Boot) : (updBoot f s).deferred = s.deferred := rfl
@[simp] theorem updBoot_starter (f : Boot → Boot) : (updBoot f s).starter = s.starter := rfl
@[simp] theorem updBoot_voting (f : Boot → Boot) : (updBoot f s).voting = s.voting := rfl
@[simp] theorem updBoot_lanes (f : Boot → Boot) : (updBoot f s).lanes = s.lanes := rfl
@[simp] theorem updBoot_mems (f : Boot → Boot) : (updBoot f s).mems = s.mems := rfl
@[simp] theorem updBoot_exec (f : Boot → Boot) : (updBoot f s).exec = s.exec := rfl
@[simp] theorem updBoot_groups (f : Boot → Boot) : (updBoot f s).groups = s.groups := rfl
@[simp] theorem updBoot_safety (f : Boot → Boot) : (updBoot f s).safety = s.safety := rfl
@[simp] theorem updBoot_part (f : Boot → Boot) : (updBoot f s).part = s.part := rfl
@[simp] theorem updBoot_time (f : Boot → Boot) : (updBoot f s).time = s.time := rfl
@[simp] theorem updBoot_boot (f : Boot → Boot) : (updBoot f s).boot = f s.boot := rfl
@[simp] theorem updBoot_meas (f : Boot → Boot) : (updBoot f s).meas = s.meas := rfl
@[simp] theorem updBoot_swap (f : Boot → Boot) : (updBoot f s).swap = s.swap := rfl
@[simp] theorem updBoot_baton (f : Boot → Boot) : (updBoot f s).baton = s.baton := rfl
@[simp] theorem updBoot_grd (f : Boot → Boot) : (updBoot f s).grd = s.grd := rfl
@[simp] theorem updBoot_can (f : Boot → Boot) : (updBoot f s).can = s.can := rfl
@[simp] theorem updBoot_relay (f : Boot → Boot) : (updBoot f s).relay = s.relay := rfl
@[simp] theorem updBoot_shp (f : Boot → Boot) : (updBoot f s).shp = s.shp := rfl
@[simp] theorem updBoot_life (f : Boot → Boot) : (updBoot f s).life = s.life := rfl
@[simp] theorem updBoot_srcs (f : Boot → Boot) : (updBoot f s).srcs = s.srcs := rfl
@[simp] theorem updBoot_reports (f : Boot → Boot) : (updBoot f s).reports = s.reports := rfl
@[simp] theorem updBoot_sent (f : Boot → Boot) : (updBoot f s).sent = s.sent := rfl
@[simp] theorem updBoot_pending (f : Boot → Boot) : (updBoot f s).pending = s.pending := rfl
@[simp] theorem updBoot_freeCtr (f : Boot → Boot) : (updBoot f s).freeCtr = s.freeCtr := rfl

/-! ### updGrd -/

@[simp] theorem updGrd_regs (f : Grador → Grador) : (updGrd f s).regs = s.regs := rfl
@[simp] theorem updGrd_held (f : Grador → Grador) : (updGrd f s).held = s.held := rfl
@[simp] theorem updGrd_shown (f : Grador → Grador) : (updGrd f s).shown = s.shown := rfl
@[simp] theorem updGrd_deferred (f : Grador → Grador) : (updGrd f s).deferred = s.deferred := rfl
@[simp] theorem updGrd_starter (f : Grador → Grador) : (updGrd f s).starter = s.starter := rfl
@[simp] theorem updGrd_voting (f : Grador → Grador) : (updGrd f s).voting = s.voting := rfl
@[simp] theorem updGrd_lanes (f : Grador → Grador) : (updGrd f s).lanes = s.lanes := rfl
@[simp] theorem updGrd_mems (f : Grador → Grador) : (updGrd f s).mems = s.mems := rfl
@[simp] theorem updGrd_exec (f : Grador → Grador) : (updGrd f s).exec = s.exec := rfl
@[simp] theorem updGrd_groups (f : Grador → Grador) : (updGrd f s).groups = s.groups := rfl
@[simp] theorem updGrd_safety (f : Grador → Grador) : (updGrd f s).safety = s.safety := rfl
@[simp] theorem updGrd_part (f : Grador → Grador) : (updGrd f s).part = s.part := rfl
@[simp] theorem updGrd_time (f : Grador → Grador) : (updGrd f s).time = s.time := rfl
@[simp] theorem updGrd_boot (f : Grador → Grador) : (updGrd f s).boot = s.boot := rfl
@[simp] theorem updGrd_meas (f : Grador → Grador) : (updGrd f s).meas = s.meas := rfl
@[simp] theorem updGrd_swap (f : Grador → Grador) : (updGrd f s).swap = s.swap := rfl
@[simp] theorem updGrd_baton (f : Grador → Grador) : (updGrd f s).baton = s.baton := rfl
@[simp] theorem updGrd_grd (f : Grador → Grador) : (updGrd f s).grd = f s.grd := rfl
@[simp] theorem updGrd_can (f : Grador → Grador) : (updGrd f s).can = s.can := rfl
@[simp] theorem updGrd_relay (f : Grador → Grador) : (updGrd f s).relay = s.relay := rfl
@[simp] theorem updGrd_shp (f : Grador → Grador) : (updGrd f s).shp = s.shp := rfl
@[simp] theorem updGrd_life (f : Grador → Grador) : (updGrd f s).life = s.life := rfl
@[simp] theorem updGrd_srcs (f : Grador → Grador) : (updGrd f s).srcs = s.srcs := rfl
@[simp] theorem updGrd_reports (f : Grador → Grador) : (updGrd f s).reports = s.reports := rfl
@[simp] theorem updGrd_sent (f : Grador → Grador) : (updGrd f s).sent = s.sent := rfl
@[simp] theorem updGrd_pending (f : Grador → Grador) : (updGrd f s).pending = s.pending := rfl
@[simp] theorem updGrd_freeCtr (f : Grador → Grador) : (updGrd f s).freeCtr = s.freeCtr := rfl

/-! ### updRelay -/

@[simp] theorem updRelay_regs (f : Relay → Relay) : (updRelay f s).regs = s.regs := rfl
@[simp] theorem updRelay_held (f : Relay → Relay) : (updRelay f s).held = s.held := rfl
@[simp] theorem updRelay_shown (f : Relay → Relay) : (updRelay f s).shown = s.shown := rfl
@[simp] theorem updRelay_deferred (f : Relay → Relay) : (updRelay f s).deferred = s.deferred := rfl
@[simp] theorem updRelay_starter (f : Relay → Relay) : (updRelay f s).starter = s.starter := rfl
@[simp] theorem updRelay_voting (f : Relay → Relay) : (updRelay f s).voting = s.voting := rfl
@[simp] theorem updRelay_lanes (f : Relay → Relay) : (updRelay f s).lanes = s.lanes := rfl
@[simp] theorem updRelay_mems (f : Relay → Relay) : (updRelay f s).mems = s.mems := rfl
@[simp] theorem updRelay_exec (f : Relay → Relay) : (updRelay f s).exec = s.exec := rfl
@[simp] theorem updRelay_groups (f : Relay → Relay) : (updRelay f s).groups = s.groups := rfl
@[simp] theorem updRelay_safety (f : Relay → Relay) : (updRelay f s).safety = s.safety := rfl
@[simp] theorem updRelay_part (f : Relay → Relay) : (updRelay f s).part = s.part := rfl
@[simp] theorem updRelay_time (f : Relay → Relay) : (updRelay f s).time = s.time := rfl
@[simp] theorem updRelay_boot (f : Relay → Relay) : (updRelay f s).boot = s.boot := rfl
@[simp] theorem updRelay_meas (f : Relay → Relay) : (updRelay f s).meas = s.meas := rfl
@[simp] theorem updRelay_swap (f : Relay → Relay) : (updRelay f s).swap = s.swap := rfl
@[simp] theorem updRelay_baton (f : Relay → Relay) : (updRelay f s).baton = s.baton := rfl
@[simp] theorem updRelay_grd (f : Relay → Relay) : (updRelay f s).grd = s.grd := rfl
@[simp] theorem updRelay_can (f : Relay → Relay) : (updRelay f s).can = s.can := rfl
@[simp] theorem updRelay_relay (f : Relay → Relay) : (updRelay f s).relay = f s.relay := rfl
@[simp] theorem updRelay_shp (f : Relay → Relay) : (updRelay f s).shp = s.shp := rfl
@[simp] theorem updRelay_life (f : Relay → Relay) : (updRelay f s).life = s.life := rfl
@[simp] theorem updRelay_srcs (f : Relay → Relay) : (updRelay f s).srcs = s.srcs := rfl
@[simp] theorem updRelay_reports (f : Relay → Relay) : (updRelay f s).reports = s.reports := rfl
@[simp] theorem updRelay_sent (f : Relay → Relay) : (updRelay f s).sent = s.sent := rfl
@[simp] theorem updRelay_pending (f : Relay → Relay) : (updRelay f s).pending = s.pending := rfl
@[simp] theorem updRelay_freeCtr (f : Relay → Relay) : (updRelay f s).freeCtr = s.freeCtr := rfl

/-! ### updLife -/

@[simp] theorem updLife_regs (f : Recorder → Recorder) : (updLife f s).regs = s.regs := rfl
@[simp] theorem updLife_held (f : Recorder → Recorder) : (updLife f s).held = s.held := rfl
@[simp] theorem updLife_shown (f : Recorder → Recorder) : (updLife f s).shown = s.shown := rfl
@[simp] theorem updLife_deferred (f : Recorder → Recorder) : (updLife f s).deferred = s.deferred := rfl
@[simp] theorem updLife_starter (f : Recorder → Recorder) : (updLife f s).starter = s.starter := rfl
@[simp] theorem updLife_voting (f : Recorder → Recorder) : (updLife f s).voting = s.voting := rfl
@[simp] theorem updLife_lanes (f : Recorder → Recorder) : (updLife f s).lanes = s.lanes := rfl
@[simp] theorem updLife_mems (f : Recorder → Recorder) : (updLife f s).mems = s.mems := rfl
@[simp] theorem updLife_exec (f : Recorder → Recorder) : (updLife f s).exec = s.exec := rfl
@[simp] theorem updLife_groups (f : Recorder → Recorder) : (updLife f s).groups = s.groups := rfl
@[simp] theorem updLife_safety (f : Recorder → Recorder) : (updLife f s).safety = s.safety := rfl
@[simp] theorem updLife_part (f : Recorder → Recorder) : (updLife f s).part = s.part := rfl
@[simp] theorem updLife_time (f : Recorder → Recorder) : (updLife f s).time = s.time := rfl
@[simp] theorem updLife_boot (f : Recorder → Recorder) : (updLife f s).boot = s.boot := rfl
@[simp] theorem updLife_meas (f : Recorder → Recorder) : (updLife f s).meas = s.meas := rfl
@[simp] theorem updLife_swap (f : Recorder → Recorder) : (updLife f s).swap = s.swap := rfl
@[simp] theorem updLife_baton (f : Recorder → Recorder) : (updLife f s).baton = s.baton := rfl
@[simp] theorem updLife_grd (f : Recorder → Recorder) : (updLife f s).grd = s.grd := rfl
@[simp] theorem updLife_can (f : Recorder → Recorder) : (updLife f s).can = s.can := rfl
@[simp] theorem updLife_relay (f : Recorder → Recorder) : (updLife f s).relay = s.relay := rfl
@[simp] theorem updLife_shp (f : Recorder → Recorder) : (updLife f s).shp = s.shp := rfl
@[simp] theorem updLife_life (f : Recorder → Recorder) : (updLife f s).life = f s.life := rfl
@[simp] theorem updLife_srcs (f : Recorder → Recorder) : (updLife f s).srcs = s.srcs := rfl
@[simp] theorem updLife_reports (f : Recorder → Recorder) : (updLife f s).reports = s.reports := rfl
@[simp] theorem updLife_sent (f : Recorder → Recorder) : (updLife f s).sent = s.sent := rfl
@[simp] theorem updLife_pending (f : Recorder → Recorder) : (updLife f s).pending = s.pending := rfl
@[simp] theorem updLife_freeCtr (f : Recorder → Recorder) : (updLife f s).freeCtr = s.freeCtr := rfl

/-! ### updGroup -/

@[simp] theorem updGroup_regs (g : Nat) (f : Group → Group) : (updGroup g f s).regs = s.regs := rfl
@[simp] theorem updGroup_held (g : Nat) (f : Group → Group) : (updGroup g f s).held = s.held := rfl
@[simp] theorem updGroup_shown (g : Nat) (f : Group → Group) : (updGroup g f s).shown = s.shown := rfl
@[simp] theorem updGroup_deferred (g : Nat) (f : Group → Group) : (updGroup g f s).deferred = s.deferred := rfl
@[simp] theorem updGroup_starter (g : Nat) (f : Group → Group) : (updGroup g f s).starter = s.starter := rfl
@[simp] theorem updGroup_voting (g : Nat) (f : Group → Group) : (updGroup g f s).voting = s.voting := rfl
@[simp] theorem updGroup_lanes (g : Nat) (f : Group → Group) : (updGroup g f s).lanes = s.lanes := rfl
@[simp] theorem updGroup_mems (g : Nat) (f : Group → Group) : (updGroup g f s).mems = s.mems := rfl
@[simp] theorem updGroup_exec (g : Nat) (f : Group → Group) : (updGroup g f s).exec = s.exec := rfl
@[simp] theorem updGroup_groups (g : Nat) (f : Group → Group) : (updGroup g f s).groups = modAt f s.groups g := rfl
@[simp] theorem updGroup_safety (g : Nat) (f : Group → Group) : (updGroup g f s).safety = s.safety := rfl
@[simp] theorem updGroup_part (g : Nat) (f : Group → Group) : (updGroup g f s).part = s.part := rfl
@[simp] theorem updGroup_time (g : Nat) (f : Group → Group) : (updGroup g f s).time = s.time := rfl
@[simp] theorem updGroup_boot (g : Nat) (f : Group → Group) : (updGroup g f s).boot = s.boot := rfl
@[simp] theorem updGroup_meas (g : Nat) (f : Group → Group) : (updGroup g f s).meas = s.meas := rfl
@[simp] theorem updGroup_swap (g : Nat) (f : Group → Group) : (updGroup g f s).swap = s.swap := rfl
@[simp] theorem updGroup_baton (g : Nat) (f : Group → Group) : (updGroup g f s).baton = s.baton := rfl
@[simp] theorem updGroup_grd (g : Nat) (f : Group → Group) : (updGroup g f s).grd = s.grd := rfl
@[simp] theorem updGroup_can (g : Nat) (f : Group → Group) : (updGroup g f s).can = s.can := rfl
@[simp] theorem updGroup_relay (g : Nat) (f : Group → Group) : (updGroup g f s).relay = s.relay := rfl
@[simp] theorem updGroup_shp (g : Nat) (f : Group → Group) : (updGroup g f s).shp = s.shp := rfl
@[simp] theorem updGroup_life (g : Nat) (f : Group → Group) : (updGroup g f s).life = s.life := rfl
@[simp] theorem updGroup_srcs (g : Nat) (f : Group → Group) : (updGroup g f s).srcs = s.srcs := rfl
@[simp] theorem updGroup_reports (g : Nat) (f : Group → Group) : (updGroup g f s).reports = s.reports := rfl
@[simp] theorem updGroup_sent (g : Nat) (f : Group → Group) : (updGroup g f s).sent = s.sent := rfl
@[simp] theorem updGroup_pending (g : Nat) (f : Group → Group) : (updGroup g f s).pending = s.pending := rfl
@[simp] theorem updGroup_freeCtr (g : Nat) (f : Group → Group) : (updGroup g f s).freeCtr = s.freeCtr := rfl

/-! ### updLane -/

@[simp] theorem updLane_regs (l : Nat) (f : Lane → Lane) : (updLane l f s).regs = s.regs := rfl
@[simp] theorem updLane_held (l : Nat) (f : Lane → Lane) : (updLane l f s).held = s.held := rfl
@[simp] theorem updLane_shown (l : Nat) (f : Lane → Lane) : (updLane l f s).shown = s.shown := rfl
@[simp] theorem updLane_deferred (l : Nat) (f : Lane → Lane) : (updLane l f s).deferred = s.deferred := rfl
@[simp] theorem updLane_starter (l : Nat) (f : Lane → Lane) : (updLane l f s).starter = s.starter := rfl
@[simp] theorem updLane_voting (l : Nat) (f : Lane → Lane) : (updLane l f s).voting = s.voting := rfl
@[simp] theorem updLane_lanes (l : Nat) (f : Lane → Lane) : (updLane l f s).lanes = modAt f s.lanes l := rfl
@[simp] theorem updLane_mems (l : Nat) (f : Lane → Lane) : (updLane l f s).mems = s.mems := rfl
@[simp] theorem updLane_exec (l : Nat) (f : Lane → Lane) : (updLane l f s).exec = s.exec := rfl
@[simp] theorem updLane_groups (l : Nat) (f : Lane → Lane) : (updLane l f s).groups = s.groups := rfl
@[simp] theorem updLane_safety (l : Nat) (f : Lane → Lane) : (updLane l f s).safety = s.safety := rfl
@[simp] theorem updLane_part (l : Nat) (f : Lane → Lane) : (updLane l f s).part = s.part := rfl
@[simp] theorem updLane_time (l : Nat) (f : Lane → Lane) : (updLane l f s).time = s.time := rfl
@[simp] theorem updLane_boot (l : Nat) (f : Lane → Lane) : (updLane l f s).boot = s.boot := rfl
@[simp] theorem updLane_meas (l : Nat) (f : Lane → Lane) : (updLane l f s).meas = s.meas := rfl
@[simp] theorem updLane_swap (l : Nat) (f : Lane → Lane) : (updLane l f s).swap = s.swap := rfl
@[simp] theorem updLane_baton (l : Nat) (f : Lane → Lane) : (updLane l f s).baton = s.baton := rfl
@[simp] theorem updLane_grd (l : Nat) (f : Lane → Lane) : (updLane l f s).grd = s.grd := rfl
@[simp] theorem updLane_can (l : Nat) (f : Lane → Lane) : (updLane l f s).can = s.can := rfl
@[simp] theorem updLane_relay (l : Nat) (f : Lane → Lane) : (updLane l f s).relay = s.relay := rfl
@[simp] theorem updLane_shp (l : Nat) (f : Lane → Lane) : (updLane l f s).shp = s.shp := rfl
@[simp] theorem updLane_life (l : Nat) (f : Lane → Lane) : (updLane l f s).life = s.life := rfl
@[simp] theorem updLane_srcs (l : Nat) (f : Lane → Lane) : (updLane l f s).srcs = s.srcs := rfl
@[simp] theorem updLane_reports (l : Nat) (f : Lane → Lane) : (updLane l f s).reports = s.reports := rfl
@[simp] theorem updLane_sent (l : Nat) (f : Lane → Lane) : (updLane l f s).sent = s.sent := rfl
@[simp] theorem updLane_pending (l : Nat) (f : Lane → Lane) : (updLane l f s).pending = s.pending := rfl
@[simp] theorem updLane_freeCtr (l : Nat) (f : Lane → Lane) : (updLane l f s).freeCtr = s.freeCtr := rfl

/-! ### updCan -/

@[simp] theorem updCan_regs (n : Nat) (f : CanCtl → CanCtl) : (updCan n f s).regs = s.regs := rfl
@[simp] theorem updCan_held (n : Nat) (f : CanCtl → CanCtl) : (updCan n f s).held = s.held := rfl
@[simp] theorem updCan_shown (n : Nat) (f : CanCtl → CanCtl) : (updCan n f s).shown = s.shown := rfl
@[simp] theorem updCan_deferred (n : Nat) (f : CanCtl → CanCtl) : (updCan n f s).deferred = s.deferred := rfl
@[simp] theorem updCan_starter (n : Nat) (f : CanCtl → CanCtl) : (updCan n f s).starter = s.starter := rfl
@[simp] theorem updCan_voting (n : Nat) (f : CanCtl → CanCtl) : (updCan n f s).voting = s.voting := rfl
@[simp] theorem updCan_lanes (n : Nat) (f : CanCtl → CanCtl) : (updCan n f s).lanes = s.lanes := rfl
@[simp] theorem updCan_mems (n : Nat) (f : CanCtl → CanCtl) : (updCan n f s).mems = s.mems := rfl
@[simp] theorem updCan_exec (n : Nat) (f : CanCtl → CanCtl) : (updCan n f s).exec = s.exec := rfl
@[simp] theorem updCan_groups (n : Nat) (f : CanCtl → CanCtl) : (updCan n f s).groups = s.groups := rfl
@[simp] theorem updCan_safety (n : Nat) (f : CanCtl → CanCtl) : (updCan n f s).safety = s.safety := rfl
@[simp] theorem updCan_part (n : Nat) (f : CanCtl → CanCtl) : (updCan n f s).part = s.part := rfl
@[simp] theorem updCan_time (n : Nat) (f : CanCtl → CanCtl) : (updCan n f s).time = s.time := rfl
@[simp] theorem updCan_boot (n : Nat) (f : CanCtl → CanCtl) : (updCan n f s).boot = s.boot := rfl
@[simp] theorem updCan_meas (n : Nat) (f : CanCtl → CanCtl) : (updCan n f s).meas = s.meas := rfl
@[simp] theorem updCan_swap (n : Nat) (f : CanCtl → CanCtl) : (updCan n f s).swap = s.swap := rfl
@[simp] theorem updCan_baton (n : Nat) (f : CanCtl → CanCtl) : (updCan n f s).baton = s.baton := rfl
@[simp] theorem updCan_grd (n : Nat) (f : CanCtl → CanCtl) : (updCan n f s).grd = s.grd := rfl
@[simp] theorem updCan_can (n : Nat) (f : CanCtl → CanCtl) : (updCan n f s).can = modAt f s.can n := rfl
@[simp] theorem updCan_relay (n : Nat) (f : CanCtl → CanCtl) : (updCan n f s).relay = s.relay := rfl
@[simp] theorem updCan_shp (n : Nat) (f : CanCtl → CanCtl) : (updCan n f s).shp = s.shp := rfl
@[simp] theorem updCan_life (n : Nat) (f : CanCtl → CanCtl) : (updCan n f s).life = s.life := rfl
@[simp] theorem updCan_srcs (n : Nat) (f : CanCtl → CanCtl) : (updCan n f s).srcs = s.srcs := rfl
@[simp] theorem updCan_reports (n : Nat) (f : CanCtl → CanCtl) : (updCan n f s).reports = s.reports := rfl
@[simp] theorem updCan_sent (n : Nat) (f : CanCtl → CanCtl) : (updCan n f s).sent = s.sent := rfl
@[simp] theorem updCan_pending (n : Nat) (f : CanCtl → CanCtl) : (updCan n f s).pending = s.pending := rfl
@[simp] theorem updCan_freeCtr (n : Nat) (f : CanCtl → CanCtl) : (updCan n f s).freeCtr = s.freeCtr := rfl

end Sys2Proof.Machine
end

