-- ==== Sys2Proof/Laws/Regs.lean ====
section
/-!
SUPPORT. Reading a register, a field or a bit after each shared operation of `Machine/Ops.lean`: the operation's own
registers hold what it stores, every other register what it held.
-/
set_option Elab.async false
set_option linter.all false
namespace Sys2Proof.Machine

variable {s : State}

/-! ### Bits of words -/

theorem getLsbD_mask {n i j : Nat} : (BitVec.ofNat n (2 ^ i)).getLsbD j = (decide (j < n) && decide (i = j)) := by
  rw [BitVec.getLsbD_ofNat, Nat.testBit_two_pow]

@[simp] theorem bitOf_setBit_self {n i : Nat} {w : BitVec n} {b : Bool} (h : i < n) : bitOf (setBit w i b) i = b := by
  unfold bitOf setBit
  cases b
  · simp only [Bool.false_eq_true, if_false, BitVec.getLsbD_and, BitVec.getLsbD_not, getLsbD_mask, h, decide_true,
      Bool.and_self, Bool.not_true, Bool.and_false]
  · simp only [if_true, BitVec.getLsbD_or, getLsbD_mask, h, decide_true, Bool.and_self, Bool.or_true]

theorem bitOf_setBit_ne {n i j : Nat} {w : BitVec n} {b : Bool} (h : j ≠ i) : bitOf (setBit w i b) j = bitOf w j := by
  unfold bitOf setBit
  have hm : (BitVec.ofNat n (2 ^ i)).getLsbD j = false := by
    rw [getLsbD_mask, decide_eq_false (Ne.symm h), Bool.and_false]
  cases b
  · simp only [Bool.false_eq_true, if_false, BitVec.getLsbD_and, BitVec.getLsbD_not, hm, Bool.not_false, Bool.and_true]
    cases hj : w.getLsbD j
    · rfl
    · rw [decide_eq_true (BitVec.lt_of_getLsbD hj)]; rfl
  · simp only [if_true, BitVec.getLsbD_or, hm, Bool.or_false]

theorem fld_testBit {n hi lo k : Nat} {w : BitVec n} :
    (fld w hi lo).testBit k = (decide (k < hi + 1 - lo) && bitOf w (lo + k)) := by
  unfold fld bitOf
  simp [Nat.testBit_mod_two_pow, Nat.testBit_shiftRight, BitVec.testBit_toNat]

theorem bitOf_setFld {n hi lo v k : Nat} {w : BitVec n} (hk : k < n) (hl : lo ≤ hi) :
    bitOf (setFld w hi lo v) k = if lo ≤ k ∧ k ≤ hi then v.testBit (k - lo) else bitOf w k := by
  unfold bitOf setFld
  simp only [BitVec.getLsbD_or, BitVec.getLsbD_and, BitVec.getLsbD_not, BitVec.getLsbD_ofNat, BitVec.getLsbD_shiftLeft,
    Nat.testBit_shiftLeft, Nat.testBit_two_pow_sub_one, Nat.testBit_mod_two_pow, hk, decide_true, Bool.true_and]
  by_cases h1 : lo ≤ k <;> by_cases h2 : k ≤ hi
  · simp [h1, h2, show k - lo < hi + 1 - lo by omega, show ¬ k < lo by omega, show k - lo < n by omega]
  · simp [h1, h2, show ¬ k - lo < hi + 1 - lo by omega]
  · simp [h1, show k < lo by omega]
  · omega

@[simp] theorem fld_setFld_self {n hi lo v : Nat} {w : BitVec n} (hn : hi < n) (hl : lo ≤ hi) :
    fld (setFld w hi lo v) hi lo = v % 2 ^ (hi + 1 - lo) := by
  apply Nat.eq_of_testBit_eq
  intro k
  rw [fld_testBit, Nat.testBit_mod_two_pow]
  by_cases hk : k < hi + 1 - lo
  · rw [bitOf_setFld (by omega) hl, if_pos (by omega)]; simp [hk]
  · simp [hk]

/-- A field apart from the one replaced. -/
theorem fld_setFld_apart {n hi lo h2 l2 v : Nat} {w : BitVec n} (hn : h2 < n) (hl : lo ≤ hi)
    (h : h2 < lo ∨ hi < l2) : fld (setFld w hi lo v) h2 l2 = fld w h2 l2 := by
  apply Nat.eq_of_testBit_eq
  intro k
  simp only [fld_testBit]
  by_cases hk : k < h2 + 1 - l2
  · rw [bitOf_setFld (by omega) hl, if_neg (by omega)]
  · simp [hk]

/-- A field of a word whose bit outside it is replaced. -/
theorem fld_setBit_apart {n i h2 l2 : Nat} {w : BitVec n} {b : Bool} (h : h2 < i ∨ i < l2) :
    fld (setBit w i b) h2 l2 = fld w h2 l2 := by
  apply Nat.eq_of_testBit_eq
  intro k
  simp only [fld_testBit]
  by_cases hk : k < h2 + 1 - l2
  · rw [bitOf_setBit_ne (by omega)]
  · simp [hk]

theorem bitOf_setFld_apart {n hi lo v k : Nat} {w : BitVec n} (hk : k < n) (hl : lo ≤ hi) (h : k < lo ∨ hi < k) :
    bitOf (setFld w hi lo v) k = bitOf w k := by rw [bitOf_setFld hk hl, if_neg (by omega)]

/-! ### Canonical registers -/

/-- `State.regsOk` is kept by every primitive write, so by every operation. -/
theorem regsOk_closed : Closed State.regsOk := by
  constructor <;> intros <;> first
    | assumption
    | exact Sparse.put_wf _ _ _ _ (by assumption)
    | exact Sparse.drop_wf _ _ _ (by assumption)

theorem State.Inv.regsOk (h : s.Inv) : s.regsOk := by
  have := h.1
  simp only [State.canonical, Bool.and_eq_true] at this
  exact this.1.1.1.1.1.1.1.1

@[simp] theorem regsOk_setReg {a : Nat} {w : Word} (h : s.regsOk) : (s.setReg a w).regsOk := regsOk_closed.setReg _ _ _ h
@[simp] theorem regsOk_setB {a i : Nat} {b : Bool} (h : s.regsOk) : (s.setB a i b).regsOk := regsOk_setReg h
@[simp] theorem regsOk_setF {a i j v : Nat} (h : s.regsOk) : (s.setF a i j v).regsOk := regsOk_setReg h
@[simp] theorem regsOk_setRegN {a v : Nat} (h : s.regsOk) : (s.setRegN a v).regsOk := regsOk_setReg h
@[simp] theorem regsOk_bump {a : Nat} (h : s.regsOk) : (s.bump a).regsOk := regsOk_setReg h
@[simp] theorem regsOk_clear {l : List Nat} (h : s.regsOk) : (s.clear l).regsOk := State.clear_closed regsOk_closed h
@[simp] theorem regsOk_msiCheck {b : State} (h : s.regsOk) : (msiCheck b s).regsOk := msiCheck_closed regsOk_closed h
@[simp] theorem regsOk_irqSet {p i : Nat} (h : s.regsOk) : (irqSet p i s).regsOk := irqSet_closed regsOk_closed h
@[simp] theorem regsOk_finish {p i : Nat} (h : s.regsOk) : (finish p i s).regsOk := finish_closed regsOk_closed h
@[simp] theorem regsOk_answer {c : Call} {i : Nat} (h : s.regsOk) : (answer c i s).regsOk := answer_closed regsOk_closed h
@[simp] theorem regsOk_countAccess {i : Issuer} (h : s.regsOk) : (countAccess i s).regsOk :=
  countAccess_closed regsOk_closed h
@[simp] theorem regsOk_recordErr {p c r d : Nat} (h : s.regsOk) : (recordErr p c r d s).regsOk :=
  recordErr_closed regsOk_closed h

/-! ### One register -/

theorem reg_setReg {a b : Nat} {w : Word} (h : s.regsOk) : (s.setReg a w).reg b = if b = a then w else s.reg b := by
  unfold State.reg State.setReg
  split
  · rename_i e; subst e; exact Sparse.get_put_self s.regs _ w _ h rfl
  · exact Sparse.get_put_ne s.regs a b w _ _ h ‹_›

@[simp] theorem reg_setReg_self {a : Nat} {w : Word} (h : s.regsOk) : (s.setReg a w).reg a = w := by
  rw [reg_setReg h, if_pos rfl]

@[simp] theorem reg_setReg_ne {a b : Nat} {w : Word} (h : s.regsOk) (hb : b ≠ a) : (s.setReg a w).reg b = s.reg b := by
  rw [reg_setReg h, if_neg hb]

/-- Two states with the same registers read the same. -/
theorem reg_congr {t : State} (h : t.regs = s.regs) (a : Nat) : t.reg a = s.reg a := by unfold State.reg; rw [h]

@[simp] theorem reg_setB_ne {a b i : Nat} {v : Bool} (h : s.regsOk) (hb : b ≠ a) : (s.setB a i v).reg b = s.reg b :=
  reg_setReg_ne h hb
@[simp] theorem reg_setF_ne {a b i j v : Nat} (h : s.regsOk) (hb : b ≠ a) : (s.setF a i j v).reg b = s.reg b :=
  reg_setReg_ne h hb
@[simp] theorem reg_setRegN_ne {a b v : Nat} (h : s.regsOk) (hb : b ≠ a) : (s.setRegN a v).reg b = s.reg b :=
  reg_setReg_ne h hb
@[simp] theorem reg_bump_ne {a b : Nat} (h : s.regsOk) (hb : b ≠ a) : (s.bump a).reg b = s.reg b := reg_setReg_ne h hb

@[simp] theorem reg_setB_self {a i : Nat} {v : Bool} (h : s.regsOk) : (s.setB a i v).reg a = setBit (s.reg a) i v :=
  reg_setReg_self h
@[simp] theorem reg_setF_self {a i j v : Nat} (h : s.regsOk) : (s.setF a i j v).reg a = setFld (s.reg a) i j v :=
  reg_setReg_self h
@[simp] theorem reg_setRegN_self {a v : Nat} (h : s.regsOk) : (s.setRegN a v).reg a = BitVec.ofNat 32 v :=
  reg_setReg_self h
@[simp] theorem reg_bump_self {a : Nat} (h : s.regsOk) : (s.bump a).reg a = satInc (s.reg a) := reg_setReg_self h

theorem reg_clear {l : List Nat} {b : Nat} (h : s.regsOk) : (s.clear l).reg b = if b ∈ l then 0 else s.reg b := by
  unfold State.clear State.setAll
  induction l generalizing s with
  | nil => simp
  | cons a l ih =>
    rw [List.foldl_cons, ih (regsOk_setReg h), reg_setReg h]
    by_cases h1 : b ∈ l <;> by_cases h2 : b = a <;> simp [h1, h2]

@[simp] theorem reg_clear_mem {l : List Nat} {b : Nat} (h : s.regsOk) (hb : b ∈ l) : (s.clear l).reg b = 0 := by
  rw [reg_clear h, if_pos hb]
@[simp] theorem reg_clear_ne {l : List Nat} {b : Nat} (h : s.regsOk) (hb : b ∉ l) : (s.clear l).reg b = s.reg b := by
  rw [reg_clear h, if_neg hb]

/-! ### Signalling a host touches HOST_STAT and PCIE_STAT only -/

/-- What signalling does: registers HOST_STAT and PCIE_STAT, an output, a session's mark; nothing else. -/
theorem signal_frame (n : Nat) (s : State) : ∃ r o h,
    (if n < 2 then signalHost n s else eventDue n s) = { s with regs := r, sent := o, shp := h } ∧
      (s.regsOk → ∀ a, a ≠ R.HOST_STAT → a ≠ R.PCIE_STAT →
        (if n < 2 then signalHost n s else eventDue n s).reg a = s.reg a) := by
  split
  · unfold signalHost
    dsimp only
    split
    · refine ⟨_, _, _, rfl, fun hr a h1 h2 => ?_⟩
      rw [reg_congr (State.send_regs _ _), reg_setB_ne hr h1]
    · refine ⟨_, _, _, rfl, fun hr a h1 h2 => ?_⟩
      rw [reg_congr (State.send_regs _ _), reg_setB_ne (regsOk_setB hr) h2, reg_setB_ne hr h1]
  · unfold eventDue
    dsimp only
    split
    · split
      · refine ⟨_, _, _, rfl, fun hr a h1 h2 => ?_⟩
        exact reg_setB_ne hr h1
      · exact ⟨s.regs, s.sent, s.shp, rfl, fun _ _ _ _ => rfl⟩
    · exact ⟨s.regs, s.sent, s.shp, rfl, fun _ _ _ _ => rfl⟩

theorem msiCheck_frame (b s : State) : ∃ r o h, msiCheck b s = { s with regs := r, sent := o, shp := h } ∧
    (s.regsOk → ∀ a, a ≠ R.HOST_STAT → a ≠ R.PCIE_STAT → (msiCheck b s).reg a = s.reg a) := by
  unfold msiCheck forN
  generalize List.range 4 = l
  induction l generalizing s with
  | nil => exact ⟨s.regs, s.sent, s.shp, rfl, fun _ _ _ _ => rfl⟩
  | cons n l ih =>
    rw [List.foldl_cons]
    dsimp only
    by_cases hc : (s.armed n && s.summary n && !b.summary n) = true
    · rw [if_pos hc]
      obtain ⟨r, o, h, e, f⟩ := signal_frame n s
      obtain ⟨r', o', h', e', f'⟩ := ih (if n < 2 then signalHost n s else eventDue n s)
      refine ⟨r', o', h', e'.trans (by rw [e]), fun hr a h1 h2 => ?_⟩
      rw [f' ?_ a h1 h2, f hr a h1 h2]
      exact Closed.ite (signalHost_closed regsOk_closed hr) (eventDue_closed regsOk_closed hr)
    · rw [if_neg hc]
      exact ih s

@[simp] theorem reg_msiCheck {b : State} {a : Nat} (h : s.regsOk) (h1 : a ≠ R.HOST_STAT) (h2 : a ≠ R.PCIE_STAT) :
    (msiCheck b s).reg a = s.reg a := by obtain ⟨_, _, _, _, f⟩ := msiCheck_frame b s; exact f h a h1 h2

@[simp] theorem reg_irqSet {p i a : Nat} (h : s.regsOk) (h0 : a ≠ pa p H.IRQ_RAW) (h1 : a ≠ R.HOST_STAT)
    (h2 : a ≠ R.PCIE_STAT) : (irqSet p i s).reg a = s.reg a := by
  unfold irqSet; rw [reg_msiCheck (regsOk_setB h) h1 h2, reg_setB_ne h h0]

end Sys2Proof.Machine
end

