-- ==== Sys2Proof/Laws/Frame.lean ====
section
/-!
SUPPORT. What the shared operations leave alone: the parts of the state that a page command's course from its write to
its answer, an interrupt, an error report and a change of owner do not touch.
-/
set_option Elab.async false
set_option linter.all false
namespace Sys2Proof.Machine

variable {s : State}

theorem ite_field {α β : Type} {c : Prop} [Decidable c] (f : α → β) {a b : α} {x : β} (ha : f a = x) (hb : f b = x) :
    f (if c then a else b) = x := by split <;> assumption

/-! ### msiCheck -/

@[simp] theorem msiCheck_held {b : State} : (msiCheck b s).held = s.held := by obtain ⟨_, _, _, e, _⟩ := msiCheck_frame b s; rw [e]
@[simp] theorem msiCheck_shown {b : State} : (msiCheck b s).shown = s.shown := by obtain ⟨_, _, _, e, _⟩ := msiCheck_frame b s; rw [e]
@[simp] theorem msiCheck_deferred {b : State} : (msiCheck b s).deferred = s.deferred := by obtain ⟨_, _, _, e, _⟩ := msiCheck_frame b s; rw [e]
@[simp] theorem msiCheck_starter {b : State} : (msiCheck b s).starter = s.starter := by obtain ⟨_, _, _, e, _⟩ := msiCheck_frame b s; rw [e]
@[simp] theorem msiCheck_voting {b : State} : (msiCheck b s).voting = s.voting := by obtain ⟨_, _, _, e, _⟩ := msiCheck_frame b s; rw [e]
@[simp] theorem msiCheck_lanes {b : State} : (msiCheck b s).lanes = s.lanes := by obtain ⟨_, _, _, e, _⟩ := msiCheck_frame b s; rw [e]
@[simp] theorem msiCheck_mems {b : State} : (msiCheck b s).mems = s.mems := by obtain ⟨_, _, _, e, _⟩ := msiCheck_frame b s; rw [e]
@[simp] theorem msiCheck_exec {b : State} : (msiCheck b s).exec = s.exec := by obtain ⟨_, _, _, e, _⟩ := msiCheck_frame b s; rw [e]
@[simp] theorem msiCheck_groups {b : State} : (msiCheck b s).groups = s.groups := by obtain ⟨_, _, _, e, _⟩ := msiCheck_frame b s; rw [e]
@[simp] theorem msiCheck_safety {b : State} : (msiCheck b s).safety = s.safety := by obtain ⟨_, _, _, e, _⟩ := msiCheck_frame b s; rw [e]
@[simp] theorem msiCheck_part {b : State} : (msiCheck b s).part = s.part := by obtain ⟨_, _, _, e, _⟩ := msiCheck_frame b s; rw [e]
@[simp] theorem msiCheck_time {b : State} : (msiCheck b s).time = s.time := by obtain ⟨_, _, _, e, _⟩ := msiCheck_frame b s; rw [e]
@[simp] theorem msiCheck_boot {b : State} : (msiCheck b s).boot = s.boot := by obtain ⟨_, _, _, e, _⟩ := msiCheck_frame b s; rw [e]
@[simp] theorem msiCheck_meas {b : State} : (msiCheck b s).meas = s.meas := by obtain ⟨_, _, _, e, _⟩ := msiCheck_frame b s; rw [e]
@[simp] theorem msiCheck_swap {b : State} : (msiCheck b s).swap = s.swap := by obtain ⟨_, _, _, e, _⟩ := msiCheck_frame b s; rw [e]
@[simp] theorem msiCheck_baton {b : State} : (msiCheck b s).baton = s.baton := by obtain ⟨_, _, _, e, _⟩ := msiCheck_frame b s; rw [e]
@[simp] theorem msiCheck_grd {b : State} : (msiCheck b s).grd = s.grd := by obtain ⟨_, _, _, e, _⟩ := msiCheck_frame b s; rw [e]
@[simp] theorem msiCheck_can {b : State} : (msiCheck b s).can = s.can := by obtain ⟨_, _, _, e, _⟩ := msiCheck_frame b s; rw [e]
@[simp] theorem msiCheck_relay {b : State} : (msiCheck b s).relay = s.relay := by obtain ⟨_, _, _, e, _⟩ := msiCheck_frame b s; rw [e]
@[simp] theorem msiCheck_life {b : State} : (msiCheck b s).life = s.life := by obtain ⟨_, _, _, e, _⟩ := msiCheck_frame b s; rw [e]
@[simp] theorem msiCheck_srcs {b : State} : (msiCheck b s).srcs = s.srcs := by obtain ⟨_, _, _, e, _⟩ := msiCheck_frame b s; rw [e]
@[simp] theorem msiCheck_reports {b : State} : (msiCheck b s).reports = s.reports := by obtain ⟨_, _, _, e, _⟩ := msiCheck_frame b s; rw [e]
@[simp] theorem msiCheck_pending {b : State} : (msiCheck b s).pending = s.pending := by obtain ⟨_, _, _, e, _⟩ := msiCheck_frame b s; rw [e]
@[simp] theorem msiCheck_freeCtr {b : State} : (msiCheck b s).freeCtr = s.freeCtr := by obtain ⟨_, _, _, e, _⟩ := msiCheck_frame b s; rw [e]

/-! ### irqSet -/

@[simp] theorem irqSet_held {p i : Nat} : (irqSet p i s).held = s.held := by unfold irqSet; simp [State.setB]
@[simp] theorem irqSet_shown {p i : Nat} : (irqSet p i s).shown = s.shown := by unfold irqSet; simp [State.setB]
@[simp] theorem irqSet_deferred {p i : Nat} : (irqSet p i s).deferred = s.deferred := by unfold irqSet; simp [State.setB]
@[simp] theorem irqSet_starter {p i : Nat} : (irqSet p i s).starter = s.starter := by unfold irqSet; simp [State.setB]
@[simp] theorem irqSet_voting {p i : Nat} : (irqSet p i s).voting = s.voting := by unfold irqSet; simp [State.setB]
@[simp] theorem irqSet_lanes {p i : Nat} : (irqSet p i s).lanes = s.lanes := by unfold irqSet; simp [State.setB]
@[simp] theorem irqSet_mems {p i : Nat} : (irqSet p i s).mems = s.mems := by unfold irqSet; simp [State.setB]
@[simp] theorem irqSet_exec {p i : Nat} : (irqSet p i s).exec = s.exec := by unfold irqSet; simp [State.setB]
@[simp] theorem irqSet_groups {p i : Nat} : (irqSet p i s).groups = s.groups := by unfold irqSet; simp [State.setB]
@[simp] theorem irqSet_safety {p i : Nat} : (irqSet p i s).safety = s.safety := by unfold irqSet; simp [State.setB]
@[simp] theorem irqSet_part {p i : Nat} : (irqSet p i s).part = s.part := by unfold irqSet; simp [State.setB]
@[simp] theorem irqSet_time {p i : Nat} : (irqSet p i s).time = s.time := by unfold irqSet; simp [State.setB]
@[simp] theorem irqSet_boot {p i : Nat} : (irqSet p i s).boot = s.boot := by unfold irqSet; simp [State.setB]
@[simp] theorem irqSet_meas {p i : Nat} : (irqSet p i s).meas = s.meas := by unfold irqSet; simp [State.setB]
@[simp] theorem irqSet_swap {p i : Nat} : (irqSet p i s).swap = s.swap := by unfold irqSet; simp [State.setB]
@[simp] theorem irqSet_baton {p i : Nat} : (irqSet p i s).baton = s.baton := by unfold irqSet; simp [State.setB]
@[simp] theorem irqSet_grd {p i : Nat} : (irqSet p i s).grd = s.grd := by unfold irqSet; simp [State.setB]
@[simp] theorem irqSet_can {p i : Nat} : (irqSet p i s).can = s.can := by unfold irqSet; simp [State.setB]
@[simp] theorem irqSet_relay {p i : Nat} : (irqSet p i s).relay = s.relay := by unfold irqSet; simp [State.setB]
@[simp] theorem irqSet_life {p i : Nat} : (irqSet p i s).life = s.life := by unfold irqSet; simp [State.setB]
@[simp] theorem irqSet_srcs {p i : Nat} : (irqSet p i s).srcs = s.srcs := by unfold irqSet; simp [State.setB]
@[simp] theorem irqSet_reports {p i : Nat} : (irqSet p i s).reports = s.reports := by unfold irqSet; simp [State.setB]
@[simp] theorem irqSet_pending {p i : Nat} : (irqSet p i s).pending = s.pending := by unfold irqSet; simp [State.setB]
@[simp] theorem irqSet_freeCtr {p i : Nat} : (irqSet p i s).freeCtr = s.freeCtr := by unfold irqSet; simp [State.setB]

/-! ### finish -/

@[simp] theorem finish_held {p k : Nat} : (finish p k s).held = s.held := by unfold finish; simp [State.setF]
@[simp] theorem finish_shown {p k : Nat} : (finish p k s).shown = s.shown := by unfold finish; simp [State.setF]
@[simp] theorem finish_deferred {p k : Nat} : (finish p k s).deferred = s.deferred := by unfold finish; simp [State.setF]
@[simp] theorem finish_starter {p k : Nat} : (finish p k s).starter = s.starter := by unfold finish; simp [State.setF]
@[simp] theorem finish_voting {p k : Nat} : (finish p k s).voting = s.voting := by unfold finish; simp [State.setF]
@[simp] theorem finish_lanes {p k : Nat} : (finish p k s).lanes = s.lanes := by unfold finish; simp [State.setF]
@[simp] theorem finish_mems {p k : Nat} : (finish p k s).mems = s.mems := by unfold finish; simp [State.setF]
@[simp] theorem finish_exec {p k : Nat} : (finish p k s).exec = s.exec := by unfold finish; simp [State.setF]
@[simp] theorem finish_groups {p k : Nat} : (finish p k s).groups = s.groups := by unfold finish; simp [State.setF]
@[simp] theorem finish_safety {p k : Nat} : (finish p k s).safety = s.safety := by unfold finish; simp [State.setF]
@[simp] theorem finish_part {p k : Nat} : (finish p k s).part = s.part := by unfold finish; simp [State.setF]
@[simp] theorem finish_time {p k : Nat} : (finish p k s).time = s.time := by unfold finish; simp [State.setF]
@[simp] theorem finish_boot {p k : Nat} : (finish p k s).boot = s.boot := by unfold finish; simp [State.setF]
@[simp] theorem finish_meas {p k : Nat} : (finish p k s).meas = s.meas := by unfold finish; simp [State.setF]
@[simp] theorem finish_swap {p k : Nat} : (finish p k s).swap = s.swap := by unfold finish; simp [State.setF]
@[simp] theorem finish_baton {p k : Nat} : (finish p k s).baton = s.baton := by unfold finish; simp [State.setF]
@[simp] theorem finish_grd {p k : Nat} : (finish p k s).grd = s.grd := by unfold finish; simp [State.setF]
@[simp] theorem finish_can {p k : Nat} : (finish p k s).can = s.can := by unfold finish; simp [State.setF]
@[simp] theorem finish_relay {p k : Nat} : (finish p k s).relay = s.relay := by unfold finish; simp [State.setF]
@[simp] theorem finish_life {p k : Nat} : (finish p k s).life = s.life := by unfold finish; simp [State.setF]
@[simp] theorem finish_srcs {p k : Nat} : (finish p k s).srcs = s.srcs := by unfold finish; simp [State.setF]
@[simp] theorem finish_reports {p k : Nat} : (finish p k s).reports = s.reports := by unfold finish; simp [State.setF]
@[simp] theorem finish_pending {p k : Nat} : (finish p k s).pending = s.pending := by unfold finish; simp [State.setF]
@[simp] theorem finish_freeCtr {p k : Nat} : (finish p k s).freeCtr = s.freeCtr := by unfold finish; simp [State.setF]

/-! ### State.setB -/

@[simp] theorem State.setB_held {a i : Nat} {b : Bool} : (s.setB a i b).held = s.held := rfl
@[simp] theorem State.setB_shown {a i : Nat} {b : Bool} : (s.setB a i b).shown = s.shown := rfl
@[simp] theorem State.setB_deferred {a i : Nat} {b : Bool} : (s.setB a i b).deferred = s.deferred := rfl
@[simp] theorem State.setB_starter {a i : Nat} {b : Bool} : (s.setB a i b).starter = s.starter := rfl
@[simp] theorem State.setB_voting {a i : Nat} {b : Bool} : (s.setB a i b).voting = s.voting := rfl
@[simp] theorem State.setB_lanes {a i : Nat} {b : Bool} : (s.setB a i b).lanes = s.lanes := rfl
@[simp] theorem State.setB_mems {a i : Nat} {b : Bool} : (s.setB a i b).mems = s.mems := rfl
@[simp] theorem State.setB_exec {a i : Nat} {b : Bool} : (s.setB a i b).exec = s.exec := rfl
@[simp] theorem State.setB_groups {a i : Nat} {b : Bool} : (s.setB a i b).groups = s.groups := rfl
@[simp] theorem State.setB_safety {a i : Nat} {b : Bool} : (s.setB a i b).safety = s.safety := rfl
@[simp] theorem State.setB_part {a i : Nat} {b : Bool} : (s.setB a i b).part = s.part := rfl
@[simp] theorem State.setB_time {a i : Nat} {b : Bool} : (s.setB a i b).time = s.time := rfl
@[simp] theorem State.setB_boot {a i : Nat} {b : Bool} : (s.setB a i b).boot = s.boot := rfl
@[simp] theorem State.setB_meas {a i : Nat} {b : Bool} : (s.setB a i b).meas = s.meas := rfl
@[simp] theorem State.setB_swap {a i : Nat} {b : Bool} : (s.setB a i b).swap = s.swap := rfl
@[simp] theorem State.setB_baton {a i : Nat} {b : Bool} : (s.setB a i b).baton = s.baton := rfl
@[simp] theorem State.setB_grd {a i : Nat} {b : Bool} : (s.setB a i b).grd = s.grd := rfl
@[simp] theorem State.setB_can {a i : Nat} {b : Bool} : (s.setB a i b).can = s.can := rfl
@[simp] theorem State.setB_relay {a i : Nat} {b : Bool} : (s.setB a i b).relay = s.relay := rfl
@[simp] theorem State.setB_shp {a i : Nat} {b : Bool} : (s.setB a i b).shp = s.shp := rfl
@[simp] theorem State.setB_life {a i : Nat} {b : Bool} : (s.setB a i b).life = s.life := rfl
@[simp] theorem State.setB_srcs {a i : Nat} {b : Bool} : (s.setB a i b).srcs = s.srcs := rfl
@[simp] theorem State.setB_reports {a i : Nat} {b : Bool} : (s.setB a i b).reports = s.reports := rfl
@[simp] theorem State.setB_sent {a i : Nat} {b : Bool} : (s.setB a i b).sent = s.sent := rfl
@[simp] theorem State.setB_pending {a i : Nat} {b : Bool} : (s.setB a i b).pending = s.pending := rfl
@[simp] theorem State.setB_freeCtr {a i : Nat} {b : Bool} : (s.setB a i b).freeCtr = s.freeCtr := rfl

/-! ### State.setF -/

@[simp] theorem State.setF_held {a i j v : Nat} : (s.setF a i j v).held = s.held := rfl
@[simp] theorem State.setF_shown {a i j v : Nat} : (s.setF a i j v).shown = s.shown := rfl
@[simp] theorem State.setF_deferred {a i j v : Nat} : (s.setF a i j v).deferred = s.deferred := rfl
@[simp] theorem State.setF_starter {a i j v : Nat} : (s.setF a i j v).starter = s.starter := rfl
@[simp] theorem State.setF_voting {a i j v : Nat} : (s.setF a i j v).voting = s.voting := rfl
@[simp] theorem State.setF_lanes {a i j v : Nat} : (s.setF a i j v).lanes = s.lanes := rfl
@[simp] theorem State.setF_mems {a i j v : Nat} : (s.setF a i j v).mems = s.mems := rfl
@[simp] theorem State.setF_exec {a i j v : Nat} : (s.setF a i j v).exec = s.exec := rfl
@[simp] theorem State.setF_groups {a i j v : Nat} : (s.setF a i j v).groups = s.groups := rfl
@[simp] theorem State.setF_safety {a i j v : Nat} : (s.setF a i j v).safety = s.safety := rfl
@[simp] theorem State.setF_part {a i j v : Nat} : (s.setF a i j v).part = s.part := rfl
@[simp] theorem State.setF_time {a i j v : Nat} : (s.setF a i j v).time = s.time := rfl
@[simp] theorem State.setF_boot {a i j v : Nat} : (s.setF a i j v).boot = s.boot := rfl
@[simp] theorem State.setF_meas {a i j v : Nat} : (s.setF a i j v).meas = s.meas := rfl
@[simp] theorem State.setF_swap {a i j v : Nat} : (s.setF a i j v).swap = s.swap := rfl
@[simp] theorem State.setF_baton {a i j v : Nat} : (s.setF a i j v).baton = s.baton := rfl
@[simp] theorem State.setF_grd {a i j v : Nat} : (s.setF a i j v).grd = s.grd := rfl
@[simp] theorem State.setF_can {a i j v : Nat} : (s.setF a i j v).can = s.can := rfl
@[simp] theorem State.setF_relay {a i j v : Nat} : (s.setF a i j v).relay = s.relay := rfl
@[simp] theorem State.setF_shp {a i j v : Nat} : (s.setF a i j v).shp = s.shp := rfl
@[simp] theorem State.setF_life {a i j v : Nat} : (s.setF a i j v).life = s.life := rfl
@[simp] theorem State.setF_srcs {a i j v : Nat} : (s.setF a i j v).srcs = s.srcs := rfl
@[simp] theorem State.setF_reports {a i j v : Nat} : (s.setF a i j v).reports = s.reports := rfl
@[simp] theorem State.setF_sent {a i j v : Nat} : (s.setF a i j v).sent = s.sent := rfl
@[simp] theorem State.setF_pending {a i j v : Nat} : (s.setF a i j v).pending = s.pending := rfl
@[simp] theorem State.setF_freeCtr {a i j v : Nat} : (s.setF a i j v).freeCtr = s.freeCtr := rfl

/-! ### State.setRegN -/

@[simp] theorem State.setRegN_held {a v : Nat} : (s.setRegN a v).held = s.held := rfl
@[simp] theorem State.setRegN_shown {a v : Nat} : (s.setRegN a v).shown = s.shown := rfl
@[simp] theorem State.setRegN_deferred {a v : Nat} : (s.setRegN a v).deferred = s.deferred := rfl
@[simp] theorem State.setRegN_starter {a v : Nat} : (s.setRegN a v).starter = s.starter := rfl
@[simp] theorem State.setRegN_voting {a v : Nat} : (s.setRegN a v).voting = s.voting := rfl
@[simp] theorem State.setRegN_lanes {a v : Nat} : (s.setRegN a v).lanes = s.lanes := rfl
@[simp] theorem State.setRegN_mems {a v : Nat} : (s.setRegN a v).mems = s.mems := rfl
@[simp] theorem State.setRegN_exec {a v : Nat} : (s.setRegN a v).exec = s.exec := rfl
@[simp] theorem State.setRegN_groups {a v : Nat} : (s.setRegN a v).groups = s.groups := rfl
@[simp] theorem State.setRegN_safety {a v : Nat} : (s.setRegN a v).safety = s.safety := rfl
@[simp] theorem State.setRegN_part {a v : Nat} : (s.setRegN a v).part = s.part := rfl
@[simp] theorem State.setRegN_time {a v : Nat} : (s.setRegN a v).time = s.time := rfl
@[simp] theorem State.setRegN_boot {a v : Nat} : (s.setRegN a v).boot = s.boot := rfl
@[simp] theorem State.setRegN_meas {a v : Nat} : (s.setRegN a v).meas = s.meas := rfl
@[simp] theorem State.setRegN_swap {a v : Nat} : (s.setRegN a v).swap = s.swap := rfl
@[simp] theorem State.setRegN_baton {a v : Nat} : (s.setRegN a v).baton = s.baton := rfl
@[simp] theorem State.setRegN_grd {a v : Nat} : (s.setRegN a v).grd = s.grd := rfl
@[simp] theorem State.setRegN_can {a v : Nat} : (s.setRegN a v).can = s.can := rfl
@[simp] theorem State.setRegN_relay {a v : Nat} : (s.setRegN a v).relay = s.relay := rfl
@[simp] theorem State.setRegN_shp {a v : Nat} : (s.setRegN a v).shp = s.shp := rfl
@[simp] theorem State.setRegN_life {a v : Nat} : (s.setRegN a v).life = s.life := rfl
@[simp] theorem State.setRegN_srcs {a v : Nat} : (s.setRegN a v).srcs = s.srcs := rfl
@[simp] theorem State.setRegN_reports {a v : Nat} : (s.setRegN a v).reports = s.reports := rfl
@[simp] theorem State.setRegN_sent {a v : Nat} : (s.setRegN a v).sent = s.sent := rfl
@[simp] theorem State.setRegN_pending {a v : Nat} : (s.setRegN a v).pending = s.pending := rfl
@[simp] theorem State.setRegN_freeCtr {a v : Nat} : (s.setRegN a v).freeCtr = s.freeCtr := rfl

/-! ### State.bump -/

@[simp] theorem State.bump_held {a : Nat} : (s.bump a).held = s.held := rfl
@[simp] theorem State.bump_shown {a : Nat} : (s.bump a).shown = s.shown := rfl
@[simp] theorem State.bump_deferred {a : Nat} : (s.bump a).deferred = s.deferred := rfl
@[simp] theorem State.bump_starter {a : Nat} : (s.bump a).starter = s.starter := rfl
@[simp] theorem State.bump_voting {a : Nat} : (s.bump a).voting = s.voting := rfl
@[simp] theorem State.bump_lanes {a : Nat} : (s.bump a).lanes = s.lanes := rfl
@[simp] theorem State.bump_mems {a : Nat} : (s.bump a).mems = s.mems := rfl
@[simp] theorem State.bump_exec {a : Nat} : (s.bump a).exec = s.exec := rfl
@[simp] theorem State.bump_groups {a : Nat} : (s.bump a).groups = s.groups := rfl
@[simp] theorem State.bump_safety {a : Nat} : (s.bump a).safety = s.safety := rfl
@[simp] theorem State.bump_part {a : Nat} : (s.bump a).part = s.part := rfl
@[simp] theorem State.bump_time {a : Nat} : (s.bump a).time = s.time := rfl
@[simp] theorem State.bump_boot {a : Nat} : (s.bump a).boot = s.boot := rfl
@[simp] theorem State.bump_meas {a : Nat} : (s.bump a).meas = s.meas := rfl
@[simp] theorem State.bump_swap {a : Nat} : (s.bump a).swap = s.swap := rfl
@[simp] theorem State.bump_baton {a : Nat} : (s.bump a).baton = s.baton := rfl
@[simp] theorem State.bump_grd {a : Nat} : (s.bump a).grd = s.grd := rfl
@[simp] theorem State.bump_can {a : Nat} : (s.bump a).can = s.can := rfl
@[simp] theorem State.bump_relay {a : Nat} : (s.bump a).relay = s.relay := rfl
@[simp] theorem State.bump_shp {a : Nat} : (s.bump a).shp = s.shp := rfl
@[simp] theorem State.bump_life {a : Nat} : (s.bump a).life = s.life := rfl
@[simp] theorem State.bump_srcs {a : Nat} : (s.bump a).srcs = s.srcs := rfl
@[simp] theorem State.bump_reports {a : Nat} : (s.bump a).reports = s.reports := rfl
@[simp] theorem State.bump_sent {a : Nat} : (s.bump a).sent = s.sent := rfl
@[simp] theorem State.bump_pending {a : Nat} : (s.bump a).pending = s.pending := rfl
@[simp] theorem State.bump_freeCtr {a : Nat} : (s.bump a).freeCtr = s.freeCtr := rfl

/-! ### State.bumpBy -/

@[simp] theorem State.bumpBy_held {a k : Nat} : (s.bumpBy a k).held = s.held := rfl
@[simp] theorem State.bumpBy_shown {a k : Nat} : (s.bumpBy a k).shown = s.shown := rfl
@[simp] theorem State.bumpBy_deferred {a k : Nat} : (s.bumpBy a k).deferred = s.deferred := rfl
@[simp] theorem State.bumpBy_starter {a k : Nat} : (s.bumpBy a k).starter = s.starter := rfl
@[simp] theorem State.bumpBy_voting {a k : Nat} : (s.bumpBy a k).voting = s.voting := rfl
@[simp] theorem State.bumpBy_lanes {a k : Nat} : (s.bumpBy a k).lanes = s.lanes := rfl
@[simp] theorem State.bumpBy_mems {a k : Nat} : (s.bumpBy a k).mems = s.mems := rfl
@[simp] theorem State.bumpBy_exec {a k : Nat} : (s.bumpBy a k).exec = s.exec := rfl
@[simp] theorem State.bumpBy_groups {a k : Nat} : (s.bumpBy a k).groups = s.groups := rfl
@[simp] theorem State.bumpBy_safety {a k : Nat} : (s.bumpBy a k).safety = s.safety := rfl
@[simp] theorem State.bumpBy_part {a k : Nat} : (s.bumpBy a k).part = s.part := rfl
@[simp] theorem State.bumpBy_time {a k : Nat} : (s.bumpBy a k).time = s.time := rfl
@[simp] theorem State.bumpBy_boot {a k : Nat} : (s.bumpBy a k).boot = s.boot := rfl
@[simp] theorem State.bumpBy_meas {a k : Nat} : (s.bumpBy a k).meas = s.meas := rfl
@[simp] theorem State.bumpBy_swap {a k : Nat} : (s.bumpBy a k).swap = s.swap := rfl
@[simp] theorem State.bumpBy_baton {a k : Nat} : (s.bumpBy a k).baton = s.baton := rfl
@[simp] theorem State.bumpBy_grd {a k : Nat} : (s.bumpBy a k).grd = s.grd := rfl
@[simp] theorem State.bumpBy_can {a k : Nat} : (s.bumpBy a k).can = s.can := rfl
@[simp] theorem State.bumpBy_relay {a k : Nat} : (s.bumpBy a k).relay = s.relay := rfl
@[simp] theorem State.bumpBy_shp {a k : Nat} : (s.bumpBy a k).shp = s.shp := rfl
@[simp] theorem State.bumpBy_life {a k : Nat} : (s.bumpBy a k).life = s.life := rfl
@[simp] theorem State.bumpBy_srcs {a k : Nat} : (s.bumpBy a k).srcs = s.srcs := rfl
@[simp] theorem State.bumpBy_reports {a k : Nat} : (s.bumpBy a k).reports = s.reports := rfl
@[simp] theorem State.bumpBy_sent {a k : Nat} : (s.bumpBy a k).sent = s.sent := rfl
@[simp] theorem State.bumpBy_pending {a k : Nat} : (s.bumpBy a k).pending = s.pending := rfl
@[simp] theorem State.bumpBy_freeCtr {a k : Nat} : (s.bumpBy a k).freeCtr = s.freeCtr := rfl

/-! ### State.bumpF -/

@[simp] theorem State.bumpF_held {a i j : Nat} : (s.bumpF a i j).held = s.held := by unfold State.bumpF; split <;> rfl
@[simp] theorem State.bumpF_shown {a i j : Nat} : (s.bumpF a i j).shown = s.shown := by unfold State.bumpF; split <;> rfl
@[simp] theorem State.bumpF_deferred {a i j : Nat} : (s.bumpF a i j).deferred = s.deferred := by unfold State.bumpF; split <;> rfl
@[simp] theorem State.bumpF_starter {a i j : Nat} : (s.bumpF a i j).starter = s.starter := by unfold State.bumpF; split <;> rfl
@[simp] theorem State.bumpF_voting {a i j : Nat} : (s.bumpF a i j).voting = s.voting := by unfold State.bumpF; split <;> rfl
@[simp] theorem State.bumpF_lanes {a i j : Nat} : (s.bumpF a i j).lanes = s.lanes := by unfold State.bumpF; split <;> rfl
@[simp] theorem State.bumpF_mems {a i j : Nat} : (s.bumpF a i j).mems = s.mems := by unfold State.bumpF; split <;> rfl
@[simp] theorem State.bumpF_exec {a i j : Nat} : (s.bumpF a i j).exec = s.exec := by unfold State.bumpF; split <;> rfl
@[simp] theorem State.bumpF_groups {a i j : Nat} : (s.bumpF a i j).groups = s.groups := by unfold State.bumpF; split <;> rfl
@[simp] theorem State.bumpF_safety {a i j : Nat} : (s.bumpF a i j).safety = s.safety := by unfold State.bumpF; split <;> rfl
@[simp] theorem State.bumpF_part {a i j : Nat} : (s.bumpF a i j).part = s.part := by unfold State.bumpF; split <;> rfl
@[simp] theorem State.bumpF_time {a i j : Nat} : (s.bumpF a i j).time = s.time := by unfold State.bumpF; split <;> rfl
@[simp] theorem State.bumpF_boot {a i j : Nat} : (s.bumpF a i j).boot = s.boot := by unfold State.bumpF; split <;> rfl
@[simp] theorem State.bumpF_meas {a i j : Nat} : (s.bumpF a i j).meas = s.meas := by unfold State.bumpF; split <;> rfl
@[simp] theorem State.bumpF_swap {a i j : Nat} : (s.bumpF a i j).swap = s.swap := by unfold State.bumpF; split <;> rfl
@[simp] theorem State.bumpF_baton {a i j : Nat} : (s.bumpF a i j).baton = s.baton := by unfold State.bumpF; split <;> rfl
@[simp] theorem State.bumpF_grd {a i j : Nat} : (s.bumpF a i j).grd = s.grd := by unfold State.bumpF; split <;> rfl
@[simp] theorem State.bumpF_can {a i j : Nat} : (s.bumpF a i j).can = s.can := by unfold State.bumpF; split <;> rfl
@[simp] theorem State.bumpF_relay {a i j : Nat} : (s.bumpF a i j).relay = s.relay := by unfold State.bumpF; split <;> rfl
@[simp] theorem State.bumpF_shp {a i j : Nat} : (s.bumpF a i j).shp = s.shp := by unfold State.bumpF; split <;> rfl
@[simp] theorem State.bumpF_life {a i j : Nat} : (s.bumpF a i j).life = s.life := by unfold State.bumpF; split <;> rfl
@[simp] theorem State.bumpF_srcs {a i j : Nat} : (s.bumpF a i j).srcs = s.srcs := by unfold State.bumpF; split <;> rfl
@[simp] theorem State.bumpF_reports {a i j : Nat} : (s.bumpF a i j).reports = s.reports := by unfold State.bumpF; split <;> rfl
@[simp] theorem State.bumpF_sent {a i j : Nat} : (s.bumpF a i j).sent = s.sent := by unfold State.bumpF; split <;> rfl
@[simp] theorem State.bumpF_pending {a i j : Nat} : (s.bumpF a i j).pending = s.pending := by unfold State.bumpF; split <;> rfl
@[simp] theorem State.bumpF_freeCtr {a i j : Nat} : (s.bumpF a i j).freeCtr = s.freeCtr := by unfold State.bumpF; split <;> rfl

/-! ### State.maxReg -/

@[simp] theorem State.maxReg_held {a v : Nat} : (s.maxReg a v).held = s.held := by unfold State.maxReg; split <;> rfl
@[simp] theorem State.maxReg_shown {a v : Nat} : (s.maxReg a v).shown = s.shown := by unfold State.maxReg; split <;> rfl
@[simp] theorem State.maxReg_deferred {a v : Nat} : (s.maxReg a v).deferred = s.deferred := by unfold State.maxReg; split <;> rfl
@[simp] theorem State.maxReg_starter {a v : Nat} : (s.maxReg a v).starter = s.starter := by unfold State.maxReg; split <;> rfl
@[simp] theorem State.maxReg_voting {a v : Nat} : (s.maxReg a v).voting = s.voting := by unfold State.maxReg; split <;> rfl
@[simp] theorem State.maxReg_lanes {a v : Nat} : (s.maxReg a v).lanes = s.lanes := by unfold State.maxReg; split <;> rfl
@[simp] theorem State.maxReg_mems {a v : Nat} : (s.maxReg a v).mems = s.mems := by unfold State.maxReg; split <;> rfl
@[simp] theorem State.maxReg_exec {a v : Nat} : (s.maxReg a v).exec = s.exec := by unfold State.maxReg; split <;> rfl
@[simp] theorem State.maxReg_groups {a v : Nat} : (s.maxReg a v).groups = s.groups := by unfold State.maxReg; split <;> rfl
@[simp] theorem State.maxReg_safety {a v : Nat} : (s.maxReg a v).safety = s.safety := by unfold State.maxReg; split <;> rfl
@[simp] theorem State.maxReg_part {a v : Nat} : (s.maxReg a v).part = s.part := by unfold State.maxReg; split <;> rfl
@[simp] theorem State.maxReg_time {a v : Nat} : (s.maxReg a v).time = s.time := by unfold State.maxReg; split <;> rfl
@[simp] theorem State.maxReg_boot {a v : Nat} : (s.maxReg a v).boot = s.boot := by unfold State.maxReg; split <;> rfl
@[simp] theorem State.maxReg_meas {a v : Nat} : (s.maxReg a v).meas = s.meas := by unfold State.maxReg; split <;> rfl
@[simp] theorem State.maxReg_swap {a v : Nat} : (s.maxReg a v).swap = s.swap := by unfold State.maxReg; split <;> rfl
@[simp] theorem State.maxReg_baton {a v : Nat} : (s.maxReg a v).baton = s.baton := by unfold State.maxReg; split <;> rfl
@[simp] theorem State.maxReg_grd {a v : Nat} : (s.maxReg a v).grd = s.grd := by unfold State.maxReg; split <;> rfl
@[simp] theorem State.maxReg_can {a v : Nat} : (s.maxReg a v).can = s.can := by unfold State.maxReg; split <;> rfl
@[simp] theorem State.maxReg_relay {a v : Nat} : (s.maxReg a v).relay = s.relay := by unfold State.maxReg; split <;> rfl
@[simp] theorem State.maxReg_shp {a v : Nat} : (s.maxReg a v).shp = s.shp := by unfold State.maxReg; split <;> rfl
@[simp] theorem State.maxReg_life {a v : Nat} : (s.maxReg a v).life = s.life := by unfold State.maxReg; split <;> rfl
@[simp] theorem State.maxReg_srcs {a v : Nat} : (s.maxReg a v).srcs = s.srcs := by unfold State.maxReg; split <;> rfl
@[simp] theorem State.maxReg_reports {a v : Nat} : (s.maxReg a v).reports = s.reports := by unfold State.maxReg; split <;> rfl
@[simp] theorem State.maxReg_sent {a v : Nat} : (s.maxReg a v).sent = s.sent := by unfold State.maxReg; split <;> rfl
@[simp] theorem State.maxReg_pending {a v : Nat} : (s.maxReg a v).pending = s.pending := by unfold State.maxReg; split <;> rfl
@[simp] theorem State.maxReg_freeCtr {a v : Nat} : (s.maxReg a v).freeCtr = s.freeCtr := by unfold State.maxReg; split <;> rfl

/-! ### State.clear -/

theorem State.clear_frame (l : List Nat) (s : State) : ∃ r, s.clear l = { s with regs := r } := by
  unfold State.clear State.setAll
  induction l generalizing s with
  | nil => exact ⟨s.regs, rfl⟩
  | cons a l ih => obtain ⟨r, e⟩ := ih (s.setReg a 0); exact ⟨r, e⟩
@[simp] theorem State.clear_held {l : List Nat} : (s.clear l).held = s.held := by obtain ⟨_, e⟩ := State.clear_frame l s; rw [e]
@[simp] theorem State.clear_shown {l : List Nat} : (s.clear l).shown = s.shown := by obtain ⟨_, e⟩ := State.clear_frame l s; rw [e]
@[simp] theorem State.clear_deferred {l : List Nat} : (s.clear l).deferred = s.deferred := by obtain ⟨_, e⟩ := State.clear_frame l s; rw [e]
@[simp] theorem State.clear_starter {l : List Nat} : (s.clear l).starter = s.starter := by obtain ⟨_, e⟩ := State.clear_frame l s; rw [e]
@[simp] theorem State.clear_voting {l : List Nat} : (s.clear l).voting = s.voting := by obtain ⟨_, e⟩ := State.clear_frame l s; rw [e]
@[simp] theorem State.clear_lanes {l : List Nat} : (s.clear l).lanes = s.lanes := by obtain ⟨_, e⟩ := State.clear_frame l s; rw [e]
@[simp] theorem State.clear_mems {l : List Nat} : (s.clear l).mems = s.mems := by obtain ⟨_, e⟩ := State.clear_frame l s; rw [e]
@[simp] theorem State.clear_exec {l : List Nat} : (s.clear l).exec = s.exec := by obtain ⟨_, e⟩ := State.clear_frame l s; rw [e]
@[simp] theorem State.clear_groups {l : List Nat} : (s.clear l).groups = s.groups := by obtain ⟨_, e⟩ := State.clear_frame l s; rw [e]
@[simp] theorem State.clear_safety {l : List Nat} : (s.clear l).safety = s.safety := by obtain ⟨_, e⟩ := State.clear_frame l s; rw [e]
@[simp] theorem State.clear_part {l : List Nat} : (s.clear l).part = s.part := by obtain ⟨_, e⟩ := State.clear_frame l s; rw [e]
@[simp] theorem State.clear_time {l : List Nat} : (s.clear l).time = s.time := by obtain ⟨_, e⟩ := State.clear_frame l s; rw [e]
@[simp] theorem State.clear_boot {l : List Nat} : (s.clear l).boot = s.boot := by obtain ⟨_, e⟩ := State.clear_frame l s; rw [e]
@[simp] theorem State.clear_meas {l : List Nat} : (s.clear l).meas = s.meas := by obtain ⟨_, e⟩ := State.clear_frame l s; rw [e]
@[simp] theorem State.clear_swap {l : List Nat} : (s.clear l).swap = s.swap := by obtain ⟨_, e⟩ := State.clear_frame l s; rw [e]
@[simp] theorem State.clear_baton {l : List Nat} : (s.clear l).baton = s.baton := by obtain ⟨_, e⟩ := State.clear_frame l s; rw [e]
@[simp] theorem State.clear_grd {l : List Nat} : (s.clear l).grd = s.grd := by obtain ⟨_, e⟩ := State.clear_frame l s; rw [e]
@[simp] theorem State.clear_can {l : List Nat} : (s.clear l).can = s.can := by obtain ⟨_, e⟩ := State.clear_frame l s; rw [e]
@[simp] theorem State.clear_relay {l : List Nat} : (s.clear l).relay = s.relay := by obtain ⟨_, e⟩ := State.clear_frame l s; rw [e]
@[simp] theorem State.clear_shp {l : List Nat} : (s.clear l).shp = s.shp := by obtain ⟨_, e⟩ := State.clear_frame l s; rw [e]
@[simp] theorem State.clear_life {l : List Nat} : (s.clear l).life = s.life := by obtain ⟨_, e⟩ := State.clear_frame l s; rw [e]
@[simp] theorem State.clear_srcs {l : List Nat} : (s.clear l).srcs = s.srcs := by obtain ⟨_, e⟩ := State.clear_frame l s; rw [e]
@[simp] theorem State.clear_reports {l : List Nat} : (s.clear l).reports = s.reports := by obtain ⟨_, e⟩ := State.clear_frame l s; rw [e]
@[simp] theorem State.clear_sent {l : List Nat} : (s.clear l).sent = s.sent := by obtain ⟨_, e⟩ := State.clear_frame l s; rw [e]
@[simp] theorem State.clear_pending {l : List Nat} : (s.clear l).pending = s.pending := by obtain ⟨_, e⟩ := State.clear_frame l s; rw [e]
@[simp] theorem State.clear_freeCtr {l : List Nat} : (s.clear l).freeCtr = s.freeCtr := by obtain ⟨_, e⟩ := State.clear_frame l s; rw [e]

/-! ### State.setReg64 -/

@[simp] theorem State.setReg64_held {a v : Nat} : (s.setReg64 a v).held = s.held := rfl
@[simp] theorem State.setReg64_shown {a v : Nat} : (s.setReg64 a v).shown = s.shown := rfl
@[simp] theorem State.setReg64_deferred {a v : Nat} : (s.setReg64 a v).deferred = s.deferred := rfl
@[simp] theorem State.setReg64_starter {a v : Nat} : (s.setReg64 a v).starter = s.starter := rfl
@[simp] theorem State.setReg64_voting {a v : Nat} : (s.setReg64 a v).voting = s.voting := rfl
@[simp] theorem State.setReg64_lanes {a v : Nat} : (s.setReg64 a v).lanes = s.lanes := rfl
@[simp] theorem State.setReg64_mems {a v : Nat} : (s.setReg64 a v).mems = s.mems := rfl
@[simp] theorem State.setReg64_exec {a v : Nat} : (s.setReg64 a v).exec = s.exec := rfl
@[simp] theorem State.setReg64_groups {a v : Nat} : (s.setReg64 a v).groups = s.groups := rfl
@[simp] theorem State.setReg64_safety {a v : Nat} : (s.setReg64 a v).safety = s.safety := rfl
@[simp] theorem State.setReg64_part {a v : Nat} : (s.setReg64 a v).part = s.part := rfl
@[simp] theorem State.setReg64_time {a v : Nat} : (s.setReg64 a v).time = s.time := rfl
@[simp] theorem State.setReg64_boot {a v : Nat} : (s.setReg64 a v).boot = s.boot := rfl
@[simp] theorem State.setReg64_meas {a v : Nat} : (s.setReg64 a v).meas = s.meas := rfl
@[simp] theorem State.setReg64_swap {a v : Nat} : (s.setReg64 a v).swap = s.swap := rfl
@[simp] theorem State.setReg64_baton {a v : Nat} : (s.setReg64 a v).baton = s.baton := rfl
@[simp] theorem State.setReg64_grd {a v : Nat} : (s.setReg64 a v).grd = s.grd := rfl
@[simp] theorem State.setReg64_can {a v : Nat} : (s.setReg64 a v).can = s.can := rfl
@[simp] theorem State.setReg64_relay {a v : Nat} : (s.setReg64 a v).relay = s.relay := rfl
@[simp] theorem State.setReg64_shp {a v : Nat} : (s.setReg64 a v).shp = s.shp := rfl
@[simp] theorem State.setReg64_life {a v : Nat} : (s.setReg64 a v).life = s.life := rfl
@[simp] theorem State.setReg64_srcs {a v : Nat} : (s.setReg64 a v).srcs = s.srcs := rfl
@[simp] theorem State.setReg64_reports {a v : Nat} : (s.setReg64 a v).reports = s.reports := rfl
@[simp] theorem State.setReg64_sent {a v : Nat} : (s.setReg64 a v).sent = s.sent := rfl
@[simp] theorem State.setReg64_pending {a v : Nat} : (s.setReg64 a v).pending = s.pending := rfl
@[simp] theorem State.setReg64_freeCtr {a v : Nat} : (s.setReg64 a v).freeCtr = s.freeCtr := rfl

/-! ### State.setPgState -/

@[simp] theorem State.setPgState_held {p v : Nat} : (s.setPgState p v).held = s.held := by unfold State.setPgState; split <;> rfl
@[simp] theorem State.setPgState_shown {p v : Nat} : (s.setPgState p v).shown = s.shown := by unfold State.setPgState; split <;> rfl
@[simp] theorem State.setPgState_deferred {p v : Nat} : (s.setPgState p v).deferred = s.deferred := by unfold State.setPgState; split <;> rfl
@[simp] theorem State.setPgState_starter {p v : Nat} : (s.setPgState p v).starter = s.starter := by unfold State.setPgState; split <;> rfl
@[simp] theorem State.setPgState_voting {p v : Nat} : (s.setPgState p v).voting = s.voting := by unfold State.setPgState; split <;> rfl
@[simp] theorem State.setPgState_lanes {p v : Nat} : (s.setPgState p v).lanes = s.lanes := by unfold State.setPgState; split <;> rfl
@[simp] theorem State.setPgState_mems {p v : Nat} : (s.setPgState p v).mems = s.mems := by unfold State.setPgState; split <;> rfl
@[simp] theorem State.setPgState_exec {p v : Nat} : (s.setPgState p v).exec = s.exec := by unfold State.setPgState; split <;> rfl
@[simp] theorem State.setPgState_groups {p v : Nat} : (s.setPgState p v).groups = s.groups := by unfold State.setPgState; split <;> rfl
@[simp] theorem State.setPgState_safety {p v : Nat} : (s.setPgState p v).safety = s.safety := by unfold State.setPgState; split <;> rfl
@[simp] theorem State.setPgState_part {p v : Nat} : (s.setPgState p v).part = s.part := by unfold State.setPgState; split <;> rfl
@[simp] theorem State.setPgState_time {p v : Nat} : (s.setPgState p v).time = s.time := by unfold State.setPgState; split <;> rfl
@[simp] theorem State.setPgState_boot {p v : Nat} : (s.setPgState p v).boot = s.boot := by unfold State.setPgState; split <;> rfl
@[simp] theorem State.setPgState_meas {p v : Nat} : (s.setPgState p v).meas = s.meas := by unfold State.setPgState; split <;> rfl
@[simp] theorem State.setPgState_swap {p v : Nat} : (s.setPgState p v).swap = s.swap := by unfold State.setPgState; split <;> rfl
@[simp] theorem State.setPgState_baton {p v : Nat} : (s.setPgState p v).baton = s.baton := by unfold State.setPgState; split <;> rfl
@[simp] theorem State.setPgState_grd {p v : Nat} : (s.setPgState p v).grd = s.grd := by unfold State.setPgState; split <;> rfl
@[simp] theorem State.setPgState_can {p v : Nat} : (s.setPgState p v).can = s.can := by unfold State.setPgState; split <;> rfl
@[simp] theorem State.setPgState_relay {p v : Nat} : (s.setPgState p v).relay = s.relay := by unfold State.setPgState; split <;> rfl
@[simp] theorem State.setPgState_shp {p v : Nat} : (s.setPgState p v).shp = s.shp := by unfold State.setPgState; split <;> rfl
@[simp] theorem State.setPgState_life {p v : Nat} : (s.setPgState p v).life = s.life := by unfold State.setPgState; split <;> rfl
@[simp] theorem State.setPgState_srcs {p v : Nat} : (s.setPgState p v).srcs = s.srcs := by unfold State.setPgState; split <;> rfl
@[simp] theorem State.setPgState_reports {p v : Nat} : (s.setPgState p v).reports = s.reports := by unfold State.setPgState; split <;> rfl
@[simp] theorem State.setPgState_sent {p v : Nat} : (s.setPgState p v).sent = s.sent := by unfold State.setPgState; split <;> rfl
@[simp] theorem State.setPgState_pending {p v : Nat} : (s.setPgState p v).pending = s.pending := by unfold State.setPgState; split <;> rfl
@[simp] theorem State.setPgState_freeCtr {p v : Nat} : (s.setPgState p v).freeCtr = s.freeCtr := by unfold State.setPgState; split <;> rfl

/-! ### State.putPgState -/

@[simp] theorem State.putPgState_held {p v : Nat} : (s.putPgState p v).held = s.held := rfl
@[simp] theorem State.putPgState_shown {p v : Nat} : (s.putPgState p v).shown = s.shown := rfl
@[simp] theorem State.putPgState_deferred {p v : Nat} : (s.putPgState p v).deferred = s.deferred := rfl
@[simp] theorem State.putPgState_starter {p v : Nat} : (s.putPgState p v).starter = s.starter := rfl
@[simp] theorem State.putPgState_voting {p v : Nat} : (s.putPgState p v).voting = s.voting := rfl
@[simp] theorem State.putPgState_lanes {p v : Nat} : (s.putPgState p v).lanes = s.lanes := rfl
@[simp] theorem State.putPgState_mems {p v : Nat} : (s.putPgState p v).mems = s.mems := rfl
@[simp] theorem State.putPgState_exec {p v : Nat} : (s.putPgState p v).exec = s.exec := rfl
@[simp] theorem State.putPgState_groups {p v : Nat} : (s.putPgState p v).groups = s.groups := rfl
@[simp] theorem State.putPgState_safety {p v : Nat} : (s.putPgState p v).safety = s.safety := rfl
@[simp] theorem State.putPgState_part {p v : Nat} : (s.putPgState p v).part = s.part := rfl
@[simp] theorem State.putPgState_time {p v : Nat} : (s.putPgState p v).time = s.time := rfl
@[simp] theorem State.putPgState_boot {p v : Nat} : (s.putPgState p v).boot = s.boot := rfl
@[simp] theorem State.putPgState_meas {p v : Nat} : (s.putPgState p v).meas = s.meas := rfl
@[simp] theorem State.putPgState_swap {p v : Nat} : (s.putPgState p v).swap = s.swap := rfl
@[simp] theorem State.putPgState_baton {p v : Nat} : (s.putPgState p v).baton = s.baton := rfl
@[simp] theorem State.putPgState_grd {p v : Nat} : (s.putPgState p v).grd = s.grd := rfl
@[simp] theorem State.putPgState_can {p v : Nat} : (s.putPgState p v).can = s.can := rfl
@[simp] theorem State.putPgState_relay {p v : Nat} : (s.putPgState p v).relay = s.relay := rfl
@[simp] theorem State.putPgState_shp {p v : Nat} : (s.putPgState p v).shp = s.shp := rfl
@[simp] theorem State.putPgState_life {p v : Nat} : (s.putPgState p v).life = s.life := rfl
@[simp] theorem State.putPgState_srcs {p v : Nat} : (s.putPgState p v).srcs = s.srcs := rfl
@[simp] theorem State.putPgState_reports {p v : Nat} : (s.putPgState p v).reports = s.reports := rfl
@[simp] theorem State.putPgState_sent {p v : Nat} : (s.putPgState p v).sent = s.sent := rfl
@[simp] theorem State.putPgState_pending {p v : Nat} : (s.putPgState p v).pending = s.pending := rfl
@[simp] theorem State.putPgState_freeCtr {p v : Nat} : (s.putPgState p v).freeCtr = s.freeCtr := rfl

/-! ### State.setEn -/

@[simp] theorem State.setEn_held {p : Nat} {b : Bool} : (s.setEn p b).held = s.held := rfl
@[simp] theorem State.setEn_shown {p : Nat} {b : Bool} : (s.setEn p b).shown = s.shown := rfl
@[simp] theorem State.setEn_deferred {p : Nat} {b : Bool} : (s.setEn p b).deferred = s.deferred := rfl
@[simp] theorem State.setEn_starter {p : Nat} {b : Bool} : (s.setEn p b).starter = s.starter := rfl
@[simp] theorem State.setEn_voting {p : Nat} {b : Bool} : (s.setEn p b).voting = s.voting := rfl
@[simp] theorem State.setEn_lanes {p : Nat} {b : Bool} : (s.setEn p b).lanes = s.lanes := rfl
@[simp] theorem State.setEn_mems {p : Nat} {b : Bool} : (s.setEn p b).mems = s.mems := rfl
@[simp] theorem State.setEn_exec {p : Nat} {b : Bool} : (s.setEn p b).exec = s.exec := rfl
@[simp] theorem State.setEn_groups {p : Nat} {b : Bool} : (s.setEn p b).groups = s.groups := rfl
@[simp] theorem State.setEn_safety {p : Nat} {b : Bool} : (s.setEn p b).safety = s.safety := rfl
@[simp] theorem State.setEn_part {p : Nat} {b : Bool} : (s.setEn p b).part = s.part := rfl
@[simp] theorem State.setEn_time {p : Nat} {b : Bool} : (s.setEn p b).time = s.time := rfl
@[simp] theorem State.setEn_boot {p : Nat} {b : Bool} : (s.setEn p b).boot = s.boot := rfl
@[simp] theorem State.setEn_meas {p : Nat} {b : Bool} : (s.setEn p b).meas = s.meas := rfl
@[simp] theorem State.setEn_swap {p : Nat} {b : Bool} : (s.setEn p b).swap = s.swap := rfl
@[simp] theorem State.setEn_baton {p : Nat} {b : Bool} : (s.setEn p b).baton = s.baton := rfl
@[simp] theorem State.setEn_grd {p : Nat} {b : Bool} : (s.setEn p b).grd = s.grd := rfl
@[simp] theorem State.setEn_can {p : Nat} {b : Bool} : (s.setEn p b).can = s.can := rfl
@[simp] theorem State.setEn_relay {p : Nat} {b : Bool} : (s.setEn p b).relay = s.relay := rfl
@[simp] theorem State.setEn_shp {p : Nat} {b : Bool} : (s.setEn p b).shp = s.shp := rfl
@[simp] theorem State.setEn_life {p : Nat} {b : Bool} : (s.setEn p b).life = s.life := rfl
@[simp] theorem State.setEn_srcs {p : Nat} {b : Bool} : (s.setEn p b).srcs = s.srcs := rfl
@[simp] theorem State.setEn_reports {p : Nat} {b : Bool} : (s.setEn p b).reports = s.reports := rfl
@[simp] theorem State.setEn_sent {p : Nat} {b : Bool} : (s.setEn p b).sent = s.sent := rfl
@[simp] theorem State.setEn_pending {p : Nat} {b : Bool} : (s.setEn p b).pending = s.pending := rfl
@[simp] theorem State.setEn_freeCtr {p : Nat} {b : Bool} : (s.setEn p b).freeCtr = s.freeCtr := rfl

/-! ### State.unshow -/

@[simp] theorem State.unshow_regs {p : Nat} : (s.unshow p).regs = s.regs := rfl
@[simp] theorem State.unshow_held {p : Nat} : (s.unshow p).held = s.held := rfl
@[simp] theorem State.unshow_deferred {p : Nat} : (s.unshow p).deferred = s.deferred := rfl
@[simp] theorem State.unshow_starter {p : Nat} : (s.unshow p).starter = s.starter := rfl
@[simp] theorem State.unshow_voting {p : Nat} : (s.unshow p).voting = s.voting := rfl
@[simp] theorem State.unshow_lanes {p : Nat} : (s.unshow p).lanes = s.lanes := rfl
@[simp] theorem State.unshow_mems {p : Nat} : (s.unshow p).mems = s.mems := rfl
@[simp] theorem State.unshow_exec {p : Nat} : (s.unshow p).exec = s.exec := rfl
@[simp] theorem State.unshow_groups {p : Nat} : (s.unshow p).groups = s.groups := rfl
@[simp] theorem State.unshow_safety {p : Nat} : (s.unshow p).safety = s.safety := rfl
@[simp] theorem State.unshow_part {p : Nat} : (s.unshow p).part = s.part := rfl
@[simp] theorem State.unshow_time {p : Nat} : (s.unshow p).time = s.time := rfl
@[simp] theorem State.unshow_boot {p : Nat} : (s.unshow p).boot = s.boot := rfl
@[simp] theorem State.unshow_meas {p : Nat} : (s.unshow p).meas = s.meas := rfl
@[simp] theorem State.unshow_swap {p : Nat} : (s.unshow p).swap = s.swap := rfl
@[simp] theorem State.unshow_baton {p : Nat} : (s.unshow p).baton = s.baton := rfl
@[simp] theorem State.unshow_grd {p : Nat} : (s.unshow p).grd = s.grd := rfl
@[simp] theorem State.unshow_can {p : Nat} : (s.unshow p).can = s.can := rfl
@[simp] theorem State.unshow_relay {p : Nat} : (s.unshow p).relay = s.relay := rfl
@[simp] theorem State.unshow_shp {p : Nat} : (s.unshow p).shp = s.shp := rfl
@[simp] theorem State.unshow_life {p : Nat} : (s.unshow p).life = s.life := rfl
@[simp] theorem State.unshow_srcs {p : Nat} : (s.unshow p).srcs = s.srcs := rfl
@[simp] theorem State.unshow_reports {p : Nat} : (s.unshow p).reports = s.reports := rfl
@[simp] theorem State.unshow_sent {p : Nat} : (s.unshow p).sent = s.sent := rfl
@[simp] theorem State.unshow_pending {p : Nat} : (s.unshow p).pending = s.pending := rfl
@[simp] theorem State.unshow_freeCtr {p : Nat} : (s.unshow p).freeCtr = s.freeCtr := rfl

/-! ### answer -/

@[simp] theorem answer_held {c : Call} {k : Nat} : (answer c k s).held = s.held := rfl
@[simp] theorem answer_deferred {c : Call} {k : Nat} : (answer c k s).deferred = s.deferred := rfl
@[simp] theorem answer_starter {c : Call} {k : Nat} : (answer c k s).starter = s.starter := rfl
@[simp] theorem answer_voting {c : Call} {k : Nat} : (answer c k s).voting = s.voting := rfl
@[simp] theorem answer_lanes {c : Call} {k : Nat} : (answer c k s).lanes = s.lanes := rfl
@[simp] theorem answer_mems {c : Call} {k : Nat} : (answer c k s).mems = s.mems := rfl
@[simp] theorem answer_exec {c : Call} {k : Nat} : (answer c k s).exec = s.exec := rfl
@[simp] theorem answer_groups {c : Call} {k : Nat} : (answer c k s).groups = s.groups := rfl
@[simp] theorem answer_safety {c : Call} {k : Nat} : (answer c k s).safety = s.safety := rfl
@[simp] theorem answer_part {c : Call} {k : Nat} : (answer c k s).part = s.part := rfl
@[simp] theorem answer_time {c : Call} {k : Nat} : (answer c k s).time = s.time := rfl
@[simp] theorem answer_boot {c : Call} {k : Nat} : (answer c k s).boot = s.boot := rfl
@[simp] theorem answer_meas {c : Call} {k : Nat} : (answer c k s).meas = s.meas := rfl
@[simp] theorem answer_swap {c : Call} {k : Nat} : (answer c k s).swap = s.swap := rfl
@[simp] theorem answer_baton {c : Call} {k : Nat} : (answer c k s).baton = s.baton := rfl
@[simp] theorem answer_grd {c : Call} {k : Nat} : (answer c k s).grd = s.grd := rfl
@[simp] theorem answer_can {c : Call} {k : Nat} : (answer c k s).can = s.can := rfl
@[simp] theorem answer_relay {c : Call} {k : Nat} : (answer c k s).relay = s.relay := rfl
@[simp] theorem answer_shp {c : Call} {k : Nat} : (answer c k s).shp = s.shp := rfl
@[simp] theorem answer_life {c : Call} {k : Nat} : (answer c k s).life = s.life := rfl
@[simp] theorem answer_srcs {c : Call} {k : Nat} : (answer c k s).srcs = s.srcs := rfl
@[simp] theorem answer_reports {c : Call} {k : Nat} : (answer c k s).reports = s.reports := rfl
@[simp] theorem answer_sent {c : Call} {k : Nat} : (answer c k s).sent = s.sent := rfl
@[simp] theorem answer_pending {c : Call} {k : Nat} : (answer c k s).pending = s.pending := rfl
@[simp] theorem answer_freeCtr {c : Call} {k : Nat} : (answer c k s).freeCtr = s.freeCtr := rfl

/-! ### answerOver -/

@[simp] theorem answerOver_regs {c : Call} {k : Nat} : (answerOver c k s).regs = s.regs := rfl
@[simp] theorem answerOver_held {c : Call} {k : Nat} : (answerOver c k s).held = s.held := rfl
@[simp] theorem answerOver_deferred {c : Call} {k : Nat} : (answerOver c k s).deferred = s.deferred := rfl
@[simp] theorem answerOver_starter {c : Call} {k : Nat} : (answerOver c k s).starter = s.starter := rfl
@[simp] theorem answerOver_voting {c : Call} {k : Nat} : (answerOver c k s).voting = s.voting := rfl
@[simp] theorem answerOver_lanes {c : Call} {k : Nat} : (answerOver c k s).lanes = s.lanes := rfl
@[simp] theorem answerOver_mems {c : Call} {k : Nat} : (answerOver c k s).mems = s.mems := rfl
@[simp] theorem answerOver_exec {c : Call} {k : Nat} : (answerOver c k s).exec = s.exec := rfl
@[simp] theorem answerOver_groups {c : Call} {k : Nat} : (answerOver c k s).groups = s.groups := rfl
@[simp] theorem answerOver_safety {c : Call} {k : Nat} : (answerOver c k s).safety = s.safety := rfl
@[simp] theorem answerOver_part {c : Call} {k : Nat} : (answerOver c k s).part = s.part := rfl
@[simp] theorem answerOver_time {c : Call} {k : Nat} : (answerOver c k s).time = s.time := rfl
@[simp] theorem answerOver_boot {c : Call} {k : Nat} : (answerOver c k s).boot = s.boot := rfl
@[simp] theorem answerOver_meas {c : Call} {k : Nat} : (answerOver c k s).meas = s.meas := rfl
@[simp] theorem answerOver_swap {c : Call} {k : Nat} : (answerOver c k s).swap = s.swap := rfl
@[simp] theorem answerOver_baton {c : Call} {k : Nat} : (answerOver c k s).baton = s.baton := rfl
@[simp] theorem answerOver_grd {c : Call} {k : Nat} : (answerOver c k s).grd = s.grd := rfl
@[simp] theorem answerOver_can {c : Call} {k : Nat} : (answerOver c k s).can = s.can := rfl
@[simp] theorem answerOver_relay {c : Call} {k : Nat} : (answerOver c k s).relay = s.relay := rfl
@[simp] theorem answerOver_shp {c : Call} {k : Nat} : (answerOver c k s).shp = s.shp := rfl
@[simp] theorem answerOver_life {c : Call} {k : Nat} : (answerOver c k s).life = s.life := rfl
@[simp] theorem answerOver_srcs {c : Call} {k : Nat} : (answerOver c k s).srcs = s.srcs := rfl
@[simp] theorem answerOver_reports {c : Call} {k : Nat} : (answerOver c k s).reports = s.reports := rfl
@[simp] theorem answerOver_sent {c : Call} {k : Nat} : (answerOver c k s).sent = s.sent := rfl
@[simp] theorem answerOver_pending {c : Call} {k : Nat} : (answerOver c k s).pending = s.pending := rfl
@[simp] theorem answerOver_freeCtr {c : Call} {k : Nat} : (answerOver c k s).freeCtr = s.freeCtr := rfl

/-! ### answerReject -/

@[simp] theorem answerReject_held {c : Call} {k : Nat} : (answerReject c k s).held = s.held := ite_field State.held rfl (ite_field State.held rfl rfl)
@[simp] theorem answerReject_deferred {c : Call} {k : Nat} : (answerReject c k s).deferred = s.deferred := ite_field State.deferred rfl (ite_field State.deferred rfl rfl)
@[simp] theorem answerReject_starter {c : Call} {k : Nat} : (answerReject c k s).starter = s.starter := ite_field State.starter rfl (ite_field State.starter rfl rfl)
@[simp] theorem answerReject_voting {c : Call} {k : Nat} : (answerReject c k s).voting = s.voting := ite_field State.voting rfl (ite_field State.voting rfl rfl)
@[simp] theorem answerReject_lanes {c : Call} {k : Nat} : (answerReject c k s).lanes = s.lanes := ite_field State.lanes rfl (ite_field State.lanes rfl rfl)
@[simp] theorem answerReject_mems {c : Call} {k : Nat} : (answerReject c k s).mems = s.mems := ite_field State.mems rfl (ite_field State.mems rfl rfl)
@[simp] theorem answerReject_exec {c : Call} {k : Nat} : (answerReject c k s).exec = s.exec := ite_field State.exec rfl (ite_field State.exec rfl rfl)
@[simp] theorem answerReject_groups {c : Call} {k : Nat} : (answerReject c k s).groups = s.groups := ite_field State.groups rfl (ite_field State.groups rfl rfl)
@[simp] theorem answerReject_safety {c : Call} {k : Nat} : (answerReject c k s).safety = s.safety := ite_field State.safety rfl (ite_field State.safety rfl rfl)
@[simp] theorem answerReject_part {c : Call} {k : Nat} : (answerReject c k s).part = s.part := ite_field State.part rfl (ite_field State.part rfl rfl)
@[simp] theorem answerReject_time {c : Call} {k : Nat} : (answerReject c k s).time = s.time := ite_field State.time rfl (ite_field State.time rfl rfl)
@[simp] theorem answerReject_boot {c : Call} {k : Nat} : (answerReject c k s).boot = s.boot := ite_field State.boot rfl (ite_field State.boot rfl rfl)
@[simp] theorem answerReject_meas {c : Call} {k : Nat} : (answerReject c k s).meas = s.meas := ite_field State.meas rfl (ite_field State.meas rfl rfl)
@[simp] theorem answerReject_swap {c : Call} {k : Nat} : (answerReject c k s).swap = s.swap := ite_field State.swap rfl (ite_field State.swap rfl rfl)
@[simp] theorem answerReject_baton {c : Call} {k : Nat} : (answerReject c k s).baton = s.baton := ite_field State.baton rfl (ite_field State.baton rfl rfl)
@[simp] theorem answerReject_grd {c : Call} {k : Nat} : (answerReject c k s).grd = s.grd := ite_field State.grd rfl (ite_field State.grd rfl rfl)
@[simp] theorem answerReject_can {c : Call} {k : Nat} : (answerReject c k s).can = s.can := ite_field State.can rfl (ite_field State.can rfl rfl)
@[simp] theorem answerReject_relay {c : Call} {k : Nat} : (answerReject c k s).relay = s.relay := ite_field State.relay rfl (ite_field State.relay rfl rfl)
@[simp] theorem answerReject_shp {c : Call} {k : Nat} : (answerReject c k s).shp = s.shp := ite_field State.shp rfl (ite_field State.shp rfl rfl)
@[simp] theorem answerReject_life {c : Call} {k : Nat} : (answerReject c k s).life = s.life := ite_field State.life rfl (ite_field State.life rfl rfl)
@[simp] theorem answerReject_srcs {c : Call} {k : Nat} : (answerReject c k s).srcs = s.srcs := ite_field State.srcs rfl (ite_field State.srcs rfl rfl)
@[simp] theorem answerReject_reports {c : Call} {k : Nat} : (answerReject c k s).reports = s.reports := ite_field State.reports rfl (ite_field State.reports rfl rfl)
@[simp] theorem answerReject_sent {c : Call} {k : Nat} : (answerReject c k s).sent = s.sent := ite_field State.sent rfl (ite_field State.sent rfl rfl)
@[simp] theorem answerReject_pending {c : Call} {k : Nat} : (answerReject c k s).pending = s.pending := ite_field State.pending rfl (ite_field State.pending rfl rfl)
@[simp] theorem answerReject_freeCtr {c : Call} {k : Nat} : (answerReject c k s).freeCtr = s.freeCtr := ite_field State.freeCtr rfl (ite_field State.freeCtr rfl rfl)

/-! ### dropUnlock -/

@[simp] theorem dropUnlock_held  : (dropUnlock s).held = s.held := rfl
@[simp] theorem dropUnlock_shown  : (dropUnlock s).shown = s.shown := rfl
@[simp] theorem dropUnlock_deferred  : (dropUnlock s).deferred = s.deferred := rfl
@[simp] theorem dropUnlock_starter  : (dropUnlock s).starter = s.starter := rfl
@[simp] theorem dropUnlock_voting  : (dropUnlock s).voting = s.voting := rfl
@[simp] theorem dropUnlock_lanes  : (dropUnlock s).lanes = s.lanes := rfl
@[simp] theorem dropUnlock_mems  : (dropUnlock s).mems = s.mems := rfl
@[simp] theorem dropUnlock_exec  : (dropUnlock s).exec = s.exec := rfl
@[simp] theorem dropUnlock_groups  : (dropUnlock s).groups = s.groups := rfl
@[simp] theorem dropUnlock_safety  : (dropUnlock s).safety = s.safety := rfl
@[simp] theorem dropUnlock_part  : (dropUnlock s).part = s.part := rfl
@[simp] theorem dropUnlock_boot  : (dropUnlock s).boot = s.boot := rfl
@[simp] theorem dropUnlock_meas  : (dropUnlock s).meas = s.meas := rfl
@[simp] theorem dropUnlock_swap  : (dropUnlock s).swap = s.swap := rfl
@[simp] theorem dropUnlock_baton  : (dropUnlock s).baton = s.baton := rfl
@[simp] theorem dropUnlock_grd  : (dropUnlock s).grd = s.grd := rfl
@[simp] theorem dropUnlock_can  : (dropUnlock s).can = s.can := rfl
@[simp] theorem dropUnlock_relay  : (dropUnlock s).relay = s.relay := rfl
@[simp] theorem dropUnlock_shp  : (dropUnlock s).shp = s.shp := rfl
@[simp] theorem dropUnlock_life  : (dropUnlock s).life = s.life := rfl
@[simp] theorem dropUnlock_srcs  : (dropUnlock s).srcs = s.srcs := rfl
@[simp] theorem dropUnlock_reports  : (dropUnlock s).reports = s.reports := rfl
@[simp] theorem dropUnlock_sent  : (dropUnlock s).sent = s.sent := rfl
@[simp] theorem dropUnlock_pending  : (dropUnlock s).pending = s.pending := rfl
@[simp] theorem dropUnlock_freeCtr  : (dropUnlock s).freeCtr = s.freeCtr := rfl

/-! ### countAccess -/

@[simp] theorem countAccess_held {i : Issuer} : (countAccess i s).held = s.held := by unfold countAccess; split <;> rfl
@[simp] theorem countAccess_shown {i : Issuer} : (countAccess i s).shown = s.shown := by unfold countAccess; split <;> rfl
@[simp] theorem countAccess_deferred {i : Issuer} : (countAccess i s).deferred = s.deferred := by unfold countAccess; split <;> rfl
@[simp] theorem countAccess_starter {i : Issuer} : (countAccess i s).starter = s.starter := by unfold countAccess; split <;> rfl
@[simp] theorem countAccess_voting {i : Issuer} : (countAccess i s).voting = s.voting := by unfold countAccess; split <;> rfl
@[simp] theorem countAccess_lanes {i : Issuer} : (countAccess i s).lanes = s.lanes := by unfold countAccess; split <;> rfl
@[simp] theorem countAccess_mems {i : Issuer} : (countAccess i s).mems = s.mems := by unfold countAccess; split <;> rfl
@[simp] theorem countAccess_exec {i : Issuer} : (countAccess i s).exec = s.exec := by unfold countAccess; split <;> rfl
@[simp] theorem countAccess_groups {i : Issuer} : (countAccess i s).groups = s.groups := by unfold countAccess; split <;> rfl
@[simp] theorem countAccess_safety {i : Issuer} : (countAccess i s).safety = s.safety := by unfold countAccess; split <;> rfl
@[simp] theorem countAccess_part {i : Issuer} : (countAccess i s).part = s.part := by unfold countAccess; split <;> rfl
@[simp] theorem countAccess_time {i : Issuer} : (countAccess i s).time = s.time := by unfold countAccess; split <;> rfl
@[simp] theorem countAccess_boot {i : Issuer} : (countAccess i s).boot = s.boot := by unfold countAccess; split <;> rfl
@[simp] theorem countAccess_meas {i : Issuer} : (countAccess i s).meas = s.meas := by unfold countAccess; split <;> rfl
@[simp] theorem countAccess_swap {i : Issuer} : (countAccess i s).swap = s.swap := by unfold countAccess; split <;> rfl
@[simp] theorem countAccess_baton {i : Issuer} : (countAccess i s).baton = s.baton := by unfold countAccess; split <;> rfl
@[simp] theorem countAccess_grd {i : Issuer} : (countAccess i s).grd = s.grd := by unfold countAccess; split <;> rfl
@[simp] theorem countAccess_can {i : Issuer} : (countAccess i s).can = s.can := by unfold countAccess; split <;> rfl
@[simp] theorem countAccess_relay {i : Issuer} : (countAccess i s).relay = s.relay := by unfold countAccess; split <;> rfl
@[simp] theorem countAccess_shp {i : Issuer} : (countAccess i s).shp = s.shp := by unfold countAccess; split <;> rfl
@[simp] theorem countAccess_life {i : Issuer} : (countAccess i s).life = s.life := by unfold countAccess; split <;> rfl
@[simp] theorem countAccess_srcs {i : Issuer} : (countAccess i s).srcs = s.srcs := by unfold countAccess; split <;> rfl
@[simp] theorem countAccess_reports {i : Issuer} : (countAccess i s).reports = s.reports := by unfold countAccess; split <;> rfl
@[simp] theorem countAccess_sent {i : Issuer} : (countAccess i s).sent = s.sent := by unfold countAccess; split <;> rfl
@[simp] theorem countAccess_pending {i : Issuer} : (countAccess i s).pending = s.pending := by unfold countAccess; split <;> rfl
@[simp] theorem countAccess_freeCtr {i : Issuer} : (countAccess i s).freeCtr = s.freeCtr := by unfold countAccess; split <;> rfl

/-! ### commandAccess -/

@[simp] theorem commandAccess_held {c : Call} : (commandAccess c s).held = s.held := by unfold commandAccess; dsimp only; split <;> simp
@[simp] theorem commandAccess_shown {c : Call} : (commandAccess c s).shown = s.shown := by unfold commandAccess; dsimp only; split <;> simp
@[simp] theorem commandAccess_deferred {c : Call} : (commandAccess c s).deferred = s.deferred := by unfold commandAccess; dsimp only; split <;> simp
@[simp] theorem commandAccess_starter {c : Call} : (commandAccess c s).starter = s.starter := by unfold commandAccess; dsimp only; split <;> simp
@[simp] theorem commandAccess_voting {c : Call} : (commandAccess c s).voting = s.voting := by unfold commandAccess; dsimp only; split <;> simp
@[simp] theorem commandAccess_lanes {c : Call} : (commandAccess c s).lanes = s.lanes := by unfold commandAccess; dsimp only; split <;> simp
@[simp] theorem commandAccess_mems {c : Call} : (commandAccess c s).mems = s.mems := by unfold commandAccess; dsimp only; split <;> simp
@[simp] theorem commandAccess_exec {c : Call} : (commandAccess c s).exec = s.exec := by unfold commandAccess; dsimp only; split <;> simp
@[simp] theorem commandAccess_groups {c : Call} : (commandAccess c s).groups = s.groups := by unfold commandAccess; dsimp only; split <;> simp
@[simp] theorem commandAccess_safety {c : Call} : (commandAccess c s).safety = s.safety := by unfold commandAccess; dsimp only; split <;> simp
@[simp] theorem commandAccess_part {c : Call} : (commandAccess c s).part = s.part := by unfold commandAccess; dsimp only; split <;> simp
@[simp] theorem commandAccess_boot {c : Call} : (commandAccess c s).boot = s.boot := by unfold commandAccess; dsimp only; split <;> simp
@[simp] theorem commandAccess_meas {c : Call} : (commandAccess c s).meas = s.meas := by unfold commandAccess; dsimp only; split <;> simp
@[simp] theorem commandAccess_swap {c : Call} : (commandAccess c s).swap = s.swap := by unfold commandAccess; dsimp only; split <;> simp
@[simp] theorem commandAccess_baton {c : Call} : (commandAccess c s).baton = s.baton := by unfold commandAccess; dsimp only; split <;> simp
@[simp] theorem commandAccess_grd {c : Call} : (commandAccess c s).grd = s.grd := by unfold commandAccess; dsimp only; split <;> simp
@[simp] theorem commandAccess_can {c : Call} : (commandAccess c s).can = s.can := by unfold commandAccess; dsimp only; split <;> simp
@[simp] theorem commandAccess_relay {c : Call} : (commandAccess c s).relay = s.relay := by unfold commandAccess; dsimp only; split <;> simp
@[simp] theorem commandAccess_shp {c : Call} : (commandAccess c s).shp = s.shp := by unfold commandAccess; dsimp only; split <;> simp
@[simp] theorem commandAccess_life {c : Call} : (commandAccess c s).life = s.life := by unfold commandAccess; dsimp only; split <;> simp
@[simp] theorem commandAccess_srcs {c : Call} : (commandAccess c s).srcs = s.srcs := by unfold commandAccess; dsimp only; split <;> simp
@[simp] theorem commandAccess_reports {c : Call} : (commandAccess c s).reports = s.reports := by unfold commandAccess; dsimp only; split <;> simp
@[simp] theorem commandAccess_sent {c : Call} : (commandAccess c s).sent = s.sent := by unfold commandAccess; dsimp only; split <;> simp
@[simp] theorem commandAccess_pending {c : Call} : (commandAccess c s).pending = s.pending := by unfold commandAccess; dsimp only; split <;> simp
@[simp] theorem commandAccess_freeCtr {c : Call} : (commandAccess c s).freeCtr = s.freeCtr := by unfold commandAccess; dsimp only; split <;> simp

/-! ### reportError -/

@[simp] theorem reportError_held {p : Nat} {r : Word} : (reportError p r s).held = s.held := by unfold reportError; dsimp only; exact ite_field State.held (ite_field State.held rfl rfl) (by rw [irqSet_held]; rfl)
@[simp] theorem reportError_shown {p : Nat} {r : Word} : (reportError p r s).shown = s.shown := by unfold reportError; dsimp only; exact ite_field State.shown (ite_field State.shown rfl rfl) (by rw [irqSet_shown]; rfl)
@[simp] theorem reportError_deferred {p : Nat} {r : Word} : (reportError p r s).deferred = s.deferred := by unfold reportError; dsimp only; exact ite_field State.deferred (ite_field State.deferred rfl rfl) (by rw [irqSet_deferred]; rfl)
@[simp] theorem reportError_starter {p : Nat} {r : Word} : (reportError p r s).starter = s.starter := by unfold reportError; dsimp only; exact ite_field State.starter (ite_field State.starter rfl rfl) (by rw [irqSet_starter]; rfl)
@[simp] theorem reportError_voting {p : Nat} {r : Word} : (reportError p r s).voting = s.voting := by unfold reportError; dsimp only; exact ite_field State.voting (ite_field State.voting rfl rfl) (by rw [irqSet_voting]; rfl)
@[simp] theorem reportError_lanes {p : Nat} {r : Word} : (reportError p r s).lanes = s.lanes := by unfold reportError; dsimp only; exact ite_field State.lanes (ite_field State.lanes rfl rfl) (by rw [irqSet_lanes]; rfl)
@[simp] theorem reportError_mems {p : Nat} {r : Word} : (reportError p r s).mems = s.mems := by unfold reportError; dsimp only; exact ite_field State.mems (ite_field State.mems rfl rfl) (by rw [irqSet_mems]; rfl)
@[simp] theorem reportError_exec {p : Nat} {r : Word} : (reportError p r s).exec = s.exec := by unfold reportError; dsimp only; exact ite_field State.exec (ite_field State.exec rfl rfl) (by rw [irqSet_exec]; rfl)
@[simp] theorem reportError_groups {p : Nat} {r : Word} : (reportError p r s).groups = s.groups := by unfold reportError; dsimp only; exact ite_field State.groups (ite_field State.groups rfl rfl) (by rw [irqSet_groups]; rfl)
@[simp] theorem reportError_safety {p : Nat} {r : Word} : (reportError p r s).safety = s.safety := by unfold reportError; dsimp only; exact ite_field State.safety (ite_field State.safety rfl rfl) (by rw [irqSet_safety]; rfl)
@[simp] theorem reportError_part {p : Nat} {r : Word} : (reportError p r s).part = s.part := by unfold reportError; dsimp only; exact ite_field State.part (ite_field State.part rfl rfl) (by rw [irqSet_part]; rfl)
@[simp] theorem reportError_time {p : Nat} {r : Word} : (reportError p r s).time = s.time := by unfold reportError; dsimp only; exact ite_field State.time (ite_field State.time rfl rfl) (by rw [irqSet_time]; rfl)
@[simp] theorem reportError_boot {p : Nat} {r : Word} : (reportError p r s).boot = s.boot := by unfold reportError; dsimp only; exact ite_field State.boot (ite_field State.boot rfl rfl) (by rw [irqSet_boot]; rfl)
@[simp] theorem reportError_meas {p : Nat} {r : Word} : (reportError p r s).meas = s.meas := by unfold reportError; dsimp only; exact ite_field State.meas (ite_field State.meas rfl rfl) (by rw [irqSet_meas]; rfl)
@[simp] theorem reportError_swap {p : Nat} {r : Word} : (reportError p r s).swap = s.swap := by unfold reportError; dsimp only; exact ite_field State.swap (ite_field State.swap rfl rfl) (by rw [irqSet_swap]; rfl)
@[simp] theorem reportError_baton {p : Nat} {r : Word} : (reportError p r s).baton = s.baton := by unfold reportError; dsimp only; exact ite_field State.baton (ite_field State.baton rfl rfl) (by rw [irqSet_baton]; rfl)
@[simp] theorem reportError_grd {p : Nat} {r : Word} : (reportError p r s).grd = s.grd := by unfold reportError; dsimp only; exact ite_field State.grd (ite_field State.grd rfl rfl) (by rw [irqSet_grd]; rfl)
@[simp] theorem reportError_can {p : Nat} {r : Word} : (reportError p r s).can = s.can := by unfold reportError; dsimp only; exact ite_field State.can (ite_field State.can rfl rfl) (by rw [irqSet_can]; rfl)
@[simp] theorem reportError_relay {p : Nat} {r : Word} : (reportError p r s).relay = s.relay := by unfold reportError; dsimp only; exact ite_field State.relay (ite_field State.relay rfl rfl) (by rw [irqSet_relay]; rfl)
@[simp] theorem reportError_life {p : Nat} {r : Word} : (reportError p r s).life = s.life := by unfold reportError; dsimp only; exact ite_field State.life (ite_field State.life rfl rfl) (by rw [irqSet_life]; rfl)
@[simp] theorem reportError_pending {p : Nat} {r : Word} : (reportError p r s).pending = s.pending := by unfold reportError; dsimp only; exact ite_field State.pending (ite_field State.pending rfl rfl) (by rw [irqSet_pending]; rfl)
@[simp] theorem reportError_freeCtr {p : Nat} {r : Word} : (reportError p r s).freeCtr = s.freeCtr := by unfold reportError; dsimp only; exact ite_field State.freeCtr (ite_field State.freeCtr rfl rfl) (by rw [irqSet_freeCtr]; rfl)

/-! ### recordErr -/

@[simp] theorem recordErr_held {p c r d : Nat} : (recordErr p c r d s).held = s.held := by unfold recordErr; dsimp only; simp only [reportError_held, irqSet_held, State.setReg_held]; exact ite_field State.held (ite_field State.held rfl rfl) (ite_field State.held rfl rfl)
@[simp] theorem recordErr_shown {p c r d : Nat} : (recordErr p c r d s).shown = s.shown := by unfold recordErr; dsimp only; simp only [reportError_shown, irqSet_shown, State.setReg_shown]; exact ite_field State.shown (ite_field State.shown rfl rfl) (ite_field State.shown rfl rfl)
@[simp] theorem recordErr_deferred {p c r d : Nat} : (recordErr p c r d s).deferred = s.deferred := by unfold recordErr; dsimp only; simp only [reportError_deferred, irqSet_deferred, State.setReg_deferred]; exact ite_field State.deferred (ite_field State.deferred rfl rfl) (ite_field State.deferred rfl rfl)
@[simp] theorem recordErr_starter {p c r d : Nat} : (recordErr p c r d s).starter = s.starter := by unfold recordErr; dsimp only; simp only [reportError_starter, irqSet_starter, State.setReg_starter]; exact ite_field State.starter (ite_field State.starter rfl rfl) (ite_field State.starter rfl rfl)
@[simp] theorem recordErr_voting {p c r d : Nat} : (recordErr p c r d s).voting = s.voting := by unfold recordErr; dsimp only; simp only [reportError_voting, irqSet_voting, State.setReg_voting]; exact ite_field State.voting (ite_field State.voting rfl rfl) (ite_field State.voting rfl rfl)
@[simp] theorem recordErr_lanes {p c r d : Nat} : (recordErr p c r d s).lanes = s.lanes := by unfold recordErr; dsimp only; simp only [reportError_lanes, irqSet_lanes, State.setReg_lanes]; exact ite_field State.lanes (ite_field State.lanes rfl rfl) (ite_field State.lanes rfl rfl)
@[simp] theorem recordErr_mems {p c r d : Nat} : (recordErr p c r d s).mems = s.mems := by unfold recordErr; dsimp only; simp only [reportError_mems, irqSet_mems, State.setReg_mems]; exact ite_field State.mems (ite_field State.mems rfl rfl) (ite_field State.mems rfl rfl)
@[simp] theorem recordErr_exec {p c r d : Nat} : (recordErr p c r d s).exec = s.exec := by unfold recordErr; dsimp only; simp only [reportError_exec, irqSet_exec, State.setReg_exec]; exact ite_field State.exec (ite_field State.exec rfl rfl) (ite_field State.exec rfl rfl)
@[simp] theorem recordErr_groups {p c r d : Nat} : (recordErr p c r d s).groups = s.groups := by unfold recordErr; dsimp only; simp only [reportError_groups, irqSet_groups, State.setReg_groups]; exact ite_field State.groups (ite_field State.groups rfl rfl) (ite_field State.groups rfl rfl)
@[simp] theorem recordErr_safety {p c r d : Nat} : (recordErr p c r d s).safety = s.safety := by unfold recordErr; dsimp only; simp only [reportError_safety, irqSet_safety, State.setReg_safety]; exact ite_field State.safety (ite_field State.safety rfl rfl) (ite_field State.safety rfl rfl)
@[simp] theorem recordErr_part {p c r d : Nat} : (recordErr p c r d s).part = s.part := by unfold recordErr; dsimp only; simp only [reportError_part, irqSet_part, State.setReg_part]; exact ite_field State.part (ite_field State.part rfl rfl) (ite_field State.part rfl rfl)
@[simp] theorem recordErr_time {p c r d : Nat} : (recordErr p c r d s).time = s.time := by unfold recordErr; dsimp only; simp only [reportError_time, irqSet_time, State.setReg_time]; exact ite_field State.time (ite_field State.time rfl rfl) (ite_field State.time rfl rfl)
@[simp] theorem recordErr_boot {p c r d : Nat} : (recordErr p c r d s).boot = s.boot := by unfold recordErr; dsimp only; simp only [reportError_boot, irqSet_boot, State.setReg_boot]; exact ite_field State.boot (ite_field State.boot rfl rfl) (ite_field State.boot rfl rfl)
@[simp] theorem recordErr_meas {p c r d : Nat} : (recordErr p c r d s).meas = s.meas := by unfold recordErr; dsimp only; simp only [reportError_meas, irqSet_meas, State.setReg_meas]; exact ite_field State.meas (ite_field State.meas rfl rfl) (ite_field State.meas rfl rfl)
@[simp] theorem recordErr_swap {p c r d : Nat} : (recordErr p c r d s).swap = s.swap := by unfold recordErr; dsimp only; simp only [reportError_swap, irqSet_swap, State.setReg_swap]; exact ite_field State.swap (ite_field State.swap rfl rfl) (ite_field State.swap rfl rfl)
@[simp] theorem recordErr_baton {p c r d : Nat} : (recordErr p c r d s).baton = s.baton := by unfold recordErr; dsimp only; simp only [reportError_baton, irqSet_baton, State.setReg_baton]; exact ite_field State.baton (ite_field State.baton rfl rfl) (ite_field State.baton rfl rfl)
@[simp] theorem recordErr_grd {p c r d : Nat} : (recordErr p c r d s).grd = s.grd := by unfold recordErr; dsimp only; simp only [reportError_grd, irqSet_grd, State.setReg_grd]; exact ite_field State.grd (ite_field State.grd rfl rfl) (ite_field State.grd rfl rfl)
@[simp] theorem recordErr_can {p c r d : Nat} : (recordErr p c r d s).can = s.can := by unfold recordErr; dsimp only; simp only [reportError_can, irqSet_can, State.setReg_can]; exact ite_field State.can (ite_field State.can rfl rfl) (ite_field State.can rfl rfl)
@[simp] theorem recordErr_relay {p c r d : Nat} : (recordErr p c r d s).relay = s.relay := by unfold recordErr; dsimp only; simp only [reportError_relay, irqSet_relay, State.setReg_relay]; exact ite_field State.relay (ite_field State.relay rfl rfl) (ite_field State.relay rfl rfl)
@[simp] theorem recordErr_life {p c r d : Nat} : (recordErr p c r d s).life = s.life := by unfold recordErr; dsimp only; simp only [reportError_life, irqSet_life, State.setReg_life]; exact ite_field State.life (ite_field State.life rfl rfl) (ite_field State.life rfl rfl)
@[simp] theorem recordErr_pending {p c r d : Nat} : (recordErr p c r d s).pending = s.pending := by unfold recordErr; dsimp only; simp only [reportError_pending, irqSet_pending, State.setReg_pending]; exact ite_field State.pending (ite_field State.pending rfl rfl) (ite_field State.pending rfl rfl)
@[simp] theorem recordErr_freeCtr {p c r d : Nat} : (recordErr p c r d s).freeCtr = s.freeCtr := by unfold recordErr; dsimp only; simp only [reportError_freeCtr, irqSet_freeCtr, State.setReg_freeCtr]; exact ite_field State.freeCtr (ite_field State.freeCtr rfl rfl) (ite_field State.freeCtr rfl rfl)

/-! ### finishErr -/

@[simp] theorem finishErr_held {p k : Nat} : (finishErr p k s).held = s.held := by unfold finishErr; simp
@[simp] theorem finishErr_shown {p k : Nat} : (finishErr p k s).shown = s.shown := by unfold finishErr; simp
@[simp] theorem finishErr_deferred {p k : Nat} : (finishErr p k s).deferred = s.deferred := by unfold finishErr; simp
@[simp] theorem finishErr_starter {p k : Nat} : (finishErr p k s).starter = s.starter := by unfold finishErr; simp
@[simp] theorem finishErr_voting {p k : Nat} : (finishErr p k s).voting = s.voting := by unfold finishErr; simp
@[simp] theorem finishErr_lanes {p k : Nat} : (finishErr p k s).lanes = s.lanes := by unfold finishErr; simp
@[simp] theorem finishErr_mems {p k : Nat} : (finishErr p k s).mems = s.mems := by unfold finishErr; simp
@[simp] theorem finishErr_exec {p k : Nat} : (finishErr p k s).exec = s.exec := by unfold finishErr; simp
@[simp] theorem finishErr_groups {p k : Nat} : (finishErr p k s).groups = s.groups := by unfold finishErr; simp
@[simp] theorem finishErr_safety {p k : Nat} : (finishErr p k s).safety = s.safety := by unfold finishErr; simp
@[simp] theorem finishErr_part {p k : Nat} : (finishErr p k s).part = s.part := by unfold finishErr; simp
@[simp] theorem finishErr_time {p k : Nat} : (finishErr p k s).time = s.time := by unfold finishErr; simp
@[simp] theorem finishErr_boot {p k : Nat} : (finishErr p k s).boot = s.boot := by unfold finishErr; simp
@[simp] theorem finishErr_meas {p k : Nat} : (finishErr p k s).meas = s.meas := by unfold finishErr; simp
@[simp] theorem finishErr_swap {p k : Nat} : (finishErr p k s).swap = s.swap := by unfold finishErr; simp
@[simp] theorem finishErr_baton {p k : Nat} : (finishErr p k s).baton = s.baton := by unfold finishErr; simp
@[simp] theorem finishErr_grd {p k : Nat} : (finishErr p k s).grd = s.grd := by unfold finishErr; simp
@[simp] theorem finishErr_can {p k : Nat} : (finishErr p k s).can = s.can := by unfold finishErr; simp
@[simp] theorem finishErr_relay {p k : Nat} : (finishErr p k s).relay = s.relay := by unfold finishErr; simp
@[simp] theorem finishErr_life {p k : Nat} : (finishErr p k s).life = s.life := by unfold finishErr; simp
@[simp] theorem finishErr_pending {p k : Nat} : (finishErr p k s).pending = s.pending := by unfold finishErr; simp
@[simp] theorem finishErr_freeCtr {p k : Nat} : (finishErr p k s).freeCtr = s.freeCtr := by unfold finishErr; simp

/-! ### reject -/

@[simp] theorem reject_held {c : Call} {k : Nat} {b : Bool} : (reject c k b s).held = s.held := by unfold reject; dsimp only; simp only [recordErr_held]; exact ite_field State.held (State.bump_held.trans (ite_field State.held answerReject_held rfl)) (ite_field State.held answerReject_held rfl)
@[simp] theorem reject_deferred {c : Call} {k : Nat} {b : Bool} : (reject c k b s).deferred = s.deferred := by unfold reject; dsimp only; simp only [recordErr_deferred]; exact ite_field State.deferred (State.bump_deferred.trans (ite_field State.deferred answerReject_deferred rfl)) (ite_field State.deferred answerReject_deferred rfl)
@[simp] theorem reject_starter {c : Call} {k : Nat} {b : Bool} : (reject c k b s).starter = s.starter := by unfold reject; dsimp only; simp only [recordErr_starter]; exact ite_field State.starter (State.bump_starter.trans (ite_field State.starter answerReject_starter rfl)) (ite_field State.starter answerReject_starter rfl)
@[simp] theorem reject_voting {c : Call} {k : Nat} {b : Bool} : (reject c k b s).voting = s.voting := by unfold reject; dsimp only; simp only [recordErr_voting]; exact ite_field State.voting (State.bump_voting.trans (ite_field State.voting answerReject_voting rfl)) (ite_field State.voting answerReject_voting rfl)
@[simp] theorem reject_lanes {c : Call} {k : Nat} {b : Bool} : (reject c k b s).lanes = s.lanes := by unfold reject; dsimp only; simp only [recordErr_lanes]; exact ite_field State.lanes (State.bump_lanes.trans (ite_field State.lanes answerReject_lanes rfl)) (ite_field State.lanes answerReject_lanes rfl)
@[simp] theorem reject_mems {c : Call} {k : Nat} {b : Bool} : (reject c k b s).mems = s.mems := by unfold reject; dsimp only; simp only [recordErr_mems]; exact ite_field State.mems (State.bump_mems.trans (ite_field State.mems answerReject_mems rfl)) (ite_field State.mems answerReject_mems rfl)
@[simp] theorem reject_exec {c : Call} {k : Nat} {b : Bool} : (reject c k b s).exec = s.exec := by unfold reject; dsimp only; simp only [recordErr_exec]; exact ite_field State.exec (State.bump_exec.trans (ite_field State.exec answerReject_exec rfl)) (ite_field State.exec answerReject_exec rfl)
@[simp] theorem reject_groups {c : Call} {k : Nat} {b : Bool} : (reject c k b s).groups = s.groups := by unfold reject; dsimp only; simp only [recordErr_groups]; exact ite_field State.groups (State.bump_groups.trans (ite_field State.groups answerReject_groups rfl)) (ite_field State.groups answerReject_groups rfl)
@[simp] theorem reject_safety {c : Call} {k : Nat} {b : Bool} : (reject c k b s).safety = s.safety := by unfold reject; dsimp only; simp only [recordErr_safety]; exact ite_field State.safety (State.bump_safety.trans (ite_field State.safety answerReject_safety rfl)) (ite_field State.safety answerReject_safety rfl)
@[simp] theorem reject_part {c : Call} {k : Nat} {b : Bool} : (reject c k b s).part = s.part := by unfold reject; dsimp only; simp only [recordErr_part]; exact ite_field State.part (State.bump_part.trans (ite_field State.part answerReject_part rfl)) (ite_field State.part answerReject_part rfl)
@[simp] theorem reject_time {c : Call} {k : Nat} {b : Bool} : (reject c k b s).time = s.time := by unfold reject; dsimp only; simp only [recordErr_time]; exact ite_field State.time (State.bump_time.trans (ite_field State.time answerReject_time rfl)) (ite_field State.time answerReject_time rfl)
@[simp] theorem reject_boot {c : Call} {k : Nat} {b : Bool} : (reject c k b s).boot = s.boot := by unfold reject; dsimp only; simp only [recordErr_boot]; exact ite_field State.boot (State.bump_boot.trans (ite_field State.boot answerReject_boot rfl)) (ite_field State.boot answerReject_boot rfl)
@[simp] theorem reject_meas {c : Call} {k : Nat} {b : Bool} : (reject c k b s).meas = s.meas := by unfold reject; dsimp only; simp only [recordErr_meas]; exact ite_field State.meas (State.bump_meas.trans (ite_field State.meas answerReject_meas rfl)) (ite_field State.meas answerReject_meas rfl)
@[simp] theorem reject_swap {c : Call} {k : Nat} {b : Bool} : (reject c k b s).swap = s.swap := by unfold reject; dsimp only; simp only [recordErr_swap]; exact ite_field State.swap (State.bump_swap.trans (ite_field State.swap answerReject_swap rfl)) (ite_field State.swap answerReject_swap rfl)
@[simp] theorem reject_baton {c : Call} {k : Nat} {b : Bool} : (reject c k b s).baton = s.baton := by unfold reject; dsimp only; simp only [recordErr_baton]; exact ite_field State.baton (State.bump_baton.trans (ite_field State.baton answerReject_baton rfl)) (ite_field State.baton answerReject_baton rfl)
@[simp] theorem reject_grd {c : Call} {k : Nat} {b : Bool} : (reject c k b s).grd = s.grd := by unfold reject; dsimp only; simp only [recordErr_grd]; exact ite_field State.grd (State.bump_grd.trans (ite_field State.grd answerReject_grd rfl)) (ite_field State.grd answerReject_grd rfl)
@[simp] theorem reject_can {c : Call} {k : Nat} {b : Bool} : (reject c k b s).can = s.can := by unfold reject; dsimp only; simp only [recordErr_can]; exact ite_field State.can (State.bump_can.trans (ite_field State.can answerReject_can rfl)) (ite_field State.can answerReject_can rfl)
@[simp] theorem reject_relay {c : Call} {k : Nat} {b : Bool} : (reject c k b s).relay = s.relay := by unfold reject; dsimp only; simp only [recordErr_relay]; exact ite_field State.relay (State.bump_relay.trans (ite_field State.relay answerReject_relay rfl)) (ite_field State.relay answerReject_relay rfl)
@[simp] theorem reject_life {c : Call} {k : Nat} {b : Bool} : (reject c k b s).life = s.life := by unfold reject; dsimp only; simp only [recordErr_life]; exact ite_field State.life (State.bump_life.trans (ite_field State.life answerReject_life rfl)) (ite_field State.life answerReject_life rfl)
@[simp] theorem reject_pending {c : Call} {k : Nat} {b : Bool} : (reject c k b s).pending = s.pending := by unfold reject; dsimp only; simp only [recordErr_pending]; exact ite_field State.pending (State.bump_pending.trans (ite_field State.pending answerReject_pending rfl)) (ite_field State.pending answerReject_pending rfl)
@[simp] theorem reject_freeCtr {c : Call} {k : Nat} {b : Bool} : (reject c k b s).freeCtr = s.freeCtr := by unfold reject; dsimp only; simp only [recordErr_freeCtr]; exact ite_field State.freeCtr (State.bump_freeCtr.trans (ite_field State.freeCtr answerReject_freeCtr rfl)) (ite_field State.freeCtr answerReject_freeCtr rfl)

/-! ### addressReject -/

@[simp] theorem addressReject_held {i : Issuer} {d : Nat} : (addressReject i d s).held = s.held := by unfold addressReject; simp
@[simp] theorem addressReject_shown {i : Issuer} {d : Nat} : (addressReject i d s).shown = s.shown := by unfold addressReject; simp
@[simp] theorem addressReject_deferred {i : Issuer} {d : Nat} : (addressReject i d s).deferred = s.deferred := by unfold addressReject; simp
@[simp] theorem addressReject_starter {i : Issuer} {d : Nat} : (addressReject i d s).starter = s.starter := by unfold addressReject; simp
@[simp] theorem addressReject_voting {i : Issuer} {d : Nat} : (addressReject i d s).voting = s.voting := by unfold addressReject; simp
@[simp] theorem addressReject_lanes {i : Issuer} {d : Nat} : (addressReject i d s).lanes = s.lanes := by unfold addressReject; simp
@[simp] theorem addressReject_mems {i : Issuer} {d : Nat} : (addressReject i d s).mems = s.mems := by unfold addressReject; simp
@[simp] theorem addressReject_exec {i : Issuer} {d : Nat} : (addressReject i d s).exec = s.exec := by unfold addressReject; simp
@[simp] theorem addressReject_groups {i : Issuer} {d : Nat} : (addressReject i d s).groups = s.groups := by unfold addressReject; simp
@[simp] theorem addressReject_safety {i : Issuer} {d : Nat} : (addressReject i d s).safety = s.safety := by unfold addressReject; simp
@[simp] theorem addressReject_part {i : Issuer} {d : Nat} : (addressReject i d s).part = s.part := by unfold addressReject; simp
@[simp] theorem addressReject_time {i : Issuer} {d : Nat} : (addressReject i d s).time = s.time := by unfold addressReject; simp
@[simp] theorem addressReject_boot {i : Issuer} {d : Nat} : (addressReject i d s).boot = s.boot := by unfold addressReject; simp
@[simp] theorem addressReject_meas {i : Issuer} {d : Nat} : (addressReject i d s).meas = s.meas := by unfold addressReject; simp
@[simp] theorem addressReject_swap {i : Issuer} {d : Nat} : (addressReject i d s).swap = s.swap := by unfold addressReject; simp
@[simp] theorem addressReject_baton {i : Issuer} {d : Nat} : (addressReject i d s).baton = s.baton := by unfold addressReject; simp
@[simp] theorem addressReject_grd {i : Issuer} {d : Nat} : (addressReject i d s).grd = s.grd := by unfold addressReject; simp
@[simp] theorem addressReject_can {i : Issuer} {d : Nat} : (addressReject i d s).can = s.can := by unfold addressReject; simp
@[simp] theorem addressReject_relay {i : Issuer} {d : Nat} : (addressReject i d s).relay = s.relay := by unfold addressReject; simp
@[simp] theorem addressReject_life {i : Issuer} {d : Nat} : (addressReject i d s).life = s.life := by unfold addressReject; simp
@[simp] theorem addressReject_pending {i : Issuer} {d : Nat} : (addressReject i d s).pending = s.pending := by unfold addressReject; simp
@[simp] theorem addressReject_freeCtr {i : Issuer} {d : Nat} : (addressReject i d s).freeCtr = s.freeCtr := by unfold addressReject; simp

/-! ### setOwner -/

@[simp] theorem setOwner_held {p o : Nat} : (setOwner p o s).held = s.held := by unfold setOwner; split <;> simp
@[simp] theorem setOwner_shown {p o : Nat} : (setOwner p o s).shown = s.shown := by unfold setOwner; split <;> simp
@[simp] theorem setOwner_deferred {p o : Nat} : (setOwner p o s).deferred = s.deferred := by unfold setOwner; split <;> simp
@[simp] theorem setOwner_starter {p o : Nat} : (setOwner p o s).starter = s.starter := by unfold setOwner; split <;> simp
@[simp] theorem setOwner_voting {p o : Nat} : (setOwner p o s).voting = s.voting := by unfold setOwner; split <;> simp
@[simp] theorem setOwner_lanes {p o : Nat} : (setOwner p o s).lanes = s.lanes := by unfold setOwner; split <;> simp
@[simp] theorem setOwner_mems {p o : Nat} : (setOwner p o s).mems = s.mems := by unfold setOwner; split <;> simp
@[simp] theorem setOwner_exec {p o : Nat} : (setOwner p o s).exec = s.exec := by unfold setOwner; split <;> simp
@[simp] theorem setOwner_groups {p o : Nat} : (setOwner p o s).groups = s.groups := by unfold setOwner; split <;> simp
@[simp] theorem setOwner_safety {p o : Nat} : (setOwner p o s).safety = s.safety := by unfold setOwner; split <;> simp
@[simp] theorem setOwner_part {p o : Nat} : (setOwner p o s).part = s.part := by unfold setOwner; split <;> simp
@[simp] theorem setOwner_time {p o : Nat} : (setOwner p o s).time = s.time := by unfold setOwner; split <;> simp
@[simp] theorem setOwner_boot {p o : Nat} : (setOwner p o s).boot = s.boot := by unfold setOwner; split <;> simp
@[simp] theorem setOwner_meas {p o : Nat} : (setOwner p o s).meas = s.meas := by unfold setOwner; split <;> simp
@[simp] theorem setOwner_swap {p o : Nat} : (setOwner p o s).swap = s.swap := by unfold setOwner; split <;> simp
@[simp] theorem setOwner_baton {p o : Nat} : (setOwner p o s).baton = s.baton := by unfold setOwner; split <;> simp
@[simp] theorem setOwner_grd {p o : Nat} : (setOwner p o s).grd = s.grd := by unfold setOwner; split <;> simp
@[simp] theorem setOwner_can {p o : Nat} : (setOwner p o s).can = s.can := by unfold setOwner; split <;> simp
@[simp] theorem setOwner_relay {p o : Nat} : (setOwner p o s).relay = s.relay := by unfold setOwner; split <;> simp
@[simp] theorem setOwner_life {p o : Nat} : (setOwner p o s).life = s.life := by unfold setOwner; split <;> simp
@[simp] theorem setOwner_srcs {p o : Nat} : (setOwner p o s).srcs = s.srcs := by unfold setOwner; split <;> simp
@[simp] theorem setOwner_reports {p o : Nat} : (setOwner p o s).reports = s.reports := by unfold setOwner; split <;> simp
@[simp] theorem setOwner_pending {p o : Nat} : (setOwner p o s).pending = s.pending := by unfold setOwner; split <;> simp
@[simp] theorem setOwner_freeCtr {p o : Nat} : (setOwner p o s).freeCtr = s.freeCtr := by unfold setOwner; split <;> simp

end Sys2Proof.Machine
end

