-- ==== Sys2Proof/Laws/Commands.lean ====
section
/-!
SUPPORT. The course of a page command (R53 to R56): what an accepted command does, what its answer and its end leave in
PG_CMDSTAT and PG_IRQ_RAW, and that nothing else of the page moves.
-/
set_option Elab.async false
set_option linter.all false
namespace Sys2Proof.Machine

variable {s : State}

/-! ### Registers after the shared operations -/

theorem pa_ne_host {p off : Nat} (h : off < 0x40) : pa p off ≠ R.HOST_STAT ∧ pa p off ≠ R.PCIE_STAT := by
  unfold pa R.HOST_STAT R.PCIE_STAT; constructor <;> omega

@[simp] theorem reg_countAccess {i : Issuer} {a : Nat} (h : s.regsOk)
    (ha : a < R.HOST_ACC_CNT ∨ R.HOST_ACC_CNT + 16 ≤ a) : (countAccess i s).reg a = s.reg a := by
  unfold countAccess
  split
  · rename_i hi
    refine reg_bump_ne h ?_
    unfold R.HOST_ACC_CNT at *
    cases i <;> simp only [isHost, Bool.false_eq_true] at hi <;> simp only [issuerCode] <;> omega
  · rfl

/-- A command that arrives ends an unlock of another unit at most (R295). -/
theorem commandAccess_cases (c : Call) (s : State) : commandAccess c s = countAccess c.iss s ∨
    ((countAccess c.iss s).time.unlock.isSome = true ∧ commandAccess c s = dropUnlock (countAccess c.iss s)) := by
  unfold commandAccess
  dsimp only
  split
  · rename_i h
    simp only [Bool.and_eq_true] at h
    exact .inr ⟨h.1.2, rfl⟩
  · exact .inl rfl

@[simp] theorem regsOk_commandAccess {c : Call} (h : s.regsOk) : (commandAccess c s).regsOk :=
  commandAccess_closed regsOk_closed h

@[simp] theorem reg_dropUnlock {a : Nat} (h : s.regsOk) (ha : a ≠ R.TIME_STAT) : (dropUnlock s).reg a = s.reg a :=
  reg_setB_ne h ha

@[simp] theorem reg_commandAccess {c : Call} {a : Nat} (h : s.regsOk)
    (ha : a < R.HOST_ACC_CNT ∨ R.HOST_ACC_CNT + 16 ≤ a) (ht : a ≠ R.TIME_STAT) :
    (commandAccess c s).reg a = s.reg a := by
  rcases commandAccess_cases c s with e | ⟨_, e⟩
  · rw [e, reg_countAccess h ha]
  · rw [e, reg_dropUnlock (regsOk_countAccess h) ht, reg_countAccess h ha]

/-- Of TIME_STAT and the time unit a command moves the unlock alone. -/
theorem unlockMoves_commandAccess {c : Call} (h : s.regsOk) : s.unlockMoves (commandAccess c s) := by
  have hr : (countAccess c.iss s).reg R.TIME_STAT = s.reg R.TIME_STAT := reg_countAccess h (by decide)
  have ht : (countAccess c.iss s).time = s.time := countAccess_time
  rcases commandAccess_cases c s with e | ⟨hu, e⟩
  · refine ⟨by rw [e, ht], fun i _ => ?_, fun hn => ⟨by rw [e, ht, hn], by rw [e, hr]⟩⟩
    rw [e]; unfold State.regB; rw [hr]
  · have h1 : (dropUnlock (countAccess c.iss s)).time = { (countAccess c.iss s).time with unlock := none } := rfl
    have h2 : (dropUnlock (countAccess c.iss s)).reg R.TIME_STAT = setBit ((countAccess c.iss s).reg R.TIME_STAT) 4 false :=
      reg_setB_self (regsOk_countAccess h)
    refine ⟨by rw [e, h1, ht], fun i hi => ?_, fun hn => ?_⟩
    · rw [e]; unfold State.regB; rw [h2, hr, bitOf_setBit_ne hi]
    · rw [ht, hn] at hu; exact absurd hu (by decide)

@[simp] theorem reg_unshow {p a : Nat} : (s.unshow p).reg a = s.reg a := rfl

@[simp] theorem reg_answer {c : Call} {k a : Nat} (h : s.regsOk) (ha : a ≠ pa c.page H.CMDSTAT) :
    (answer c k s).reg a = s.reg a := (reg_setRegN_ne h ha : (s.setRegN _ _).reg a = s.reg a)

@[simp] theorem reg_finish {p k a : Nat} (h : s.regsOk) (ha : a ≠ pa p H.CMDSTAT) (hi : a ≠ pa p H.IRQ_RAW)
    (h1 : a ≠ R.HOST_STAT) (h2 : a ≠ R.PCIE_STAT) : (finish p k s).reg a = s.reg a := by
  unfold finish; rw [reg_irqSet (regsOk_setF h) hi h1 h2, reg_setF_ne h ha]

/-- A command that ended shows its code (R53). -/
theorem code_finish {p k : Nat} (h : s.regsOk) : (finish p k s).code p = k % 256 := by
  unfold finish State.code State.regF
  rw [reg_irqSet (regsOk_setF h) (by unfold pa H.IRQ_RAW H.CMDSTAT; omega) (pa_ne_host (by decide)).1 (pa_ne_host (by decide)).2,
    reg_setF_self h]
  exact fld_setFld_self (by omega) (by omega)

/-- A command that ended raised CMD_DONE (R61). -/
theorem raw_finish {p k : Nat} (h : s.regsOk) : (finish p k s).raw p 0 = true := by
  unfold finish State.raw State.regB irqSet
  rw [reg_msiCheck (regsOk_setB (regsOk_setF h)) (pa_ne_host (by decide)).1 (pa_ne_host (by decide)).2,
    reg_setB_self (regsOk_setF h), bitOf_setBit_self (by omega)]

theorem raw_irqSet {p i : Nat} (h : s.regsOk) (hi : i < 32) : (irqSet p i s).raw p i = true := by
  unfold State.raw State.regB irqSet
  rw [reg_msiCheck (regsOk_setB h) (pa_ne_host (by decide)).1 (pa_ne_host (by decide)).2,
    reg_setB_self h, bitOf_setBit_self (by omega)]

/-- A command that is executing shows BUSY with its opcode and issuer (R52, R53). -/
theorem reg_answer_self {c : Call} {k : Nat} (h : s.regsOk) :
    (answer c k s).reg (pa c.page H.CMDSTAT) = BitVec.ofNat 32 (s.answerWord c k) :=
  (reg_setRegN_self h : (s.setRegN _ _).reg _ = _)

/-! ### Acceptance -/

theorem variantN_of_boot {t : State} (h : t.boot = s.boot) : t.variantN = s.variantN := by
  unfold State.variantN State.fuses; rw [h]
theorem debugLocked_of_boot {t : State} (h : t.boot = s.boot) : t.debugLocked = s.debugLocked := by
  unfold State.debugLocked State.fuses; rw [h]
theorem populated_of_boot {t : State} {p : Nat} (h : t.boot = s.boot) : t.populated p = s.populated p := by
  unfold State.populated; rw [h]

/-- The arrival of a command changes no check of R55. -/
theorem precheck_commandAccess {c d : Call} (h : s.regsOk) : precheck c (commandAccess d s) = precheck c s := by
  have hb : (commandAccess d s).boot = s.boot := commandAccess_boot
  have e1 : (commandAccess d s).reg (pa c.page H.OWNER) = s.reg (pa c.page H.OWNER) :=
    reg_commandAccess h (by unfold pa R.HOST_ACC_CNT H.OWNER; omega) (by unfold pa R.TIME_STAT H.OWNER; omega)
  have e2 : (commandAccess d s).reg (pa c.page H.CMDSTAT) = s.reg (pa c.page H.CMDSTAT) :=
    reg_commandAccess h (by unfold pa R.HOST_ACC_CNT H.CMDSTAT; omega) (by unfold pa R.TIME_STAT H.CMDSTAT; omega)
  unfold precheck State.mayWrite State.owner State.busy State.regF
  rw [variantN_of_boot hb, debugLocked_of_boot hb, e1, e2]

/-- An accepted command that passes the checks of its page is executing and takes its effect (R53, R55). -/
theorem command_accepts {c : Call} {check : State → Option Nat} {body : State → State} (h : s.regsOk)
    (ha : s.accepts c) (hc : check (commandAccess c s) = none) :
    command c check body s = body (answer c cBusy (commandAccess c s)) := by
  unfold command
  dsimp only
  rw [populated_of_boot commandAccess_boot, if_pos ha.1, precheck_commandAccess h, ha.2]
  dsimp only
  rw [hc]

theorem quick_accepts {c : Call} {check : State → Option Nat} {f : State → State} (h : s.regsOk)
    (ha : s.accepts c) (hc : check (commandAccess c s) = none) :
    quick c check f s = finish c.page cDone (f (answer c cBusy (commandAccess c s))) := command_accepts h ha hc

theorem commandKeyed_accepts {c : Call} {key : State → Bool} {check : State → Option Nat} {body : State → State}
    (h : s.regsOk) (ha : s.accepts c) (hk : key (commandAccess c s) = true)
    (hc : check (commandAccess c s) = none) :
    commandKeyed c key check body s = body (answer c cBusy (commandAccess c s)) := by
  unfold commandKeyed
  dsimp only
  rw [populated_of_boot commandAccess_boot, if_pos ha.1, precheck_commandAccess h, ha.2]
  dsimp only
  rw [hk, hc]
  rfl

theorem quickKeyed_accepts {c : Call} {key : State → Bool} {check : State → Option Nat} {f : State → State}
    (h : s.regsOk) (ha : s.accepts c) (hk : key (commandAccess c s) = true)
    (hc : check (commandAccess c s) = none) :
    quickKeyed c key check f s = finish c.page cDone (f (answer c cBusy (commandAccess c s))) :=
  commandKeyed_accepts h ha hk hc

/-- The state an accepted command works on: BUSY on its page, every register but PG_CMDSTAT and the access counters
as before. -/
theorem reg_started {c : Call} {a : Nat} (h : s.regsOk) (ha : a ≠ pa c.page H.CMDSTAT)
    (hb : a < R.HOST_ACC_CNT ∨ R.HOST_ACC_CNT + 16 ≤ a) (ht : a ≠ R.TIME_STAT) :
    (answer c cBusy (commandAccess c s)).reg a = s.reg a := by
  rw [reg_answer (regsOk_commandAccess h) ha, reg_commandAccess h hb ht]

end Sys2Proof.Machine
end

