-- ==== Sys2Proof/Laws/ExecClosed.lean ====
section
/-!
SUPPORT. Every command keeps every property that the primitive writes keep: one lemma per constructor of `Instr`,
then `exec`.
-/
set_option Elab.async false
set_option linter.all false
set_option linter.unusedVariables false

namespace Sys2Proof.Machine

variable {Q : State → Prop} (hP : Closed Q)
include hP

theorem exec_sampleTick_closed {faults} {s t : State} (e : exec (.sampleTick faults) s = .next t) (h : Q s) : Q t := by
  cases e
  repeat' with_reducible first
    | assumption | apply sampleTick_closed hP | intro _

theorem exec_strideBoundary_closed {s t : State} (e : exec (.strideBoundary) s = .next t) (h : Q s) : Q t := by
  cases e
  repeat' with_reducible first
    | assumption | apply strideBoundary_closed hP | intro _

theorem exec_vote_closed {a} {b} {c} {diff} {s t : State} (e : exec (.vote a b c diff) s = .next t) (h : Q s) : Q t := by
  cases e
  repeat' with_reducible first
    | assumption | apply voteStep_closed hP | intro _

theorem exec_resyncAutoStart_closed {lane} {s t : State} (e : exec (.resyncAutoStart lane) s = .next t) (h : Q s) : Q t := by
  cases e
  repeat' with_reducible first
    | assumption | apply resyncAuto_closed hP | intro _

theorem exec_clonePassEnd_closed {same} {s t : State} (e : exec (.clonePassEnd same) s = .next t) (h : Q s) : Q t := by
  cases e
  repeat' with_reducible first
    | assumption | apply clonePass_closed hP | intro _

theorem exec_resyncReserveCheck_closed {s t : State} (e : exec (.resyncReserveCheck) s = .next t) (h : Q s) : Q t := by
  cases e
  repeat' with_reducible first
    | assumption | apply reserveCheck_closed hP | intro _

theorem exec_finalPhaseEnd_closed {s t : State} (e : exec (.finalPhaseEnd) s = .next t) (h : Q s) : Q t := by
  cases e
  repeat' with_reducible first
    | assumption | apply finalEnd_closed hP | intro _

theorem exec_exchangeDeadline_closed {recs} {bad} {late} {margin} {s t : State} (e : exec (.exchangeDeadline recs bad late margin) s = .next t) (h : Q s) : Q t := by
  cases e
  repeat' with_reducible first
    | assumption | apply deadline_closed hP | intro _

theorem exec_sourceInvalid_closed {src} {s t : State} (e : exec (.sourceInvalid src) s = .next t) (h : Q s) : Q t := by
  cases e
  repeat' with_reducible first
    | assumption | apply sourceInvalid_closed hP | intro _

theorem exec_rxEvent_closed {lane} {src} {s t : State} (e : exec (.rxEvent lane src) s = .next t) (h : Q s) : Q t := by
  cases e
  repeat' with_reducible first
    | assumption | apply rxFault_closed hP | intro _

theorem exec_clrOvr_closed {iss} {arg} {s t : State} (e : exec (.clrOvr iss arg) s = .next t) (h : Q s) : Q t := by
  cases e
  repeat' with_reducible first
    | assumption | apply Closed.ite | apply quick_closed hP | apply starterClrOvr_closed hP | intro _

theorem exec_clrLoad_closed {iss} {arg} {s t : State} (e : exec (.clrLoad iss arg) s = .next t) (h : Q s) : Q t := by
  cases e
  repeat' with_reducible first
    | assumption | apply Closed.ite | apply quick_closed hP | apply starterClrLoad_closed hP | intro _

theorem exec_starterSnap_closed {iss} {arg} {s t : State} (e : exec (.starterSnap iss arg) s = .next t) (h : Q s) : Q t := by
  cases e
  repeat' with_reducible first
    | assumption | apply Closed.ite | apply quick_closed hP | apply starterLatch_closed hP | intro _

theorem exec_injTest_closed {iss} {arg} {s t : State} (e : exec (.injTest iss arg) s = .next t) (h : Q s) : Q t := by
  cases e
  repeat' with_reducible first
    | assumption | apply cmdInjTest_closed hP | intro _

theorem exec_injTestEnd_closed {rep} {s t : State} (e : exec (.injTestEnd rep) s = .next t) (h : Q s) : Q t := by
  cases e
  repeat' with_reducible first
    | assumption | apply injEnd_closed hP | intro _

theorem exec_injAgeExceeded_closed {s t : State} (e : exec (.injAgeExceeded) s = .next t) (h : Q s) : Q t := by
  cases e
  repeat' with_reducible first
    | assumption | apply Closed.ite | apply irqSet_closed hP | intro _

theorem exec_pfcClrCnt_closed {iss} {arg} {s t : State} (e : exec (.pfcClrCnt iss arg) s = .next t) (h : Q s) : Q t := by
  cases e
  repeat' with_reducible first
    | assumption | apply cmdPfcClr_closed hP | intro _

theorem exec_resync_closed {lane} {iss} {arg} {s t : State} (e : exec (.resync lane iss arg) s = .next t) (h : Q s) : Q t := by
  cases e
  repeat' with_reducible first
    | assumption | apply cmdResync_closed hP | intro _

theorem exec_fence_closed {lane} {iss} {arg} {s t : State} (e : exec (.fence lane iss arg) s = .next t) (h : Q s) : Q t := by
  cases e
  repeat' with_reducible first
    | assumption | apply cmdFence_closed hP | intro _

theorem exec_laneClrCnt_closed {lane} {iss} {arg} {s t : State} (e : exec (.laneClrCnt lane iss arg) s = .next t) (h : Q s) : Q t := by
  cases e
  repeat' with_reducible first
    | assumption | apply cmdLaneClr_closed hP | intro _

theorem exec_xchgClrCnt_closed {iss} {arg} {s t : State} (e : exec (.xchgClrCnt iss arg) s = .next t) (h : Q s) : Q t := by
  cases e
  repeat' with_reducible first
    | assumption | apply cmdXchgClr_closed hP | intro _

theorem exec_clrMargin_closed {iss} {arg} {s t : State} (e : exec (.clrMargin iss arg) s = .next t) (h : Q s) : Q t := by
  cases e
  repeat' with_reducible first
    | assumption | apply cmdClrMargin_closed hP | intro _

theorem exec_cmdNop_closed {page} {iss} {arg} {s t : State} (e : exec (.cmdNop page iss arg) s = .next t) (h : Q s) : Q t := by
  cases e
  repeat' with_reducible first
    | assumption | apply header_closed hP | intro _

theorem exec_claim_closed {page} {iss} {arg} {s t : State} (e : exec (.claim page iss arg) s = .next t) (h : Q s) : Q t := by
  cases e
  repeat' with_reducible first
    | assumption | apply header_closed hP | intro _

theorem exec_release_closed {page} {iss} {arg} {s t : State} (e : exec (.release page iss arg) s = .next t) (h : Q s) : Q t := by
  cases e
  repeat' with_reducible first
    | assumption | apply header_closed hP | intro _

theorem exec_take_closed {page} {iss} {arg} {s t : State} (e : exec (.take page iss arg) s = .next t) (h : Q s) : Q t := by
  cases e
  repeat' with_reducible first
    | assumption | apply header_closed hP | intro _

theorem exec_clrErr_closed {page} {iss} {arg} {s t : State} (e : exec (.clrErr page iss arg) s = .next t) (h : Q s) : Q t := by
  cases e
  repeat' with_reducible first
    | assumption | apply header_closed hP | intro _

theorem exec_registerWrite_closed {iss} {addr} {size} {value} {r} {s t : State} (e : exec (.registerWrite iss addr size value r) s = .next t) (h : Q s) : Q t := by
  cases e
  repeat' with_reducible first
    | assumption | apply busWrite_closed hP | intro _

theorem exec_highWordCommit_closed {iss} {addr} {value} {s t : State} (e : exec (.highWordCommit iss addr value) s = .next t) (h : Q s) : Q t := by
  cases e
  repeat' with_reducible first
    | assumption | apply Closed.ite | apply regWrite_closed hP | intro _

theorem exec_functionReset_closed {page} {iss} {value} {s t : State} (e : exec (.functionReset page iss value) s = .next t) (h : Q s) : Q t := by
  cases e
  repeat' with_reducible first
    | assumption | apply functionReset_closed hP | intro _

theorem exec_paritySweep_closed {page} {word} {bytes} {s t : State} (e : exec (.paritySweep page word bytes) s = .next t) (h : Q s) : Q t := by
  cases e
  repeat' with_reducible first
    | assumption | apply paritySweep_closed hP | intro _

theorem exec_eccWriteBack_closed {mem} {word} {s t : State} (e : exec (.eccWriteBack mem word) s = .next t) (h : Q s) : Q t := by
  cases e
  repeat' with_reducible first
    | assumption | apply eccWriteBack_closed hP | intro _

theorem exec_scrubRead_closed {mem} {ecc} {s t : State} (e : exec (.scrubRead mem ecc) s = .next t) (h : Q s) : Q t := by
  cases e
  repeat' with_reducible first
    | assumption | apply scrubRead_closed hP | intro _

theorem exec_scrubLate_closed {mem} {s t : State} (e : exec (.scrubLate mem) s = .next t) (h : Q s) : Q t := by
  cases e
  repeat' with_reducible first
    | assumption | apply scrubLate_closed hP | intro _

theorem exec_march_closed {mem} {iss} {arg} {s t : State} (e : exec (.march mem iss arg) s = .next t) (h : Q s) : Q t := by
  cases e
  repeat' with_reducible first
    | assumption | apply cmdMarch_closed hP | intro _

theorem exec_marchEnd_closed {fails} {s t : State} (e : exec (.marchEnd fails) s = .next t) (h : Q s) : Q t := by
  cases e
  repeat' with_reducible first
    | assumption | apply marchEnd_closed hP | intro _

theorem exec_memClrCnt_closed {mem} {iss} {arg} {s t : State} (e : exec (.memClrCnt mem iss arg) s = .next t) (h : Q s) : Q t := by
  cases e
  repeat' with_reducible first
    | assumption | apply cmdMemClr_closed hP | intro _

theorem exec_atomAdd_closed {page} {iss} {arg} {s t : State} (e : exec (.atomAdd page iss arg) s = .next t) (h : Q s) : Q t := by
  cases e
  repeat' with_reducible first
    | assumption | apply cmdAtomAdd_closed hP | intro _

theorem exec_atomSwap_closed {page} {iss} {arg} {s t : State} (e : exec (.atomSwap page iss arg) s = .next t) (h : Q s) : Q t := by
  cases e
  repeat' with_reducible first
    | assumption | apply cmdAtomSwap_closed hP | intro _

theorem exec_load_closed {iss} {arg} {s t : State} (e : exec (.load iss arg) s = .next t) (h : Q s) : Q t := by
  cases e
  repeat' with_reducible first
    | assumption | apply cmdLoad_closed hP | intro _

theorem exec_loadDone_closed {s t : State} (e : exec (.loadDone) s = .next t) (h : Q s) : Q t := by
  cases e
  repeat' with_reducible first
    | assumption | apply admitDone_closed hP | intro _

theorem exec_start_closed {iss} {arg} {s t : State} (e : exec (.start iss arg) s = .next t) (h : Q s) : Q t := by
  cases e
  repeat' with_reducible first
    | assumption | apply cmdStart_closed hP | intro _

theorem exec_stop_closed {iss} {arg} {s t : State} (e : exec (.stop iss arg) s = .next t) (h : Q s) : Q t := by
  cases e
  repeat' with_reducible first
    | assumption | apply cmdStop_closed hP | intro _

theorem exec_admitImage_closed {iss} {arg} {s t : State} (e : exec (.admitImage iss arg) s = .next t) (h : Q s) : Q t := by
  cases e
  repeat' with_reducible first
    | assumption | apply cmdAdmit_closed hP | intro _

theorem exec_unload_closed {iss} {arg} {s t : State} (e : exec (.unload iss arg) s = .next t) (h : Q s) : Q t := by
  cases e
  repeat' with_reducible first
    | assumption | apply cmdUnload_closed hP | intro _

theorem exec_execClrStat_closed {iss} {arg} {s t : State} (e : exec (.execClrStat iss arg) s = .next t) (h : Q s) : Q t := by
  cases e
  repeat' with_reducible first
    | assumption | apply cmdExecClr_closed hP | intro _

theorem exec_hold_closed {iss} {arg} {s t : State} (e : exec (.hold iss arg) s = .next t) (h : Q s) : Q t := by
  cases e
  repeat' with_reducible first
    | assumption | apply cmdHold_closed hP | intro _

theorem exec_stepCmd_closed {iss} {arg} {s t : State} (e : exec (.stepCmd iss arg) s = .next t) (h : Q s) : Q t := by
  cases e
  repeat' with_reducible first
    | assumption | apply cmdStep_closed hP | intro _

theorem exec_continueCmd_closed {iss} {arg} {s t : State} (e : exec (.continueCmd iss arg) s = .next t) (h : Q s) : Q t := by
  cases e
  repeat' with_reducible first
    | assumption | apply cmdContinue_closed hP | intro _

theorem exec_clrForce_closed {iss} {arg} {s t : State} (e : exec (.clrForce iss arg) s = .next t) (h : Q s) : Q t := by
  cases e
  repeat' with_reducible first
    | assumption | apply cmdClrForce_closed hP | intro _

theorem exec_debugClrStat_closed {iss} {arg} {s t : State} (e : exec (.debugClrStat iss arg) s = .next t) (h : Q s) : Q t := by
  cases e
  repeat' with_reducible first
    | assumption | apply cmdDebugClr_closed hP | intro _

theorem exec_forceEntryWrite_closed {iss} {entry} {word} {value} {s t : State} (e : exec (.forceEntryWrite iss entry word value) s = .next t) (h : Q s) : Q t := by
  cases e
  repeat' with_reducible first
    | assumption | apply regWrite_closed hP | intro _

theorem exec_nop_closed {s t : State} (e : exec (.nop) s = .next t) (h : Q s) : Q t := by
  cases e
  repeat' with_reducible first
    | assumption | apply zNop_closed hP | intro _

theorem exec_mov_closed {d} {a} {s t : State} (e : exec (.mov d a) s = .next t) (h : Q s) : Q t := by
  cases e
  repeat' with_reducible first
    | assumption | apply zMov_closed hP | intro _

theorem exec_ldi_closed {d} {imm} {s t : State} (e : exec (.ldi d imm) s = .next t) (h : Q s) : Q t := by
  cases e
  repeat' with_reducible first
    | assumption | apply zLdi_closed hP | intro _

theorem exec_ldih_closed {d} {imm} {s t : State} (e : exec (.ldih d imm) s = .next t) (h : Q s) : Q t := by
  cases e
  repeat' with_reducible first
    | assumption | apply zLdih_closed hP | intro _

theorem exec_getf_closed {d} {s t : State} (e : exec (.getf d) s = .next t) (h : Q s) : Q t := by
  cases e
  repeat' with_reducible first
    | assumption | apply zGetf_closed hP | intro _

theorem exec_setf_closed {a} {s t : State} (e : exec (.setf a) s = .next t) (h : Q s) : Q t := by
  cases e
  repeat' with_reducible first
    | assumption | apply zSetf_closed hP | intro _

theorem exec_clrq_closed {s t : State} (e : exec (.clrq) s = .next t) (h : Q s) : Q t := by
  cases e
  repeat' with_reducible first
    | assumption | apply zClrq_closed hP | intro _

theorem exec_ld_closed {d} {sp} {t_} {off} {err} {s t : State} (e : exec (.ld d sp t_ off err) s = .next t) (h : Q s) : Q t := by
  cases e
  repeat' with_reducible first
    | assumption | apply zLd_closed hP | intro _

theorem exec_st_closed {d} {sp} {t_} {off} {s t : State} (e : exec (.st d sp t_ off) s = .next t) (h : Q s) : Q t := by
  cases e
  repeat' with_reducible first
    | assumption | apply zSt_closed hP | intro _

theorem exec_ldx_closed {d} {x} {sp} {t_} {off} {count} {s t : State} (e : exec (.ldx d x sp t_ off count) s = .next t) (h : Q s) : Q t := by
  cases e
  repeat' with_reducible first
    | assumption | apply zLdx_closed hP | intro _

theorem exec_stx_closed {d} {x} {sp} {t_} {off} {count} {s t : State} (e : exec (.stx d x sp t_ off count) s = .next t) (h : Q s) : Q t := by
  cases e
  repeat' with_reducible first
    | assumption | apply zStx_closed hP | intro _

theorem exec_add_closed {d} {a} {b} {t_} {sat} {s t : State} (e : exec (.add d a b t_ sat) s = .next t) (h : Q s) : Q t := by
  cases e
  repeat' with_reducible first
    | assumption | apply zAdd_closed hP | intro _

theorem exec_sub_closed {d} {a} {b} {t_} {sat} {s t : State} (e : exec (.sub d a b t_ sat) s = .next t) (h : Q s) : Q t := by
  cases e
  repeat' with_reducible first
    | assumption | apply zSub_closed hP | intro _

theorem exec_mul_closed {d} {a} {b} {t_} {sat} {s t : State} (e : exec (.mul d a b t_ sat) s = .next t) (h : Q s) : Q t := by
  cases e
  repeat' with_reducible first
    | assumption | apply zMul_closed hP | intro _

theorem exec_div_closed {d} {a} {b} {t_} {sat} {s t : State} (e : exec (.div d a b t_ sat) s = .next t) (h : Q s) : Q t := by
  cases e
  repeat' with_reducible first
    | assumption | apply zDiv_closed hP | intro _

theorem exec_mod_closed {d} {a} {b} {t_} {s t : State} (e : exec (.mod d a b t_) s = .next t) (h : Q s) : Q t := by
  cases e
  repeat' with_reducible first
    | assumption | apply zMod_closed hP | intro _

theorem exec_neg_closed {d} {a} {t_} {sat} {s t : State} (e : exec (.neg d a t_ sat) s = .next t) (h : Q s) : Q t := by
  cases e
  repeat' with_reducible first
    | assumption | apply zNeg_closed hP | intro _

theorem exec_abs_closed {d} {a} {t_} {sat} {s t : State} (e : exec (.abs d a t_ sat) s = .next t) (h : Q s) : Q t := by
  cases e
  repeat' with_reducible first
    | assumption | apply zAbs_closed hP | intro _

theorem exec_min_closed {d} {a} {b} {t_} {s t : State} (e : exec (.min d a b t_) s = .next t) (h : Q s) : Q t := by
  cases e
  repeat' with_reducible first
    | assumption | apply zMin_closed hP | intro _

theorem exec_max_closed {d} {a} {b} {t_} {s t : State} (e : exec (.max d a b t_) s = .next t) (h : Q s) : Q t := by
  cases e
  repeat' with_reducible first
    | assumption | apply zMax_closed hP | intro _

theorem exec_addi_closed {d} {a} {imm} {s t : State} (e : exec (.addi d a imm) s = .next t) (h : Q s) : Q t := by
  cases e
  repeat' with_reducible first
    | assumption | apply zAddi_closed hP | intro _

theorem exec_and_closed {d} {a} {b} {t_} {s t : State} (e : exec (.and d a b t_) s = .next t) (h : Q s) : Q t := by
  cases e
  repeat' with_reducible first
    | assumption | apply zAnd_closed hP | intro _

theorem exec_or_closed {d} {a} {b} {t_} {s t : State} (e : exec (.or d a b t_) s = .next t) (h : Q s) : Q t := by
  cases e
  repeat' with_reducible first
    | assumption | apply zOr_closed hP | intro _

theorem exec_xor_closed {d} {a} {b} {t_} {s t : State} (e : exec (.xor d a b t_) s = .next t) (h : Q s) : Q t := by
  cases e
  repeat' with_reducible first
    | assumption | apply zXor_closed hP | intro _

theorem exec_not_closed {d} {a} {t_} {s t : State} (e : exec (.not d a t_) s = .next t) (h : Q s) : Q t := by
  cases e
  repeat' with_reducible first
    | assumption | apply zNot_closed hP | intro _

theorem exec_shl_closed {d} {a} {b} {t_} {s t : State} (e : exec (.shl d a b t_) s = .next t) (h : Q s) : Q t := by
  cases e
  repeat' with_reducible first
    | assumption | apply zShl_closed hP | intro _

theorem exec_shr_closed {d} {a} {b} {t_} {s t : State} (e : exec (.shr d a b t_) s = .next t) (h : Q s) : Q t := by
  cases e
  repeat' with_reducible first
    | assumption | apply zShr_closed hP | intro _

theorem exec_sar_closed {d} {a} {b} {t_} {s t : State} (e : exec (.sar d a b t_) s = .next t) (h : Q s) : Q t := by
  cases e
  repeat' with_reducible first
    | assumption | apply zSar_closed hP | intro _

theorem exec_rol_closed {d} {a} {b} {t_} {s t : State} (e : exec (.rol d a b t_) s = .next t) (h : Q s) : Q t := by
  cases e
  repeat' with_reducible first
    | assumption | apply zRol_closed hP | intro _

theorem exec_ror_closed {d} {a} {b} {t_} {s t : State} (e : exec (.ror d a b t_) s = .next t) (h : Q s) : Q t := by
  cases e
  repeat' with_reducible first
    | assumption | apply zRor_closed hP | intro _

theorem exec_cmp_closed {a} {b} {t_} {s t : State} (e : exec (.cmp a b t_) s = .next t) (h : Q s) : Q t := by
  cases e
  repeat' with_reducible first
    | assumption | apply zCmp_closed hP | intro _

theorem exec_setc_closed {d} {cond} {s t : State} (e : exec (.setc d cond) s = .next t) (h : Q s) : Q t := by
  cases e
  repeat' with_reducible first
    | assumption | apply zSetc_closed hP | intro _

theorem exec_cvt_closed {d} {a} {t_} {t2} {sat} {s t : State} (e : exec (.cvt d a t_ t2 sat) s = .next t) (h : Q s) : Q t := by
  cases e
  repeat' with_reducible first
    | assumption | apply zCvt_closed hP | intro _

theorem exec_br_closed {cond} {off} {s t : State} (e : exec (.br cond off) s = .next t) (h : Q s) : Q t := by
  cases e
  repeat' with_reducible first
    | assumption | apply zBr_closed hP | intro _

theorem exec_jmp_closed {off} {s t : State} (e : exec (.jmp off) s = .next t) (h : Q s) : Q t := by
  cases e
  repeat' with_reducible first
    | assumption | apply zJmp_closed hP | intro _

theorem exec_loop_closed {d} {count} {body} {s t : State} (e : exec (.loop d count body) s = .next t) (h : Q s) : Q t := by
  cases e
  repeat' with_reducible first
    | assumption | apply zLoop_closed hP | intro _

theorem exec_call_closed {typ} {off} {s t : State} (e : exec (.call typ off) s = .next t) (h : Q s) : Q t := by
  cases e
  repeat' with_reducible first
    | assumption | apply zCall_closed hP | intro _

theorem exec_ret_closed {s t : State} (e : exec (.ret) s = .next t) (h : Q s) : Q t := by
  cases e
  repeat' with_reducible first
    | assumption | apply zRet_closed hP | intro _

theorem exec_trap_closed {code} {s t : State} (e : exec (.trap code) s = .next t) (h : Q s) : Q t := by
  cases e
  repeat' with_reducible first
    | assumption | apply zTrap_closed hP | intro _

theorem exec_ton_closed {off} {s t : State} (e : exec (.ton off) s = .next t) (h : Q s) : Q t := by
  cases e
  repeat' with_reducible first
    | assumption | apply zTon_closed hP | intro _

theorem exec_tof_closed {off} {s t : State} (e : exec (.tof off) s = .next t) (h : Q s) : Q t := by
  cases e
  repeat' with_reducible first
    | assumption | apply zTof_closed hP | intro _

theorem exec_tp_closed {off} {s t : State} (e : exec (.tp off) s = .next t) (h : Q s) : Q t := by
  cases e
  repeat' with_reducible first
    | assumption | apply zTp_closed hP | intro _

theorem exec_rTrig_closed {off} {s t : State} (e : exec (.rTrig off) s = .next t) (h : Q s) : Q t := by
  cases e
  repeat' with_reducible first
    | assumption | apply zEdge_closed hP | intro _

theorem exec_fTrig_closed {off} {s t : State} (e : exec (.fTrig off) s = .next t) (h : Q s) : Q t := by
  cases e
  repeat' with_reducible first
    | assumption | apply zEdge_closed hP | intro _

theorem exec_ctu_closed {off} {s t : State} (e : exec (.ctu off) s = .next t) (h : Q s) : Q t := by
  cases e
  repeat' with_reducible first
    | assumption | apply zCtu_closed hP | intro _

theorem exec_ctd_closed {off} {s t : State} (e : exec (.ctd off) s = .next t) (h : Q s) : Q t := by
  cases e
  repeat' with_reducible first
    | assumption | apply zCtd_closed hP | intro _

theorem exec_ctud_closed {off} {s t : State} (e : exec (.ctud off) s = .next t) (h : Q s) : Q t := by
  cases e
  repeat' with_reducible first
    | assumption | apply zCtud_closed hP | intro _

theorem exec_sr_closed {off} {s t : State} (e : exec (.sr off) s = .next t) (h : Q s) : Q t := by
  cases e
  repeat' with_reducible first
    | assumption | apply zSr_closed hP | intro _

theorem exec_rs_closed {off} {s t : State} (e : exec (.rs off) s = .next t) (h : Q s) : Q t := by
  cases e
  repeat' with_reducible first
    | assumption | apply zRs_closed hP | intro _

theorem exec_hyst_closed {t_} {off} {s t : State} (e : exec (.hyst t_ off) s = .next t) (h : Q s) : Q t := by
  cases e
  repeat' with_reducible first
    | assumption | apply zHyst_closed hP | intro _

theorem exec_ramp_closed {t_} {off} {s t : State} (e : exec (.ramp t_ off) s = .next t) (h : Q s) : Q t := by
  cases e
  repeat' with_reducible first
    | assumption | apply zRamp_closed hP | intro _

theorem exec_lag_closed {t_} {off} {s t : State} (e : exec (.lag t_ off) s = .next t) (h : Q s) : Q t := by
  cases e
  repeat' with_reducible first
    | assumption | apply zLag_closed hP | intro _

theorem exec_limit_closed {d} {a} {b} {t_} {s t : State} (e : exec (.limit d a b t_) s = .next t) (h : Q s) : Q t := by
  cases e
  repeat' with_reducible first
    | assumption | apply zLimit_closed hP | intro _

theorem exec_sel_closed {d} {a} {b} {s t : State} (e : exec (.sel d a b) s = .next t) (h : Q s) : Q t := by
  cases e
  repeat' with_reducible first
    | assumption | apply zSel_closed hP | intro _

theorem exec_mux_closed {d} {a} {b} {s t : State} (e : exec (.mux d a b) s = .next t) (h : Q s) : Q t := by
  cases e
  repeat' with_reducible first
    | assumption | apply zMux_closed hP | intro _

theorem exec_mhdr_closed {d} {mb} {s t : State} (e : exec (.mhdr d mb) s = .next t) (h : Q s) : Q t := by
  cases e
  repeat' with_reducible first
    | assumption | apply zMhdr_closed hP | intro _

theorem exec_mget_closed {d} {sp} {mb} {off} {len} {boff} {s t : State} (e : exec (.mget d sp mb off len boff) s = .next t) (h : Q s) : Q t := by
  cases e
  repeat' with_reducible first
    | assumption | apply zMget_closed hP | intro _

theorem exec_mput_closed {d} {sp} {mb} {off} {len} {s t : State} (e : exec (.mput d sp mb off len) s = .next t) (h : Q s) : Q t := by
  cases e
  repeat' with_reducible first
    | assumption | apply zMput_closed hP | intro _

theorem exec_mstat_closed {d} {mb} {poisoned} {s t : State} (e : exec (.mstat d mb poisoned) s = .next t) (h : Q s) : Q t := by
  cases e
  repeat' with_reducible first
    | assumption | apply zMstat_closed hP | intro _

theorem exec_batonCommit_closed {s t : State} (e : exec (.batonCommit) s = .next t) (h : Q s) : Q t := by
  cases e
  repeat' with_reducible first
    | assumption | apply Closed.ite | apply withdrawStep_closed hP | apply batonCommit_closed hP
    | intro _

theorem exec_sweepComplete_closed {s t : State} (e : exec (.sweepComplete) s = .next t) (h : Q s) : Q t := by
  cases e
  repeat' with_reducible first
    | assumption | apply sweepComplete_closed hP | intro _

theorem exec_batonStale_closed {s t : State} (e : exec (.batonStale) s = .next t) (h : Q s) : Q t := by
  cases e
  repeat' with_reducible first
    | assumption | apply batonStale_closed hP | intro _

theorem exec_pfail_closed {s t : State} (e : exec (.pfail) s = .next t) (h : Q s) : Q t := by
  cases e
  repeat' with_reducible first
    | assumption | apply pfailNow_closed hP | intro _

theorem exec_pfailFlushEnd_closed {us} {s t : State} (e : exec (.pfailFlushEnd us) s = .next t) (h : Q s) : Q t := by
  cases e
  repeat' with_reducible first
    | assumption | apply pfailFlushEnd_closed hP | intro _

theorem exec_restoreComplete_closed {us} {s t : State} (e : exec (.restoreComplete us) s = .next t) (h : Q s) : Q t := by
  cases e
  repeat' with_reducible first
    | assumption | apply restoreComplete_closed hP | intro _

theorem exec_stage_closed {iss} {arg} {s t : State} (e : exec (.stage iss arg) s = .next t) (h : Q s) : Q t := by
  cases e
  repeat' with_reducible first
    | assumption | apply cmdStage_closed hP | intro _

theorem exec_stageDone_closed {s t : State} (e : exec (.stageDone) s = .next t) (h : Q s) : Q t := by
  cases e
  repeat' with_reducible first
    | assumption | apply stageDone_closed hP | intro _

theorem exec_arm_closed {iss} {arg} {s t : State} (e : exec (.arm iss arg) s = .next t) (h : Q s) : Q t := by
  cases e
  repeat' with_reducible first
    | assumption | apply cmdArm_closed hP | intro _

theorem exec_disarm_closed {iss} {arg} {s t : State} (e : exec (.disarm iss arg) s = .next t) (h : Q s) : Q t := by
  cases e
  repeat' with_reducible first
    | assumption | apply cmdDisarm_closed hP | intro _

theorem exec_cancel_closed {iss} {arg} {s t : State} (e : exec (.cancel iss arg) s = .next t) (h : Q s) : Q t := by
  cases e
  repeat' with_reducible first
    | assumption | apply cmdCancel_closed hP | intro _

theorem exec_confirm_closed {iss} {arg} {s t : State} (e : exec (.confirm iss arg) s = .next t) (h : Q s) : Q t := by
  cases e
  repeat' with_reducible first
    | assumption | apply cmdConfirm_closed hP | intro _

theorem exec_revert_closed {iss} {arg} {s t : State} (e : exec (.revert iss arg) s = .next t) (h : Q s) : Q t := by
  cases e
  repeat' with_reducible first
    | assumption | apply cmdRevert_closed hP | intro _

theorem exec_swapClrStat_closed {iss} {arg} {s t : State} (e : exec (.swapClrStat iss arg) s = .next t) (h : Q s) : Q t := by
  cases e
  repeat' with_reducible first
    | assumption | apply cmdSwapClr_closed hP | intro _

theorem exec_trialLeftExpired_closed {s t : State} (e : exec (.trialLeftExpired) s = .next t) (h : Q s) : Q t := by
  cases e
  repeat' with_reducible first
    | assumption | apply trialExpired_closed hP | intro _

theorem exec_revertDataLoaded_closed {s t : State} (e : exec (.revertDataLoaded) s = .next t) (h : Q s) : Q t := by
  cases e
  repeat' with_reducible first
    | assumption | apply revertLoaded_closed hP | intro _

theorem exec_batonClrCnt_closed {iss} {arg} {s t : State} (e : exec (.batonClrCnt iss arg) s = .next t) (h : Q s) : Q t := by
  cases e
  repeat' with_reducible first
    | assumption | apply cmdBatonClr_closed hP | intro _

theorem exec_discard_closed {iss} {arg} {s t : State} (e : exec (.discard iss arg) s = .next t) (h : Q s) : Q t := by
  cases e
  repeat' with_reducible first
    | assumption | apply cmdDiscard_closed hP | intro _

theorem exec_cycleStart_closed {at_} {s t : State} (e : exec (.cycleStart at_) s = .next t) (h : Q s) : Q t := by
  cases e
  repeat' with_reducible first
    | assumption | apply cycleStart_closed hP | intro _

theorem exec_claimTimeout_closed {idx} {s t : State} (e : exec (.claimTimeout idx) s = .next t) (h : Q s) : Q t := by
  cases e
  repeat' with_reducible first
    | assumption | apply claimTimeout_closed hP | intro _

theorem exec_txLatch_closed {s t : State} (e : exec (.txLatch) s = .next t) (h : Q s) : Q t := by
  cases e
  repeat' with_reducible first
    | assumption | apply Closed.ite | apply pairBlock_closed hP | apply txLatch_closed hP | intro _

theorem exec_txFrame_closed {ch} {slot} {permit} {atEnd} {s t : State} (e : exec (.txFrame ch slot permit atEnd) s = .next t) (h : Q s) : Q t := by
  cases e
  repeat' with_reducible first
    | assumption | apply txFrame_closed hP | intro _

theorem exec_gradorRxInstance_closed {ch} {slot} {heard} {s t : State} (e : exec (.gradorRxInstance ch slot heard) s = .next t) (h : Q s) : Q t := by
  cases e
  repeat' with_reducible first
    | assumption | apply rxRaw_closed hP | intro _

theorem exec_coldStart_closed {s t : State} (e : exec (.coldStart) s = .next t) (h : Q s) : Q t := by
  cases e
  repeat' with_reducible first
    | assumption | apply coldStart_closed hP | intro _

theorem exec_csBackoffEnd_closed {s t : State} (e : exec (.csBackoffEnd) s = .next t) (h : Q s) : Q t := by
  cases e
  repeat' with_reducible first
    | assumption | apply backoffEnd_closed hP | intro _

theorem exec_coldRetry_closed {s t : State} (e : exec (.coldRetry) s = .next t) (h : Q s) : Q t := by
  cases e
  repeat' with_reducible first
    | assumption | apply coldRetry_closed hP | intro _

theorem exec_pacerCorrection_closed {s t : State} (e : exec (.pacerCorrection) s = .next t) (h : Q s) : Q t := by
  cases e
  repeat' with_reducible first
    | assumption | apply pacerCorrect_closed hP | intro _

theorem exec_linkDelayRequest_closed {ch} {t1} {s t : State} (e : exec (.linkDelayRequest ch t1) s = .next t) (h : Q s) : Q t := by
  cases e
  repeat' with_reducible first
    | assumption | apply probeRequest_closed hP | intro _

theorem exec_linkDelayResponse_closed {ch} {k} {t2} {t3} {t4} {s t : State} (e : exec (.linkDelayResponse ch k t2 t3 t4) s = .next t) (h : Q s) : Q t := by
  cases e
  repeat' with_reducible first
    | assumption | apply probeResponse_closed hP | intro _

theorem exec_linkDelayAnswer_closed {ch} {t2} {t3} {s t : State} (e : exec (.linkDelayAnswer ch t2 t3) s = .next t) (h : Q s) : Q t := by
  cases e
  repeat' with_reducible first
    | assumption | apply probeAnswer_closed hP | intro _

theorem exec_linkDelayTimeout_closed {ch} {k} {s t : State} (e : exec (.linkDelayTimeout ch k) s = .next t) (h : Q s) : Q t := by
  cases e
  repeat' with_reducible first
    | assumption | apply probeTimeout_closed hP | intro _

theorem exec_phyLinkChange_closed {ch} {up} {s t : State} (e : exec (.phyLinkChange ch up) s = .next t) (h : Q s) : Q t := by
  cases e
  repeat' with_reducible first
    | assumption | apply phyLink_closed hP | intro _

theorem exec_slotClaim_closed {iss} {arg} {s t : State} (e : exec (.slotClaim iss arg) s = .next t) (h : Q s) : Q t := by
  cases e
  repeat' with_reducible first
    | assumption | apply cmdSlotClaim_closed hP | intro _

theorem exec_slotRelease_closed {iss} {arg} {s t : State} (e : exec (.slotRelease iss arg) s = .next t) (h : Q s) : Q t := by
  cases e
  repeat' with_reducible first
    | assumption | apply cmdSlotRelease_closed hP | intro _

theorem exec_grdsClrCnt_closed {iss} {arg} {s t : State} (e : exec (.grdsClrCnt iss arg) s = .next t) (h : Q s) : Q t := by
  cases e
  repeat' with_reducible first
    | assumption | apply cmdGrdsClr_closed hP | intro _

theorem exec_grdChClrCnt_closed {ch} {iss} {arg} {s t : State} (e : exec (.grdChClrCnt ch iss arg) s = .next t) (h : Q s) : Q t := by
  cases e
  repeat' with_reducible first
    | assumption | apply cmdGrdClr_closed hP | intro _

theorem exec_grdmbClrCnt_closed {iss} {arg} {s t : State} (e : exec (.grdmbClrCnt iss arg) s = .next t) (h : Q s) : Q t := by
  cases e
  repeat' with_reducible first
    | assumption | apply cmdMbClr_closed hP | intro _

theorem exec_grdsEnable_closed {iss} {s t : State} (e : exec (.grdsEnable iss) s = .next t) (h : Q s) : Q t := by
  cases e
  repeat' with_reducible first
    | assumption | apply enableWrite_closed hP | intro _

theorem exec_pacerClrCnt_closed {iss} {arg} {s t : State} (e : exec (.pacerClrCnt iss arg) s = .next t) (h : Q s) : Q t := by
  cases e
  repeat' with_reducible first
    | assumption | apply cmdPacerClr_closed hP | intro _

theorem exec_timeMessage_closed {s t : State} (e : exec (.timeMessage) s = .next t) (h : Q s) : Q t := by
  cases e
  repeat' with_reducible first
    | assumption | apply timeMessage_closed hP | intro _

theorem exec_holdoverExpired_closed {s t : State} (e : exec (.holdoverExpired) s = .next t) (h : Q s) : Q t := by
  cases e
  repeat' with_reducible first
    | assumption | apply holdoverExpired_closed hP | intro _

theorem exec_timeSnap_closed {iss} {arg} {s t : State} (e : exec (.timeSnap iss arg) s = .next t) (h : Q s) : Q t := by
  cases e
  repeat' with_reducible first
    | assumption | apply cmdTimeSnap_closed hP | intro _

theorem exec_adjUnlock_closed {iss} {arg} {s t : State} (e : exec (.adjUnlock iss arg) s = .next t) (h : Q s) : Q t := by
  cases e
  repeat' with_reducible first
    | assumption | apply cmdAdjUnlock_closed hP | intro _

theorem exec_adjForce_closed {iss} {arg} {s t : State} (e : exec (.adjForce iss arg) s = .next t) (h : Q s) : Q t := by
  cases e
  repeat' with_reducible first
    | assumption | apply cmdAdjForce_closed hP | intro _

theorem exec_adjUnlockExpired_closed {s t : State} (e : exec (.adjUnlockExpired) s = .next t) (h : Q s) : Q t := by
  cases e
  repeat' with_reducible first
    | assumption | apply adjExpired_closed hP | intro _

theorem exec_timeClrCnt_closed {iss} {arg} {s t : State} (e : exec (.timeClrCnt iss arg) s = .next t) (h : Q s) : Q t := by
  cases e
  repeat' with_reducible first
    | assumption | apply cmdTimeClr_closed hP | intro _

theorem exec_compareFire_closed {ch} {pos} {s t : State} (e : exec (.compareFire ch pos) s = .next t) (h : Q s) : Q t := by
  cases e
  repeat' with_reducible first
    | assumption | apply compareFire_closed hP | intro _

theorem exec_tcapClrCnt_closed {iss} {arg} {s t : State} (e : exec (.tcapClrCnt iss arg) s = .next t) (h : Q s) : Q t := by
  cases e
  repeat' with_reducible first
    | assumption | apply cmdTcapClr_closed hP | intro _

theorem exec_canRxFrame_closed {ctl} {id} {brs} {esi} {dlc} {data} {stamp} {s t : State} (e : exec (.canRxFrame ctl id brs esi dlc data stamp) s = .next t) (h : Q s) : Q t := by
  cases e
  repeat' with_reducible first
    | assumption | apply canRx_closed hP | intro _

theorem exec_canTxAttemptEnd_closed {ctl} {how} {s t : State} (e : exec (.canTxAttemptEnd ctl how) s = .next t) (h : Q s) : Q t := by
  cases e
  repeat' with_reducible first
    | assumption | apply canAttempt_closed hP | intro _

theorem exec_canBusError_closed {ctl} {code} {dataPhase} {asTx} {heavy} {s t : State} (e : exec (.canBusError ctl code dataPhase asTx heavy) s = .next t) (h : Q s) : Q t := by
  cases e
  repeat' with_reducible first
    | assumption | apply canError_closed hP | intro _

theorem exec_canIntegrationDone_closed {ctl} {s t : State} (e : exec (.canIntegrationDone ctl) s = .next t) (h : Q s) : Q t := by
  cases e
  repeat' with_reducible first
    | assumption | apply canIntegrated_closed hP | intro _

theorem exec_canRecoveryDone_closed {ctl} {s t : State} (e : exec (.canRecoveryDone ctl) s = .next t) (h : Q s) : Q t := by
  cases e
  repeat' with_reducible first
    | assumption | apply canRecovered_closed hP | intro _

theorem exec_pop_closed {ctl} {iss} {arg} {s t : State} (e : exec (.pop ctl iss arg) s = .next t) (h : Q s) : Q t := by
  cases e
  repeat' with_reducible first
    | assumption | apply cmdPop_closed hP | intro _

theorem exec_tbLoad_closed {ctl} {iss} {arg} {s t : State} (e : exec (.tbLoad ctl iss arg) s = .next t) (h : Q s) : Q t := by
  cases e
  repeat' with_reducible first
    | assumption | apply cmdTbLoad_closed hP | intro _

theorem exec_txfPush_closed {ctl} {iss} {arg} {s t : State} (e : exec (.txfPush ctl iss arg) s = .next t) (h : Q s) : Q t := by
  cases e
  repeat' with_reducible first
    | assumption | apply cmdTxfPush_closed hP | intro _

theorem exec_tbAbort_closed {ctl} {iss} {arg} {s t : State} (e : exec (.tbAbort ctl iss arg) s = .next t) (h : Q s) : Q t := by
  cases e
  repeat' with_reducible first
    | assumption | apply cmdTbAbort_closed hP | intro _

theorem exec_txfAbortHead_closed {ctl} {iss} {arg} {s t : State} (e : exec (.txfAbortHead ctl iss arg) s = .next t) (h : Q s) : Q t := by
  cases e
  repeat' with_reducible first
    | assumption | apply cmdAbortHead_closed hP | intro _

theorem exec_txfFlush_closed {ctl} {iss} {arg} {s t : State} (e : exec (.txfFlush ctl iss arg) s = .next t) (h : Q s) : Q t := by
  cases e
  repeat' with_reducible first
    | assumption | apply cmdTxfFlush_closed hP | intro _

theorem exec_canRestart_closed {ctl} {iss} {arg} {s t : State} (e : exec (.canRestart ctl iss arg) s = .next t) (h : Q s) : Q t := by
  cases e
  repeat' with_reducible first
    | assumption | apply cmdCanRestart_closed hP | intro _

theorem exec_canClrCnt_closed {ctl} {iss} {arg} {s t : State} (e : exec (.canClrCnt ctl iss arg) s = .next t) (h : Q s) : Q t := by
  cases e
  repeat' with_reducible first
    | assumption | apply cmdCanClr_closed hP | intro _

theorem exec_rxfDataRead_closed {ctl} {s t : State} (e : exec (.rxfDataRead ctl) s = .next t) (h : Q s) : Q t := by
  cases e
  repeat' with_reducible first
    | assumption | apply rxfRead_closed hP | intro _

theorem exec_canBusIdle_closed {ctl} {s t : State} (e : exec (.canBusIdle ctl) s = .next t) (h : Q s) : Q t := by
  cases e
  repeat' with_reducible first
    | assumption | apply canIdle_closed hP | intro _

theorem exec_relayUnit_closed {port} {s t : State} (e : exec (.relayUnit port) s = .next t) (h : Q s) : Q t := by
  cases e
  repeat' with_reducible first
    | assumption | apply relayUnit_closed hP | intro _

theorem exec_relayTransferEnd_closed {port} {s t : State} (e : exec (.relayTransferEnd port) s = .next t) (h : Q s) : Q t := by
  cases e
  repeat' with_reducible first
    | assumption | apply relayTransferEnd_closed hP | intro _

theorem exec_relayBackoffEnd_closed {port} {s t : State} (e : exec (.relayBackoffEnd port) s = .next t) (h : Q s) : Q t := by
  cases e
  repeat' with_reducible first
    | assumption | apply relayBackoffEnd_closed hP | intro _

theorem exec_relayHoldExpired_closed {port} {s t : State} (e : exec (.relayHoldExpired port) s = .next t) (h : Q s) : Q t := by
  cases e
  repeat' with_reducible first
    | assumption | apply relayHoldExpired_closed hP | intro _

theorem exec_relayDatagram_closed {eth} {peer} {payload} {s t : State} (e : exec (.relayDatagram eth peer payload) s = .next t) (h : Q s) : Q t := by
  cases e
  repeat' with_reducible first
    | assumption | apply Closed.ite | apply relayDatagram_closed hP | apply State.bump_closed hP
    | intro _

theorem exec_relayOutboxTake_closed {host} {s t : State} (e : exec (.relayOutboxTake host) s = .next t) (h : Q s) : Q t := by
  cases e
  repeat' with_reducible first
    | assumption | apply relayOutbox_closed hP | intro _

theorem exec_relayClrCnt_closed {iss} {arg} {s t : State} (e : exec (.relayClrCnt iss arg) s = .next t) (h : Q s) : Q t := by
  cases e
  repeat' with_reducible first
    | assumption | apply cmdRelayClr_closed hP | intro _

theorem exec_flush_closed {iss} {arg} {s t : State} (e : exec (.flush iss arg) s = .next t) (h : Q s) : Q t := by
  cases e
  repeat' with_reducible first
    | assumption | apply cmdFlush_closed hP | intro _

theorem exec_relayEnable_closed {iss} {s t : State} (e : exec (.relayEnable iss) s = .next t) (h : Q s) : Q t := by
  cases e
  repeat' with_reducible first
    | assumption | apply enableWrite_closed hP | intro _

theorem exec_downstreamFrameRx_closed {g} {frame} {s t : State} (e : exec (.downstreamFrameRx g frame) s = .next t) (h : Q s) : Q t := by
  cases e
  repeat' with_reducible first
    | assumption | apply downRx_closed hP | intro _

theorem exec_failsafeEntry_closed {g} {powerOn} {s t : State} (e : exec (.failsafeEntry g powerOn) s = .next t) (h : Q s) : Q t := by
  cases e
  repeat' with_reducible first
    | assumption | apply failsafe_closed hP | intro _

theorem exec_bringupComplete_closed {g} {s t : State} (e : exec (.bringupComplete g) s = .next t) (h : Q s) : Q t := by
  cases e
  repeat' with_reducible first
    | assumption | apply bringupDone_closed hP | intro _

theorem exec_bringupTimeout_closed {g} {s t : State} (e : exec (.bringupTimeout g) s = .next t) (h : Q s) : Q t := by
  cases e
  repeat' with_reducible first
    | assumption | apply bringupLate_closed hP | intro _

theorem exec_fldEnable_closed {g} {iss} {s t : State} (e : exec (.fldEnable g iss) s = .next t) (h : Q s) : Q t := by
  cases e
  repeat' with_reducible first
    | assumption | apply enableWrite_closed hP | intro _

theorem exec_timedEvent_closed {g} {s t : State} (e : exec (.timedEvent g) s = .next t) (h : Q s) : Q t := by
  cases e
  repeat' with_reducible first
    | assumption | apply timedEvent_closed hP | intro _

theorem exec_safeOffAsserted_closed {g} {s t : State} (e : exec (.safeOffAsserted g) s = .next t) (h : Q s) : Q t := by
  cases e
  repeat' with_reducible first
    | assumption | apply safeOffSeen_closed hP | intro _

theorem exec_safeOffReleased_closed {g} {s t : State} (e : exec (.safeOffReleased g) s = .next t) (h : Q s) : Q t := by
  cases e
  repeat' with_reducible first
    | assumption | apply safeOffGone_closed hP | intro _

theorem exec_safeOffTimedRelease_closed {g} {s t : State} (e : exec (.safeOffTimedRelease g) s = .next t) (h : Q s) : Q t := by
  cases e
  repeat' with_reducible first
    | assumption | apply safeOffTimed_closed hP | intro _

theorem exec_cutTermAct_closed {g} {term} {s t : State} (e : exec (.cutTermAct g term) s = .next t) (h : Q s) : Q t := by
  cases e
  repeat' with_reducible first
    | assumption | apply cutAct_closed hP | intro _

theorem exec_cutHoldEnd_closed {g} {term} {s t : State} (e : exec (.cutHoldEnd g term) s = .next t) (h : Q s) : Q t := by
  cases e
  repeat' with_reducible first
    | assumption | apply cutRelease_closed hP | intro _

theorem exec_diEdgeAccept_closed {g} {ch} {pos} {s t : State} (e : exec (.diEdgeAccept g ch pos) s = .next t) (h : Q s) : Q t := by
  cases e
  repeat' with_reducible first
    | assumption | apply diAccept_closed hP | intro _

theorem exec_wettingEnd_closed {g} {ch} {s t : State} (e : exec (.wettingEnd g ch) s = .next t) (h : Q s) : Q t := by
  cases e
  repeat' with_reducible first
    | assumption | apply wettingEnd_closed hP | intro _

theorem exec_diOpenWire_closed {g} {ch} {open_} {s t : State} (e : exec (.diOpenWire g ch open_) s = .next t) (h : Q s) : Q t := by
  cases e
  repeat' with_reducible first
    | assumption | apply diOpenWire_closed hP | intro _

theorem exec_doOverload_closed {g} {ch} {s t : State} (e : exec (.doOverload g ch) s = .next t) (h : Q s) : Q t := by
  cases e
  repeat' with_reducible first
    | assumption | apply doOverload_closed hP | intro _

theorem exec_doOpenWireOn_closed {g} {ch} {open_} {s t : State} (e : exec (.doOpenWireOn g ch open_) s = .next t) (h : Q s) : Q t := by
  cases e
  repeat' with_reducible first
    | assumption | apply doOpenOn_closed hP | intro _

theorem exec_sboSwitchLimit_closed {g} {s t : State} (e : exec (.sboSwitchLimit g) s = .next t) (h : Q s) : Q t := by
  cases e
  repeat' with_reducible first
    | assumption | apply sboLimit_closed hP | intro _

theorem exec_thermalThreshold_closed {g} {kind} {ch} {rising} {s t : State} (e : exec (.thermalThreshold g kind ch rising) s = .next t) (h : Q s) : Q t := by
  cases e
  repeat' with_reducible first
    | assumption | apply thermal_closed hP | intro _

theorem exec_vfLow_closed {g} {low} {s t : State} (e : exec (.vfLow g low) s = .next t) (h : Q s) : Q t := by
  cases e
  repeat' with_reducible first
    | assumption | apply vfChange_closed hP | intro _

theorem exec_relink_closed {g} {iss} {arg} {s t : State} (e : exec (.relink g iss arg) s = .next t) (h : Q s) : Q t := by
  cases e
  repeat' with_reducible first
    | assumption | apply cmdRelink_closed hP | intro _

theorem exec_fldClrCnt_closed {g} {iss} {arg} {s t : State} (e : exec (.fldClrCnt g iss arg) s = .next t) (h : Q s) : Q t := by
  cases e
  repeat' with_reducible first
    | assumption | apply cmdFldClr_closed hP | intro _

theorem exec_fdgClrCnt_closed {g} {iss} {arg} {s t : State} (e : exec (.fdgClrCnt g iss arg) s = .next t) (h : Q s) : Q t := by
  cases e
  repeat' with_reducible first
    | assumption | apply cmdFdgClr_closed hP | intro _

theorem exec_diComparatorEdge_closed {g} {ch} {level} {pos} {s t : State} (e : exec (.diComparatorEdge g ch level pos) s = .next t) (h : Q s) : Q t := by
  cases e
  repeat' with_reducible first
    | assumption | apply comparator_closed hP | intro _

theorem exec_sboOvercurrent_closed {g} {s t : State} (e : exec (.sboOvercurrent g) s = .next t) (h : Q s) : Q t := by
  cases e
  repeat' with_reducible first
    | assumption | apply sboOver_closed hP | intro _

theorem exec_doOpenWireOff_closed {g} {ch} {open_} {s t : State} (e : exec (.doOpenWireOff g ch open_) s = .next t) (h : Q s) : Q t := by
  cases e
  repeat' with_reducible first
    | assumption | apply doOpenOff_closed hP | intro _

theorem exec_aiConversionEnd_closed {g} {n} {code} {s t : State} (e : exec (.aiConversionEnd g n code) s = .next t) (h : Q s) : Q t := by
  cases e
  repeat' with_reducible first
    | assumption | apply conversionEnd_closed hP | intro _

theorem exec_shuntOpen_closed {g} {n} {s t : State} (e : exec (.shuntOpen g n) s = .next t) (h : Q s) : Q t := by
  cases e
  repeat' with_reducible first
    | assumption | apply shuntOpens_closed hP | intro _

theorem exec_shuntReclose_closed {g} {n} {fallen} {s t : State} (e : exec (.shuntReclose g n fallen) s = .next t) (h : Q s) : Q t := by
  cases e
  repeat' with_reducible first
    | assumption | apply shuntCloses_closed hP | intro _

theorem exec_fiEdge_closed {g} {rising} {ns} {s t : State} (e : exec (.fiEdge g rising ns) s = .next t) (h : Q s) : Q t := by
  cases e
  repeat' with_reducible first
    | assumption | apply fiEdge_closed hP | intro _

theorem exec_fiStandstill_closed {g} {s t : State} (e : exec (.fiStandstill g) s = .next t) (h : Q s) : Q t := by
  cases e
  repeat' with_reducible first
    | assumption | apply fiStand_closed hP | intro _

theorem exec_measaClrCnt_closed {iss} {arg} {s t : State} (e : exec (.measaClrCnt iss arg) s = .next t) (h : Q s) : Q t := by
  cases e
  repeat' with_reducible first
    | assumption | apply cmdMeasaClr_closed hP | intro _

theorem exec_measfClrCnt_closed {iss} {arg} {s t : State} (e : exec (.measfClrCnt iss arg) s = .next t) (h : Q s) : Q t := by
  cases e
  repeat' with_reducible first
    | assumption | apply cmdMeasfClr_closed hP | intro _

theorem exec_fiOpenShort_closed {g} {open_} {short} {s t : State} (e : exec (.fiOpenShort g open_ short) s = .next t) (h : Q s) : Q t := by
  cases e
  repeat' with_reducible first
    | assumption | apply fiOpenShort_closed hP | intro _

theorem exec_discrepancyTimeout_closed {pair} {s t : State} (e : exec (.discrepancyTimeout pair) s = .next t) (h : Q s) : Q t := by
  cases e
  repeat' with_reducible first
    | assumption | apply pairFault_closed hP | intro _

theorem exec_safeMsgTimeout_closed {conn} {s t : State} (e : exec (.safeMsgTimeout conn) s = .next t) (h : Q s) : Q t := by
  cases e
  repeat' with_reducible first
    | assumption | apply smsgTimeout_closed hP | intro _

theorem exec_resetArm_closed {iss} {arg} {s t : State} (e : exec (.resetArm iss arg) s = .next t) (h : Q s) : Q t := by
  cases e
  repeat' with_reducible first
    | assumption | apply cmdResetArm_closed hP | intro _

theorem exec_resetConfirm_closed {iss} {arg} {s t : State} (e : exec (.resetConfirm iss arg) s = .next t) (h : Q s) : Q t := by
  cases e
  repeat' with_reducible first
    | assumption | apply cmdResetConfirm_closed hP | intro _

theorem exec_resetArmExpired_closed {s t : State} (e : exec (.resetArmExpired) s = .next t) (h : Q s) : Q t := by
  cases e
  repeat' with_reducible first
    | assumption | apply armExpired_closed hP | intro _

theorem exec_resetWaitExpired_closed {grp} {s t : State} (e : exec (.resetWaitExpired grp) s = .next t) (h : Q s) : Q t := by
  cases e
  repeat' with_reducible first
    | assumption | apply waitExpired_closed hP | intro _

theorem exec_safeClrCnt_closed {iss} {arg} {s t : State} (e : exec (.safeClrCnt iss arg) s = .next t) (h : Q s) : Q t := by
  cases e
  repeat' with_reducible first
    | assumption | apply cmdSafeClr_closed hP | intro _

theorem exec_switchTest_closed {iss} {arg} {s t : State} (e : exec (.switchTest iss arg) s = .next t) (h : Q s) : Q t := by
  cases e
  repeat' with_reducible first
    | assumption | apply cmdSwitchTest_closed hP | intro _

theorem exec_switchTestDue_closed {sbo} {s t : State} (e : exec (.switchTestDue sbo) s = .next t) (h : Q s) : Q t := by
  cases e
  repeat' with_reducible first
    | assumption | apply testDueNow_closed hP | intro _

theorem exec_switchTestStepEnd_closed {sbo} {s t : State} (e : exec (.switchTestStepEnd sbo) s = .next t) (h : Q s) : Q t := by
  cases e
  repeat' with_reducible first
    | assumption | apply testStepEnd_closed hP | intro _

theorem exec_switchTestRetry_closed {sbo} {s t : State} (e : exec (.switchTestRetry sbo) s = .next t) (h : Q s) : Q t := by
  cases e
  repeat' with_reducible first
    | assumption | apply testRetry_closed hP | intro _

theorem exec_switchTestOverdue_closed {sbo} {s t : State} (e : exec (.switchTestOverdue sbo) s = .next t) (h : Q s) : Q t := by
  cases e
  repeat' with_reducible first
    | assumption | apply testOverdue_closed hP | intro _

theorem exec_brakeTest_closed {iss} {arg} {s t : State} (e : exec (.brakeTest iss arg) s = .next t) (h : Q s) : Q t := by
  cases e
  repeat' with_reducible first
    | assumption | apply cmdBrakeTest_closed hP | intro _

theorem exec_brakeTestStepEnd_closed {sbo} {s t : State} (e : exec (.brakeTestStepEnd sbo) s = .next t) (h : Q s) : Q t := by
  cases e
  repeat' with_reducible first
    | assumption | apply brakeStepEnd_closed hP | intro _

theorem exec_readbackMismatch_closed {sbo} {s t : State} (e : exec (.readbackMismatch sbo) s = .next t) (h : Q s) : Q t := by
  cases e
  repeat' with_reducible first
    | assumption | apply readbackMismatch_closed hP | intro _

theorem exec_sboClrCnt_closed {iss} {arg} {s t : State} (e : exec (.sboClrCnt iss arg) s = .next t) (h : Q s) : Q t := by
  cases e
  repeat' with_reducible first
    | assumption | apply cmdSboClr_closed hP | intro _

theorem exec_discClrCnt_closed {iss} {arg} {s t : State} (e : exec (.discClrCnt iss arg) s = .next t) (h : Q s) : Q t := by
  cases e
  repeat' with_reducible first
    | assumption | apply cmdDiscClr_closed hP | intro _

theorem exec_smsgClrCnt_closed {iss} {arg} {s t : State} (e : exec (.smsgClrCnt iss arg) s = .next t) (h : Q s) : Q t := by
  cases e
  repeat' with_reducible first
    | assumption | apply cmdSmsgClr_closed hP | intro _

theorem exec_smsgEnable_closed {iss} {s t : State} (e : exec (.smsgEnable iss) s = .next t) (h : Q s) : Q t := by
  cases e
  repeat' with_reducible first
    | assumption | apply enableWrite_closed hP | intro _

theorem exec_lockoutStateMessage_closed {locked} {waiting} {seqs} {s t : State} (e : exec (.lockoutStateMessage locked waiting seqs) s = .next t) (h : Q s) : Q t := by
  cases e
  repeat' with_reducible first
    | assumption | apply lockoutMessage_closed hP | intro _

theorem exec_actInChange_closed {level} {s t : State} (e : exec (.actInChange level) s = .next t) (h : Q s) : Q t := by
  cases e
  repeat' with_reducible first
    | assumption | apply actInChange_closed hP | intro _

theorem exec_claimHoldExpired_closed {s t : State} (e : exec (.claimHoldExpired) s = .next t) (h : Q s) : Q t := by
  cases e
  repeat' with_reducible first
    | assumption | apply claimHoldEnds_closed hP | intro _

theorem exec_gateOpen_closed {s t : State} (e : exec (.gateOpen) s = .next t) (h : Q s) : Q t := by
  cases e
  repeat' with_reducible first
    | assumption | apply gateOpens_closed hP | intro _

theorem exec_claimWaitExpired_closed {s t : State} (e : exec (.claimWaitExpired) s = .next t) (h : Q s) : Q t := by
  cases e
  repeat' with_reducible first
    | assumption | apply claimWaitEnds_closed hP | intro _

theorem exec_mirrorWrite_closed {copy} {addr} {bytes} {s t : State} (e : exec (.mirrorWrite copy addr bytes) s = .next t) (h : Q s) : Q t := by
  cases e
  repeat' with_reducible first
    | assumption | apply mirrorWrite_closed hP | intro _

theorem exec_mirrorCopyEnd_closed {s t : State} (e : exec (.mirrorCopyEnd) s = .next t) (h : Q s) : Q t := by
  cases e
  repeat' with_reducible first
    | assumption | apply copyEnd_closed hP | intro _

theorem exec_heartbeat_closed {grador} {tick} {seqLo} {seqHi} {locked} {waiting} {s t : State} (e : exec (.heartbeat grador tick seqLo seqHi locked waiting) s = .next t) (h : Q s) : Q t := by
  cases e
  repeat' with_reducible first
    | assumption | apply heartbeat_closed hP | intro _

theorem exec_partnerSilent_closed {s t : State} (e : exec (.partnerSilent) s = .next t) (h : Q s) : Q t := by
  cases e
  repeat' with_reducible first
    | assumption | apply partnerSilent_closed hP | intro _

theorem exec_healthReportSend_closed {s t : State} (e : exec (.healthReportSend) s = .next t) (h : Q s) : Q t := by
  cases e
  repeat' with_reducible first
    | assumption | apply reportSend_closed hP | intro _

theorem exec_healthReport_closed {grador} {words} {s t : State} (e : exec (.healthReport grador words) s = .next t) (h : Q s) : Q t := by
  cases e
  repeat' with_reducible first
    | assumption | apply reportIn_closed hP | intro _

theorem exec_withdrawMessage_closed {cause} {seq} {s t : State} (e : exec (.withdrawMessage cause seq) s = .next t) (h : Q s) : Q t := by
  cases e
  repeat' with_reducible first
    | assumption | apply withdrawMessage_closed hP | intro _

theorem exec_standbyInjTest_closed {s t : State} (e : exec (.standbyInjTest) s = .next t) (h : Q s) : Q t := by
  cases e
  repeat' with_reducible first
    | assumption | apply standbyInj_closed hP | intro _

theorem exec_withdraw_closed {iss} {arg} {s t : State} (e : exec (.withdraw iss arg) s = .next t) (h : Q s) : Q t := by
  cases e
  repeat' with_reducible first
    | assumption | apply cmdWithdraw_closed hP | intro _

theorem exec_takeover_closed {iss} {arg} {s t : State} (e : exec (.takeover iss arg) s = .next t) (h : Q s) : Q t := by
  cases e
  repeat' with_reducible first
    | assumption | apply cmdTakeover_closed hP | intro _

theorem exec_resyncMirror_closed {iss} {arg} {s t : State} (e : exec (.resyncMirror iss arg) s = .next t) (h : Q s) : Q t := by
  cases e
  repeat' with_reducible first
    | assumption | apply cmdResyncMirror_closed hP | intro _

theorem exec_partClrCnt_closed {iss} {arg} {s t : State} (e : exec (.partClrCnt iss arg) s = .next t) (h : Q s) : Q t := by
  cases e
  repeat' with_reducible first
    | assumption | apply cmdPartClr_closed hP | intro _

theorem exec_healthClrCnt_closed {iss} {arg} {s t : State} (e : exec (.healthClrCnt iss arg) s = .next t) (h : Q s) : Q t := by
  cases e
  repeat' with_reducible first
    | assumption | apply cmdHealthClr_closed hP | intro _

theorem exec_partnerLinkChange_closed {up} {plv} {jfmt} {node} {slot} {s t : State} (e : exec (.partnerLinkChange up plv jfmt node slot) s = .next t) (h : Q s) : Q t := by
  cases e
  repeat' with_reducible first
    | assumption | apply linkChange_closed hP | intro _

theorem exec_pathDegraded_closed {s t : State} (e : exec (.pathDegraded) s = .next t) (h : Q s) : Q t := by
  cases e
  repeat' with_reducible first
    | assumption | apply pathDegraded_closed hP | intro _

theorem exec_partnerReportTimeout_closed {s t : State} (e : exec (.partnerReportTimeout) s = .next t) (h : Q s) : Q t := by
  cases e
  repeat' with_reducible first
    | assumption | apply reportTimeout_closed hP | intro _

theorem exec_mirrorCopyRequest_closed {s t : State} (e : exec (.mirrorCopyRequest) s = .next t) (h : Q s) : Q t := by
  cases e
  repeat' with_reducible first
    | assumption | apply startCopy_closed hP | intro _

theorem exec_bar2Write_closed {host} {off} {bytes} {s t : State} (e : exec (.bar2Write host off bytes) s = .next t) (h : Q s) : Q t := by
  cases e
  repeat' with_reducible first
    | assumption | apply bar2Write_closed hP | intro _

theorem exec_hostCommit_closed {host} {value} {s t : State} (e : exec (.hostCommit host value) s = .next t) (h : Q s) : Q t := by
  cases e
  repeat' with_reducible first
    | assumption | apply hostCommit_closed hP | intro _

theorem exec_irqRearm_closed {host} {s t : State} (e : exec (.irqRearm host) s = .next t) (h : Q s) : Q t := by
  cases e
  repeat' with_reducible first
    | assumption | apply irqRearm_closed hP | intro _

theorem exec_pcieLinkReset_closed {ep} {s t : State} (e : exec (.pcieLinkReset ep) s = .next t) (h : Q s) : Q t := by
  cases e
  repeat' with_reducible first
    | assumption | apply pcieLinkReset_closed hP | intro _

theorem exec_ethFrame_closed {port} {fcsOk} {bytes} {r} {s t : State} (e : exec (.ethFrame port fcsOk bytes r) s = .next t) (h : Q s) : Q t := by
  cases e
  repeat' with_reducible first
    | assumption | apply ethFrame_closed hP | intro _

theorem exec_hello_closed {m} {nonce} {s t : State} (e : exec (.hello m nonce) s = .next t) (h : Q s) : Q t := by
  cases e
  repeat' with_reducible first
    | assumption | apply shpCommand_closed hP | intro _

theorem exec_read_closed {m} {off} {count} {s t : State} (e : exec (.read m off count) s = .next t) (h : Q s) : Q t := by
  cases e
  repeat' with_reducible first
    | assumption | apply shpCommand_closed hP | intro _

theorem exec_write_closed {m} {pairs} {r} {s t : State} (e : exec (.write m pairs r) s = .next t) (h : Q s) : Q t := by
  cases e
  repeat' with_reducible first
    | assumption | apply shpCommand_closed hP | intro _

theorem exec_memRead_closed {m} {off} {len} {s t : State} (e : exec (.memRead m off len) s = .next t) (h : Q s) : Q t := by
  cases e
  repeat' with_reducible first
    | assumption | apply shpCommand_closed hP | intro _

theorem exec_memWrite_closed {m} {off} {len} {data} {s t : State} (e : exec (.memWrite m off len data) s = .next t) (h : Q s) : Q t := by
  cases e
  repeat' with_reducible first
    | assumption | apply shpCommand_closed hP | intro _

theorem exec_evtAck_closed {m} {s t : State} (e : exec (.evtAck m) s = .next t) (h : Q s) : Q t := by
  cases e
  repeat' with_reducible first
    | assumption | apply shpCommand_closed hP | intro _

theorem exec_close_closed {m} {s t : State} (e : exec (.close m) s = .next t) (h : Q s) : Q t := by
  cases e
  repeat' with_reducible first
    | assumption | apply shpCommand_closed hP | intro _

theorem exec_shpEvent_closed {sess} {s t : State} (e : exec (.shpEvent sess) s = .next t) (h : Q s) : Q t := by
  cases e
  repeat' with_reducible first
    | assumption | apply shpEvent_closed hP | intro _

theorem exec_shpEventRepeat_closed {sess} {s t : State} (e : exec (.shpEventRepeat sess) s = .next t) (h : Q s) : Q t := by
  cases e
  repeat' with_reducible first
    | assumption | apply shpEventRepeat_closed hP | intro _

theorem exec_sessionTimeout_closed {sess} {s t : State} (e : exec (.sessionTimeout sess) s = .next t) (h : Q s) : Q t := by
  cases e
  repeat' with_reducible first
    | assumption | apply sessionTimeout_closed hP | intro _

theorem exec_drop_closed {iss} {arg} {s t : State} (e : exec (.drop iss arg) s = .next t) (h : Q s) : Q t := by
  cases e
  repeat' with_reducible first
    | assumption | apply cmdDrop_closed hP | intro _

theorem exec_hostClrCnt_closed {iss} {arg} {s t : State} (e : exec (.hostClrCnt iss arg) s = .next t) (h : Q s) : Q t := by
  cases e
  repeat' with_reducible first
    | assumption | apply cmdHostClr_closed hP | intro _

theorem exec_pcieClrCnt_closed {iss} {arg} {s t : State} (e : exec (.pcieClrCnt iss arg) s = .next t) (h : Q s) : Q t := by
  cases e
  repeat' with_reducible first
    | assumption | apply cmdPcieClr_closed hP | intro _

theorem exec_shpClose_closed {iss} {arg} {s t : State} (e : exec (.shpClose iss arg) s = .next t) (h : Q s) : Q t := by
  cases e
  repeat' with_reducible first
    | assumption | apply cmdShpClose_closed hP | intro _

theorem exec_shpClrCnt_closed {iss} {arg} {s t : State} (e : exec (.shpClrCnt iss arg) s = .next t) (h : Q s) : Q t := by
  cases e
  repeat' with_reducible first
    | assumption | apply cmdShpClr_closed hP | intro _

theorem exec_ethClrCnt_closed {port} {iss} {arg} {s t : State} (e : exec (.ethClrCnt port iss arg) s = .next t) (h : Q s) : Q t := by
  cases e
  repeat' with_reducible first
    | assumption | apply cmdEthClr_closed hP | intro _

theorem exec_ethLinkChange_closed {port} {up} {s t : State} (e : exec (.ethLinkChange port up) s = .next t) (h : Q s) : Q t := by
  cases e
  repeat' with_reducible first
    | assumption | apply ethLink_closed hP | intro _

theorem exec_pcieLinkUp_closed {ep} {rate} {msi} {s t : State} (e : exec (.pcieLinkUp ep rate msi) s = .next t) (h : Q s) : Q t := by
  cases e
  repeat' with_reducible first
    | assumption | apply pcieLinkUp_closed hP | intro _

theorem exec_powerUp_closed {r} {s t : State} (e : exec (.powerUp r) s = .next t) (h : Q s) : Q t := by
  cases e
  repeat' with_reducible first
    | assumption | apply powerUp_closed hP | intro _

theorem exec_resetIn_closed {r} {s t : State} (e : exec (.resetIn r) s = .next t) (h : Q s) : Q t := by
  cases e
  repeat' with_reducible first
    | assumption | apply Closed.ite | apply restartNow_closed hP | intro _

theorem exec_bootRestart_closed {iss} {arg} {r} {s t : State} (e : exec (.bootRestart iss arg r) s = .next t) (h : Q s) : Q t := by
  cases e
  repeat' with_reducible first
    | assumption | apply cmdRestart_closed hP | intro _

theorem exec_bootClrCnt_closed {iss} {arg} {s t : State} (e : exec (.bootClrCnt iss arg) s = .next t) (h : Q s) : Q t := by
  cases e
  repeat' with_reducible first
    | assumption | apply cmdBootClr_closed hP | intro _

theorem exec_holdupCharged_closed {s t : State} (e : exec (.holdupCharged) s = .next t) (h : Q s) : Q t := by
  cases e
  repeat' with_reducible first
    | assumption | apply holdupCharged_closed hP | intro _

theorem exec_erase_closed {iss} {arg} {s t : State} (e : exec (.erase iss arg) s = .next t) (h : Q s) : Q t := by
  cases e
  repeat' with_reducible first
    | assumption | apply cmdErase_closed hP | intro _

theorem exec_chunk_closed {iss} {arg} {s t : State} (e : exec (.chunk iss arg) s = .next t) (h : Q s) : Q t := by
  cases e
  repeat' with_reducible first
    | assumption | apply cmdChunk_closed hP | intro _

theorem exec_install_closed {iss} {arg} {s t : State} (e : exec (.install iss arg) s = .next t) (h : Q s) : Q t := by
  cases e
  repeat' with_reducible first
    | assumption | apply cmdInstall_closed hP | intro _

theorem exec_updOperationEnd_closed {late} {bad} {us} {c} {s t : State} (e : exec (.updOperationEnd late bad us c) s = .next t) (h : Q s) : Q t := by
  cases e
  repeat' with_reducible first
    | assumption | apply operationEnd_closed hP | intro _

theorem exec_activate_closed {iss} {arg} {s t : State} (e : exec (.activate iss arg) s = .next t) (h : Q s) : Q t := by
  cases e
  repeat' with_reducible first
    | assumption | apply cmdActivate_closed hP | intro _

theorem exec_abandon_closed {iss} {arg} {s t : State} (e : exec (.abandon iss arg) s = .next t) (h : Q s) : Q t := by
  cases e
  repeat' with_reducible first
    | assumption | apply cmdAbandon_closed hP | intro _

theorem exec_updClrCnt_closed {iss} {arg} {s t : State} (e : exec (.updClrCnt iss arg) s = .next t) (h : Q s) : Q t := by
  cases e
  repeat' with_reducible first
    | assumption | apply cmdUpdClr_closed hP | intro _

theorem exec_healthConfirm_closed {iss} {value} {s t : State} (e : exec (.healthConfirm iss value) s = .next t) (h : Q s) : Q t := by
  cases e
  repeat' with_reducible first
    | assumption | apply regWrite_closed hP | intro _

theorem exec_trialWinExpired_closed {r} {s t : State} (e : exec (.trialWinExpired r) s = .next t) (h : Q s) : Q t := by
  cases e
  repeat' with_reducible first
    | assumption | apply trialWinEnds_closed hP | intro _

theorem exec_cryptClrCnt_closed {iss} {arg} {s t : State} (e : exec (.cryptClrCnt iss arg) s = .next t) (h : Q s) : Q t := by
  cases e
  repeat' with_reducible first
    | assumption | apply cmdCryptClr_closed hP | intro _

theorem exec_powerLoss_closed {s t : State} (e : exec (.powerLoss) s = .next t) (h : Q s) : Q t := by
  cases e
  repeat' with_reducible first
    | assumption | apply powerLoss_closed hP | intro _

theorem exec_operatingSecond_closed {ok} {s t : State} (e : exec (.operatingSecond ok) s = .next t) (h : Q s) : Q t := by
  cases e
  repeat' with_reducible first
    | assumption | apply operatingSecond_closed hP | intro _

theorem exec_openRecordWrite_closed {ok} {s t : State} (e : exec (.openRecordWrite ok) s = .next t) (h : Q s) : Q t := by
  cases e
  repeat' with_reducible first
    | assumption | apply openRecordWrite_closed hP | intro _

theorem exec_reportDrain_closed {s t : State} (e : exec (.reportDrain) s = .next t) (h : Q s) : Q t := by
  cases e
  repeat' with_reducible first
    | assumption | apply reportDrain_closed hP | intro _

theorem exec_archived_closed {iss} {arg} {s t : State} (e : exec (.archived iss arg) s = .next t) (h : Q s) : Q t := by
  cases e
  repeat' with_reducible first
    | assumption | apply cmdArchived_closed hP | intro _

theorem exec_clrSrc_closed {iss} {arg} {s t : State} (e : exec (.clrSrc iss arg) s = .next t) (h : Q s) : Q t := by
  cases e
  repeat' with_reducible first
    | assumption | apply cmdClrSrc_closed hP | intro _

theorem exec_recClrCnt_closed {iss} {arg} {s t : State} (e : exec (.recClrCnt iss arg) s = .next t) (h : Q s) : Q t := by
  cases e
  repeat' with_reducible first
    | assumption | apply cmdRecClr_closed hP | intro _

theorem exec_envSample_closed {vin} {vhold} {board} {junc} {s t : State} (e : exec (.envSample vin vhold board junc) s = .next t) (h : Q s) : Q t := by
  cases e
  repeat' with_reducible first
    | assumption | apply envSample_closed hP | intro _

theorem exec_envClrCnt_closed {iss} {arg} {s t : State} (e : exec (.envClrCnt iss arg) s = .next t) (h : Q s) : Q t := by
  cases e
  repeat' with_reducible first
    | assumption | apply cmdEnvClr_closed hP | intro _

/-- A command keeps every property that the primitive writes keep. -/
theorem exec_closed {c : Instr} {s t : State} (e : exec c s = .next t) (h : Q s) : Q t := by
  cases c with
  | sampleTick _ => exact exec_sampleTick_closed hP e h
  | strideBoundary => exact exec_strideBoundary_closed hP e h
  | vote _ _ _ _ => exact exec_vote_closed hP e h
  | resyncAutoStart _ => exact exec_resyncAutoStart_closed hP e h
  | clonePassEnd _ => exact exec_clonePassEnd_closed hP e h
  | resyncReserveCheck => exact exec_resyncReserveCheck_closed hP e h
  | finalPhaseEnd => exact exec_finalPhaseEnd_closed hP e h
  | exchangeDeadline _ _ _ _ => exact exec_exchangeDeadline_closed hP e h
  | sourceInvalid _ => exact exec_sourceInvalid_closed hP e h
  | rxEvent _ _ => exact exec_rxEvent_closed hP e h
  | clrOvr _ _ => exact exec_clrOvr_closed hP e h
  | clrLoad _ _ => exact exec_clrLoad_closed hP e h
  | starterSnap _ _ => exact exec_starterSnap_closed hP e h
  | injTest _ _ => exact exec_injTest_closed hP e h
  | injTestEnd _ => exact exec_injTestEnd_closed hP e h
  | injAgeExceeded => exact exec_injAgeExceeded_closed hP e h
  | pfcClrCnt _ _ => exact exec_pfcClrCnt_closed hP e h
  | resync _ _ _ => exact exec_resync_closed hP e h
  | fence _ _ _ => exact exec_fence_closed hP e h
  | laneClrCnt _ _ _ => exact exec_laneClrCnt_closed hP e h
  | xchgClrCnt _ _ => exact exec_xchgClrCnt_closed hP e h
  | clrMargin _ _ => exact exec_clrMargin_closed hP e h
  | cmdNop _ _ _ => exact exec_cmdNop_closed hP e h
  | claim _ _ _ => exact exec_claim_closed hP e h
  | release _ _ _ => exact exec_release_closed hP e h
  | take _ _ _ => exact exec_take_closed hP e h
  | clrErr _ _ _ => exact exec_clrErr_closed hP e h
  | registerWrite _ _ _ _ _ => exact exec_registerWrite_closed hP e h
  | highWordCommit _ _ _ => exact exec_highWordCommit_closed hP e h
  | functionReset _ _ _ => exact exec_functionReset_closed hP e h
  | paritySweep _ _ _ => exact exec_paritySweep_closed hP e h
  | eccWriteBack _ _ => exact exec_eccWriteBack_closed hP e h
  | scrubRead _ _ => exact exec_scrubRead_closed hP e h
  | scrubLate _ => exact exec_scrubLate_closed hP e h
  | march _ _ _ => exact exec_march_closed hP e h
  | marchEnd _ => exact exec_marchEnd_closed hP e h
  | memClrCnt _ _ _ => exact exec_memClrCnt_closed hP e h
  | atomAdd _ _ _ => exact exec_atomAdd_closed hP e h
  | atomSwap _ _ _ => exact exec_atomSwap_closed hP e h
  | load _ _ => exact exec_load_closed hP e h
  | loadDone => exact exec_loadDone_closed hP e h
  | start _ _ => exact exec_start_closed hP e h
  | stop _ _ => exact exec_stop_closed hP e h
  | admitImage _ _ => exact exec_admitImage_closed hP e h
  | unload _ _ => exact exec_unload_closed hP e h
  | execClrStat _ _ => exact exec_execClrStat_closed hP e h
  | hold _ _ => exact exec_hold_closed hP e h
  | stepCmd _ _ => exact exec_stepCmd_closed hP e h
  | continueCmd _ _ => exact exec_continueCmd_closed hP e h
  | clrForce _ _ => exact exec_clrForce_closed hP e h
  | debugClrStat _ _ => exact exec_debugClrStat_closed hP e h
  | forceEntryWrite _ _ _ _ => exact exec_forceEntryWrite_closed hP e h
  | nop => exact exec_nop_closed hP e h
  | mov _ _ => exact exec_mov_closed hP e h
  | ldi _ _ => exact exec_ldi_closed hP e h
  | ldih _ _ => exact exec_ldih_closed hP e h
  | getf _ => exact exec_getf_closed hP e h
  | setf _ => exact exec_setf_closed hP e h
  | clrq => exact exec_clrq_closed hP e h
  | ld _ _ _ _ _ => exact exec_ld_closed hP e h
  | st _ _ _ _ => exact exec_st_closed hP e h
  | ldx _ _ _ _ _ _ => exact exec_ldx_closed hP e h
  | stx _ _ _ _ _ _ => exact exec_stx_closed hP e h
  | add _ _ _ _ _ => exact exec_add_closed hP e h
  | sub _ _ _ _ _ => exact exec_sub_closed hP e h
  | mul _ _ _ _ _ => exact exec_mul_closed hP e h
  | div _ _ _ _ _ => exact exec_div_closed hP e h
  | mod _ _ _ _ => exact exec_mod_closed hP e h
  | neg _ _ _ _ => exact exec_neg_closed hP e h
  | abs _ _ _ _ => exact exec_abs_closed hP e h
  | min _ _ _ _ => exact exec_min_closed hP e h
  | max _ _ _ _ => exact exec_max_closed hP e h
  | addi _ _ _ => exact exec_addi_closed hP e h
  | and _ _ _ _ => exact exec_and_closed hP e h
  | or _ _ _ _ => exact exec_or_closed hP e h
  | xor _ _ _ _ => exact exec_xor_closed hP e h
  | not _ _ _ => exact exec_not_closed hP e h
  | shl _ _ _ _ => exact exec_shl_closed hP e h
  | shr _ _ _ _ => exact exec_shr_closed hP e h
  | sar _ _ _ _ => exact exec_sar_closed hP e h
  | rol _ _ _ _ => exact exec_rol_closed hP e h
  | ror _ _ _ _ => exact exec_ror_closed hP e h
  | cmp _ _ _ => exact exec_cmp_closed hP e h
  | setc _ _ => exact exec_setc_closed hP e h
  | cvt _ _ _ _ _ => exact exec_cvt_closed hP e h
  | br _ _ => exact exec_br_closed hP e h
  | jmp _ => exact exec_jmp_closed hP e h
  | loop _ _ _ => exact exec_loop_closed hP e h
  | call _ _ => exact exec_call_closed hP e h
  | ret => exact exec_ret_closed hP e h
  | trap _ => exact exec_trap_closed hP e h
  | ton _ => exact exec_ton_closed hP e h
  | tof _ => exact exec_tof_closed hP e h
  | tp _ => exact exec_tp_closed hP e h
  | rTrig _ => exact exec_rTrig_closed hP e h
  | fTrig _ => exact exec_fTrig_closed hP e h
  | ctu _ => exact exec_ctu_closed hP e h
  | ctd _ => exact exec_ctd_closed hP e h
  | ctud _ => exact exec_ctud_closed hP e h
  | sr _ => exact exec_sr_closed hP e h
  | rs _ => exact exec_rs_closed hP e h
  | hyst _ _ => exact exec_hyst_closed hP e h
  | ramp _ _ => exact exec_ramp_closed hP e h
  | lag _ _ => exact exec_lag_closed hP e h
  | limit _ _ _ _ => exact exec_limit_closed hP e h
  | sel _ _ _ => exact exec_sel_closed hP e h
  | mux _ _ _ => exact exec_mux_closed hP e h
  | mhdr _ _ => exact exec_mhdr_closed hP e h
  | mget _ _ _ _ _ _ => exact exec_mget_closed hP e h
  | mput _ _ _ _ _ => exact exec_mput_closed hP e h
  | mstat _ _ _ => exact exec_mstat_closed hP e h
  | batonCommit => exact exec_batonCommit_closed hP e h
  | sweepComplete => exact exec_sweepComplete_closed hP e h
  | batonStale => exact exec_batonStale_closed hP e h
  | pfail => exact exec_pfail_closed hP e h
  | pfailFlushEnd _ => exact exec_pfailFlushEnd_closed hP e h
  | restoreComplete _ => exact exec_restoreComplete_closed hP e h
  | stage _ _ => exact exec_stage_closed hP e h
  | stageDone => exact exec_stageDone_closed hP e h
  | arm _ _ => exact exec_arm_closed hP e h
  | disarm _ _ => exact exec_disarm_closed hP e h
  | cancel _ _ => exact exec_cancel_closed hP e h
  | confirm _ _ => exact exec_confirm_closed hP e h
  | revert _ _ => exact exec_revert_closed hP e h
  | swapClrStat _ _ => exact exec_swapClrStat_closed hP e h
  | trialLeftExpired => exact exec_trialLeftExpired_closed hP e h
  | revertDataLoaded => exact exec_revertDataLoaded_closed hP e h
  | batonClrCnt _ _ => exact exec_batonClrCnt_closed hP e h
  | discard _ _ => exact exec_discard_closed hP e h
  | cycleStart _ => exact exec_cycleStart_closed hP e h
  | claimTimeout _ => exact exec_claimTimeout_closed hP e h
  | txLatch => exact exec_txLatch_closed hP e h
  | txFrame _ _ _ _ => exact exec_txFrame_closed hP e h
  | gradorRxInstance _ _ _ => exact exec_gradorRxInstance_closed hP e h
  | coldStart => exact exec_coldStart_closed hP e h
  | csBackoffEnd => exact exec_csBackoffEnd_closed hP e h
  | coldRetry => exact exec_coldRetry_closed hP e h
  | pacerCorrection => exact exec_pacerCorrection_closed hP e h
  | linkDelayRequest _ _ => exact exec_linkDelayRequest_closed hP e h
  | linkDelayResponse _ _ _ _ _ => exact exec_linkDelayResponse_closed hP e h
  | linkDelayAnswer _ _ _ => exact exec_linkDelayAnswer_closed hP e h
  | linkDelayTimeout _ _ => exact exec_linkDelayTimeout_closed hP e h
  | phyLinkChange _ _ => exact exec_phyLinkChange_closed hP e h
  | slotClaim _ _ => exact exec_slotClaim_closed hP e h
  | slotRelease _ _ => exact exec_slotRelease_closed hP e h
  | grdsClrCnt _ _ => exact exec_grdsClrCnt_closed hP e h
  | grdChClrCnt _ _ _ => exact exec_grdChClrCnt_closed hP e h
  | grdmbClrCnt _ _ => exact exec_grdmbClrCnt_closed hP e h
  | grdsEnable _ => exact exec_grdsEnable_closed hP e h
  | pacerClrCnt _ _ => exact exec_pacerClrCnt_closed hP e h
  | timeMessage => exact exec_timeMessage_closed hP e h
  | holdoverExpired => exact exec_holdoverExpired_closed hP e h
  | timeSnap _ _ => exact exec_timeSnap_closed hP e h
  | adjUnlock _ _ => exact exec_adjUnlock_closed hP e h
  | adjForce _ _ => exact exec_adjForce_closed hP e h
  | adjUnlockExpired => exact exec_adjUnlockExpired_closed hP e h
  | timeClrCnt _ _ => exact exec_timeClrCnt_closed hP e h
  | compareFire _ _ => exact exec_compareFire_closed hP e h
  | tcapClrCnt _ _ => exact exec_tcapClrCnt_closed hP e h
  | canRxFrame _ _ _ _ _ _ _ => exact exec_canRxFrame_closed hP e h
  | canTxAttemptEnd _ _ => exact exec_canTxAttemptEnd_closed hP e h
  | canBusError _ _ _ _ _ => exact exec_canBusError_closed hP e h
  | canIntegrationDone _ => exact exec_canIntegrationDone_closed hP e h
  | canRecoveryDone _ => exact exec_canRecoveryDone_closed hP e h
  | pop _ _ _ => exact exec_pop_closed hP e h
  | tbLoad _ _ _ => exact exec_tbLoad_closed hP e h
  | txfPush _ _ _ => exact exec_txfPush_closed hP e h
  | tbAbort _ _ _ => exact exec_tbAbort_closed hP e h
  | txfAbortHead _ _ _ => exact exec_txfAbortHead_closed hP e h
  | txfFlush _ _ _ => exact exec_txfFlush_closed hP e h
  | canRestart _ _ _ => exact exec_canRestart_closed hP e h
  | canClrCnt _ _ _ => exact exec_canClrCnt_closed hP e h
  | rxfDataRead _ => exact exec_rxfDataRead_closed hP e h
  | canBusIdle _ => exact exec_canBusIdle_closed hP e h
  | relayUnit _ => exact exec_relayUnit_closed hP e h
  | relayTransferEnd _ => exact exec_relayTransferEnd_closed hP e h
  | relayBackoffEnd _ => exact exec_relayBackoffEnd_closed hP e h
  | relayHoldExpired _ => exact exec_relayHoldExpired_closed hP e h
  | relayDatagram _ _ _ => exact exec_relayDatagram_closed hP e h
  | relayOutboxTake _ => exact exec_relayOutboxTake_closed hP e h
  | relayClrCnt _ _ => exact exec_relayClrCnt_closed hP e h
  | flush _ _ => exact exec_flush_closed hP e h
  | relayEnable _ => exact exec_relayEnable_closed hP e h
  | downstreamFrameRx _ _ => exact exec_downstreamFrameRx_closed hP e h
  | failsafeEntry _ _ => exact exec_failsafeEntry_closed hP e h
  | bringupComplete _ => exact exec_bringupComplete_closed hP e h
  | bringupTimeout _ => exact exec_bringupTimeout_closed hP e h
  | fldEnable _ _ => exact exec_fldEnable_closed hP e h
  | timedEvent _ => exact exec_timedEvent_closed hP e h
  | safeOffAsserted _ => exact exec_safeOffAsserted_closed hP e h
  | safeOffReleased _ => exact exec_safeOffReleased_closed hP e h
  | safeOffTimedRelease _ => exact exec_safeOffTimedRelease_closed hP e h
  | cutTermAct _ _ => exact exec_cutTermAct_closed hP e h
  | cutHoldEnd _ _ => exact exec_cutHoldEnd_closed hP e h
  | diEdgeAccept _ _ _ => exact exec_diEdgeAccept_closed hP e h
  | wettingEnd _ _ => exact exec_wettingEnd_closed hP e h
  | diOpenWire _ _ _ => exact exec_diOpenWire_closed hP e h
  | doOverload _ _ => exact exec_doOverload_closed hP e h
  | doOpenWireOn _ _ _ => exact exec_doOpenWireOn_closed hP e h
  | sboSwitchLimit _ => exact exec_sboSwitchLimit_closed hP e h
  | thermalThreshold _ _ _ _ => exact exec_thermalThreshold_closed hP e h
  | vfLow _ _ => exact exec_vfLow_closed hP e h
  | relink _ _ _ => exact exec_relink_closed hP e h
  | fldClrCnt _ _ _ => exact exec_fldClrCnt_closed hP e h
  | fdgClrCnt _ _ _ => exact exec_fdgClrCnt_closed hP e h
  | diComparatorEdge _ _ _ _ => exact exec_diComparatorEdge_closed hP e h
  | sboOvercurrent _ => exact exec_sboOvercurrent_closed hP e h
  | doOpenWireOff _ _ _ => exact exec_doOpenWireOff_closed hP e h
  | aiConversionEnd _ _ _ => exact exec_aiConversionEnd_closed hP e h
  | shuntOpen _ _ => exact exec_shuntOpen_closed hP e h
  | shuntReclose _ _ _ => exact exec_shuntReclose_closed hP e h
  | fiEdge _ _ _ => exact exec_fiEdge_closed hP e h
  | fiStandstill _ => exact exec_fiStandstill_closed hP e h
  | measaClrCnt _ _ => exact exec_measaClrCnt_closed hP e h
  | measfClrCnt _ _ => exact exec_measfClrCnt_closed hP e h
  | fiOpenShort _ _ _ => exact exec_fiOpenShort_closed hP e h
  | discrepancyTimeout _ => exact exec_discrepancyTimeout_closed hP e h
  | safeMsgTimeout _ => exact exec_safeMsgTimeout_closed hP e h
  | resetArm _ _ => exact exec_resetArm_closed hP e h
  | resetConfirm _ _ => exact exec_resetConfirm_closed hP e h
  | resetArmExpired => exact exec_resetArmExpired_closed hP e h
  | resetWaitExpired _ => exact exec_resetWaitExpired_closed hP e h
  | safeClrCnt _ _ => exact exec_safeClrCnt_closed hP e h
  | switchTest _ _ => exact exec_switchTest_closed hP e h
  | switchTestDue _ => exact exec_switchTestDue_closed hP e h
  | switchTestStepEnd _ => exact exec_switchTestStepEnd_closed hP e h
  | switchTestRetry _ => exact exec_switchTestRetry_closed hP e h
  | switchTestOverdue _ => exact exec_switchTestOverdue_closed hP e h
  | brakeTest _ _ => exact exec_brakeTest_closed hP e h
  | brakeTestStepEnd _ => exact exec_brakeTestStepEnd_closed hP e h
  | readbackMismatch _ => exact exec_readbackMismatch_closed hP e h
  | sboClrCnt _ _ => exact exec_sboClrCnt_closed hP e h
  | discClrCnt _ _ => exact exec_discClrCnt_closed hP e h
  | smsgClrCnt _ _ => exact exec_smsgClrCnt_closed hP e h
  | smsgEnable _ => exact exec_smsgEnable_closed hP e h
  | lockoutStateMessage _ _ _ => exact exec_lockoutStateMessage_closed hP e h
  | actInChange _ => exact exec_actInChange_closed hP e h
  | claimHoldExpired => exact exec_claimHoldExpired_closed hP e h
  | gateOpen => exact exec_gateOpen_closed hP e h
  | claimWaitExpired => exact exec_claimWaitExpired_closed hP e h
  | mirrorWrite _ _ _ => exact exec_mirrorWrite_closed hP e h
  | mirrorCopyEnd => exact exec_mirrorCopyEnd_closed hP e h
  | heartbeat _ _ _ _ _ _ => exact exec_heartbeat_closed hP e h
  | partnerSilent => exact exec_partnerSilent_closed hP e h
  | healthReportSend => exact exec_healthReportSend_closed hP e h
  | healthReport _ _ => exact exec_healthReport_closed hP e h
  | withdrawMessage _ _ => exact exec_withdrawMessage_closed hP e h
  | standbyInjTest => exact exec_standbyInjTest_closed hP e h
  | withdraw _ _ => exact exec_withdraw_closed hP e h
  | takeover _ _ => exact exec_takeover_closed hP e h
  | resyncMirror _ _ => exact exec_resyncMirror_closed hP e h
  | partClrCnt _ _ => exact exec_partClrCnt_closed hP e h
  | healthClrCnt _ _ => exact exec_healthClrCnt_closed hP e h
  | partnerLinkChange _ _ _ _ _ => exact exec_partnerLinkChange_closed hP e h
  | pathDegraded => exact exec_pathDegraded_closed hP e h
  | partnerReportTimeout => exact exec_partnerReportTimeout_closed hP e h
  | mirrorCopyRequest => exact exec_mirrorCopyRequest_closed hP e h
  | bar2Write _ _ _ => exact exec_bar2Write_closed hP e h
  | hostCommit _ _ => exact exec_hostCommit_closed hP e h
  | irqRearm _ => exact exec_irqRearm_closed hP e h
  | pcieLinkReset _ => exact exec_pcieLinkReset_closed hP e h
  | ethFrame _ _ _ _ => exact exec_ethFrame_closed hP e h
  | hello _ _ => exact exec_hello_closed hP e h
  | read _ _ _ => exact exec_read_closed hP e h
  | write _ _ _ => exact exec_write_closed hP e h
  | memRead _ _ _ => exact exec_memRead_closed hP e h
  | memWrite _ _ _ _ => exact exec_memWrite_closed hP e h
  | evtAck _ => exact exec_evtAck_closed hP e h
  | close _ => exact exec_close_closed hP e h
  | shpEvent _ => exact exec_shpEvent_closed hP e h
  | shpEventRepeat _ => exact exec_shpEventRepeat_closed hP e h
  | sessionTimeout _ => exact exec_sessionTimeout_closed hP e h
  | drop _ _ => exact exec_drop_closed hP e h
  | hostClrCnt _ _ => exact exec_hostClrCnt_closed hP e h
  | pcieClrCnt _ _ => exact exec_pcieClrCnt_closed hP e h
  | shpClose _ _ => exact exec_shpClose_closed hP e h
  | shpClrCnt _ _ => exact exec_shpClrCnt_closed hP e h
  | ethClrCnt _ _ _ => exact exec_ethClrCnt_closed hP e h
  | ethLinkChange _ _ => exact exec_ethLinkChange_closed hP e h
  | pcieLinkUp _ _ _ => exact exec_pcieLinkUp_closed hP e h
  | powerUp _ => exact exec_powerUp_closed hP e h
  | resetIn _ => exact exec_resetIn_closed hP e h
  | bootRestart _ _ _ => exact exec_bootRestart_closed hP e h
  | bootClrCnt _ _ => exact exec_bootClrCnt_closed hP e h
  | holdupCharged => exact exec_holdupCharged_closed hP e h
  | erase _ _ => exact exec_erase_closed hP e h
  | chunk _ _ => exact exec_chunk_closed hP e h
  | install _ _ => exact exec_install_closed hP e h
  | updOperationEnd _ _ _ _ => exact exec_updOperationEnd_closed hP e h
  | activate _ _ => exact exec_activate_closed hP e h
  | abandon _ _ => exact exec_abandon_closed hP e h
  | updClrCnt _ _ => exact exec_updClrCnt_closed hP e h
  | healthConfirm _ _ => exact exec_healthConfirm_closed hP e h
  | trialWinExpired _ => exact exec_trialWinExpired_closed hP e h
  | cryptClrCnt _ _ => exact exec_cryptClrCnt_closed hP e h
  | powerLoss => exact exec_powerLoss_closed hP e h
  | operatingSecond _ => exact exec_operatingSecond_closed hP e h
  | openRecordWrite _ => exact exec_openRecordWrite_closed hP e h
  | reportDrain => exact exec_reportDrain_closed hP e h
  | archived _ _ => exact exec_archived_closed hP e h
  | clrSrc _ _ => exact exec_clrSrc_closed hP e h
  | recClrCnt _ _ => exact exec_recClrCnt_closed hP e h
  | envSample _ _ _ _ => exact exec_envSample_closed hP e h
  | envClrCnt _ _ => exact exec_envClrCnt_closed hP e h

end Sys2Proof.Machine
end

