-- ==== Sys2Proof/Laws/Moves.lean ====
section
/-!
SUPPORT. Steps that move nothing but registers: the relation, its composition, and the shared operations that are in it.
-/
set_option Elab.async false
set_option linter.all false
namespace Sys2Proof.Machine

variable {s t u : State}

/-- Nothing but registers, outputs sent, SHP events due, the rejected command shown and the time unit differ. -/
def State.sameBut (s t : State) : Prop :=
  t = { s with regs := t.regs, sent := t.sent, shp := t.shp, shown := t.shown, time := t.time }

theorem sameBut_refl : s.sameBut s := rfl

theorem sameBut_trans (h1 : s.sameBut t) (h2 : t.sameBut u) : s.sameBut u := by
  unfold State.sameBut at *; rw [h1] at h2; exact h2

theorem sameBut_setReg {a : Nat} {w : Word} (h : s.sameBut t) : s.sameBut (t.setReg a w) := sameBut_trans h rfl
theorem sameBut_setRegN {a v : Nat} (h : s.sameBut t) : s.sameBut (t.setRegN a v) := sameBut_trans h rfl
theorem sameBut_setF {a i j v : Nat} (h : s.sameBut t) : s.sameBut (t.setF a i j v) := sameBut_trans h rfl
theorem sameBut_setB {a i : Nat} {b : Bool} (h : s.sameBut t) : s.sameBut (t.setB a i b) := sameBut_trans h rfl
theorem sameBut_bump {a : Nat} (h : s.sameBut t) : s.sameBut (t.bump a) := sameBut_trans h rfl

theorem sameBut_setAll {l : List Nat} {w : Word} (h : s.sameBut t) : s.sameBut (t.setAll l w) := by
  unfold State.setAll
  induction l generalizing t with
  | nil => exact h
  | cons a l ih => exact ih (sameBut_setReg h)

theorem sameBut_clear {l : List Nat} (h : s.sameBut t) : s.sameBut (t.clear l) := sameBut_setAll h

theorem sameBut_msiCheck {b : State} (h : s.sameBut t) : s.sameBut (msiCheck b t) := by
  refine sameBut_trans h ?_
  obtain ⟨r, o, x, e, _⟩ := msiCheck_frame b t
  rw [e]; rfl

theorem sameBut_irqSet {p i : Nat} (h : s.sameBut t) : s.sameBut (irqSet p i t) := sameBut_msiCheck (sameBut_setB h)
theorem sameBut_finish {p k : Nat} (h : s.sameBut t) : s.sameBut (finish p k t) := sameBut_irqSet (sameBut_setF h)
theorem sameBut_answer {c : Call} {k : Nat} (h : s.sameBut t) : s.sameBut (answer c k t) := sameBut_trans h rfl

theorem sameBut_countAccess {i : Issuer} (h : s.sameBut t) : s.sameBut (countAccess i t) := by
  unfold countAccess; split
  · exact sameBut_bump h
  · exact h

theorem sameBut_commandAccess {c : Call} (h : s.sameBut t) : s.sameBut (commandAccess c t) := by
  rcases commandAccess_cases c t with e | ⟨_, e⟩
  · rw [e]; exact sameBut_countAccess h
  · rw [e]; exact sameBut_trans (sameBut_countAccess h) rfl

/-- A command that is executing has moved only registers and what its arrival moves. -/
theorem sameBut_started {c : Call} : s.sameBut (answer c cBusy (commandAccess c s)) :=
  sameBut_answer (sameBut_commandAccess sameBut_refl)

/-- An answer shows nothing else on other pages. -/
theorem shown_answer {c : Call} {k q : Nat} (h : q ≠ c.page) : mapGet (answer c k s).shown q = mapGet s.shown q := by
  unfold answer State.unshow mapGet
  congr 1
  show ((s.shown.filter fun e => !(e.1 == c.page)).find? fun e => e.1 == q) = s.shown.find? fun e => e.1 == q
  induction s.shown with
  | nil => rfl
  | cons e l ih =>
    by_cases hp : e.1 = c.page
    · have h1 : (e.1 == q) = false := by rw [hp]; exact beq_eq_false_iff_ne.2 (Ne.symm h)
      simp [List.filter_cons, hp, List.find?_cons, ih, Ne.symm h] at *
    · by_cases hq : e.1 = q
      · simp [List.filter_cons, hp, List.find?_cons, hq, h]
      · simp [List.filter_cons, hp, List.find?_cons, hq] at *
        exact ih

/-- A clearing command, accepted: its registers read 0, and it moved nothing else. -/
theorem quick_clear {c : Call} {chk : State → Option Nat} {ws : List Nat}
    (h : s.regsOk) (ha : s.accepts c) (hc : chk (commandAccess c s) = none)
    (hw : ∀ a ∈ ws, a ≠ pa c.page H.CMDSTAT ∧ a ≠ pa c.page H.IRQ_RAW ∧ a ≠ R.HOST_STAT ∧ a ≠ R.PCIE_STAT)
    (ht : R.TIME_STAT ∉ ws) :
    (quick c chk (fun s => s.clear ws) s).ended c.page ∧ (∀ a ∈ ws, (quick c chk (fun s => s.clear ws) s).reg a = 0) ∧
      s.movesOnly (quick c chk (fun s => s.clear ws) s) c.page ws := by
  rw [quick_accepts h ha hc]
  have h0 : (commandAccess c s).regsOk := regsOk_commandAccess h
  have h1 : (answer c cBusy (commandAccess c s)).regsOk := regsOk_answer h0
  have h2 := regsOk_clear (l := ws) h1
  obtain ⟨u1, u2, u3⟩ := unlockMoves_commandAccess (c := c) h
  have hstat : (finish c.page cDone ((answer c cBusy (commandAccess c s)).clear ws)).reg R.TIME_STAT
      = (commandAccess c s).reg R.TIME_STAT := by
    rw [reg_finish h2 (by unfold pa R.TIME_STAT H.CMDSTAT; omega) (by unfold pa R.TIME_STAT H.IRQ_RAW; omega) (by decide) (by decide),
      reg_clear_ne h1 ht, reg_answer h0 (by unfold pa R.TIME_STAT H.CMDSTAT; omega)]
  refine ⟨⟨code_finish h2, raw_finish h2⟩, ?_, sameBut_finish (sameBut_clear sameBut_started), ?_, ⟨?_, ?_, ?_⟩, ?_⟩
  · intro a m
    obtain ⟨x1, x2, x3, x4⟩ := hw a m
    rw [reg_finish h2 x1 x2 x3 x4, reg_clear_mem h1 m]
  · intro q hq
    rw [finish_shown, State.clear_shown, shown_answer hq, commandAccess_shown]
  · rw [finish_time, State.clear_time, answer_time]; exact u1
  · intro i hi
    rw [show (finish c.page cDone ((answer c cBusy (commandAccess c s)).clear ws)).regB R.TIME_STAT i
      = (commandAccess c s).regB R.TIME_STAT i by unfold State.regB; rw [hstat]]
    exact u2 i hi
  · intro hn
    rw [finish_time, State.clear_time, answer_time, hstat]; exact u3 hn
  · intro a hca hts hn
    simp only [courseReg, not_or, not_and] at hca
    obtain ⟨x1, x2, x3, x4, x5⟩ := hca
    rw [reg_finish h2 x1 x2 x3 x4, reg_clear_ne h1 hn, reg_answer h0 x1, reg_commandAccess h (by omega) hts]

end Sys2Proof.Machine
end

