-- ==== Sys2Proof/WellFormed.lean ====
section
/-!
DEFINITION. Well-formed commands: what the operands of a command obey beyond their types, because of the format of the
instruction, frame, message or record they stand for. `exec` gives every command its meaning; these checks say which
terms a sender, a link or a program image can produce.
-/
namespace Sys2Proof

/-- No element occurs twice. -/
def noDup {α : Type} [DecidableEq α] : List α → Bool
  | [] => true
  | x :: xs => !xs.contains x && noDup xs

/-- A bad copy failed at one of the delay stages of its lane's path: 0 to 4 for A, 0 to 2 for B, 0 for C (R92, R93). -/
def LaneCopy.wf (last : Nat) (c : LaneCopy) : Bool := match c.bad with | some k => decide (k ≤ last) | none => true

/-- Reports of some of the 686 cases, one each (R106). -/
def InjReport.wf (r : InjReport) : Bool := (r.odd.all fun x => decide (x.1 < 686)) && noDup (r.odd.map (·.1))

/-- 64-bit words of a memory: the lane SRAMs of 8 MiB and the comms RAM of 2 MiB (R122, R124). -/
def memWords (m : Fin 4) : Nat := if m.val = 3 then 2 ^ 18 else 2 ^ 20

/-- A march failure lies in a memory (R139). -/
def MarchFail.wf (f : MarchFail) : Bool :=
  decide (f.mem < 4) && decide (f.addr < 8 * (if f.mem = 3 then 2 ^ 18 else 2 ^ 20)) && f.addr % 8 == 0

/-- A boot meets failures in memories, one test report, and one verdict for each of the six slots (R470, R472). -/
def BootReport.wf (r : BootReport) : Bool :=
  r.march.all MarchFail.wf && r.inj.wf && decide (r.slots.length = 6) && decide (r.us.length ≤ 8)

/-- A record that a lane sends has 32 words (R110). -/
def recordWf (o : Option (List Word)) : Bool := match o with | some ws => decide (ws.length = 32) | none => true

/-- MGET and MPUT copy to and from I or L only, 1 to 4,096 bytes (R186). -/
def copySpace (sp : ZSpace) : Bool := match sp with | .i | .l => true | .g | .k | .m => false
def copyLen (len : BitVec 13) : Bool := decide (1 ≤ len.toNat ∧ len.toNat ≤ 4096)

/-- A frame runs from its destination address to its FCS: 60 bytes at least and 4 of FCS, 1,518 at most. -/
def Heard.wf (h : Heard) : Bool := match h with
  | .silent | .energy => true
  | .frame bs _ _ => decide (bs.length ≤ 1518)

/-- Data bytes that a DLC stands for (R309). -/
def dlcLen (fd : Bool) (dlc : Fin 16) : Nat :=
  if dlc.val ≤ 8 then dlc.val else if !fd then 8 else [12, 16, 20, 24, 32, 48, 64].getD (dlc.val - 9) 64

/-- FDF excludes RTR, BRS and ESI need FDF, a base identifier has 11 bits, and the data are those of the DLC (R309). -/
def canFrameWf (id : Word) (brs esi : Bool) (dlc : Fin 16) (data : List (BitVec 8)) : Bool :=
  let fdf := id.getLsbD 31
  let rtr := id.getLsbD 30
  !(fdf && rtr) && (!(brs || esi) || fdf) && (id.getLsbD 29 || id.toNat / 2 ^ 11 % 2 ^ 18 == 0)
    && decide (data.length = if rtr then 0 else dlcLen fdf dlc)

/-- The largest UDP payload of an Ethernet frame, and the largest SHP body (R453). -/
abbrev maxUdp : Nat := 1472
abbrev maxBody : Nat := 1408

/-- The tag of an SHP message has 32 bytes (R453). -/
def ShpHead.wf (m : ShpHead) : Bool := decide (m.tag.length = 32)

/-- A disturbed word lies in its memory (R122, R124, R242, R325, R420). -/
def Strike.wf (x : Strike) : Bool :=
  decide (x.word < if x.mem < 3 then 2 ^ 20 else if x.mem = 3 then 2 ^ 18 else if x.mem = 6 then 2 ^ 10 else 2 ^ 13)

/-- The operands obey their formats. -/
def Instr.wf (i : Instr) : Bool :=
  match i with
  | .sampleTick faults => faults.strikes.all Strike.wf
  | .strideBoundary .. => true
  | .vote a b c _ => a.wf 4 && b.wf 2 && c.wf 0
  | .resyncAutoStart .. => true
  | .clonePassEnd .. => true
  | .resyncReserveCheck .. => true
  | .finalPhaseEnd .. => true
  | .exchangeDeadline recs bad late _ => decide (recs.length = 3) && recs.all recordWf && noDup bad && noDup late
  | .sourceInvalid .. => true
  | .rxEvent .. => true
  | .clrOvr .. => true
  | .clrLoad .. => true
  | .starterSnap .. => true
  | .injTest .. => true
  | .injTestEnd rep => rep.wf
  | .injAgeExceeded .. => true
  | .pfcClrCnt .. => true
  | .resync .. => true
  | .fence .. => true
  | .laneClrCnt .. => true
  | .xchgClrCnt .. => true
  | .clrMargin .. => true
  | .cmdNop .. => true
  | .claim .. => true
  | .release .. => true
  | .take .. => true
  | .clrErr .. => true
  | .registerWrite _ _ size _ r => decide (1 ≤ size ∧ size ≤ 8) && r.wf
  | .highWordCommit .. => true
  | .functionReset .. => true
  | .paritySweep .. => true
  | .eccWriteBack mem w => decide (w < memWords mem)
  | .scrubRead .. => true
  | .scrubLate .. => true
  | .march .. => true
  | .marchEnd fails => fails.all MarchFail.wf
  | .memClrCnt .. => true
  | .atomAdd .. => true
  | .atomSwap .. => true
  | .load .. => true
  | .loadDone .. => true
  | .start .. => true
  | .stop .. => true
  | .admitImage .. => true
  | .unload .. => true
  | .execClrStat .. => true
  | .hold .. => true
  | .stepCmd .. => true
  | .continueCmd .. => true
  | .clrForce .. => true
  | .debugClrStat .. => true
  | .forceEntryWrite .. => true
  | .nop .. => true
  | .mov .. => true
  | .ldi .. => true
  | .ldih .. => true
  | .getf .. => true
  | .setf .. => true
  | .clrq .. => true
  | .ld .. => true
  | .st .. => true
  | .ldx _ _ _ _ _ count => decide (1 ≤ count.toNat)
  | .stx _ _ _ _ _ count => decide (1 ≤ count.toNat)
  | .add .. => true
  | .sub .. => true
  | .mul .. => true
  | .div .. => true
  | .mod .. => true
  | .neg .. => true
  | .abs .. => true
  | .min .. => true
  | .max .. => true
  | .addi .. => true
  | .and .. => true
  | .or .. => true
  | .xor .. => true
  | .not .. => true
  | .shl .. => true
  | .shr .. => true
  | .sar .. => true
  | .rol .. => true
  | .ror .. => true
  | .cmp .. => true
  | .setc .. => true
  | .cvt .. => true
  | .br .. => true
  | .jmp .. => true
  | .loop _ _ body => decide (1 ≤ body.toNat ∧ body.toNat < 262144)
  | .call _ off => off.toNat % 8 == 0
  | .ret .. => true
  | .trap code => decide (0x80 ≤ code.toNat)
  | .ton off => off.toNat % 8 == 0
  | .tof off => off.toNat % 8 == 0
  | .tp off => off.toNat % 8 == 0
  | .rTrig off => off.toNat % 8 == 0
  | .fTrig off => off.toNat % 8 == 0
  | .ctu off => off.toNat % 8 == 0
  | .ctd off => off.toNat % 8 == 0
  | .ctud off => off.toNat % 8 == 0
  | .sr off => off.toNat % 8 == 0
  | .rs off => off.toNat % 8 == 0
  | .hyst _ off => off.toNat % 8 == 0
  | .ramp _ off => off.toNat % 8 == 0
  | .lag _ off => off.toNat % 8 == 0
  | .limit .. => true
  | .sel .. => true
  | .mux .. => true
  | .mhdr d _ => decide (d.val ≤ 14)
  | .mget _ sp _ _ len _ => copySpace sp && copyLen len
  | .mput _ sp _ _ len => copySpace sp && copyLen len
  | .mstat .. => true
  | .batonCommit .. => true
  | .sweepComplete .. => true
  | .batonStale .. => true
  | .pfail .. => true
  | .pfailFlushEnd .. => true
  | .restoreComplete .. => true
  | .stage .. => true
  | .stageDone .. => true
  | .arm .. => true
  | .disarm .. => true
  | .cancel .. => true
  | .confirm .. => true
  | .revert .. => true
  | .swapClrStat .. => true
  | .trialLeftExpired .. => true
  | .revertDataLoaded .. => true
  | .batonClrCnt .. => true
  | .discard .. => true
  | .cycleStart .. => true
  | .claimTimeout .. => true
  | .txLatch .. => true
  | .txFrame .. => true
  | .gradorRxInstance _ _ heard => heard.wf
  | .coldStart .. => true
  | .csBackoffEnd .. => true
  | .coldRetry .. => true
  | .pacerCorrection .. => true
  | .linkDelayRequest .. => true
  | .linkDelayResponse .. => true
  | .linkDelayAnswer .. => true
  | .linkDelayTimeout .. => true
  | .phyLinkChange .. => true
  | .slotClaim .. => true
  | .slotRelease .. => true
  | .grdsClrCnt .. => true
  | .grdChClrCnt .. => true
  | .grdmbClrCnt .. => true
  | .grdsEnable .. => true
  | .pacerClrCnt .. => true
  | .timeMessage .. => true
  | .holdoverExpired .. => true
  | .timeSnap .. => true
  | .adjUnlock .. => true
  | .adjForce .. => true
  | .adjUnlockExpired .. => true
  | .timeClrCnt .. => true
  | .compareFire .. => true
  | .tcapClrCnt .. => true
  | .canRxFrame _ id brs esi dlc data _ => canFrameWf id brs esi dlc data
  | .canTxAttemptEnd .. => true
  | .canBusError .. => true
  | .canIntegrationDone .. => true
  | .canRecoveryDone .. => true
  | .pop .. => true
  | .tbLoad .. => true
  | .txfPush .. => true
  | .tbAbort .. => true
  | .txfAbortHead .. => true
  | .txfFlush .. => true
  | .canRestart .. => true
  | .canClrCnt .. => true
  | .rxfDataRead .. => true
  | .canBusIdle .. => true
  | .relayUnit .. => true
  | .relayTransferEnd .. => true
  | .relayBackoffEnd .. => true
  | .relayHoldExpired .. => true
  | .relayDatagram _ _ pay => decide (pay.length ≤ maxUdp)
  | .relayOutboxTake .. => true
  | .relayClrCnt .. => true
  | .flush .. => true
  | .relayEnable .. => true
  | .downstreamFrameRx .. => true
  | .failsafeEntry .. => true
  | .bringupComplete .. => true
  | .bringupTimeout .. => true
  | .fldEnable .. => true
  | .timedEvent .. => true
  | .safeOffAsserted .. => true
  | .safeOffReleased .. => true
  | .safeOffTimedRelease .. => true
  | .cutTermAct .. => true
  | .cutHoldEnd .. => true
  | .diEdgeAccept .. => true
  | .wettingEnd .. => true
  | .diOpenWire .. => true
  | .doOverload .. => true
  | .doOpenWireOn .. => true
  | .sboSwitchLimit .. => true
  | .thermalThreshold .. => true
  | .vfLow .. => true
  | .relink .. => true
  | .fldClrCnt .. => true
  | .fdgClrCnt .. => true
  | .diComparatorEdge .. => true
  | .sboOvercurrent .. => true
  | .doOpenWireOff .. => true
  | .aiConversionEnd .. => true
  | .shuntOpen .. => true
  | .shuntReclose .. => true
  | .fiEdge .. => true
  | .fiStandstill .. => true
  | .measaClrCnt .. => true
  | .measfClrCnt .. => true
  | .fiOpenShort .. => true
  | .discrepancyTimeout .. => true
  | .safeMsgTimeout .. => true
  | .resetArm .. => true
  | .resetConfirm .. => true
  | .resetArmExpired .. => true
  | .resetWaitExpired .. => true
  | .safeClrCnt .. => true
  | .switchTest .. => true
  | .switchTestDue .. => true
  | .switchTestStepEnd .. => true
  | .switchTestRetry .. => true
  | .switchTestOverdue .. => true
  | .brakeTest .. => true
  | .brakeTestStepEnd .. => true
  | .readbackMismatch .. => true
  | .sboClrCnt .. => true
  | .discClrCnt .. => true
  | .smsgClrCnt .. => true
  | .smsgEnable .. => true
  | .lockoutStateMessage locked waiting seqs => decide (locked &&& waiting = 0) && noDup (seqs.map (·.1))
  | .actInChange .. => true
  | .claimHoldExpired .. => true
  | .gateOpen .. => true
  | .claimWaitExpired .. => true
  | .mirrorWrite _ addr bs => decide (addr.toNat + bs.length ≤ 2 ^ 24)
  | .mirrorCopyEnd .. => true
  | .heartbeat _ _ _ _ locked waiting => decide (locked &&& waiting = 0)
  | .partnerSilent .. => true
  | .healthReportSend .. => true
  | .healthReport _ ws => decide (ws.length = 16)
  | .withdrawMessage .. => true
  | .standbyInjTest .. => true
  | .withdraw .. => true
  | .takeover .. => true
  | .resyncMirror .. => true
  | .partClrCnt .. => true
  | .healthClrCnt .. => true
  | .partnerLinkChange .. => true
  | .pathDegraded .. => true
  | .partnerReportTimeout .. => true
  | .mirrorCopyRequest .. => true
  | .bar2Write _ off bs => decide (1 ≤ bs.length ∧ off.toNat + bs.length ≤ 2 ^ 23)
  | .hostCommit .. => true
  | .irqRearm .. => true
  | .pcieLinkReset .. => true
  | .ethFrame _ _ bs r => decide (14 ≤ bs.length ∧ bs.length ≤ 1514) && r.wf
  | .hello m nonce => m.wf && decide (nonce.length = 16)
  | .read m _ _ => m.wf
  | .write m pairs r => m.wf && decide (8 * pairs.length ≤ maxBody) && r.wf
  | .memRead m _ _ => m.wf
  | .memWrite m _ _ data => m.wf && decide (data.length + 8 ≤ maxBody)
  | .evtAck m => m.wf
  | .close m => m.wf
  | .shpEvent .. => true
  | .shpEventRepeat .. => true
  | .sessionTimeout .. => true
  | .drop .. => true
  | .hostClrCnt .. => true
  | .pcieClrCnt .. => true
  | .shpClose .. => true
  | .shpClrCnt .. => true
  | .ethClrCnt .. => true
  | .ethLinkChange .. => true
  | .pcieLinkUp .. => true
  | .powerUp r => r.wf
  | .resetIn r => r.wf
  | .bootRestart _ _ r => r.wf
  | .bootClrCnt .. => true
  | .holdupCharged .. => true
  | .erase .. => true
  | .chunk .. => true
  | .install .. => true
  | .updOperationEnd .. => true
  | .activate .. => true
  | .abandon .. => true
  | .updClrCnt .. => true
  | .healthConfirm .. => true
  | .trialWinExpired r => r.wf
  | .cryptClrCnt .. => true
  | .powerLoss .. => true
  | .operatingSecond .. => true
  | .openRecordWrite .. => true
  | .reportDrain .. => true
  | .archived .. => true
  | .clrSrc .. => true
  | .recClrCnt .. => true
  | .envSample .. => true
  | .envClrCnt .. => true

end Sys2Proof
end

