-- ==== Sys2Proof/Tests/Slice0.lean ====
section
/-!
SUPPORT. Tests of the model's own: ill-formed terms, single steps checked against the spec's words, and for every
statement with hypotheses a state and operands that meet them, clause by clause.
-/
set_option Elab.async false
set_option linter.all false
namespace Sys2Proof.Tests
open Sys2Proof Sys2Proof.Machine

/-- The state after reset with some registers set. -/
def st (rs : List (Nat × Nat)) : State := rs.foldl (fun s r => s.setRegN r.1 r.2) State.reset

/-! ### Hypotheses that states meet: the machine and its pages -/

theorem test_hyp_StepKeepsInv : ∃ s t : State, s.Inv ∧ s.pending = [.reportDrain] ∧ step s = .next t :=
  ⟨{ State.reset with pending := [.reportDrain] }, _, by unfold State.Inv; decide +kernel, rfl, rfl⟩

theorem test_hyp_IdleOnEmptyQueue : State.reset.pending = [] := rfl

theorem test_hyp_ExecKeepsQueue : ∃ t, exec .powerLoss State.reset = .next t := ⟨_, rfl⟩

theorem test_hyp_FusesOnlyRise : (∃ t, exec .powerLoss State.reset = .next t) ∧ bitOf State.reset.boot.fuse0 132 = true :=
  ⟨⟨_, rfl⟩, by decide +kernel⟩

/-- The state after reset with given fuses; without a debug lock. -/
def fused (f : BitVec 1024) : State := { State.reset with boot := { bootZero with fuse0 := f, fuse1 := f, fuse2 := f } }
def unlocked (s : State) : State :=
  let f := fusesAtProduction &&& ~~~(BitVec.ofNat 1024 (15 * 2 ^ 912))
  { s with boot := { s.boot with fuse0 := f, fuse1 := f, fuse2 := f } }

theorem test_hyp_HeaderCommandsDone :
    let e := st [(pa P.ENV H.OWNER, 3)]
    let f := fusesAtProduction
    let l := fused f
    State.reset.regsOk ∧ State.reset.pageOpen P.DEV ∧ l.regsOk ∧ l.populated 0xF3 = true ∧ l.busy 0xF3 = false ∧
      (fieldPage 0xF3 && l.variantN) = false ∧ l.debugLocked = true ∧ l.owner 0xF3 = 7 ∧
      State.reset.owner 0xFC = 7 ∧ isHost .h3 = true ∧ e.regsOk ∧ e.pageOpen P.ENV ∧
      e.owner P.ENV = issuerCode .h3 ∧ State.reset.mgmt = issuerCode .h0 ∧ e.mayWrite P.ENV .h3 = true := by
  unfold State.regsOk State.pageOpen; decide +kernel

theorem test_hyp_HeaderCommandsRefused :
    let s := st [(pa P.ENV H.OWNER, 1)]
    s.regsOk ∧ s.pageOpen P.ENV ∧ isHost .h0 = true ∧ s.owner P.ENV ≠ issuerCode .h0 ∧ s.owner P.ENV ≠ 7 ∧
      s.mgmt ≠ issuerCode .h3 ∧ s.owner P.DEV = 7 := by
  unfold State.regsOk State.pageOpen; decide +kernel

theorem test_hyp_ClearCommands :
    clearRow (.clrLoad .supervisor 0) = some (⟨P.STARTER, 0x11, .supervisor⟩, false,
      [R.STARTER_CYC_MAX, R.STARTER_EVT_DROP_CNT]) ∧
    (clearRow (.pfcClrCnt .supervisor 0)).map (fun x => x.2.1) = some true ∧ State.reset.regsOk ∧
    State.reset.accepts ⟨P.STARTER, 0x11, .supervisor⟩ ∧ State.reset.accepts ⟨P.PFC, 0x11, .supervisor⟩ ∧
    State.reset.halted = false := by
  unfold State.regsOk State.accepts; decide +kernel

theorem test_hyp_ClearingWithMore :
    let s := State.reset
    s.regsOk ∧ s.accepts ⟨P.STARTER, 0x10, .supervisor⟩ ∧ s.accepts ⟨P.XCHG, 0x11, .supervisor⟩ ∧ s.halted = false ∧
      s.accepts ⟨P.CAN + 7, 0x17, .supervisor⟩ ∧ s.accepts ⟨P.FDG + 3, 0x10, .supervisor⟩ ∧
      s.accepts ⟨P.ENV, 0x10, .supervisor⟩ ∧ s.accepts ⟨P.GRDMB, 0x10, .supervisor⟩ ∧
      s.accepts ⟨P.SMSG, 0x10, .supervisor⟩ ∧ s.accepts ⟨P.SAFE, 0x12, .supervisor⟩ ∧
      s.accepts ⟨P.DISC, 0x10, .supervisor⟩ ∧ s.accepts ⟨P.RELAY, 0x10, .supervisor⟩ ∧
      s.accepts ⟨P.MEM + 3, 0x11, .supervisor⟩ ∧ s.accepts ⟨P.REC, 0x11, .supervisor⟩ ∧ s.accepts ⟨P.REC, 0x12, .supervisor⟩ ∧
      s.accepts ⟨P.STARTER, 0x12, .supervisor⟩ ∧
      (st [(pa P.TIME H.OWNER, 0)]).accepts ⟨P.TIME, 0x13, .h0⟩ ∧ isHost .h0 = true := by
  unfold State.regsOk State.accepts; decide +kernel

/-! ### Voting, lanes and exchange -/

theorem test_hyp_MajorityOfGoodCopies : (0 : BitVec 224) ≠ 1 ∧ (0 : BitVec 224) = 0 := by decide

/-- A bundle that writes 0x11 to the first word of the comms RAM. -/
def bundleW : BitVec 112 := BitVec.ofNat 112 (2 ^ 111 + 255 * 2 ^ 96 + 0x11)

theorem test_hyp_VoteOfThree :
    let s := State.reset
    let g : LaneCopy := ⟨bundleW, none⟩
    let x : LaneCopy := ⟨0, none⟩
    let y : LaneCopy := ⟨1, none⟩
    s.Inv ∧ s.halted = false ∧ s.lanesIn = [0, 1, 2] ∧ g.bad = none ∧ x.bundle ≠ g.bundle ∧ x.bundle ≠ y.bundle ∧
      y.bundle ≠ g.bundle ∧ (⟨bundleW, some 4⟩ : LaneCopy).bad.isSome = true := by
  unfold State.Inv; decide +kernel

theorem test_hyp_VoterDisagreementHalts :
    State.reset.Inv ∧ State.reset.halted = false ∧ (2 ^ 111 : BitVec 112) ≠ 0 ∧ 2 ≤ State.reset.lanesIn.length ∧
      (State.reset.setB R.PFC_LANE_MAP 13 true).halted = true := by
  unfold State.Inv; decide +kernel

theorem test_hyp_VotedWriteReachesMemory :
    State.reset.Inv ∧ State.reset.lanesIn = [0, 1, 2] ∧ bitOf bundleW 111 = true ∧ bitOf bundleW 110 = false ∧
      fld bundleW 106 104 = 0 ∧ fld bundleW 103 96 = 255 ∧ fld bundleW 95 64 < 0x200000 := by
  unfold State.Inv; decide +kernel

/-- Lane 2 is out of service, or being cloned. -/
def fenced2 : State := State.reset.setF (laneA 2 R.LANE_STATE) 2 0 1
def cloning (k : Nat) : State :=
  { State.reset.setF (laneA 2 R.LANE_STATE) 2 0 k with
    voting := { State.reset.voting with clone := { State.reset.voting.clone with lane := some 2 } } }

theorem test_hyp_LaneIsRebuilt :
    let auto := fenced2.setB (laneA 2 R.LANE_CFG) 0 true
    fenced2.Inv ∧ fenced2.halted = false ∧ fenced2.rebuildable 2 ∧ fenced2.accepts ⟨P.LANE + 2, 0x10, .supervisor⟩ ∧
      auto.Inv ∧ auto.halted = false ∧ auto.rebuildable 2 ∧ bitOf (auto.cfgWord (laneA 2 R.LANE_CFG)) 0 = true ∧
      State.reset.Inv ∧ State.reset.halted = false ∧ State.reset.accepts ⟨P.LANE + 2, 0x11, .supervisor⟩ ∧
      State.reset.stopped = true ∧ State.reset.lanesIn.length = 3 := by
  unfold State.Inv State.accepts State.rebuildable; decide +kernel

theorem test_hyp_LaneIsRebuilt_clone :
    let on : State := { cloning 3 with starter := { (cloning 3).starter with running := true } }
    (cloning 2).Inv ∧ (cloning 2).halted = false ∧ (cloning 2).voting.clone.lane = some 2 ∧
      (cloning 2).voting.clone.armed = false ∧ (cloning 2).regF (laneA 2 R.LANE_STATE) 2 0 = 2 ∧
      (cloning 2).mems.upset = [] ∧ sourcesAgree (cloning 2).voting.clone (cloning 2) = true ∧
      dirtyCount (cloning 2).voting.clone ≤ finalL (cloning 2).cfgS ∧ (cloning 3).Inv ∧
      (cloning 3).halted = false ∧ (cloning 3).voting.clone.lane = some 2 ∧ (cloning 3).voting.clone.armed = false ∧
      (cloning 3).regF (laneA 2 R.LANE_STATE) 2 0 = 3 ∧ (cloning 3).mems.upset = [] ∧
      (cloning 3).starter.running = false ∧ on.Inv ∧ on.regF (laneA 2 R.LANE_STATE) 2 0 = 3 ∧
      on.starter.running = true := by
  unfold State.Inv; decide +kernel

/-- An injection test runs, as a command or not. -/
def injecting : State := answer ⟨P.PFC, 0x10, .supervisor⟩ cBusy (State.reset.setF R.PFC_INJ_STAT 1 0 3)

theorem test_hyp_InjectionTest :
    State.reset.regsOk ∧ State.reset.accepts ⟨P.PFC, 0x10, .supervisor⟩ ∧ State.reset.halted = false ∧
      State.reset.stopped = true ∧ State.reset.lanesIn.length = 3 ∧ State.reset.anyReleased = false ∧
      injFirstFail ⟨[]⟩ = none ∧ injFirstFail ⟨[(7, ⟨0, 0, 0, 0x7F, false⟩)]⟩ = some 7 ∧ injecting.regsOk ∧ injecting.regF R.PFC_INJ_STAT 1 0 = 3 ∧
      injecting.busyWith P.PFC 0x10 = true ∧
      let s := (State.reset.setRegN R.PFC_INJ_AGE_LIMIT 5).setRegN R.PFC_INJ_AGE_S 6
      s.regsOk ∧ (s.cfgWord R.PFC_INJ_AGE_LIMIT).toNat < s.regN R.PFC_INJ_AGE_S := by
  unfold State.regsOk State.accepts; decide +kernel

/-- A record of tick 0 with bit 4 of word 29 set and its CRC (R110). -/
def record0 : List Word :=
  let ws := (List.replicate 29 (0 : Word)) ++ [16, 0]
  ws ++ [BitVec.setWidth 32 (ws.foldl (fun c w => crc16Bits w 32 c) 0xFFFF#16)]

set_option maxRecDepth 20000 in
theorem test_hyp_ExchangeDecides :
    let s := st [(R.STARTER_TICK, 1)]
    s.Inv ∧ s.halted = false ∧ s.now ≠ 0 ∧ s.voting.decided ≠ some (s.now - 1) ∧ s.lanesIn = [0, 1, 2] ∧
      s.voting.counted = [0, 1, 2] ∧
      s.sources = [4] ∧ recordGood record0 (s.now - 1) = true ∧ bitOf (getAt 0 record0 29) 4 = true ∧
      ({ s with voting := { s.voting with decided := some 0 } } : State).voting.decided = some (s.now - 1) ∧
      (let u := (s.setF (R.XCHG_SRC_STAT + 16) 15 12 (s.regF R.XCHG_CFG 19 16))
       u.Inv ∧ u.pgState P.XCHG ≠ stFault ∧ u.regF R.XCHG_CFG 19 16 ≤ u.regF (R.XCHG_SRC_STAT + 16) 15 12 ∧
         u.regB (R.XCHG_SRC_STAT + 16) 9 = false ∧ u.sources.contains 4 = true) ∧
      (let u : State := { s with voting := { s.voting with oddRun := List.replicate 15 (s.regF R.XCHG_CFG 15 0) } }
       u.Inv ∧ u.lanesIn.length = 3 ∧ u.inService 2 = true ∧ u.pgState P.XCHG ≠ stFault ∧
         u.regF R.XCHG_CFG 15 0 ≤ getAt 0 u.voting.oddRun 14 ∧
         (u.setF (laneA 0 R.LANE_STATE) 2 0 1).lanesIn.length = 2 ∧
         (u.setF (laneA 0 R.LANE_STATE) 2 0 1).inService 2 = true) := by
  unfold State.Inv; decide +kernel

/-! ### Memories -/

theorem test_hyp_EccCorrection :
    let s := (st [(memA 3 R.MEM_STAT, 1), (memA 0 R.MEM_STAT, 1), (memA 3 R.MEM_SCRUB_POS, memWords 3 - 2)])
    s.regsOk ∧ s.regB (memA 3 R.MEM_STAT) 0 = true ∧ s.regN (memA 3 R.MEM_SCRUB_POS) + 1 < memWords 3 ∧
      s.eccHits 3 (8 * s.regN (memA 3 R.MEM_SCRUB_POS)) 8 = [] ∧ s.regB (memA 0 R.MEM_STAT) 0 = true ∧
      s.regN (memA 0 R.MEM_SCRUB_POS) + 1 < memWords 0 ∧ s.eccHits 0 (8 * s.regN (memA 0 R.MEM_SCRUB_POS)) 8 = [] ∧
      (let u : State := { s with mems := { s.mems with writeBack := [(3, memWords 3 - 1)] } }
       u.regsOk ∧ u.mems.writeBack.contains (3, memWords 3 - 1) = true) ∧
      (let u : State := { s.setRegN R.STARTER_TICK_HI 1 with
         mems := { s.mems with scrubStart := [0, 0, 0, 0] } }
       u.regsOk ∧ getAt 0 u.mems.scrubStart 3 + scrubPeriod 3 u < u.now ∧ 3 < u.mems.scrubStart.length) := by
  unfold State.regsOk; decide +kernel

theorem test_hyp_MarchTest :
    let s := State.reset.setF (laneA 2 R.LANE_STATE) 7 0 1
    let u : State := { s.setF (memA 1 R.MEM_MARCH_STAT) 1 0 3 with mems := { s.mems with march := some (1, 0, false, 0) } }
    s.regsOk ∧ s.accepts ⟨P.MEM + 2, 0x10, .supervisor⟩ ∧ marchGate 2 s = none ∧
      s.accepts ⟨P.MEMX, 0x10, .supervisor⟩ ∧ u.Inv ∧ u.mems.march = some (1, 0, false, 0) ∧
      u.regF (memA 1 R.MEM_MARCH_STAT) 1 0 = 3 := by
  unfold State.regsOk State.accepts State.Inv; decide +kernel

theorem test_hyp_HostAtomic :
    let s (w : Nat) := st [(R.MEMX_ATOM_ADDR, 8 * w), (R.MEMX_ATOM_OPND_LO, 1)]
    (s 0x38000).Inv ∧ (s 0x38000).accepts ⟨P.MEMX, 0x12, .supervisor⟩ ∧ (s 0x38000).regN R.MEMX_ATOM_ADDR = 8 * 0x38000 ∧
      (s 0x38000).pgState P.MEMX ≠ stFault ∧
      (s 0x3FFFF).accepts ⟨P.MEMX, 0x13, .supervisor⟩ ∧ (s 0x3FFFF).regN R.MEMX_ATOM_ADDR = 8 * 0x3FFFF ∧
      (s 0x3FFFF).pgState P.MEMX ≠ stFault ∧ (s 0x3FFFF).poisoned (8 * 0x3FFFF) 8 = false ∧
      (s 0x38000).poisoned (8 * 0x38000) 8 = false ∧
      State.reset.accepts ⟨P.MEM + 0, 0x12, .supervisor⟩ ∧ State.reset.accepts ⟨P.MEM + 2, 0x13, .supervisor⟩ := by
  unfold State.Inv State.accepts; decide +kernel

/-! ### Programs and debugging -/

theorem test_hyp_DebugCommands :
    let run := st [(R.EXEC_MODE, modeRun), (R.EXEC_CFG, 0xFFFFFFFF)]
    let hold := unlocked (st [(R.EXEC_MODE, modeHold), (R.EXEC_CFG, 0xFFFFFFFF)])
    run.regsOk ∧ run.halted = false ∧ run.accepts ⟨P.DEBUG, 0x10, .supervisor⟩ ∧ holdGate run = none ∧
      hold.regsOk ∧ hold.halted = false ∧ hold.accepts ⟨P.DEBUG, 0x11, .supervisor⟩ ∧ hold.mode = modeHold ∧
      hold.standby = false ∧ hold.accepts ⟨P.DEBUG, 0x12, .supervisor⟩ ∧ hold.accepts ⟨P.DEBUG, 0x13, .supervisor⟩ ∧
      hold.populated P.DEBUG = true ∧ hold.mayWrite P.DEBUG .supervisor = true ∧ hold.debugLocked = false ∧
      hold.mode ≠ modeNone ∧ hold.forceEn = true := by
  unfold State.regsOk State.accepts; decide +kernel

/-! ### Ticks, boundaries and registers -/

/-- Power is on and the module is released. -/
def powered (s : State) : State := { s with boot := { s.boot with powered := true } }

theorem test_hyp_TickCounts :
    (powered State.reset).Inv ∧ (powered State.reset).boot.powered = true ∧ State.reset.Inv ∧
      State.reset.boot.powered = false := by
  unfold State.Inv; decide +kernel

theorem test_hyp_TrainTimeReachesTheTick : 0 < State.reset.increment ∧ edgesToTick State.reset ≠ 0 := by decide +kernel

theorem test_hyp_BoundaryOpensStride :
    let s := powered ((State.reset.setF R.BOOT_STAT 3 0 1))
    let u : State := { s with starter := { s.starter with running := true, started := false } }
    u.Inv ∧ u.boundaryDue = true ∧ s.Inv ∧ s.boundaryDue = false := by
  unfold State.Inv; decide +kernel

theorem test_hyp_ProgramTimeAdvances : State.reset.regsOk := by unfold State.regsOk; decide +kernel

theorem test_hyp_RegisterWrites :
    let s := unlocked (st [(pa P.ENV H.OWNER, 1)])
    s.regsOk ∧ s.populated 0xFC = true ∧ s.mayWrite 0xFC .supervisor = true ∧
      (decide (0xF0 ≤ 0xFC) && s.debugLocked) = false ∧ s.populated 0xFD = false ∧ s.populated P.ENV = true ∧
      s.mayWrite P.ENV .h0 = false ∧ (fieldPage P.ENV && s.variantN) = false := by
  unfold State.regsOk; decide +kernel

theorem test_hyp_WideWritesCommitTogether :
    State.reset.regsOk ∧ State.reset.populated P.MEMX = true ∧ State.reset.mayWrite P.MEMX .supervisor = true ∧
      lowWords R.STARTER_TICK = [] := by
  unfold State.regsOk; decide +kernel

theorem test_hyp_FunctionResetOfPage :
    let s := State.reset
    s.regsOk ∧ s.populated P.TCAP = true ∧ resetPrecheck ⟨P.TCAP, 0xA5, .supervisor⟩ s = none ∧ s.busy P.TCAP = false ∧
      resetGate P.TCAP s = none ∧ resetWaits P.TCAP = true ∧ s.populated P.HEALTH = true ∧
      resetPrecheck ⟨P.HEALTH, 0xA5, .supervisor⟩ s = none ∧ s.busy P.HEALTH = false ∧ s.populated P.ENV = true ∧
      resetPrecheck ⟨P.ENV, 0xA5, .supervisor⟩ s = none ∧ s.busy P.ENV = false ∧ (0xA4 : Word) ≠ 0xA5 := by
  unfold State.regsOk; decide +kernel

theorem test_hyp_ParitySweepFaultsPage :
    State.reset.regsOk ∧ State.reset.populated P.ENV = true ∧ parityWord P.ENV (4 * (3 : BitVec 10).toNat) = true ∧
      (8 : BitVec 4) ≠ 0 ∧ State.reset.regB (pa P.ENV H.PARITY) 0 = false := by
  unfold State.regsOk; decide +kernel

theorem test_hyp_BusyPageKeepsCmdstat :
    let s := answer ⟨P.UPD, 0x10, .supervisor⟩ cBusy State.reset
    s.regsOk ∧ s.busy P.UPD = true ∧ s.populated P.UPD = true ∧ s.mayWrite P.UPD .supervisor = true ∧
      (fieldPage P.UPD && s.variantN) = false ∧ (decide (0xF0 ≤ P.UPD) && s.debugLocked) = false ∧
      fld (0x10 : Word) 7 0 = 0x10 ∧ P.UPD ∉ [P.BOOT, P.PART, P.SAFE, P.TIME] := by
  unfold State.regsOk; decide +kernel

/-! ### A small program image (R180, R181): one type, one instance, one task, two RETs -/

/-- Little-endian words. -/
def words (ws : List Nat) : List Byte := ws.flatMap (leBytes 4)

/-- The image with identity `id` (R180): header with its CRC, code, type, instance and task tables, instance data. -/
def image (id : Nat) : List Byte :=
  let head := words ([0x0043565A, 2, id, 0, 256, 320, 256, 8, 320, 0, 264, 1, 280, 1, 296, 1, 312, 0, 312, 8, 0, 3]
    ++ List.replicate 41 0)
  head ++ words [crc32 head] ++ words [ret, ret] ++ words [0, 4, 8, 0] ++ words [0, 0, 7, 0] ++ words [4, 8, 0, 0]
    ++ words [0, 7]
where
  /-- RET, as the opcode table of chapter 07 encodes it (R199). -/
  ret : Nat := 0x54000000

/-! ### Program commands -/

/-- A program is loaded from slot 4, whose container holds `image 1`; slot 5 holds `image 2`. -/
def loaded (mode : Nat) : State :=
  let s := st [(R.EXEC_MODE, mode), (slotA 4, slotConfirmed), (slotA 5, slotConfirmed)]
  { s with
    boot := { s.boot with flash := [[], [], [], [], image 1, image 2] },
    exec := { s.exec with prog := some (imageProgram (image 1)), admS := s.cfgS } }

def admitting (s : State) (k slot : Nat) : State := { s with exec := { s.exec with admitting := some (k, slot) } }

theorem test_hyp_ProgramCommands :
    (loaded modeStop).regsOk ∧ (loaded modeStop).halted = false ∧
      (loaded modeStop).accepts ⟨P.EXEC, 0x10, .supervisor⟩ ∧ loadGate 1 (loaded modeStop) = none ∧
      (loaded modeStop).accepts ⟨P.EXEC, 0x11, .supervisor⟩ ∧ startGate 1 (loaded modeStop) = none ∧
      (loaded modeStop).exec.admS = (loaded modeStop).cfgS ∧ startGate 1 ((loaded modeStop).setRegN R.STARTER_STRIDE_LEN 2000) = none ∧
      (loaded modeStop).exec.admS ≠ ((loaded modeStop).setRegN R.STARTER_STRIDE_LEN 2000).cfgS ∧
      (loaded modeRun).accepts ⟨P.EXEC, 0x12, .supervisor⟩ ∧ (loaded modeRun).active = true ∧
      (loaded modeRun).standby = false ∧ (loaded modeStop).accepts ⟨P.EXEC, 0x13, .supervisor⟩ ∧
      (loaded modeStop).mode = modeStop ∧ (loaded modeStop).accepts ⟨P.EXEC, 0x14, .supervisor⟩ ∧
      (admitting (loaded modeStop) 3 0).exec.admitting = some (3, 0) ∧
      (admitting (loaded modeStop) 1 5).exec.admitting = some (1, 5) := by
  unfold State.regsOk State.accepts; decide +kernel

set_option maxRecDepth 20000 in
theorem test_hyp_ProgramCommands_admission :
    ((loaded modeStop).admission (imageProgram (image 1)).image).reason = 0 ∧
      ((loaded modeStop).admission ((loaded modeStop).slotImage 5)).reason = 0 := by decide +kernel

theorem test_hyp_ProgramCommands_fails : ((loaded modeStop).admission (imageProgram []).image).reason ≠ 0 := by decide +kernel

/-! ### The Stride engines -/

/-- Version 2, one type of 16 bytes with its instance at offset 0, K of 16 bytes, a receive and a transmit block. -/
def prog1 : Program :=
  { version := 2, progId := 1, kSize := 16, msgSize := 64, declWcet := [], types := [⟨64, 96, 16, 0⟩],
    insts := [⟨0, 0, false, 7⟩], tasks := [⟨0, 64, 0, 0, 16⟩],
    binds := [⟨2, 0, P.HOST, 0, 0, 48⟩, ⟨3, 4095, P.HOST, 1, 0, 48⟩],
    code := [], consts := [], data := [], image := [] }

/-- The lanes run the task of `prog1` at its first instruction, with these words in W0 and W1 and these data. -/
def engine (w0 w1 : DWord) (stack : List Level) : Engine :=
  { engineZero with w := [w0, w1] ++ List.replicate 14 0, stack := stack }

/-- The level of the task body. -/
def taskLevel : Level := ⟨0, 0, 64, 0, 0, 96, 0, 16, false, []⟩

def running (w0 w1 : DWord) (stack : List Level) (sram : List Host.Cell) : State :=
  let s := st [(R.EXEC_MODE, modeRun)]
  let l : Lane := ⟨engine w0 w1 stack, sram⟩
  { s with lanes := [l, l, l], exec := { s.exec with prog := some prog1, running := true, due := [0] } }

/-- At a one-, two- and three-word instruction. -/
theorem test_at (n : Nat) (h : n = 1 ∨ n = 2 ∨ n = 3) : (running 0 0 [taskLevel] []).zAt prog1 n := by
  unfold State.zAt; rcases h with rfl | rfl | rfl <;> decide +kernel

theorem test_hyp_EngineMoves : (running 0 0 [taskLevel] []).zAt prog1 1 := test_at 1 (by decide)

theorem test_hyp_EngineArithmetic :
    (running 0 0 [taskLevel] []).zAt prog1 1 ∧ prog1.version = 2 ∧ tySat .int32 = true ∧ ZTy.int32 ≠ .bool ∧
      ZTy.real64 ≠ .bool ∧ ZTy.int64 ≠ .tod ∧ tyMod .int64 = true := ⟨test_at 1 (by decide), by decide⟩

theorem test_hyp_IntegerResults :
    isIntTy .int16 = true ∧ ZTy.lo .int16 ≤ (-32768 : Int) ∧ (32767 : Int) ≤ ZTy.hi .int16 ∧
      ZTy.hi .int16 < (32768 : Int) ∧ (-32769 : Int) < ZTy.lo .int16 ∧ ZTy.val .int16 0x8000 = ZTy.lo .int16 ∧
      ZTy.val .int16 0xFFFF = -1 ∧ ZTy.val .int16 0 = 0 ∧ 0 < ZTy.val .int16 1 := by decide +kernel

theorem test_hyp_EngineLogic :
    (running 0 0 [taskLevel] []).zAt prog1 1 ∧ tyLogic .bool = true ∧ isIntTy .int64 = true ∧
      ZTy.width .int16 ≤ 63 ∧ 0 < ZTy.width .int16 - 1 := ⟨test_at 1 (by decide), by decide⟩

theorem test_hyp_StatelessBlocks :
    (running 0 0 [taskLevel] []).zAt prog1 1 ∧ ZTy.real64 ≠ .bool ∧ prog1.version = 2 ∧
      (8 : ZReg).val + (7 : ZReg).val ≤ 15 ∧ 15 < (8 : ZReg).val + (8 : ZReg).val := ⟨test_at 1 (by decide), by decide⟩

theorem test_hyp_EngineLoadsAndStores :
    let s := running 0 1 [taskLevel] []
    s.zAt prog1 2 ∧ s.zAt prog1 3 ∧ (s.zctx prog1 s.lead).inSpace .l .int64 8 1 = true ∧
      (s.zctx prog1 s.lead).inSpace .g .bool 0x7FFF 1 = true ∧ gWritable 0x7FFF = false ∧
      (s.zctx prog1 s.lead).inSpace .i .int32 88 2 = true ∧
      (∀ l ∈ s.lanesIn, ((s.zctx prog1 l).w 1).toInt = ((1 : Nat) : Int)) ∧
      s.inService 2 = true ∧ s.lanesIn = [0, 1, 2] ∧
      (s.zctx prog1 2).spaceBase .l = (s.zctx prog1 s.lead).spaceBase .l ∧ (s.zctx prog1 2).spaceBase .l + 8 < 8388608 ∧
      (let u := running 0 2 [taskLevel] []
       u.zAt prog1 3 ∧ (u.zctx prog1 u.lead).inSpace .i .int32 88 2 = true ∧
         ¬ (0 ≤ ((u.zctx prog1 u.lead).w 1).toInt ∧ ((u.zctx prog1 u.lead).w 1).toInt < 2)) := by
  unfold State.zAt; decide +kernel

theorem test_hyp_OutputSlotIsVoted :
    let s := running 5 0 [taskLevel] []
    s.zAt prog1 2 ∧ s.canonical = true ∧ s.lanesIn = [0, 1, 2] ∧ 3071 < 3072 ∧ ∀ l : Fin 3, (s.zctx prog1 l).w 0 = 5 := by
  unfold State.zAt; decide +kernel

/-- The header of an instance of type 0 at offset 16 of the instance data (R182). -/
def instSram : List Host.Cell := Memory.writeN [] (State.reset.instBase + 16) (leBytes 4 (2 ^ 16))

theorem test_hyp_EngineControlFlow :
    let s := running 0 0 [taskLevel] instSram
    let c := running 0 0 [⟨8, 64, 96, 0, 0, 16, 16, 0, false, []⟩, taskLevel] []
    s.zAt prog1 1 ∧ s.zAt prog1 2 ∧ brOk (BitVec.toInt (14 : BitVec 20)) (s.zctx prog1 s.lead) = true ∧
      brOk (BitVec.toInt (0 : BitVec 24)) (s.zctx prog1 s.lead) = true ∧ c.zAt prog1 1 ∧
      (∀ l ∈ c.lanesIn, (c.lane l).eng.stack = ⟨8, 64, 96, 0, 0, 16, 16, 0, false, []⟩ :: taskLevel :: []) ∧
      (∀ l ∈ s.lanesIn, (s.lane l).eng.stack.length ≤ 1) ∧ 0x80 ≤ (0x80 : BitVec 8).toNat ∧
      (s.zctx prog1 s.lead).e.pc + 8 + 4 * (14 : BitVec 20).toNat ≤ (s.zctx prog1 s.lead).lvl.last ∧
      (s.zctx prog1 s.lead).e.loops.length < 8 ∧ (0 : BitVec 16).toNat < prog1.types.length ∧
      (16 : BitVec 21).toNat % 8 = 0 ∧ (16 : BitVec 21).toNat + 8 ≤ (s.zctx prog1 s.lead).lvl.iSize ∧
      (s.zctx prog1 s.lead).e.stack.length < 17 ∧
      (∀ l ∈ s.lanesIn, Memory.readLe (s.lane l).sram
        ((s.zctx prog1 l).inst + (s.zctx prog1 l).lvl.iBase + (16 : BitVec 21).toNat) 4 = 2 ^ 16) ∧
      2 ^ 16 % 2 ^ 16 = 0 ∧ 2 ^ 16 + 5 % 2 ^ 16 ≠ 0 := by
  unfold State.zAt; decide +kernel

theorem test_hyp_TimerRules :
    (∃ m : Timer, m.prev = true ∧ m.run = true) ∧ (∃ m : Timer, m.prev = false ∧ m.run = false) :=
  ⟨⟨⟨0, 0, true, false, true⟩, rfl, rfl⟩, ⟨⟨0, 0, false, false, false⟩, rfl, rfl⟩⟩

theorem test_hyp_BuiltInBlocks :
    let s := running 0 0 [taskLevel] []
    s.zAt prog1 1 ∧ (s.zctx prog1 s.lead).blockOk 72 24 = true ∧ (s.zctx prog1 s.lead).blockOk 8 8 = true ∧
      ZTy.isReal .real64 = true ∧ prog1.version = 2 ∧
      let c : ZCtx := { s.zctx prog1 0 with e := { (s.zctx prog1 0).e with w := [0, 0, 1] ++ List.replicate 13 0 } }
      bitOf (c.w 2) 0 = true ∧ anyNan .real64 [c.w 0, c.w 1] = false := by
  unfold State.zAt; decide +kernel

/-- A unit of 8 bytes stands in the receive block. -/
def unitSram : List Host.Cell := Memory.writeN [] (mBase + 8) (leBytes 4 8)

theorem test_hyp_MessageOperations :
    let s := running 0 0 [taskLevel] unitSram
    prog1.version = 2 ∧ prog1.block 2 (0 : BitVec 12).toNat = some ⟨2, 0, P.HOST, 0, 0, 48⟩ ∧ s.zAt prog1 1 ∧ s.zAt prog1 3 ∧
      (14 : ZReg).val ≤ 14 ∧ copyOk .l 8 8 (s.zctx prog1 s.lead) = true ∧ copyOk .i 0 96 (s.zctx prog1 s.lead) = true ∧
      (∀ l ∈ s.lanesIn, 8 * 0 + 8 ≤ Memory.readLe (s.lane l).sram (mBase + 0 + 8) 4) ∧
      (∀ l ∈ s.lanesIn, Memory.readLe (s.lane l).sram (mBase + 0 + 8) 4 < 8 * 1 + 8) ∧
      prog1.block 3 (4095 : BitVec 12).toNat = some ⟨3, 4095, P.HOST, 1, 0, 48⟩ ∧ 48 < 96 := by
  unfold State.zAt; decide +kernel

theorem test_hyp_UnitLeavesAsVoted :
    let s := running 0 0 [taskLevel] []
    prog1.version = 2 ∧ prog1.block 3 (4095 : BitVec 12).toNat = some ⟨3, 4095, P.HOST, 1, 0, 48⟩ ∧ s.zAt prog1 3 ∧
      s.lanesIn = [0, 1, 2] ∧ s.canonical = true ∧ copyOk .i 0 48 (s.zctx prog1 s.lead) = true ∧ 48 ≤ 48 ∧
      ∀ l : Fin 3, Memory.readN (s.lane l).sram ((s.zctx prog1 l).spaceBase .i + 0) 48 = List.replicate 48 0 := by
  unfold State.zAt; decide +kernel

/-! ### Baton and exchange -/

/-- A set is closed, with no lines. -/
def closingState : State :=
  { State.reset with baton := { State.reset.baton with closing := some (⟨7, 7000, 0, 0, 0, 1, 0⟩, false) } }

/-- The same after its commit: one entry stands in the ring. -/
def committed : State := Sys2Proof.Machine.batonCommit closingState

def restoring (s : State) (id : Nat) : State :=
  { s with
    baton := { s.baton with restoring := some (1, 0), startSeq := 1 },
    exec := { s.exec with prog := some { prog1 with progId := id } } }

def ringOf (s : State) : List RingEntry :=
  ownParts <| upToCommit (readRing s.baton.mram 131072 (ringStart s).1 (ringStart s).2.1 ringSize)

theorem test_hyp_BatonCommits :
    closingState.regsOk ∧ closingState.halted = false ∧ closingState.ringRoom = true ∧ closingState.lockstep ∧
      (let s : State :=
         { State.reset with baton := { State.reset.baton with sweepAt := some (0, 1), sweepPos := retainedLines } }
       s.regsOk ∧ s.halted = false ∧ retainedLines ≤ s.baton.sweepPos ∧ s.baton.sweepTodo = []) ∧
      (let s := State.reset.setF R.BATON_LAG 15 0 (State.reset.regF R.BATON_CFG 15 8)
       s.regsOk ∧ s.pgState P.BATON ≠ stFault ∧ s.regF R.BATON_CFG 15 8 ≤ s.regF R.BATON_LAG 15 0 ∧
         s.regB R.BATON_STAT 6 = false) ∧
      State.reset.regB R.BATON_STAT 10 = false ∧
      (let s := (State.reset.setB R.BATON_STAT 10 true).setF R.BATON_STAT 2 0 3
       s.regsOk ∧ s.regB R.BATON_STAT 10 = true ∧ s.regF R.BATON_STAT 2 0 = 3 ∧ s.lockstep ∧ s.halted = false ∧
         s.ringRoom = true) ∧ (State.reset.setF R.PART_STAT 1 0 roleActive).role = roleActive ∧
      (let s := State.reset
       s.accepts ⟨P.BATON, 0x11, .supervisor⟩ ∧ s.halted = false ∧ s.stopped = true ∧ s.standby = false) := by
  unfold State.regsOk State.accepts State.lockstep; decide +kernel

set_option maxRecDepth 20000 in
theorem test_hyp_BatonCommits_restore :
    (restoring committed 1).regsOk ∧ (restoring committed 1).baton.restoring = some (1, 0) ∧
      (ringOf (restoring committed 1)).getLast?.map (fun e => e.trailer.progId) = some 1 ∧
      (ringOf (restoring committed 2)).getLast?.map (fun e => e.trailer.progId) = some 1 ∧
      ringOf (restoring State.reset 1) = [] := by
  unfold State.regsOk; decide +kernel

/-- A migration map (R223) that pairs the one instance of two programs and moves nothing. -/
def mapBytes (old new : Nat) : List Byte := words [0x504D5753, 1, old, 0, new, 0, 1, 0, 0, 0]

def mapOf (old new : Nat) : MigMap := ⟨old, new, [⟨0, 0, false, []⟩], 0⟩

/-- Program 1 runs; slot 5 holds program 2 with its maps. -/
def exchanging (mode sw : Nat) : State :=
  let s := (loaded mode).setF R.SWAP_STAT 2 0 sw
  let p := imageProgram (image 2)
  { s with
    boot := { s.boot with flash := [[], [], [], [], image 1, image 2 ++ mapBytes 1 2 ++ mapBytes 2 1] },
    swap := { s.swap with staging := some 5, staged := some ⟨5, p, 4, imageProgram (image 1), mapOf 1 2, mapOf 2 1⟩ } }

theorem test_hyp_ExchangeCommands :
    (∀ m ∈ [modeStop, modeRun], ∀ w ∈ [swIdle, swStaged, swArmed, swTrial], (exchanging m w).regsOk ∧
      (exchanging m w).halted = false ∧ (exchanging m w).standby = false) ∧
    (exchanging modeStop swIdle).accepts ⟨P.SWAP, 0x10, .supervisor⟩ ∧ (exchanging modeStop swIdle).mode ≠ modeNone ∧
      (exchanging modeStop swIdle).swapState = swIdle ∧ (exchanging modeStop swIdle).regB R.BATON_STAT 8 = false ∧
      (exchanging modeStop swIdle).slotUsable (4 + 1 % 2) = true ∧
    (exchanging modeRun swStaged).accepts ⟨P.SWAP, 0x11, .supervisor⟩ ∧ (exchanging modeRun swStaged).mode = modeRun ∧
      (exchanging modeRun swStaged).swapState = swStaged ∧ (exchanging modeRun swStaged).pgState P.SWAP ≠ stFault ∧
    (exchanging modeRun swArmed).accepts ⟨P.SWAP, 0x12, .supervisor⟩ ∧ (exchanging modeRun swArmed).swapState = swArmed ∧
    (exchanging modeRun swStaged).accepts ⟨P.SWAP, 0x13, .supervisor⟩ ∧
    (exchanging modeRun swTrial).accepts ⟨P.SWAP, 0x14, .supervisor⟩ ∧ (exchanging modeRun swTrial).swapState = swTrial ∧
      (exchanging modeRun swTrial).swap.staged.map (·.slot) = some 5 ∧
      (exchanging modeStop swTrial).accepts ⟨P.SWAP, 0x15, .supervisor⟩ ∧ (exchanging modeStop swTrial).mode = modeStop ∧
    (exchanging modeRun swTrial).accepts ⟨P.SWAP, 0x15, .supervisor⟩ ∧
      (exchanging modeRun swTrial).regN R.SWAP_TRIAL_LEFT = 0 ∧
    (exchanging modeRun swReverting).Inv ∧ (exchanging modeRun swReverting).swapState = swReverting ∧
      (exchanging modeRun swReverting).swap.revertReady = false ∧
      ∃ x, (exchanging modeRun swReverting).swap.staged = some x ∧
        (imageProgram ((exchanging modeRun swReverting).slotImage x.oldSlot)).progId = x.old.progId := by
  refine ⟨?_, ?_⟩
  · unfold State.regsOk; decide +kernel
  · simp only [← and_assoc]
    refine ⟨?_, _, rfl, ?_⟩
    · unfold State.accepts State.Inv; decide +kernel
    · decide +kernel

set_option maxRecDepth 20000 in
theorem test_hyp_ExchangeCommands_stage :
    let s := exchanging modeRun swStaging
    let img := s.slotImage 5
    stageCheck s (imageProgram (image 1)) (imageProgram img) (s.admission img) (imageMaps img)
      = (0, some (mapOf 1 2, mapOf 2 1)) ∧
    (stageCheck s (imageProgram (image 1)) (imageProgram []) (s.admission []) (imageMaps [])).2 = none := by
  decide +kernel

/-! ### Grador and pacer -/

/-- A word in a memory. -/
def putWord (a w : Nat) (m : List Host.Cell) : List Host.Cell := Memory.writeN m a (leBytes 4 w)

/-- Channel B, slot 5: data of 16 bytes at 8 µs, used, owned by node 9; instance 3 (received) or 4 (sent) in slot 5 or
6 of every cycle (R242). -/
def schedule : List Host.Cell :=
  putWord (0x2000 + 8 * 5) (8000 + 2 * 2 ^ 24) <| putWord (0x2000 + 8 * 5 + 4) (1 + 9 * 32) <|
  putWord (0x2000 + 8 * 6) (20000 + 2 * 2 ^ 24) <| putWord (0x2000 + 8 * 6 + 4) 1 <|
  putWord (0x4000 + 8 * 3) (2 ^ 31 + 9 * 2 ^ 20 + 2 ^ 10 + 5) <|
  putWord (0x4000 + 8 * 4) (2 ^ 31 + 2 ^ 30 + 2 ^ 10 + 6) []

/-- A node in a protocol state that may transmit; its clock stands 20 µs into the cycle of 64 µs. -/
def node (poc : Nat) : State :=
  let s := st [(R.GRDS_NODE_STAT, poc), (grdA 0 R.GRD_CH_CFG, 1), (grdA 1 R.GRD_CH_CFG, 1), (R.PART_STAT, 2 ^ 9),
    (grdA 1 R.GRD_CH_STAT, 1), (R.GRDS_NODE_CFG, 2 ^ 10), (R.GRDS_NET_CFG, 0x88B5 + 2 * 2 ^ 16), (R.GRDS_CYCLE_CFG, 64)]
  { s with grd := { s.grd with sched := schedule, pos := 20000 } }

/-- The same at another position of its clock. -/
def nodeAt (poc : Nat) (pos : Int) : State := { node poc with grd := { (node poc).grd with pos := pos } }

theorem test_hyp_GradorStates :
    (node pocFirst).regsOk ∧ (node pocFirst).cycleDue (0 : Fin 1000) = false ∧
      (∀ c ∈ [pocFirst, pocWait, pocLost, pocIntegrate], (nodeAt c 63500).poc = c ∧
        (nodeAt c 63500).cycleDue (500 : Fin 1000) = true ∧ (nodeAt c 63500).cycleDue (499 : Fin 1000) = false) ∧
      (node pocListen).poc = pocListen ∧ (node pocListen).csEn = true ∧ (node pocListen).txAllowed = true ∧
      (let s := nodeAt pocIntegrate 63500
       let u : State := { s with grd := { s.grd with fullCycle := true, syncs := [(0, 1), (0, 2)] } }
       let v : State := { s with grd := { s.grd with fullCycle := true } }
       u.poc = pocIntegrate ∧ u.grd.fullCycle = true ∧ integOk u = true ∧ integOk v = false ∧ u.grd.syncs ≠ []) ∧
      (let s := node pocListen
       let u : State := { s with grd := { s.grd with quiet := 2 + s.csRank } }
       u.regsOk ∧ 2 + u.csRank ≤ u.grd.quiet) ∧
      (node pocBackoff).poc = pocBackoff ∧ (node pocBackoff).txAllowed = true ∧
      (let s := node pocWait
       64 ≤ ({ s with grd := { s.grd with phase := 64 } } : State).grd.phase) ∧
      (node pocConfig).mayEnable P.GRDS .supervisor ∧ (node pocConfig).poc = pocConfig ∧
      (node pocConfig).regB (grdA 1 R.GRD_CH_STAT) 0 ≠ false := by
  unfold State.regsOk State.mayEnable; decide +kernel

/-- Instance 7: spare, sent, in slot 7 of channel A. -/
def spareNode (ver own : Nat) : State :=
  let s := (((node pocNormal).setRegN R.GRDS_CLAIM_REQ 7).setF R.GRDS_NET_CFG 19 16 ver).setRegN (ownA 3) (own + 7)
  { s with grd := { s.grd with sched := putWord (0x4000 + 56) (2 ^ 31 + 2 ^ 30 + 7) (putWord 0x403C 2 s.grd.sched) } }

/-- A claim of slot 7 that was silent for four laps. -/
def claim7 : Claim :=
  { idx := 255, held := true, base := 0, rlog := 0, slot := 7, ch := 0, node := 3, lap := 0, heard := false, silent := 4,
    relAt := none }

theorem test_hyp_GradorStates_claims :
    let s := spareNode 2 (2 ^ 31)
    let r := spareNode 2 (2 ^ 31 + 2 ^ 30)
    s.regsOk ∧ s.accepts ⟨P.GRDS, 0x10, .supervisor⟩ ∧ s.regF R.GRDS_CLAIM_REQ 11 0 = 7 ∧ (s.instEnt 7).en = true ∧
      (s.instEnt 7).tx = true ∧ (s.instEnt 7).spare = true ∧ s.poc = pocNormal ∧ s.ownClaims.length < 4 ∧
      s.grd.claiming = none ∧ s.accepts ⟨P.GRDS, 0x11, .supervisor⟩ ∧ s.pocRuns = true ∧
      s.ownHeld ((3 : BitVec 16).toNat % 4) = true ∧ s.ownReleasing ((3 : BitVec 16).toNat % 4) = false ∧ s.netVer = 2 ∧
      (spareNode 1 (2 ^ 31)).netVer ≠ 2 ∧ (spareNode 1 (2 ^ 31)).ownHeld 3 = true ∧
      r.regsOk ∧ r.accepts ⟨P.GRDS, 0x11, .supervisor⟩ ∧ r.ownHeld 3 = true ∧ r.ownReleasing 3 = true ∧
      (let u : State := { s with grd := { s.grd with claims := [claim7] } }
       u.regsOk ∧ claim7 ∈ u.grd.claims ∧ claim7.idx = (255 : BitVec 8).toNat ∧ claim7.held = true ∧ 4 ≤ claim7.silent) := by
  unfold State.regsOk State.accepts; decide +kernel

theorem test_hyp_GradorStates_schedule :
    schedCheck State.reset = none ∧ schedCheck ((node pocConfig).setF R.GRDS_NET_CFG 19 16 3) ≠ none := by decide +kernel

/-- The frame of node 9 in slot 5 of channel B. -/
def frame5 : List Byte :=
  gBytes 1 9 0x88B5 (9 + 2 ^ 10 * 5 + 2 ^ 23 + 2 * 2 ^ 28) (16 + 2 ^ 16 * (node pocNormal).regF R.GRDS_SCHED_ID 15 0) 0 0 16 []

/-- The stamp the frame has when it comes at its time, whatever the PHY's latency is. -/
theorem test_hyp_GradorFrames_status :
    let s := node pocNormal
    ∃ raw : Int, frameStatus true 1 5 (gFrame frame5) (s.deviation 1 5 (s.mdiStamp 1 true raw)) false s.cycleCnt s = gOk := by
  intro s
  refine ⟨((s.slotEnt 1 5).act + s.netDly 1 + s.linkDly 1 : Nat) + (Config.phyLatency s.trim 1 true : Nat), ?_⟩
  rw [State.mdiStamp, Int.add_sub_cancel]
  decide +kernel

set_option maxRecDepth 20000 in
theorem test_hyp_GradorFrames :
    let s := node pocNormal
    s.Inv ∧ s.poc = pocNormal ∧ s.txAllowed = true ∧ (s.slotEnt 1 (5 : BitVec 10).toNat).use ≠ 0 ∧
      s.rxIn 1 5 s.cycleCnt = [3] ∧ s.txHere 1 5 = none ∧ s.regB (grdA 1 R.GRD_CH_STAT) 0 = true ∧
      s.txHere 1 6 = some 4 ∧ (s.slotEnt 1 6).use ≠ 0 ∧ 4 ∈ s.instances ∧ (s.instEnt 4).tx = true ∧
      (s.slotEnt 1 6).paired = false ∧ s.refSelf = false ∧ bitOf s.partCfg 3 = false ∧ (s.instEnt 4).spare = false ∧
      s.chTx 1 = true ∧ s.mems.upset = [] ∧ s.grd.pos ≤ (s.slotEnt 1 6).act ∧
      ((s.slotEnt 1 6).act : Int) ≤ s.grd.pos + 999 ∧ twoOf 6 = true ∧ twoOf 4 = false ∧ (s.buf 4).latchAge ≤ 255 := by
  unfold State.Inv; decide +kernel

theorem test_hyp_GradorFrames_latch :
    latchUnit 5 [(5, [1]), (6, [2])] = (some [1], [(6, [2])]) ∧ latchUnit 4 [(5, [1])] = (none, [(5, [1])]) ∧
      (node pocNormal).grd.claiming = none ∧ (node pocNormal).ownClaims = [] := by decide +kernel

/-- Deviations of two stations in the running cycle, at its NIT. -/
def paced (dev : Int) : State :=
  let s := (nodeAt pocNormal 63500).setB (pa P.PACER H.CTRL) 0 true
  let s := s.setRegN R.PACER_CFG (2 ^ 24 + 100)
  { s with grd := { s.grd with vals := [⟨9, 1, 5, dev, false, 0⟩, ⟨8, 1, 6, dev, false, 0⟩] } }

theorem test_hyp_PacerAndLinkDelays :
    (∀ d ∈ [(100 : Int), 101], (paced d).regsOk ∧ (paced d).pocRuns = true ∧ (paced d).nitDue = true ∧
      (paced d).en P.PACER = true ∧
      ((byStamp (paced d).grd.vals).filter fun v => !v.own) ≠ [] ∧ 0 < (paced d).regF R.PACER_CFG 27 24) ∧
    (fta ((byStamp (paced 100).grd.vals).map (·.dev))).natAbs ≤ (paced 100).regF R.PACER_CFG 9 0 ∧
    (paced 100).cycleCnt % 2 = 0 ∧
    (paced 101).regF R.PACER_CFG 9 0 < (fta ((byStamp (paced 101).grd.vals).map (·.dev))).natAbs ∧
    (let s := nodeAt pocNormal 63500
     let s := s.setRegN R.PACER_CFG (2 ^ 24)
     s.regsOk ∧ s.pocRuns = true ∧ s.nitDue = true ∧ ((byStamp s.grd.vals).filter fun v => !v.own) = [] ∧
       s.regF R.PACER_CFG 27 24 ≤ min 15 (s.regF R.PACER_STAT 15 12 + 1)) := by
  unfold State.regsOk; decide +kernel

/-- A measurement of channel B at a tick; its requests were sent at tick 0. -/
def probing (now : Nat) (l : List Exch) : State :=
  let s := (node pocNormal).setRegN R.STARTER_TICK now
  { s with grd := { s.grd with probes := [none, some l] } }

theorem test_hyp_PacerAndLinkDelays_probe :
    probe (probing 250 [Exch.run 0 5]) (1 : Fin 2) = some [Exch.run 0 5] ∧ requestDue [Exch.run 0 5] (probing 250 []).now = true ∧
      requestDue [Exch.run 0 5] (probing 249 []).now = false ∧
      [Exch.run 0 5][(0 : Fin 16).val]? = some (Exch.run 0 5) ∧ [Exch.run 0 5].length < 16 ∧
      (probing 1000 []).now ≤ 0 + 1000 ∧ 0 + 1000 ≤ (probing 1000 []).now ∧
      (List.replicate 15 (Exch.failed 0) ++ [Exch.run 0 5]).length = 16 ∧
      (List.replicate 15 (Exch.failed 0) ++ [Exch.run 0 5])[(15 : Fin 16).val]? = some (Exch.run 0 5) ∧
      (∀ i, i < 16 → i ≠ (15 : Fin 16).val →
        (List.replicate 15 (Exch.failed 0) ++ [Exch.run 0 5])[i]? = some (.failed 0)) ∧
      probe (probing 1000 (List.replicate 15 (Exch.failed 0) ++ [Exch.run 0 5])) (1 : Fin 2) =
        some (List.replicate 15 (Exch.failed 0) ++ [Exch.run 0 5]) := by
  decide +kernel

/-! ### Train time -/

/-- Instance 3 is the time reference; its message says `err` ns more than its action time, from self-time off. -/
def timed (servo err : Nat) : State :=
  let s := (((node pocNormal).setRegN R.GRDS_CYCLE_CFG 2000).setRegN R.TIME_CFG (3 * 2 ^ 12 + 9)).setF R.TIME_STAT 9 8 servo
  let buf : GrdBuf := { bufZero with okTotal := some 0 }
  { s with
    grd := { s.grd with bufs := [(3, buf)] },
    time := { s.time with run := 7, latched := some 8000 },
    mems := { s.mems with comms := Memory.writeN [] (256 * 3 + 24) (leBytes 4 (8000 + err + 2 ^ 30) ++ leBytes 4 (9 * 2 ^ 16)) } }

/-- The error that the message of `timed` shows. -/
def timeErr (s : State) : Int :=
  ((s.commsN (256 * s.refMb + 16) 8 * 1000000000 + s.commsN (256 * s.refMb + 24) 4 % 2 ^ 30 : Nat) : Int)
    - (s.time.latched.getD (s.actionNs s.refMb) : Nat)

theorem test_hyp_TrainTimeServo :
    (∀ e ∈ [100, 200000, 600000000], let s := timed servoAcquiring e
      s.regsOk ∧ s.refMb = 3 ∧ s.refSelf = false ∧ s.timeFault = false ∧ (s.instEnt s.refMb).en = true ∧
        (s.instEnt s.refMb).tx = false ∧ (s.buf s.refMb).okTotal = some s.grd.total ∧ s.time.counted = false ∧
        (s.commsN (256 * s.refMb + 24) 4).testBit 30 = true ∧
        s.commsN (256 * s.refMb + 28) 4 / 2 ^ 16 % 1024 = s.regF R.TIME_CFG 9 0 ∧ timeErr s = e ∧
        s.poisoned (256 * s.refMb + 16) 16 = false) ∧
    (let s := timed servoAcquiring 600000000
     (s.regF R.TIME_JUMP_LIMIT 19 0 : Int) * 1000 < (timeErr s).natAbs) ∧
    (let s := timed servoAcquiring 200000
     ((timeErr s).natAbs : Int) ≤ (s.regF R.TIME_JUMP_LIMIT 19 0 : Int) * 1000 ∧
       s.regF R.TIME_SLEW_LIMIT 16 0 < (timeErr s).natAbs) ∧
    (let s := timed servoAcquiring 100
     ((timeErr s).natAbs : Int) ≤ (s.regF R.TIME_JUMP_LIMIT 19 0 : Int) * 1000 ∧
       (timeErr s).natAbs ≤ s.regF R.TIME_SLEW_LIMIT 16 0 ∧ (timeErr s + s.time.carry).natAbs ≤ s.cycleUs / 10 ∧
       (let v := s.rateTerm + divRound ((timeErr s + s.time.carry) * 2 ^ 24) (s.cycleUs * 125)
        0x07FF9724 ≤ v ∧ v ≤ 0x080068DB) ∧
       s.servo = servoAcquiring ∧ (timeErr s).natAbs ≤ 100 ∧ s.time.run = 7) := by
  unfold State.regsOk; decide +kernel

theorem test_hyp_TrainTimeServo_commands :
    (let s := (timed servoHoldover 0).setRegN R.STARTER_TICK_HI 1
     s.regsOk ∧ s.servo = servoHoldover ∧ s.time.holdFrom + 1000000 * s.regF R.TIME_HOLDOVER 11 0 ≤ s.now ∧
       s.refSelf = false) ∧
    State.reset.accepts ⟨P.TIME, 0x10, .supervisor⟩ ∧ State.reset.accepts ⟨P.TIME, 0x11, .supervisor⟩ ∧
    (0x54AD : BitVec 16) ≠ 0x54AC ∧
    (let s := st [(R.TIME_CFG, 2 ^ 10), (R.TIME_STAT, 4)]
     let s : State := { s with time := { s.time with unlock := some (1, .h0) } }
     s.accepts ⟨P.TIME, 0x12, .supervisor⟩ ∧ s.adjOpen = true ∧ s.anyReleased = false ∧ s.jumpRefused = true ∧
       s.refSelf = true ∧ s.timeFault = false) ∧
    (let s := st [(cmpA 31 0, 7), (cmpA 30 0, 1), (R.STARTER_TICK, 1)]
     let s : State := { s with time := { s.time with unlock := some (1, .h0) } }
     s.regsOk ∧ 1 ≤ s.now ∧ s.regB (cmpA 31 0) 0 = true ∧ s.regB (cmpA 31 0) 1 = true ∧ s.regB (cmpA 31 0) 2 = true ∧
       s.regB (cmpA 30 0) 0 = true ∧ s.regB (cmpA 30 0) 1 = false ∧ s.regB (cmpA 30 0) 2 = false ∧
       s.pgState P.TCAP ≠ stFault ∧ s.cmpTime (31 : Fin 32) ≤ s.ttNs + 8 * (124 : Fin 125)) := by
  unfold State.regsOk State.accepts; decide +kernel

/-! ### CAN -/

/-- Controller 7 in a state, with a filter for identifier 0x123. -/
def canIn (k : Nat) : State :=
  st [(canA 7 R.CAN_STAT, k), (filtId 7 0, 2 ^ 31 + 0x123), (filtMask 7 0, 0x7FF)]

def frame123 : CanFrame := ⟨0x123, 2, [1, 2], none⟩

/-- A frame is in buffer 0, or in the transmit FIFO, and its attempt runs. -/
def sending (i : Nat) : State :=
  let s := canIn canActive
  let tb : CanTb := { tbZero with pend := some frame123 }
  let c : CanCtl := { canZero with
    txf := if i = 3 then [frame123, frame123] else [], tbs := [if i = 0 then tb else tbZero, tbZero, tbZero], attempt := some i }
  { s with can := List.replicate 7 canZero ++ [c] }

theorem test_hyp_CanControllers :
    (canIn canActive).Inv ∧ (canIn canActive).can.length = 8 ∧ ((canIn canActive).canOf 7).tbs.length = 3 ∧
      (canIn canActive).canOnBus 7 = true ∧ (canIn canActive).regB (canA 7 R.CAN_CFG) 2 = false ∧
      bitOf (0x123 : Word) 31 = false ∧
      (List.range 128).find? (filtMatch 7 frame123 (canIn canActive)) = some 0 ∧
      (canIn canActive).regF (filtMask 7 0) 31 30 = 0 ∧ rxfLevel (canIn canActive) 7 < 64 ∧
      (List.range 128).find? (filtMatch 7 ⟨0x124, 2, [1, 2], none⟩ (canIn canActive)) = none ∧
      (canIn canActive).regB (canA 7 R.CAN_CFG) 6 = false ∧
      (∀ i ∈ [0, 3], (sending i).Inv ∧ (sending i).can.length = 8 ∧ ((sending i).canOf 7).tbs.length = 3 ∧
        ((sending i).canOf 7).attempt = some i ∧ ((sending i).canOf 7).frame i = some frame123 ∧
        (sending i).regB (canA 7 R.CAN_CFG) 2 = false ∧ (getAt tbZero ((sending i).canOf 7).tbs i).abort = false ∧
        (getAt tbZero ((sending i).canOf 7).tbs i).next = none ∧ ((sending i).canOf 7).abortHead = false) := by
  unfold State.Inv; decide +kernel

theorem test_hyp_CanControllers_errors :
    (let s := (canIn canActive).setF (canA 7 R.CAN_STAT) 16 8 247
     s.Inv ∧ s.canOnBus 7 = true ∧ s.regB (canA 7 R.CAN_CFG) 1 = false ∧ s.tec 7 + 8 ≤ 255 ∧ 127 < s.tec 7 + 8 ∧
       (2 : Fin 7) ≠ 3) ∧
    (let s := (canIn canPassive).setF (canA 7 R.CAN_STAT) 16 8 248
     s.Inv ∧ s.canOnBus 7 = true ∧ 255 < s.tec 7 + 8 ∧ s.regB (canA 7 R.CAN_CFG) 3 = false) ∧
    (canIn canIntegrating).Inv ∧ (canIn canIntegrating).canState 7 = canIntegrating ∧ (canIn canRecovering).Inv ∧
    (canIn canRecovering).canState 7 = canRecovering ∧ (canIn canBusOff).canState 7 = canBusOff ∧
    (canIn canBusOff).accepts ⟨P.CAN + 7, 0x16, .supervisor⟩ ∧
    (∀ k ∈ [1, 2], let s := canIn canActive
      let s : State := { s with can := List.replicate 7 canZero ++ [{ canZero with leaving := k }] }
      s.Inv ∧ (s.canOf 7).leaving = k) ∧
    (∀ k ∈ [0, 19], let s := (canIn canActive).setF (canA 7 R.CAN_RXF_STAT) 6 0 1
      let s : State := { s with can := List.replicate 7 canZero ++ [{ canZero with ptr := k }] }
      s.Inv ∧ rxfLevel s 7 ≠ 0 ∧ s.mems.upset = [] ∧ (s.canOf 7).ptr = k ∧ s.accepts ⟨P.CAN + 7, 0x10, .supervisor⟩) := by
  unfold State.Inv State.accepts; decide +kernel

/-- A staged frame of 2 bytes. -/
def staged7 : State := (canIn canActive).setAll [canA 7 R.CAN_TX_STAGE] 0x123 |>.setRegN (canA 7 (R.CAN_TX_STAGE + 4)) 2

theorem test_hyp_CanControllers_commands :
    staged7.Inv ∧ staged7.accepts ⟨P.CAN + 7, 0x11, .supervisor⟩ ∧ staged7.txBinding (P.CAN + 7) 2 = none ∧
      frameCode 7 false (stageFrame staged7 7).1 (stageFrame staged7 7).2 staged7 = cDone ∧
      (staged7.canOf 7).attempt ≠ some 2 ∧ staged7.accepts ⟨P.CAN + 7, 0x12, .supervisor⟩ ∧
      frameCode 7 true (stageFrame staged7 7).1 (stageFrame staged7 7).2 staged7 = cDone ∧
      frameCode 7 false (stageFrame (sending 0) 7).1 (stageFrame (sending 0) 7).2 (sending 0) = cDone ∧
      ((sending 0).canOf 7).attempt = some 0 ∧ (sending 0).txBinding (P.CAN + 7) 0 = none ∧
      (∀ i ∈ [0, 3], ∀ op ∈ [0x11, 0x13, 0x14, 0x15], precheck ⟨P.CAN + 7, op, .supervisor⟩ (sending i) = none ∧
        (sending i).populated (P.CAN + 7) = true) ∧ ((sending 3).canOf 7).attempt = some 3 := by
  unfold State.Inv State.accepts; decide +kernel

/-! ### Relay -/

/-- Route 0 from port 16 to the program: identifier 5 (R325). -/
def relaying : State :=
  let s := State.reset.setF (pa P.RELAY H.STAT) 3 0 stActive
  let s : State := { s with relay := { s.relay with routes := putWord 0 5 (putWord 8 (2 ^ 31 + 16 * 2 ^ 24) []) } }
  s

def unit16 (id : Nat) : RUnit := ⟨16, id, false, [1], 0⟩

def queued (id : Nat) (x : Option Xfer) : State :=
  { relaying with relay := { relaying.relay with
    ingress := List.replicate 16 [] ++ [[unit16 id]], xfer := List.replicate 16 none ++ [x] } }

theorem test_hyp_RelayTransfers :
    (∀ id ∈ [5, 6], (queued id none).Inv ∧ (queued id none).relay.ingress.length = 17 ∧
      (queued id none).relay.xfer.length = 17 ∧ (queued id none).relay.egress.length = 17 ∧
      (queued id none).relayActive = true ∧ (queued id none).bufferHeld 16 = false ∧ (queued id none).xferOf 16 = none ∧
      (queued id none).ingressOf 16 = [unit16 id]) ∧
    (queued 5 none).routesFor (unit16 5) = [0] ∧ (queued 6 none).routesFor (unit16 6) = [] ∧
    (∀ ph ∈ [XPhase.moving, .backoff, .space], let s := queued 5 (some ⟨unit16 5, [0], ph, 0⟩)
      s.Inv ∧ s.relayActive = true ∧ s.xferOf 16 = some ⟨unit16 5, [0], ph, 0⟩ ∧ (s.route 0).dstPort = 0 ∧
        (∀ q, q < 17 → q ≠ 16 → s.xferOf q = none) ∧ 0 ≤ s.now) ∧
    (queued 5 (some ⟨unit16 5, [0], .backoff, 0⟩)).bufferHeld 16 = false := by
  unfold State.Inv; decide +kernel

theorem test_hyp_RelayTransfers_entry :
    (let s := relaying.setB (pa (P.ETH + 1) H.CTRL) 0 true
     s.Inv ∧ s.relayActive = true ∧ s.reg (R.RELAY_PEER_IP0 + 4 * 1) = 0 ∧ s.en (P.ETH + 1) = true ∧
       leNat (List.take 4 (words [2 ^ 24 + 240 * 2 ^ 16, 0] ++ List.replicate 240 0)) / 2 ^ 24 = 1 ∧
       leNat (List.take 4 (words [2 ^ 24 + 240 * 2 ^ 16, 0] ++ List.replicate 240 0)) / 2 ^ 16 % 256 ≤ 240 ∧
       8 + 240 ≤ (words [2 ^ 24 + 240 * 2 ^ 16, 0] ++ List.replicate 240 (0 : Byte)).length) ∧
    (let s : State := { relaying with mems := { relaying.mems with comms := putWord (outboxA 3 0) (2 ^ 31 + 240) [] } }
     s.Inv ∧ s.relayActive = true ∧ s.relay.outbox.length = 4 ∧ s.commsN (outboxA 3 0) 4 / 2 ^ 31 = 1 ∧
       s.commsN (outboxA 3 0) 4 % 256 ≤ 240 ∧ s.eccHits 3 (outboxA 3 0) (16 + s.commsN (outboxA 3 0) 4 % 256) = []) ∧
    State.reset.accepts ⟨P.RELAY, 0x11, .supervisor⟩ ∧ (0xFFF0 : BitVec 16).toNat % 32 ≤ 16 ∧
    State.reset.mayEnable P.RELAY .supervisor ∧ relayFail State.reset = none ∧ State.reset.pgState P.RELAY ≠ stFault ∧
    (let s : State := { State.reset with relay := { State.reset.relay with routes := putWord 8 (2 ^ 31 + 17 * 2 ^ 24) [] } }
     s.Inv ∧ s.mayEnable P.RELAY .supervisor ∧ relayFail s = some 0) := by
  unfold State.Inv State.accepts State.mayEnable; decide +kernel

/-! ### Field groups -/

/-- The state after reset with group 3's SVT-F1 changed, at tick 2 000 000 in RUN. -/
def fld3 (h : F1 → F1) (k : Group → Group) (rs : List (Nat × Nat)) : State :=
  let s := st ([(R.EXEC_MODE, modeRun), (R.STARTER_TICK, 2000000)] ++ rs)
  { s with groups := List.replicate 3 groupZero ++ [k { groupZero with f1 := h f1Zero }] }

/-- A downstream frame with its sync word, sequence 5 and its CRC (R340). -/
def downFrame : BitVec 200 :=
  let v : BitVec 200 := BitVec.ofNat 200 (0xB5F2 * 2 ^ 184 + 5 * 2 ^ 180 + 9 * 2 ^ 168 + 0xFF * 2 ^ 160)
  v ||| (frameCrc v).setWidth 200

theorem test_hyp_FieldGroupLink :
    (let s := fld3 id id []
     s.Inv ∧ (s.grp 3).f1.goodFrame downFrame = true ∧ (s.grp 3).f1.goodFrame (downFrame ^^^ 1) = false) ∧
    (let s := fld3 (fun f => { f with badRun := 4, failsafe := false }) id []
     s.Inv ∧ 4 ≤ (s.grp 3).f1.badRun ∧ (s.grp 3).f1.failsafe = false) ∧
    (∀ b ∈ [true, false],
      let s := fld3 (fun f => { f with applied := true, goodRun := 16 }) (fun x => { x with bringup := b }) []
      s.Inv ∧ (s.grp 3).f1.applied = true ∧ 16 ≤ (s.grp 3).f1.goodRun ∧ (s.grp 3).f1.failsafe = true ∧
        (bitOf ((s.grp 3).f1.word 0) 1 && !(s.grp 3).bringup && (s.grp 3).f1.fsCause == 1) = false ∧
        (s.grp 3).bringup = b ∧ s.pgState (P.FLD + 3) ≠ stFault) := by
  unfold State.Inv; decide +kernel

theorem test_hyp_FieldGroupLink_commands :
    (let s := fld3 id (fun x => { x with bringup := true, enTick := 1990000 }) []
     s.Inv ∧ (s.grp 3).bringup = true ∧ (s.grp 3).enTick + 10000 ≤ s.now) ∧
    (let s := fld3 id id [(pa (P.FLD + 3) H.STAT, stFailsafe), (fldA 3 R.FLD_CFG, 2)]
     s.Inv ∧ s.mayEnable (P.FLD + 3) .supervisor ∧ s.pgState (P.FLD + 3) ≠ stFault ∧
       s.accepts ⟨P.FLD + 3, 0x10, .supervisor⟩ ∧ s.halted = false ∧ failsafeLatched 3 s = true) ∧
    (let s := fld3 (fun f => { f with safeOff := true, toggleSince := 1999990 }) id [(fldA 3 R.FLD_SAFEOFF_STAT, 0)]
     s.Inv ∧ (s.grp 3).f1.safeOff = true ∧ s.lineOff 3 = false ∧ (s.grp 3).f1.toggleSince + 10 ≤ s.now) ∧
    (let s := fld3 id (fun x => { x with offUntil := some 2000000 }) []
     s.Inv ∧ (s.grp 3).offUntil = some 2000000 ∧ 2000000 ≤ s.now ∧ s.halted = false) := by
  unfold State.Inv State.accepts State.mayEnable; decide +kernel

/-- An image word list whose word `i` is `v`. -/
def img (i v : Nat) : List Word := List.replicate i 0 ++ [BitVec.ofNat 32 v]

theorem test_hyp_FieldGroupEvents :
    (∀ fs ∈ [true, false], ∀ k ∈ [0, 1], ∀ v ∈ [0, 1],
      let s := fld3 (fun f => { f with failsafe := fs, evs := [⟨2000000, 0, k, 7, v⟩] }) id []
      s.Inv ∧ (s.grp 3).f1.compAt.length = 16 ∧ (s.grp 3).f1.ai.length = 2 ∧ s.meas.fi.length = 4 ∧
        (s.grp 3).f1.evs = [⟨2000000, 0, k, 7, v⟩] ∧ 2000000 ≤ s.now ∧ (s.grp 3).f1.failsafe = fs) ∧
    (let s := fld3 (fun f => { f with cfg := img (cfgCut + 3) (2 ^ 31 + 2 ^ 16 + 2 ^ 15 + 2 ^ 4 + 15), comp := 0x8000 }) id []
     let w := (s.grp 3).f1.word (cfgCut + (3 : Fin 4))
     s.Inv ∧ bitOf w 31 = true ∧ bitOf (s.grp 3).f1.comp (fld w 3 0) = bitOf w 4 ∧
       bitOf (s.grp 3).f1.cutAct (3 : Fin 4) = false ∧ bitOf w (8 + 7) = true ∧ bitOf w 16 = true ∧
       bitOf w 4 ≠ false ∧ fld w 3 0 = (15 : Fin 16).val) ∧
    (let s := fld3 (fun f => { f with cutHold := 8 }) id []
     s.Inv ∧ bitOf (s.grp 3).f1.cutHold (3 : Fin 4) = true ∧ getAt 0 (s.grp 3).f1.cutEnd (3 : Fin 4) ≤ s.now) ∧
    (let s := fld3 (fun f => { f with cfg := img (cfgDi + 15) (2 ^ 31 + 15 * 2 ^ 16 + 20), comp := 0x8000, wet := 0x8000 }) id []
     let f := (s.grp 3).f1
     let c := f.word (cfgDi + (15 : Fin 16))
     s.Inv ∧ bitOf f.comp (0 : Fin 16) ≠ true ∧ bitOf c 19 = true ∧ bitOf c 18 = true ∧ bitOf c 31 = true ∧
       getAt 0 f.compAt (15 : Fin 16) + 250 + 1000 * fld c 15 0 ≤ 1000 * s.now + 8 * (124 : Fin 125).val ∧
       bitOf f.val (15 : Fin 16) ≠ (bitOf f.comp (15 : Fin 16) != bitOf c 20) ∧ bitOf f.wet (15 : Fin 16) = true ∧
       getAt 0 f.wetEnd (15 : Fin 16) ≤ 1000 * s.now + 999) := by
  unfold State.Inv; decide +kernel

theorem test_hyp_FieldGroupEvents_outputs :
    (∀ on ∈ [true, false],
      let s := fld3 (fun f => { f with
        cfg := img (cfgDo + 7) (2 ^ 31 + 7), doF := if on then 128 else 0, failsafe := false, safeOff := false }) id []
      let f := (s.grp 3).f1
      s.Inv ∧ f.doOn (7 : Fin 8) = on ∧ ∀ b, b < 3 → bitOf (f.word (cfgDo + (7 : Fin 8))) b = true) ∧
    (let s := fld3 (fun f => { f with oneFrom := some 1999700, hs := true, ls := true, failsafe := false, safeOff := false }) id []
     let f := (s.grp 3).f1
     s.Inv ∧ f.oneFrom = some 1999700 ∧ 1999700 + 300 ≤ s.now ∧ f.hsOn = true ∧ f.lsOn = true) := by
  unfold State.Inv; decide +kernel

theorem test_hyp_FieldGroupEvents_inputs :
    (let s := fld3 (fun f => { f with
        cfg := img (cfgAi + 2) 6, ai := [f1AiZero, { f1AiZero with busy := some (1000 * 2000000 - 201) }] }) id []
     let f := (s.grp 3).f1
     let a := getAt f1AiZero f.ai (1 : Fin 2)
     let c := f.word (cfgAi + 2 * (1 : Fin 2))
     s.Inv ∧ a.busy = some 1999999799 ∧ fld c 1 0 = 2 ∧
       1999999799 + 100 * (aiD c - 1) + 1200 < 1000 * s.now + 1000 ∧ bitOf c 2 = true ∧ a.shunt = false) ∧
    (let s := fld3 (fun f => { f with ai := [f1AiZero, { f1AiZero with shunt := true, shuntAt := 1000000 }] }) id []
     let a := getAt f1AiZero (s.grp 3).f1.ai (1 : Fin 2)
     s.Inv ∧ a.shunt = true ∧ a.shuntAt + 1000000 ≤ s.now) ∧
    (∀ l ∈ [1999984000, 1999984001],
      let s := fld3 (fun f => { f with cfg := img cfgFi 3, fi := { f.fi with last := some l } }) id []
      let f := (s.grp 3).f1
      s.Inv ∧ bitOf (f.word cfgFi) 0 = true ∧ bitOf (f.word cfgFi) 1 = true ∧ true ≠ bitOf (f.word cfgFi) 2 ∧
        f.fi.last = some l ∧ (l = 1999984000 → l + 16000 ≤ 1000 * s.now + (0 : Fin 1000).val) ∧
        (l = 1999984001 → 1000 * s.now + (0 : Fin 1000).val < l + 16000)) ∧
    (let s := fld3 id id [(pa P.MEASF H.CTRL, 1)]
     let c : FiChan := { fiZero with cfg := [1 + 100 * 2 ^ 16], edges := [4, 3], out := some (7, 0, false) }
     let s : State := { s with meas := { s.meas with fi := [fiZero, fiZero, fiZero, c] }, time := { s.time with ns := 100000004 } }
     s.Inv ∧ s.meas.fi.length = 4 ∧ s.en P.MEASF = true ∧ s.fiChan 3 = c ∧ bitOf (c.word 0) 0 = true ∧ c.still = false ∧ 2 ≤ c.edges.length ∧
       c.edges.head? = some 4 ∧ c.out = some (7, 0, false) ∧ 1000000 * fld (c.word 0) 29 16 ≤ s.ttNs - 4) := by
  unfold State.Inv; decide +kernel


/-! ### Safety unit -/

/-- Registers set, and the safety unit changed. -/
def safeSt (rs : List (Nat × Nat)) (h : Safety → Safety) : State :=
  let s := st rs
  { s with safety := h s.safety }

/-- Safety group 7 is enabled, with the given state. -/
def sg7 (k : Nat) : List (Nat × Nat) := [(sgA 7 0, 2 ^ 31 + 8), (sgA 7 sgStat, k)]

theorem test_hyp_SafetyUnit :
    (let s := safeSt (sg7 grpSafe ++ [(R.STARTER_TICK, 7000), (pairA 31, 2 ^ 31 + 7 * 2 ^ 28 + 7 * 2 ^ 16)])
       (fun x => { x with pairStart := List.replicate 31 none ++ [some 0] })
     s.regsOk ∧ s.safety.sized ∧ getAt none s.safety.pairStart (31 : Fin 32) = some 0 ∧
       0 + 1000 * s.regF (pairA 31) 26 16 ≤ s.now ∧ (List.range 8).find? (fun g => s.pairMember g 31) = some 7 ∧
       s.sgEn 7 = true ∧ s.sgState 7 ≠ grpOff ∧ s.sgState 7 ≠ grpLocked) ∧
    (let s := safeSt (sg7 grpSafe) (fun x => { x with
        connTab := putWord (32 * 255) (2 ^ 31 + 2 ^ 29 + 7 * 2 ^ 24) (putWord (32 * 255 + 12) 3 []),
        conns := [(255, { connZero with valid := true, age := 4 })] })
     let c : BitVec 8 := 255
     s.regsOk ∧ s.safety.sized ∧ s.connEn c.toNat = true ∧ (s.conn c.toNat).valid = true ∧
       s.connF c.toNat 3 7 0 < (s.conn c.toNat).age ∧ s.connF c.toNat 0 29 29 = 1 ∧
       s.connMember (s.connGroup c.toNat) c.toNat = true ∧ s.sgEn (s.connGroup c.toNat) = true ∧
       s.sgState (s.connGroup c.toNat) = grpSafe) := by
  unfold State.regsOk Safety.sized; refine ⟨?_, ?_⟩ <;> decide +kernel

theorem test_hyp_SafetyUnit_reset :
    (let s := safeSt (sg7 grpLocked) (fun x => { x with arm := some (0x80, 0, .supervisor) })
     let a : BitVec 16 := 0x5A80
     let b : BitVec 16 := 0xA580
     s.regsOk ∧ s.safety.sized ∧ s.halted = false ∧ s.standby = false ∧ s.allLocked (a.toNat % 256) = true ∧
       s.accepts ⟨P.SAFE, 0x10, .supervisor⟩ ∧ a.toNat / 256 = 0x5A ∧ s.allLocked (b.toNat % 256) = true ∧
       s.accepts ⟨P.SAFE, 0x11, .supervisor⟩ ∧ s.armMatches .supervisor b.toNat = true ∧
       b.toNat.testBit 7 = true ∧ b.toNat.testBit 0 = false) ∧
    (let s := safeSt (sg7 grpWait ++ [(R.STARTER_TICK, 5)]) (fun x => { x with arm := some (0x80, 4, .supervisor) })
     s.regsOk ∧ s.safety.sized ∧ s.safety.arm = some (0x80, 4, .supervisor) ∧ 4 < s.now ∧ s.sgState 7 = grpWait ∧
       bitOf s.safety.edgeSeen 7 = false ∧ getAt 0 s.safety.waitEnd 7 ≤ s.now) ∧
    (let s := safeSt [(R.PART_STAT, roleArmed)] id
     s.regsOk ∧ s.safety.sized ∧ s.stbyRole = true ∧ s.mayEnable P.SMSG .supervisor ∧ connFail s = none ∧
       s.pgState P.SMSG ≠ stFault) ∧
    (let s := safeSt [] (fun x => { x with connTab := putWord (32 * 255) (2 ^ 31) [] })
     s.regsOk ∧ s.safety.sized ∧ s.mayEnable P.SMSG .supervisor ∧ connFail s = some 255) := by
  unfold State.regsOk State.accepts State.mayEnable Safety.sized; refine ⟨?_, ?_, ?_, ?_⟩ <;> decide +kernel

/-- SBO 3 of group 7: the unit ACTIVE, its field group ACTIVE, the gate open, and a test in the given phase. -/
def sbo3 (rs : List (Nat × Nat)) (back : Nat) (x : SboTest) : State :=
  let s := safeSt (sg7 grpSafe ++ [(pa P.SBO H.STAT, stActive), (pa (P.FLD + 3) H.STAT, stActive), (R.PART_STAT, 2 ^ 9),
    (fldA 3 R.FLD_SBO_CFG, 2 ^ 31), (R.EXEC_MODE, modeStop), (R.STARTER_TICK, 2000)] ++ rs)
    (fun y => { y with tests := List.replicate 3 testZero ++ [x], misSince := List.replicate 3 none ++ [some 0] })
  { s with groups := List.replicate 3 groupZero ++ [{ groupZero with sboUp := back }] }

theorem test_hyp_SafetyUnit_tests :
    (let s := sbo3 [] 0 testZero
     let a : BitVec 16 := 0xFFFF
     s.regsOk ∧ s.safety.sized ∧ s.testBlocked 3 = false ∧ (s.sboTest 3).phase = 0 ∧ a.toNat % 4 = (3 : Fin 4).val ∧
       s.accepts ⟨P.SBO, 0x10, .supervisor⟩ ∧ s.halted = false ∧ s.sboOn = true ∧ s.testDue 3 = true ∧
       (s.sboTest 3).retryAt ≤ s.now ∧ s.accepts ⟨P.SBO, 0x11, .supervisor⟩ ∧ brakeGate 3 s = none ∧
       s.sboGroup 3 = some 7 ∧ getAt none s.safety.misSince 3 = some 0 ∧ 0 + s.regF (sboA 3 0) 27 16 ≤ s.now ∧
       s.regB (sboA 3 sboStat) 16 = false ∧ s.sgEn 7 = true ∧ s.sgState 7 = grpSafe) ∧
    (let s := sbo3 [] 0 { testZero with due := true }
     s.regsOk ∧ s.safety.sized ∧ s.testBlocked 3 = false ∧ (s.sboTest 3).phase = 0 ∧ (s.sboTest 3).due = true ∧
       s.sboOn = true ∧ (s.sboTest 3).retryAt ≤ s.now) ∧
    (let s := sbo3 [(R.PART_STAT, 0)] 0 testZero
     s.regsOk ∧ s.safety.sized ∧ s.testBlocked 3 = true ∧ (s.sboTest 3).phase = 0 ∧ s.testDue 3 = true ∧
       (s.sboTest 3).retryAt ≤ s.now) ∧
    (let s := sbo3 [(sboA 3 sboTestAge, 3600 * 32)] 0 testZero
     s.regsOk ∧ s.safety.sized ∧ s.sboOn = true ∧ s.overdue 3 = true ∧ s.standby = false ∧ s.safety.gateFirst = none) := by
  unfold State.regsOk State.accepts Safety.sized; refine ⟨?_, ?_, ?_, ?_⟩ <;> decide +kernel

/-- A running test at the end of its step. -/
def step3 (phase back : Nat) (energised : Bool) (op : Nat) : State :=
  let c := pa P.SBO H.CMDSTAT
  sbo3 (if op = 0 then [] else [(c, op * 2 ^ 8 + cBusy)]) back
    { testZero with phase := phase, endTick := 2000, energised := energised, ok := true, sawOn := true, byCommand := op ≠ 0 }

theorem test_hyp_SafetyUnit_steps :
    (∀ p ∈ [1, 3, 11, 12, 13, 14], ∀ e ∈ [true, false], let s := step3 p 0 e 0
      s.regsOk ∧ s.safety.sized ∧ (s.sboTest 3).endTick ≤ s.now ∧ (s.sboTest 3).phase = p ∧ (s.sboTest 3).ok = true ∧
        (s.sboTest 3).sawOn = true ∧ s.sboGroup 3 = some 7) ∧
    (step3 1 0 true 0).stepPasses 3 1 = true ∧ (step3 1 8 true 0).stepPasses 3 1 = false ∧
    (step3 1 8 false 0).stepPasses 3 1 = true ∧ (step3 1 0 false 0).stepPasses 3 1 = false ∧
    (step3 3 0 true 0).stepPasses 3 2 = true ∧ (step3 3 4 false 0).stepPasses 3 2 = true ∧
    (step3 11 8 false 0).sboBack 3 / 2 = 4 ∧ (step3 11 0 false 0).sboBack 3 / 2 ≠ 4 ∧
    (step3 12 4 false 0).sboBack 3 / 2 = 2 ∧ (step3 14 1 false 0).sboBack 3 / 2 = 0 ∧
    ((step3 3 0 true 0x10).sboTest 3).byCommand = true ∧ (step3 3 0 true 0x10).busyWith P.SBO 0x10 = true ∧
    ((step3 14 0 true 0x11).sboTest 3).byCommand = true ∧ (step3 14 0 true 0x11).busyWith P.SBO 0x11 = true := by
  unfold State.regsOk Safety.sized; decide +kernel


/-! ### Partner -/

/-- A module of the given role at tick 30 000 with other registers set and its partner unit changed. -/
def partner (role stat : Nat) (rs : List (Nat × Nat)) (h : Partner → Partner) : State :=
  let s := st ([(R.PART_STAT, role + stat), (R.STARTER_TICK, 30000)] ++ rs)
  { s with part := h s.part }

/-- The link is up (bit 10), the open gate (bit 9). -/
def linkUp : Nat := 2 ^ 10

theorem test_hyp_PartnerUnit :
    (∀ r ∈ [roleClaiming, roleBackoff, roleActive, roleSingle],
      let s := partner r 0 [] (fun x => { x with toggling := true, claimTick := 29000 })
      s.Inv ∧ s.part.actIn = false ∧ s.role = r ∧ s.part.toggling = true ∧ s.now ≤ s.part.claimTick + 1000) ∧
    (let s := partner roleBackoff 0 [] (fun x => { x with actIn := true })
     s.Inv ∧ s.part.actIn = true ∧ s.role = roleBackoff) ∧
    (let s := partner roleWithdrawn 0 [(pa P.PART H.CMDSTAT, 0x10 * 2 ^ 8 + cBusy)]
       (fun x => { x with held := true, lastToggle := 29950 })
     s.Inv ∧ s.part.held = true ∧ s.part.toggling = false ∧ s.part.lastToggle + 50 ≤ s.now ∧
       s.busyWith P.PART 0x10 = true) ∧
    (let s := partner roleActive 0 [] (fun x => { x with held := true, clearSince := some 29900 })
     s.Inv ∧ s.part.clearSince = some 29900 ∧ s.part.held = true ∧ s.part.actIn = false ∧ s.regB R.PART_STAT 9 = false ∧
       29900 + 100 ≤ s.now) ∧
    (let s := partner roleClaiming 0 [] (fun x => { x with waitStart := some (30000 - (partner 1 0 [] id).claimWait) })
     s.Inv ∧ s.part.waitStart = some (30000 - (partner 1 0 [] id).claimWait) ∧ s.part.actIn = false ∧ s.halted = false ∧
       30000 - (partner 1 0 [] id).claimWait + s.claimWait ≤ s.now) ∧
    commitSeq (leBytes 4 0x4E544142 ++ leBytes 4 1 ++ leBytes 8 77 ++ leBytes 8 0) = some 77 := by
  unfold State.Inv; refine ⟨?_, ?_, ?_, ?_, ?_, ?_⟩ <;> decide +kernel

theorem test_hyp_PartnerUnit_standby :
    (∀ r ∈ [roleSync, roleArmed, roleUnarmed],
      let s := partner r linkUp [(R.PART_CFG, 2 ^ 4), (R.PFC_INJ_AGE_S, 3600)] (fun x => { x with copying := true })
      s.Inv ∧ s.stbyRole = true ∧ s.regB R.PART_STAT 10 = true ∧ s.part.copying = true ∧ s.role = r ∧
        fld s.partCfg 8 4 ≠ 0 ∧ 3600 * fld s.partCfg 8 4 ≤ s.regN R.PFC_INJ_AGE_S ∧ s.halted = false ∧ s.regF R.PFC_INJ_STAT 1 0 ≠ 3) ∧
    (∀ a ∈ [true, false], ∀ n ∈ [3, 1],
      let s := partner roleArmed 0 [(R.PART_CFG, n)] (fun x => { x with actIn := a })
      s.Inv ∧ s.stbyRole = true ∧ s.regB R.PART_STAT 12 = false ∧ s.hears s.part.hbLink = false ∧
        s.hears s.part.hbGrd = false ∧ s.part.silenceFrom + s.silence ≤ s.now ∧ s.role = roleArmed ∧
        s.autoTake = (n == 3) ∧ s.part.actIn = a) ∧
    ((partner roleUnarmed 0 [] id).role ≠ roleArmed ∧ (3 : Fin 4) ≠ 0 ∧ (partner roleUnarmed 0 [] id).Inv) ∧
    (let s := partner roleArmed 0 [(R.PART_CFG, 4)] (fun x => { x with hbLink := some 30000, reportTick := some 0 })
     let u := { s with regs := (s.setRegN R.STARTER_TICK 100000).regs }
     s.Inv ∧ bitOf s.partCfg 2 = true ∧ s.hears s.part.hbLink ≠ s.hears s.part.hbGrd ∧ u.Inv ∧
       u.part.reportTick = some 0 ∧ 0 + 100000 ≤ u.now) := by
  unfold State.Inv; refine ⟨?_, ?_, ?_, ?_⟩ <;> decide +kernel

/-- A report of 16 words whose last is the CRC of the others. -/
def report : List Word :=
  let ws : List Word := List.replicate 15 (BitVec.ofNat 32 0x10)
  ws ++ [BitVec.ofNat 32 (wordsCrc (ws.map (·.toNat)))]

set_option maxRecDepth 20000 in
theorem test_hyp_PartnerUnit_reports :
    report.length = 16 ∧ wordsCrc ((report.map (·.toNat)).take 15) = (getAt 0 report 15).toNat ∧
      (List.replicate 16 (0 : Word)).length = 16 ∧
      wordsCrc (((List.replicate 16 (0 : Word)).map (·.toNat)).take 15) ≠ (getAt 0 (List.replicate 16 (0 : Word)) 15).toNat ∧
      [(0 : Word)].length ≠ 16 ∧ (partner roleActive 0 [] id).reportDue = true ∧ (partner roleActive linkUp [] id).reportDue = true ∧
      (partner roleActive linkUp [] id).Inv ∧ (partner roleActive linkUp [] id).regB R.PART_STAT 10 = true := by
  unfold State.Inv; decide +kernel

theorem test_hyp_PartnerUnit_commands :
    (∀ r ∈ [roleActive, roleSingle], let s := partner r linkUp [] (fun x => { x with partnerArmed := true })
      s.Inv ∧ s.accepts ⟨P.PART, 0x10, .supervisor⟩ ∧ withdrawGate (0 : BitVec 16).toNat s = none ∧
        withdrawGate (1 : BitVec 16).toNat s = none ∧ s.accepts ⟨P.PART, 0x12, .supervisor⟩ ∧ s.halted = false ∧
        s.role = r ∧ s.regB R.PART_STAT 10 = true) ∧
    (let s := partner roleArmed (2 ^ 12) [(R.PART_CFG, 1)] id
     s.Inv ∧ s.accepts ⟨P.PART, 0x11, .supervisor⟩ ∧ takeoverGate s = none) := by
  unfold State.Inv State.accepts; refine ⟨?_, ?_⟩ <;> decide +kernel


/-! ### Hosts and links -/

theorem test_hyp_HostsAndLinks_memory :
    (let s := State.reset
     let bs : List Byte := List.replicate 8 1
     s.regsOk ∧ bs ≠ [] ∧ s.mayStore (1 : Fin 2) (0x1D0000 : BitVec 23).toNat bs.length = true ∧
       s.poisoned (0x1D0000 : BitVec 23).toNat bs.length = false ∧
       hostOverlap (0x1D0000 : BitVec 23).toNat bs.length (hostBase (1 : Fin 2) + offRearm) 4 = false ∧
       s.mayStore (1 : Fin 2) (0x1CFFFC : BitVec 23).toNat bs.length = false) ∧
    (let p := { prog1 with binds := [⟨2, 0, P.HOST, hostChan 3 54, 0, 1008⟩, ⟨2, 0, P.HOST, hostChan 3 1, 0, 48⟩] }
     let s : State := { State.reset with exec := { State.reset.exec with prog := some p } }
     let v : Word := BitVec.ofNat 32 (2 ^ 31 + 54 * 2 ^ 16 + 992)
     let w : Word := BitVec.ofNat 32 (2 ^ 31 + 1 * 2 ^ 16 + 33)
     let u : Word := BitVec.ofNat 32 (2 ^ 31 + 2 * 2 ^ 16)
     s.regsOk ∧ s.mayStore (3 : Fin 4) (hostBase 3 + offCommit) 4 = true ∧ s.poisoned (hostBase 3 + offCommit) 4 = false ∧
       (0 : Word).getLsbD 31 = false ∧ v.getLsbD 31 = true ∧
       (s.binds.find? fun x => x.kind == 2 && x.page == P.HOST && x.chan == hostChan 3 (v.toNat / 2 ^ 16 % 64))
         = some ⟨2, 0, P.HOST, hostChan 3 54, 0, 1008⟩ ∧
       v.toNat % 1024 ≤ 1008 - 16 ∧ v.toNat % 1024 + 16 ≤ 0x400 ∧ v.toNat / 2 ^ 16 % 64 < 55 ∧ w.getLsbD 31 = true ∧
       (s.binds.find? fun x => x.kind == 2 && x.page == P.HOST && x.chan == hostChan 3 (w.toNat / 2 ^ 16 % 64))
         = some ⟨2, 0, P.HOST, hostChan 3 1, 0, 48⟩ ∧ 48 - 16 < w.toNat % 1024 ∧ u.getLsbD 31 = true ∧
       (s.binds.find? fun x => x.kind == 2 && x.page == P.HOST && x.chan == hostChan 3 (u.toNat / 2 ^ 16 % 64)) = none) := by
  unfold State.regsOk; refine ⟨?_, ?_⟩ <;> decide +kernel

/-- An open session of H3 on port ETH1. -/
def sess3 (ver : Nat) : Session := ⟨7, ver, 0x0A000001, 5000, 1, 0xFFFFFFFF, [1], [], 0, 3, true, some 0⟩

/-- A module with its Ethernet ports and SHP up, a session of H3 and interrupt 8 of PCIE raised for H1 and H3. -/
def hosts (irq : Bool) (x : Option Session) (rs : List (Nat × Nat)) : State :=
  let s := st ([(R.HOST_STAT, 0xA), (pa P.PCIE H.CTRL, 1), (R.PCIE_CFG, 3), (R.PCIE_STAT, 8 * 2 ^ 8),
    (pa (P.ETH + 1) H.CTRL, 1), (pa P.SHP H.CTRL, 1), (ethA 1 R.ETH_STAT, 1), (ethA 1 R.ETH_IP_ADDR, 0x0A000002),
    (pa P.PCIE H.IRQ_EN, 0xFFFF), (pa P.PCIE H.IRQ_RAW, if irq then 2 ^ 8 else 0),
    (R.STARTER_TICK, 200000000)] ++ rs)
  { s with shp := { s.shp with sess := [none, x], keys := [none, some [1]] } }

theorem test_hyp_HostsAndLinks_links :
    (hosts false none []).regsOk ∧ (hosts false none []).hostUp 1 = true ∧ (hosts false none []).summary 1 = false ∧
      (hosts false (some (sess3 1)) []).session 1 = some (sess3 1) ∧ (hosts false (some (sess3 1)) []).summary 3 = false ∧
      (sess3 1).ver ≠ 2 ∧ (hosts false none []).epOn 0 = true ∧ (hosts false none []).hostUp 0 = false ∧
      (hosts false none []).regB (ethA 1 R.ETH_STAT) 0 ≠ false ∧ (hosts false none []).en (P.ETH + 1) = true ∧
      (hosts false none [(ethA 1 R.ETH_STAT, 0)]).regB (ethA 1 R.ETH_STAT) 0 ≠ true ∧
      (hosts false none []).pgState (P.ETH + 1) ≠ stFault ∧ (sess3 1).eth = (1 : Fin 2).val ∧
      (hosts false none []).ethServes 1 = true ∧
      (hosts false (some (sess3 1)) []).accepts ⟨P.SHP, 0x10, .supervisor⟩ ∧
      ((hosts false (some (sess3 1)) []).session ((0xFFFF : BitVec 16).toNat % 2)).isSome = true := by
  unfold State.regsOk State.accepts; decide +kernel

/-- Interrupts pend for H1 and H3. -/
def asking (x : Option Session) : State :=
  let s := hosts true x []
  let m : List Byte := List.replicate 32 0xFF
  let mem := Memory.writeN (Memory.writeN s.mems.comms (hostBase 1 + 0xDC20) m) (hostBase 3 + 0xDC20) m
  { s with mems := { s.mems with comms := mem } }

theorem test_hyp_HostsAndLinks_signals :
    (asking none).regsOk ∧ (asking none).hostUp 1 = true ∧ (asking none).summary 1 = true ∧
      (asking none).regB R.PCIE_STAT (8 * 1 + 3) = true ∧ (asking (some (sess3 2))).summary 3 = true ∧
      (asking (some (sess3 2))).session (3 - 2) = some (sess3 2) ∧ (sess3 2).ver = 2 := by
  unfold State.regsOk; decide +kernel

/-- An ARP request for 10.0.0.2 (R451). -/
def arp : List Byte :=
  beBytes 6 0xFFFFFFFFFFFF ++ beBytes 6 0x020000000001 ++ beBytes 2 0x0806 ++ beBytes 8 0x0001080006040001
    ++ beBytes 6 0x020000000001 ++ beBytes 4 0x0A000001 ++ beBytes 6 0 ++ beBytes 4 0x0A000002

theorem test_hyp_HostsAndLinks_arp :
    netN arp 0 6 = 0xFFFFFFFFFFFF ∧ netN arp 12 2 = 0x0806 ∧ 42 ≤ arp.length ∧ netN arp 14 8 = 0x0001080006040001 ∧
      netN arp 38 4 = (hosts false none []).ethIp 1 := by decide +kernel

theorem test_hyp_HostsAndLinks_drop :
    let s := st [(pa P.HOST H.OWNER, 0), (pa P.CAN H.OWNER, 3)]
    s.regsOk ∧ s.accepts ⟨P.HOST, 0x10, .h0⟩ ∧ s.mgmt = issuerCode .h0 ∧ P.CAN ∈ pageList ∧ s.populated P.CAN = true ∧
      s.owner P.CAN = (3 : BitVec 16).toNat % 4 ∧ s.owner P.ENV ≠ (3 : BitVec 16).toNat % 4 := by
  unfold State.regsOk State.accepts; decide +kernel

/-! ### Sessions over Ethernet -/

/-- A message of H3 over ETH1 with a right tag under the key `[1]`. -/
def shpMsg (ver typ : Nat) (body : List Byte) : ShpHead :=
  let h : ShpHead := ⟨1, 0x0A000001, 5000, BitVec.ofNat 8 ver, 7, 0, 3, []⟩
  { h with tag := hmac [1] (shpHeadBytes h typ body.length ++ body) }

theorem test_hyp_EthernetSessions_hello :
    let s := hosts false none []
    let n : List Byte := List.replicate 16 5
    let h := shpMsg 255 0x01 n
    s.regsOk ∧ s.shp.sess.length = 2 ∧ s.shpHears h ∧ n.length = 16 ∧ h.ver.toNat ≠ 0 ∧
      getAt none s.shp.keys (shpSlot h) = some [1] ∧ hmac [1] (shpHeadBytes h 0x01 16 ++ n) = h.tag ∧
      hmac [1] (shpHeadBytes h 0x01 16 ++ List.replicate 16 6) ≠ h.tag ∧ h.tag.length = 32 := by
  unfold State.regsOk State.shpHears; decide +kernel

theorem test_hyp_EthernetSessions_reads :
    let s := hosts false (some (sess3 2)) []
    s.regsOk ∧ s.shp.sess.length = 2 ∧
      (let b := leBytes 4 (0xFFC00 : Word).toNat ++ leBytes 4 (256 : Word).toNat
       s.shpTakes (shpMsg 2 0x10 b) 0x10 b (sess3 2)) ∧ (0xFFC00 : Word).toNat % 4 = 0 ∧
      (0xFFC00 : Word).toNat + 4 * (256 : Word).toNat ≤ 2 ^ 20 ∧
      (let b := leBytes 4 (0x7FFC00 : Word).toNat ++ leBytes 4 (1024 : Word).toNat
       s.shpTakes (shpMsg 2 0x12 b) 0x12 b (sess3 2)) ∧ memRangeOk (0x7FFC00 : Word).toNat (1024 : Word).toNat = true ∧
      s.poisoned (0x7FFC00 : Word).toNat (1024 : Word).toNat = false := by
  unfold State.regsOk State.shpTakes State.shpHears; decide +kernel

theorem test_hyp_EthernetSessions_writes :
    let s := hosts false (some (sess3 2)) []
    (let bs : List Byte := List.replicate 4 9
       let b := leBytes 4 (0x1F0000 : Word).toNat ++ leBytes 4 (4 : Word).toNat ++ bs
       s.shpTakes (shpMsg 2 0x13 b) 0x13 b (sess3 2) ∧ bs.length = (4 : Word).toNat ∧
         memRangeOk (0x1F0000 : Word).toNat (4 : Word).toNat = true ∧
         s.mayStore ((shpMsg 2 0x13 b).host.toNat % 4) (0x1F0000 : Word).toNat (4 : Word).toNat = true ∧
         s.poisoned (0x1F0000 : Word).toNat (4 : Word).toNat = false ∧
         hostOverlap (0x1F0000 : Word).toNat (4 : Word).toNat (hostBase ((shpMsg 2 0x13 b).host.toNat % 4) + offRearm) 4 = false) ∧
      (let ps : List (Word × Word) := [(0, 1)]
       let b := ps.flatMap fun q => leBytes 4 q.1.toNat ++ leBytes 4 q.2.toNat
       s.shpTakes (shpMsg 2 0x11 b) 0x11 b (sess3 2) ∧ ps ≠ [] ∧ ps.length ≤ 128) ∧
      s.shpTakes (shpMsg 2 0x14 []) 0x14 [] (sess3 2) ∧ (sess3 2).ver = 2 ∧
      s.summary ((shpMsg 2 0x14 []).host.toNat % 4) = false ∧ s.shpTakes (shpMsg 2 0x15 []) 0x15 [] (sess3 2) := by
  unfold State.shpTakes State.shpHears; refine ⟨?_, ?_, ?_⟩ <;> decide +kernel

theorem test_hyp_EthernetSessions_events :
    let s := hosts false (some (sess3 2)) []
    s.session 1 = some (sess3 2) ∧ (sess3 2).evtDue = true ∧ (sess3 2).evtSent = some 0 ∧ 0 + 100000 ≤ s.now ∧
      (sess3 2).lastReq + s.sessTimeout ≤ s.now := by decide +kernel


/-! ### Boot and update -/

/-- A boot that meets nothing wrong. -/
def goodBoot : BootReport := ⟨0xF, [], ⟨[]⟩, [0, 0, 0, 0, 0, 0], [1, 2, 3]⟩

/-- State.reset with its registers set and its boot part changed. -/
def booted (rs : List (Nat × Nat)) (h : Boot → Boot) : State :=
  let s := st rs
  { s with boot := h s.boot }

set_option maxRecDepth 20000 in
theorem test_hyp_BootAndUpdate_power :
    State.reset.Inv ∧ State.reset.boot.powered = false ∧ State.reset.fuseCrcOk = true ∧ State.reset.boot.op = none ∧
      (st [(R.BOOT_CFG, 0)]).Inv ∧ (st [(R.BOOT_CFG, 0)]).fuseCrcOk = true ∧
      (st [(R.BOOT_CFG, 0)]).regB R.BOOT_CFG 0 = false ∧ goodBoot.kat = 0xF ∧ injFirstFail goodBoot.inj = none ∧
      ({ goodBoot with kat := 7 } : BootReport).kat ≠ 0xF ∧
      (∀ k, k < 2 → State.reset.slotState k ≠ slotTrial ∧ State.reset.slotState k ≠ slotConfirmed) ∧
      (let s := booted [] (fun b => { b with fuse0 := 1, fuse1 := 1, fuse2 := 1 })
       s.Inv ∧ s.boot.powered = false ∧ s.fuseCrcOk = false) ∧
      (∀ m ∈ [modeStop, modeRun], let s := booted [(R.EXEC_MODE, m), (R.BATON_STAT, 2 ^ 10)] (fun b => { b with powered := true })
       s.Inv ∧ s.boot.powered = true ∧ s.regB R.BATON_STAT 10 = true ∧ s.accepts ⟨P.BOOT, 0x10, .supervisor⟩ ∧
         s.boot.waiting = false ∧ s.halted = false ∧ s.standby = false ∧ s.active = (m == modeRun)) ∧
      (let s := booted [] (fun b => { b with powered := true, waiting := true })
       s.Inv ∧ s.boot.powered = true ∧ s.boot.waiting = true) := by
  unfold State.Inv State.accepts; decide +kernel

/-- A container header of a kind for the variant F; its own fields pass the checks (R478, R479). -/
def header (kind : Nat) : List Byte :=
  words [0x4B534C46, 1 + 2 ^ 16 * kind, 0, 63, 4, 4, 3] ++ List.replicate (0x1C1 - 28) 0 ++ [7]
    ++ List.replicate (768 - 0x1C2) 0

/-- A configuration record without entries (R476). -/
def emptyRecord : List Byte :=
  let ws := words [0x47464353, 1 + 2 ^ 16 * 3, 0, 0, 40, 0, 0, 0, 0]
  ws ++ words [crc32 ws]

/-- Configuration and firmware are confirmed; the boot marches no memory. -/
def bootable : State :=
  let s := st [(slotA 0, slotConfirmed), (slotA 2, slotConfirmed), (R.BOOT_CFG, 0)]
  { s with boot := { s.boot with headers := [header 1, [], header 2, [], [], []], flash := [emptyRecord, [], [1], [], [], []] } }

set_option maxRecDepth 20000 in
/-- Its power-up does not end in RECOVERY. -/
theorem test_powerUp_boots :
    bootable.Inv ∧ bootable.regB R.BOOT_CFG 0 = false ∧
      (match exec (.powerUp goodBoot) bootable with
       | .next t => !t.boot.recovery && t.regF R.BOOT_STAT 7 4 == 7
       | _ => false) = true := by
  unfold State.Inv; decide +kernel

/-- A container is staged, and an UPD command with these arguments runs. -/
def updating (op a b : Nat) (kind : Nat) : State :=
  booted [(R.UPD_STG_BYTES, 772), (R.UPD_STG_LEN, 8), (R.UPD_STG_SRC, 0xFFF8), (R.UPD_STG_OFFSET, 0x2000000 - 8)]
    (fun x => { x with op := some (op, a, b, 0), staging := Memory.writeN [] 0 (header kind) })

theorem test_hyp_BootAndUpdate_commands :
    (let s := booted [(R.UPD_STG_LEN, 8), (R.UPD_STG_SRC, 0xFFF8), (R.UPD_STG_OFFSET, 0xFFFF8), (slotA 5, slotInstalled),
         (pa P.UPD H.OWNER, 0)] (fun x => { x with erased := 0x100000 })
     s.Inv ∧ s.halted = false ∧ s.updServes = true ∧ s.accepts ⟨P.UPD, 0x10, .h0⟩ ∧ 1 ≤ (32 : BitVec 16).toNat ∧
       (32 : BitVec 16).toNat ≤ 32 ∧ s.accepts ⟨P.UPD, 0x11, .h0⟩ ∧ chunkGate .h0 s = none ∧ s.slotBusy = false ∧
       s.accepts ⟨P.UPD, 0x12, .h0⟩ ∧ s.accepts ⟨P.UPD, 0x13, .h0⟩ ∧ activateGate (3 : BitVec 16).toNat s = none ∧
       s.installedOf ((3 : BitVec 16).toNat % 4) = some 5 ∧ s.accepts ⟨P.UPD, 0x14, .h0⟩ ∧ s.installedSlot = some 5) ∧
    (let s := st [(R.SWAP_STAT, swStaged), (pa P.UPD H.OWNER, 0)]
     s.Inv ∧ s.halted = false ∧ s.updServes = true ∧ s.accepts ⟨P.UPD, 0x12, .h0⟩ ∧ s.slotBusy = true) := by
  unfold State.Inv State.accepts; refine ⟨?_, ?_⟩ <;> decide +kernel

set_option maxRecDepth 20000 in
theorem test_hyp_BootAndUpdate_ends :
    (∀ op ∈ [0x10, 0x11, 0x12], (updating op 3 0 3).Inv ∧ (updating op 3 0 3).boot.op = some (op, 3, 0, 0)) ∧
      (updating 0x11 3 0 3).poisoned (hostBase 3 + (updating 0x11 3 0 3).regN R.UPD_STG_SRC) 8 = false ∧
      (updating 0x11 3 0 3).regN R.UPD_STG_LEN = 8 ∧ (updating 0x11 3 0 3).regN R.UPD_STG_OFFSET + 8 < 2 ^ 32 ∧
      (let s := updating 0x12 0 0 3
       checkStaged s.updKinds s.boot.recovery ⟨0, [1, 2, 3, 4], 0⟩ s = .ok (header 3) [1, 2, 3, 4] ∧
         s.installSlot.any s.slotNamed = false ∧ s.inactiveSlot (hdrKind (header 3)) < 6 ∧ s.boot.flash.length = 6 ∧ s.boot.headers.length = 6 ∧
         checkStaged s.updKinds s.boot.recovery ⟨6, [], 0⟩ s = .fail 6 ∧ 6 < 256) ∧
      (let s := (updating 0x12 0 0 3).setF R.SWAP_STAT 2 0 swStaged
       let p := imageProgram (image 2)
       let s : State := { s with swap := { s.swap with staged := some ⟨5, p, 4, p, mapOf 1 2, mapOf 2 1⟩ } }
       s.Inv ∧ s.boot.op = some (0x12, 0, 0, 0) ∧ s.installSlot.any s.slotNamed = true) := by
  unfold State.Inv; refine ⟨?_, ?_, ?_⟩ <;> decide +kernel

theorem test_hyp_BootAndUpdate_trials :
    (let s := st [(slotA 0, slotTrial + 16), (pa P.UPD H.OWNER, 0), (R.UPD_TRIAL_RUN_S, 65535)]
     s.Inv ∧ s.populated P.UPD = true ∧ s.mayWrite P.UPD .h0 = true ∧ (0x48434F4E : Word) = 0x48434F4E ∧
       (0x48434F4F : Word) ≠ 0x48434F4E ∧ s.halted = false ∧ s.boot.recovery = false ∧ s.trialInUse = some 0 ∧
       s.trialSlot = some 0 ∧ s.trialWin ≤ s.regN R.UPD_TRIAL_RUN_S ∧ s.part.partnerArmed = false) ∧
    (let s := st [(slotA 5, slotTrial), (R.SWAP_STAT, swTrial), (R.UPD_TRIAL_RUN_S, 65535)]
     s.Inv ∧ s.trialSlot = some 5 ∧ 4 ≤ 5 ∧ s.swapState = swTrial ∧ s.trialWin ≤ s.regN R.UPD_TRIAL_RUN_S) ∧
    (let s := st [(slotA 5, slotTrial), (R.PART_STAT, roleActive), (R.UPD_TRIAL_RUN_S, 65535)]
     let s : State := { s with part := { s.part with partnerArmed := true } }
     s.Inv ∧ s.trialSlot = some 5 ∧ s.swapState ≠ swTrial ∧ s.trialWin ≤ s.regN R.UPD_TRIAL_RUN_S ∧
       s.part.partnerArmed = true ∧ s.role = roleActive) := by
  unfold State.Inv; refine ⟨?_, ?_, ?_⟩ <;> decide +kernel

/-! ### Recorder and monitors -/

theorem test_hyp_RecorderAndMonitors :
    (∀ n ∈ [0, 230399], ∀ f ∈ [0, 2 ^ 16],
      let s := booted [(R.BOOT_STAT, 1), (R.REC_OP_SEC_LO, n), (R.REC_STAT, f)] (fun b => { b with powered := true })
      s.Inv ∧ s.boot.powered = true ∧ s.halted = false ∧ s.isReleased = true ∧ s.life.live.bins.length = 64 ∧
        s.life.unwritten = [] ∧ s.recCount < 4096 ∧ s.regB R.REC_STAT 16 = (f != 0) ∧
        decide (s.recCloseAt ≤ (s.opSec + 1) % 2 ^ 40) = (n == 230399)) ∧
    (booted [] (fun b => { b with powered := true })).isReleased = false ∧
    (let s := st [(R.REC_STAT, 2 ^ 16 + 4096)]
     s.Inv ∧ s.accepts ⟨P.REC, 0x10, .supervisor⟩ ∧ (4096 : BitVec 16).toNat = s.recCount ∧
       (4095 : BitVec 16).toNat ≠ s.recCount) ∧
    (let r : Report := ⟨1, 2, 3, 4⟩
     let s : State := { st [(R.STARTER_TICK, 50)] with reports := [r] }
     s.Inv ∧ s.reports = r :: [] ∧ s.halted = false ∧ s.boot.recovery = false ∧ s.life.drainedAt + 50 ≤ s.now) ∧
    (let s := st [(R.ENV_TEMP_WARN, 100 * 2 ^ 16)]
     s.Inv ∧ s.regB R.ENV_STAT 4 = false ∧
       toSigned 16 (fld (s.envLimit R.ENV_TEMP_WARN) 31 16) ≤ (100 : BitVec 16).toInt) := by
  unfold State.Inv State.accepts; refine ⟨?_, ?_, ?_, ?_, ?_⟩ <;> decide +kernel


/-! ### The spec's worked examples -/

/-- Chapter 10: nine deviations average to 7 ns, seven rates to 4 ns. -/
theorem test_pacer_example :
    fta [0, 0, 12, 14, -9, 6, 5, 70, 68] = 7 ∧ fta [4, 3, 2, 3, 4, 9, 8] = 4 := by decide +kernel

/-- Chapter 11: RATE_PPB −2,750 and an error of 40 ns at 1,000 µs give INCREMENT 0x0800_1388. -/
theorem test_increment_example :
    (st [(R.PACER_RATE_PPB, 2 ^ 32 - 2750)]).rateTerm + divRound (40 * 2 ^ 24) (1000 * 125) = 0x08001388 := by
  decide +kernel

/-- Chapter 6: the sums of four tasks, the worst of 280,000 cycles at index 3, and 370,000 at index 2 with T3 moved. -/
theorem test_budget_example :
    worstStride { prog1 with tasks := [⟨0, 0, 0, 0, 0⟩, ⟨0, 0, 1, 0, 0⟩, ⟨0, 0, 2, 1, 0⟩, ⟨0, 0, 2, 3, 0⟩] }
        [150000, 90000, 80000, 130000] = (280000, 3) ∧
      worstStride { prog1 with tasks := [⟨0, 0, 0, 0, 0⟩, ⟨0, 0, 1, 0, 0⟩, ⟨0, 0, 2, 1, 0⟩, ⟨0, 0, 2, 2, 0⟩] }
        [150000, 90000, 80000, 130000] = (370000, 2) := by decide +kernel

/-- Chapter 7: the door-release block at code offset 0x400. -/
def doorCode : List Byte := List.replicate 0x400 0 ++ words
  [0x10202800, 0x60, 0x10304800, 0, 0x40023800, 0x41020000, 0x50D00001, 0x02000000, 0x10104C00, 8, 0x60000008,
   0x11002000, 0x8020, 0x54000000]

set_option maxRecDepth 20000 in
/-- Its instructions are admitted, and its worst case is 28 cycles. -/
theorem test_wcet_example :
    let p : Program := { prog1 with code := doorCode, types := [⟨0x400, 0x438, 32, 0⟩] }
    let r := typeRange 0 ⟨0x400, 0x438, 32, 0⟩
    (match aRange p r with | .ok ops => aWcet (fun _ => 0) r ops | .error _ => 0) = 28 := by decide +kernel

/-- Chapter 2: CLAIM of CAN5 by H2 while H0 owns it answers NOT_OWNER with SEQ 0x18. -/
theorem test_claim_example :
    let s := st [(pa 0x25 H.OWNER, 0x100), (pa 0x25 H.CMDSTAT, 0x17000000)]
    (match exec (.claim 0x25 .h2 0) s with
     | .next t => t.reg (pa 0x25 H.CMDSTAT) == 0x18020104 && t.ownerWord 0x25 == 0x108
     | _ => false) = true := by decide +kernel

/-- Chapter 2: RELEASE by H0 gives PG_OWNER 0x0000_0207. -/
theorem test_release_example :
    let s := st [(pa 0x25 H.OWNER, 0x100), (pa 0x25 H.CMDSTAT, 0x18020104)]
    (match exec (.release 0x25 .h0 0) s with
     | .next t => t.reg (pa 0x25 H.CMDSTAT) == 0x19000200 && t.ownerWord 0x25 == 0x207
     | _ => false) = true := by decide +kernel

/-- Chapter 2: TAKE by H0 gives PG_OWNER 0x0000_0408. -/
theorem test_take_example :
    let s := st [(pa 0x25 H.OWNER, 0x303), (pa 0x25 H.CMDSTAT, 0x1A030100)]
    (match exec (.take 0x25 .h0 0) s with
     | .next t => t.reg (pa 0x25 H.CMDSTAT) == 0x1B000300 && t.ownerWord 0x25 == 0x408
     | _ => false) = true := by decide +kernel

/-- Chapter 5: H0 adds 0x10 to 0x42. -/
theorem test_atomic_example :
    let s := st [(R.MEMX_ATOM_ADDR, 0x1C0100), (R.MEMX_ATOM_OPND_LO, 0x10), (pa P.MEMX H.OWNER, 0)]
    let s : State := { s with mems := { s.mems with comms := putWord 0x1C0100 0x42 [] } }
    (match exec (.atomAdd 3 .h0 0) s with
     | .next t => t.regN R.MEMX_ATOM_OLD_LO == 0x42 && t.commsN 0x1C0100 8 == 0x52
     | _ => false) = true := by decide +kernel

/-! ### Terms that WellFormed refuses, one for each of its checks -/

theorem test_wf_reports :
    let x : InjSeen := ⟨0, 0, 0, 0, false⟩
    goodBoot.wf = true ∧ ({ goodBoot with slots := [] } : BootReport).wf = false ∧
      ({ goodBoot with us := List.replicate 9 0 } : BootReport).wf = false ∧
      ({ goodBoot with inj := ⟨[(686, x)]⟩ } : BootReport).wf = false ∧ ({ goodBoot with inj := ⟨[(5, x), (5, x)]⟩ } : BootReport).wf = false ∧
      ({ goodBoot with march := [⟨4, 0, 0, 0, 0⟩] } : BootReport).wf = false ∧
      ({ goodBoot with march := [⟨3, 0x200000, 0, 0, 0⟩] } : BootReport).wf = false ∧
      (Instr.marchEnd [⟨0, 4, 0, 0, 0⟩]).wf = false ∧ (Instr.injTestEnd ⟨[(686, x)]⟩).wf = false ∧
      (let r := { goodBoot with slots := [] }
       (Instr.powerUp r).wf = false ∧ (Instr.resetIn r).wf = false ∧ (Instr.bootRestart .h0 0 r).wf = false ∧ (Instr.trialWinExpired r).wf = false ∧
         (Instr.registerWrite .h0 0 4 0 r).wf = false) ∧ (Instr.registerWrite .h0 0 9 0 goodBoot).wf = false := by
  decide +kernel

theorem test_wf_lanes :
    let c : LaneCopy := ⟨0, none⟩
    let bad (k : Nat) : LaneCopy := ⟨0, some k⟩
    (Instr.vote (bad 5) c c 0).wf = false ∧ (Instr.vote c (bad 3) c 0).wf = false ∧ (Instr.vote c c (bad 1) 0).wf = false ∧
      (Instr.vote (bad 4) (bad 2) (bad 0) 0).wf = true ∧ (Instr.sampleTick ⟨none, [⟨2, 2 ^ 20, .single 0⟩]⟩).wf = false ∧
      (Instr.sampleTick ⟨none, [⟨3, 2 ^ 18, .single 0⟩]⟩).wf = false ∧
      (Instr.exchangeDeadline [none, none] [] [] 0).wf = false ∧
      (Instr.exchangeDeadline [none, none, some []] [] [] 0).wf = false ∧
      (Instr.exchangeDeadline [none, none, none] [1, 1] [] 0).wf = false ∧
      (Instr.exchangeDeadline [none, none, none] [] [2, 2] 0).wf = false ∧ (Instr.eccWriteBack 3 (2 ^ 18)).wf = false := by
  decide +kernel

theorem test_wf_engine :
    (Instr.ldx 0 0 .i .int16 0 0).wf = false ∧ (Instr.stx 0 0 .i .int16 0 0).wf = false ∧ (Instr.loop 0 1 0).wf = false ∧
      (Instr.loop 0 1 262144).wf = false ∧ (Instr.call 0 4).wf = false ∧ (Instr.trap 0x7F).wf = false ∧
      [Instr.ton 4, .tof 4, .tp 4, .rTrig 4, .fTrig 4, .ctu 4, .ctd 4, .ctud 4, .sr 4, .rs 4, .hyst .real32 4,
        .ramp .real32 4, .lag .real32 4].all (fun i => !i.wf) = true ∧ (Instr.mhdr 15 0).wf = false ∧
      (Instr.mget 0 .m 0 0 8 0).wf = false ∧ (Instr.mget 0 .l 0 0 0 0).wf = false ∧ (Instr.mput 0 .g 0 0 8).wf = false ∧
      (Instr.mput 0 .i 0 0 4097).wf = false := by decide +kernel

theorem test_wf_networks :
    (Instr.gradorRxInstance 0 0 (.frame (List.replicate 1519 0) 0 false)).wf = false ∧
      (Instr.canRxFrame 0 0xC0000000 false false 0 [] 0).wf = false ∧
      (Instr.canRxFrame 0 1 true false 0 [] 0).wf = false ∧ (Instr.canRxFrame 0 0x800 false false 0 [] 0).wf = false ∧
      (Instr.canRxFrame 0 1 false false 9 [1] 0).wf = false ∧ (Instr.canRxFrame 0 0x40000001 false false 1 [1] 0).wf = false ∧
      (Instr.relayDatagram 0 0 (List.replicate 1473 0)).wf = false ∧ (Instr.ethFrame 0 true [] goodBoot).wf = false ∧
      (Instr.ethFrame 0 true (List.replicate 1515 0) goodBoot).wf = false ∧ (Instr.bar2Write 0 0 []).wf = false ∧
      (Instr.bar2Write 0 0x7FFFFF [1, 2]).wf = false := by decide +kernel

theorem test_wf_partner :
    (Instr.lockoutStateMessage 1 1 []).wf = false ∧ (Instr.lockoutStateMessage 0 0 [(1, 0), (1, 1)]).wf = false ∧
      (Instr.mirrorWrite false 0xFFFFFF [1, 2]).wf = false ∧ (Instr.heartbeat false 0 0 0 3 2).wf = false ∧
      (Instr.healthReport false []).wf = false := by decide +kernel

theorem test_wf_sessions :
    let h : ShpHead := ⟨0, 0, 0, 1, 0, 0, 2, []⟩
    let g : ShpHead := { h with tag := List.replicate 32 0 }
    let n : List Byte := List.replicate 16 0
    (Instr.hello h n).wf = false ∧ (Instr.hello g []).wf = false ∧ (Instr.read h 0 0).wf = false ∧
      (Instr.write h [] goodBoot).wf = false ∧ (Instr.write g (List.replicate 177 (0, 0)) goodBoot).wf = false ∧
      (Instr.memRead h 0 0).wf = false ∧ (Instr.memWrite h 0 0 []).wf = false ∧
      (Instr.memWrite g 0 0 (List.replicate 1401 0)).wf = false ∧ (Instr.evtAck h).wf = false ∧ (Instr.close h).wf = false := by
  decide +kernel


end Sys2Proof.Tests
end

section
/-!
SUPPORT. A store of the Stride engines to an output slot (R151, R196): what the marks and the lanes' own writes leave
alone (R135 to R137), what each lane's SRAM then holds, and the vote of three equal copies (R95, R151).
-/
namespace Sys2Proof.Machine

variable {s t : State}

/-! ### Lanes -/

theorem getAt_modAt {α : Type} (d : α) (f : α → α) (xs : List α) (i j : Nat) (hi : i < xs.length) :
    getAt d (modAt f xs i) j = if j = i then f (getAt d xs i) else getAt d xs j := by
  induction xs generalizing i j with
  | nil => simp at hi
  | cons x xs ih =>
    cases i with
    | zero => cases j <;> simp [modAt, getAt]
    | succ i =>
      cases j with
      | zero => simp [modAt, getAt]
      | succ j => simpa [modAt, getAt] using ih i j (by simpa using hi)

theorem mem_modAt {α : Type} {f : α → α} {xs : List α} {i : Nat} {y : α} (h : y ∈ modAt f xs i) :
    y ∈ xs ∨ ∃ x ∈ xs, y = f x := by
  induction xs generalizing i with
  | nil => simp [modAt] at h
  | cons x xs ih =>
    cases i with
    | zero =>
      rcases List.mem_cons.1 h with rfl | h
      · exact .inr ⟨x, by simp, rfl⟩
      · exact .inl (by simp [h])
    | succ i =>
      rcases List.mem_cons.1 h with rfl | h
      · exact .inl (by simp)
      · rcases ih h with h | ⟨z, hz, e⟩
        · exact .inl (by simp [h])
        · exact .inr ⟨z, by simp [hz], e⟩

theorem lane_updLane {l : Nat} (m : Nat) (f : Lane → Lane) (hl : l < s.lanes.length) :
    (updLane l f s).lane m = if m = l then f (s.lane l) else s.lane m :=
  getAt_modAt laneZero f s.lanes l m hl

/-- Equal lanes are equal when read by number. -/
theorem lane_congr (h : t.lanes = s.lanes) (l : Nat) : t.lane l = s.lane l := by unfold State.lane; rw [h]

/-- Which lanes are in service shows in the registers alone. -/
theorem lanesIn_congr (h : ∀ a, t.reg a = s.reg a) : t.lanesIn = s.lanesIn := by
  unfold State.lanesIn State.inService State.regF; simp only [h]

/-- HALTED shows in the registers alone. -/
theorem halted_congr (h : ∀ a, t.reg a = s.reg a) : t.halted = s.halted := by
  unfold State.halted State.regB; rw [h]

/-! ### What a store of the engines leaves alone -/

/-- `t` is `s` after writes of the engines to their SRAMs: the registers and the execution model stand, the SRAMs of the
three lanes are canonical and no memory error is pending. -/
structure State.storing (s t : State) : Prop where
  regs : t.regs = s.regs
  exec : t.exec = s.exec
  clean : t.mems.upset = []
  three : t.lanes.length = 3
  sram : ∀ x ∈ t.lanes, Memory.wf x.sram = true

theorem storing_updMems {f : Mems → Mems} (hf : ∀ m, m.upset = [] → (f m).upset = []) (h : s.storing t) :
    s.storing (updMems f t) := { h with clean := hf t.mems h.clean }

theorem storing_updVoting {f : Voting → Voting} (h : s.storing t) : s.storing (updVoting f t) := { h with }

theorem storing_updLane {l : Nat} {f : Lane → Lane} (h : s.storing t)
    (hf : ∀ x, Memory.wf x.sram = true → Memory.wf (f x).sram = true) : s.storing (updLane l f t) :=
  { h with
    three := (modAt_length f t.lanes l).trans h.three
    sram := fun x hx => by
      rcases mem_modAt hx with hx | ⟨y, hy, rfl⟩
      · exact h.sram x hx
      · exact hf y (h.sram y hy) }

theorem storing_freshWords {m a n : Nat} (h : s.storing t) : s.storing (freshWords m a n t) := by
  refine storing_updMems (fun x hx => ?_) h
  rw [hx, List.filter_nil]

theorem storing_laneBytes {l a : Nat} {bs : List Byte} (h : s.storing t) : s.storing (laneBytes l a bs t) :=
  storing_freshWords (storing_updLane h fun _ hx => Memory.writeN_wf hx)

theorem storing_markClone {a n : Nat} (h : s.storing t) : s.storing (markClone a n t) := by
  unfold markClone
  split
  · exact h
  · exact storing_updVoting h

theorem storing_foldl {α : Type} {f : State → α → State} {xs : List α} (hf : ∀ u x, s.storing u → s.storing (f u x))
    (h : s.storing t) : s.storing (xs.foldl f t) := Closed.foldl hf h

/-- With no memory error pending, a read of lane SRAM has no effect. -/
theorem eccReads_of_clean {m a n k : Nat} (h : t.mems.upset = []) : eccReads m a n k t = t := by
  simp [eccReads, State.eccHits, h]

theorem storing_lanesRead {a n k : Nat} (h : s.storing t) : s.storing (lanesRead a n k t) :=
  storing_foldl (fun _ _ hu => by rwa [eccReads_of_clean hu.clean]) h

theorem storing_copyOnWrite {r : Nat} (h : s.storing t) : s.storing (copyOnWrite r t) := by
  unfold copyOnWrite
  split
  · exact storing_updMems (fun _ hm => hm)
      (storing_markClone (storing_foldl (fun _ _ hu => storing_laneBytes hu) (storing_lanesRead h)))
  · exact h

theorem storing_markBaton {a n : Nat} (h : s.storing t) : s.storing (markBaton a n t) := by
  refine storing_foldl (fun u line hu => ?_) h
  split
  · exact hu
  · exact storing_updMems (fun _ hm => hm) (storing_copyOnWrite hu)

theorem storing_engineMarks {a n : Nat} (h : s.storing t) : s.storing (engineMarks a n t) :=
  storing_markClone (storing_markBaton h)

/-! ### One lane's write of an instruction -/

/-- Lane `l` writes its bytes and takes the engine that the instruction leaves (R183, R188). -/
def laneStep (cost l : Nat) (r : ZRes) (t : State) : State :=
  updLane l (fun x => { x with eng := { r.e with cycles := r.e.cycles + cost } })
    (r.writes.foldl (fun t w => engineWriteLane l w.1 w.2 t) t)

theorem storing_laneStep {cost l : Nat} {r : ZRes} (h : s.storing t) : s.storing (laneStep cost l r t) :=
  storing_updLane (storing_foldl (fun _ _ hu => storing_laneBytes hu) h) fun _ hx => hx

/-- A lane's SRAM after an instruction that writes one block, and the SRAM of another lane. -/
theorem laneStep_sram {cost l : Nat} (m : Nat) {r : ZRes} {a : Nat} {bs : List Byte} (hl : l < t.lanes.length)
    (hr : r.writes = [(a, bs)]) : ((laneStep cost l r t).lane m).sram =
      if m = l then Memory.writeN (t.lane l).sram a bs else (t.lane m).sram := by
  have hb (k : Nat) : ((laneBytes l a bs t).lane k).sram =
      if k = l then Memory.writeN (t.lane l).sram a bs else (t.lane k).sram := by
    rw [show (laneBytes l a bs t).lane k
        = (updLane l (fun x => { x with sram := Memory.writeN x.sram a bs }) t).lane k from rfl, lane_updLane k _ hl]
    split <;> rfl
  have hlen : l < (laneBytes l a bs t).lanes.length := (modAt_length _ t.lanes l).symm ▸ hl
  unfold laneStep
  rw [hr, List.foldl_cons, List.foldl_nil, engineWriteLane, lane_updLane m _ hlen]
  by_cases hm : m = l
  · rw [if_pos hm, if_pos hm]; exact (hb l).trans (if_pos rfl)
  · rw [if_neg hm]; exact hb m

/-- Lanes that write in turn leave the SRAM of any other lane alone. -/
theorem foldl_laneStep_sram_ne {cost a : Nat} {ls : List Nat} {r : Nat → ZRes} {bs : Nat → List Byte}
    (hs : s.storing t) (hl : ∀ l ∈ ls, l < 3) (hr : ∀ l ∈ ls, (r l).writes = [(a, bs l)]) {m : Nat} (h : m ∉ ls) :
    ((ls.foldl (fun t l => laneStep cost l (r l) t) t).lane m).sram = (t.lane m).sram := by
  induction ls generalizing t with
  | nil => rfl
  | cons l ls ih =>
    obtain ⟨hne, hmem⟩ := List.ne_and_not_mem_of_not_mem_cons h
    obtain ⟨hl, hls⟩ := List.forall_mem_cons.1 hl
    obtain ⟨hr, hrs⟩ := List.forall_mem_cons.1 hr
    rw [List.foldl_cons, ih (storing_laneStep hs) hls hrs hmem, laneStep_sram m (hs.three ▸ hl) hr, if_neg hne]

/-- Each lane of a list in turn writes one block at `a`: the block of a lane is then read back from its SRAM. -/
theorem readN_foldl_laneStep {cost a : Nat} {ls : List Nat} {r : Nat → ZRes} {bs : Nat → List Byte}
    (hs : s.storing t) (hn : ls.Nodup) (hl : ∀ l ∈ ls, l < 3) (hr : ∀ l ∈ ls, (r l).writes = [(a, bs l)]) {m : Nat}
    (h : m ∈ ls) :
    Memory.readN ((ls.foldl (fun t l => laneStep cost l (r l) t) t).lane m).sram a (bs m).length = bs m := by
  induction ls generalizing t with
  | nil => simp at h
  | cons l ls ih =>
    obtain ⟨hmem, hn⟩ := List.nodup_cons.1 hn
    obtain ⟨hl, hls⟩ := List.forall_mem_cons.1 hl
    obtain ⟨hr, hrs⟩ := List.forall_mem_cons.1 hr
    rw [List.foldl_cons]
    rcases List.mem_cons.1 h with rfl | h
    · rw [foldl_laneStep_sram_ne (storing_laneStep hs) hls hrs hmem, laneStep_sram m (hs.three ▸ hl) hr, if_pos rfl]
      exact Memory.readN_writeN (State.lane_wf hs.sram)
    · exact ih (storing_laneStep hs) hn hls hrs h

/-! ### One instruction without a trap -/

/-- The marks of an instruction's writes, and what the lanes in service do one by one. -/
def lanesStep (p : Program) (cost : Nat) (f : ZCtx → ZRes) (s : State) : State :=
  s.lanesIn.foldl (fun t l => laneStep cost l (f (s.zctx p l)) t)
    ((f (s.zctx p s.lead)).writes.foldl (fun t w => engineMarks w.1 w.2.length t) s)

theorem storing_lanesStep {p : Program} {cost : Nat} {f : ZCtx → ZRes} (h : s.storing s) :
    s.storing (lanesStep p cost f s) :=
  storing_foldl (fun _ _ hu => storing_laneStep hu) (storing_foldl (fun _ _ hu => storing_engineMarks hu) h)

theorem lanesIn_lt {l : Nat} (h : l ∈ s.lanesIn) : l < 3 := List.mem_range.1 (List.mem_filter.1 h).1

theorem lanesIn_nodup : s.lanesIn.Nodup := List.nodup_range.filter _

/-- Every lane in service holds the block it wrote. -/
theorem readN_lanesStep {p : Program} {cost a : Nat} {f : ZCtx → ZRes} {bs : Nat → List Byte} (hs : s.storing s)
    (hw : ∀ l ∈ s.lanesIn, (f (s.zctx p l)).writes = [(a, bs l)]) {l : Nat} (h : l ∈ s.lanesIn) :
    Memory.readN ((lanesStep p cost f s).lane l).sram a (bs l).length = bs l :=
  readN_foldl_laneStep (storing_foldl (fun _ _ hu => storing_engineMarks hu) hs) lanesIn_nodup
    (fun _ => lanesIn_lt) hw h

/-- With no breakpoint set the engines arrive at an instruction and go on. -/
theorem arrive_of_no_bps (h : s.exec.bps = []) : arrive s = s := by
  have hb (pc : Nat) : s.bpAt pc = none := by simp [State.bpAt, h]
  unfold arrive; rw [hb]

/-- An instruction that neither traps nor ends the task nor sends a unit: the lanes' own writes, then the vote of each
output slot it wrote (R151). -/
theorem zRun_of_zAt {p : Program} {n cost : Nat} {ok : ZCtx → Bool} {f : ZCtx → ZRes} (hz : s.zAt p n)
    (hok : ok (s.zctx p s.lead) = true) (htrap : (f (s.zctx p s.lead)).trap = none)
    (htx : (f (s.zctx p s.lead)).tx = none) (hend : (f (s.zctx p s.lead)).ended = false)
    (hbps : ((f (s.zctx p s.lead)).outs.foldl (fun t o => voteSlot o t) (lanesStep p cost f s)).exec.bps = []) :
    zRun n cost ok f s = (f (s.zctx p s.lead)).outs.foldl (fun t o => voteSlot o t) (lanesStep p cost f s) := by
  obtain ⟨hp, hrun, -, hclean, -, hpc⟩ := hz
  have hreads : engineReads p n f s = s := by simp [engineReads, hclean]
  have hlast : decide ((s.zctx p s.lead).lvl.last < (s.zctx p s.lead).e.pc + 4 * n) = false := by
    simpa using hpc
  unfold zRun
  rw [hp]
  dsimp only
  rw [hrun, hok, hlast, hreads, htrap, htx, hend, hrun]
  simp only [Bool.not_true, Bool.or_self, Bool.false_eq_true, if_false]
  split
  · rfl
  · exact arrive_of_no_bps hbps

/-! ### The vote of three equal copies -/

theorem writeBundle_toNat {a v : Nat} (ha : a < 2 ^ 32) (hv : v < 2 ^ 64) :
    (writeBundle a 0xFF v).toNat = v + a * 2 ^ 64 + 0xFF * 2 ^ 96 + 2 ^ 111 := by
  unfold writeBundle
  rw [BitVec.toNat_ofNat, Nat.mod_eq_of_lt hv, Nat.mod_eq_of_lt ha]
  omega

/-- DATA, ADDR, TYPE, the beat mark and VALID of a write bundle (R90). -/
theorem writeBundle_fields {a v : Nat} (ha : a < 2 ^ 32) (hv : v < 2 ^ 64) :
    fld (writeBundle a 0xFF v) 63 0 = v ∧ fld (writeBundle a 0xFF v) 95 64 = a ∧
      fld (writeBundle a 0xFF v) 106 104 = 0 ∧ bitOf (writeBundle a 0xFF v) 110 = false ∧
      bitOf (writeBundle a 0xFF v) 111 = true := by
  unfold fld bitOf BitVec.getLsbD
  simp only [Nat.testBit_eq_decide_div_mod_eq, Nat.shiftRight_eq_div_pow, writeBundle_toNat ha hv, decide_eq_true_eq,
    decide_eq_false_iff_not]
  omega

/-- Three good copies that agree are forwarded, and nothing else comes of the vote (R95). -/
theorem voteOutcome_agreed (b : BitVec 112) :
    voteOutcome [0, 1, 2] ⟨b, none⟩ ⟨b, none⟩ ⟨b, none⟩ 0 = ⟨some b, b, [], none, none⟩ := by
  simp [voteOutcome, voteThree, majority]

theorem satAdd_zero {n : Nat} (w : BitVec n) : satAdd w 0 = w := by
  unfold satAdd
  rw [Nat.add_zero, if_neg (Nat.not_le.2 w.isLt), BitVec.ofNat_toNat, BitVec.setWidth_eq]

theorem reg_bumpBy_zero {a : Nat} (h : s.regsOk) (b : Nat) : (s.bumpBy a 0).reg b = s.reg b := by
  unfold State.bumpBy
  rw [satAdd_zero, reg_setReg h]
  split
  · rename_i e; rw [e]
  · rfl

/-- Only the last bundle of the comparator moves when a write beyond the comms RAM is forwarded (R91). -/
theorem forward_outside {a v : Nat} (h : 0x200000 ≤ a) (ha : a < 2 ^ 32) (hv : v < 2 ^ 64) :
    forward (writeBundle a 0xFF v) s = updVoting (fun x => { x with lastBundle := writeBundle a 0xFF v }) s := by
  obtain ⟨-, haddr, htype, hbeat, hvalid⟩ := writeBundle_fields ha hv
  unfold forward
  simp [haddr, htype, hbeat, hvalid, h]

/-- Three lanes in service that present the same value to an address beyond the comms RAM: it is forwarded, and of the
state only the comparator's last bundle and its counters, by 0, move (R95, R151). -/
theorem voteValue_agreed {a v : Nat} {val : Nat → Nat} (hin : t.lanesIn = [0, 1, 2]) (h : 0x200000 ≤ a)
    (ha : a < 2 ^ 32) (hv : v < 2 ^ 64) (hval : ∀ l < 3, val l = v) :
    voteValue a val t = (some v,
      updVoting (fun x => { x with lastBundle := writeBundle a 0xFF v }) (t.bumpBy R.PFC_DLY_PAR_CNT 0)) := by
  have hvote : voteOutcome t.lanesIn ⟨writeBundle a 0xFF (val 0), none⟩ ⟨writeBundle a 0xFF (val 1), none⟩
      ⟨writeBundle a 0xFF (val 2), none⟩ 0 = ⟨some (writeBundle a 0xFF v), writeBundle a 0xFF v, [], none, none⟩ := by
    rw [hin, hval 0 (by omega), hval 1 (by omega), hval 2 (by omega), voteOutcome_agreed]
  unfold voteValue
  dsimp only
  rw [hvote, Option.map_some, (writeBundle_fields ha hv).1]
  exact Prod.ext rfl (forward_outside h ha hv)

theorem mapGet_mapPut_self {α : Type} (m : List (Nat × α)) (k : Nat) (v : α) : mapGet (mapPut m k v) k = some v := by
  induction m with
  | nil => simp [mapPut, mapGet]
  | cons e m ih =>
    obtain ⟨k', v'⟩ := e
    unfold mapPut
    split
    · have hk : k' ≠ k := by omega
      simpa [mapGet, hk] using ih
    · split <;> simp [mapGet]

/-- The vote of an output slot whose copies agree: the value enters the pending store, and the lanes, their service and
HALTED stand (R35, R151). -/
theorem voteSlot_agreed {slot : Nat} {v : DWord} (hr : t.regsOk) (hin : t.lanesIn = [0, 1, 2])
    (hh : t.halted = false) (hslot : slot < 3072)
    (hval : ∀ l < 3, Memory.readLe (t.lane l).sram (gBase + 0x8000 + 8 * slot) 8 = v.toNat) :
    (voteSlot slot t).halted = false ∧ (voteSlot slot t).lanesIn = [0, 1, 2] ∧
      (voteSlot slot t).exec = { t.exec with outPend := mapPut t.exec.outPend slot v } ∧
      (voteSlot slot t).lanes = t.lanes := by
  have hreg (a : Nat) : (updVoting (fun x => { x with lastBundle := writeBundle (gBase + 0x8000 + 8 * slot) 0xFF v.toNat })
      (t.bumpBy R.PFC_DLY_PAR_CNT 0)).reg a = t.reg a := 
    (reg_congr (updVoting_regs _ _) a).trans (reg_bumpBy_zero hr a)
  have hlo : 0x200000 ≤ gBase + 0x8000 + 8 * slot := by unfold gBase; omega
  have hhi : gBase + 0x8000 + 8 * slot < 2 ^ 32 := by unfold gBase; omega
  have hvote := voteValue_agreed (val := fun l => Memory.readLe (t.lane l).sram (gBase + 0x8000 + 8 * slot) 8)
    hin hlo hhi v.isLt hval
  unfold voteSlot
  dsimp only
  rw [hvote]
  dsimp only
  rw [halted_congr hreg, hh, if_neg Bool.false_ne_true, BitVec.ofNat_toNat, BitVec.setWidth_eq]
  exact ⟨(halted_congr (s := t) hreg).trans hh, (lanesIn_congr (s := t) hreg).trans hin, rfl, rfl⟩

/-! ### ST to an output slot -/

theorem leNat_leBytes (n v : Nat) : leNat (leBytes n v) = v % 256 ^ n := by
  induction n generalizing v with
  | zero => simp [leBytes, leNat, Nat.mod_one]
  | succ n ih =>
    rw [leBytes, leNat, ih, BitVec.toNat_ofNat, Nat.pow_succ' (m := 256)]
    exact Nat.mod_mul.symm

@[simp] theorem leBytes_length (n v : Nat) : (leBytes n v).length = n := by
  induction n generalizing v with
  | zero => rfl
  | succ n ih => simp [leBytes, ih]

/-- What a store of eight bytes to output slot `slot` does in one lane: its own copy, and the slot to be voted (R151). -/
def slotStore (d : ZReg) (slot : Nat) (c : ZCtx) : ZRes :=
  ⟨c.next 2 c.e, [(gBase + 0x8000 + 8 * slot, leBytes 8 (c.w d).toNat)], [slot], none, none, false, []⟩

/-- Output slots may be written by the program (R196). -/
theorem store_outputSlot {c : ZCtx} {d : ZReg} {slot : Nat} (h : slot < 3072) :
    c.store (c.next 2 c.e) .g .int64 (0x8000 + 8 * slot) (c.w d) = slotStore d slot c := by
  have hg : gWritable (0x8000 + 8 * slot) = true := by simp [gWritable]; omega
  simp [ZCtx.store, slotStore, hg, ZCtx.spaceBase, storeBytes, ZTy.size, Nat.add_assoc]

/-- The whole output half of G is aligned and inside the space (R185, R195). -/
theorem stOk_outputSlot {c : ZCtx} {slot : Nat} (h : slot < 3072) : stOk .g .int64 (0x8000 + 8 * slot) 1 c = true := by
  simp [stOk, ZCtx.inSpace, ZCtx.spaceSize, ZCtx.tyOk, ZTy.size]
  omega

/-- ST to an output slot: the lanes' own copies, then the vote of the slot. -/
theorem exec_st_outputSlot {p : Program} {d : ZReg} {slot : Nat} (hz : s.zAt p 2) (hslot : slot < 3072)
    (hbps : (voteSlot slot (lanesStep p 3 (slotStore d slot) s)).exec.bps = []) :
    exec (.st d .g .int64 (BitVec.ofNat 24 (0x8000 + 8 * slot))) s
      = .next (voteSlot slot (lanesStep p 3 (slotStore d slot) s)) := by
  have hoff : (BitVec.ofNat 24 (0x8000 + 8 * slot)).toNat = 0x8000 + 8 * slot := by
    rw [BitVec.toNat_ofNat]; omega
  have hst : exec (.st d .g .int64 (BitVec.ofNat 24 (0x8000 + 8 * slot))) s
      = .next (zSt d .g .int64 (BitVec.ofNat 24 (0x8000 + 8 * slot)).toNat s) := rfl
  rw [hst, hoff, zSt, funext fun c => store_outputSlot (c := c) (d := d) hslot]
  exact congrArg Host.Outcome.next (zRun_of_zAt (f := slotStore d slot) hz (stOk_outputSlot hslot) rfl rfl rfl hbps)

/-- The lanes in service and in lockstep all hold the stored value in their copy of the slot. -/
theorem lanesStep_slotStore {p : Program} {d : ZReg} {slot : Nat} {v : DWord} (hs : s.storing s)
    (hw : ∀ l ∈ s.lanesIn, (s.zctx p l).w d = v) {l : Nat} (h : l ∈ s.lanesIn) :
    Memory.readLe ((lanesStep p 3 (slotStore d slot) s).lane l).sram (gBase + 0x8000 + 8 * slot) 8 = v.toNat := by
  have hread := readN_lanesStep (p := p) (cost := 3) (f := slotStore d slot) (a := gBase + 0x8000 + 8 * slot)
    (bs := fun _ => leBytes 8 v.toNat) hs (fun l hl => by rw [slotStore, hw l hl]) h
  rw [leBytes_length] at hread
  rw [Memory.readLe, hread, leNat_leBytes]
  exact Nat.mod_eq_of_lt v.isLt

theorem regsOk_of_canonical (h : s.canonical = true) : s.regsOk := by
  simp only [State.canonical, Bool.and_eq_true] at h
  obtain ⟨⟨⟨⟨⟨⟨⟨⟨hregs, -⟩, -⟩, -⟩, -⟩, -⟩, -⟩, -⟩, -⟩ := h
  exact hregs

theorem storing_refl {p : Program} {n : Nat} (hz : s.zAt p n) (h : s.canonical = true) : s.storing s := by
  obtain ⟨-, -, -, hclean, hthree, -⟩ := hz
  simp only [State.canonical, Bool.and_eq_true, List.all_eq_true] at h
  obtain ⟨-, hsram⟩ := h
  exact ⟨rfl, rfl, hclean, hthree, hsram⟩

/-- Engines that run are not HALTED (R97). -/
theorem halted_of_engineRuns (h : s.engineRuns = true) : s.halted = false := by
  simp only [State.engineRuns, Bool.and_eq_true, Bool.not_eq_true'] at h
  obtain ⟨⟨⟨-, hhalted⟩, -⟩, -⟩ := h
  exact hhalted

end Sys2Proof.Machine
end

section
open Sys2Proof Sys2Proof.Machine

/-- Settles O39: each lane writes its own copy, the three copies agree, and the vote carries the value into the pending
store. -/
theorem outputSlotIsVoted : Obligations.OutputSlotIsVoted := by
  intro s p d slot v hz hcan hin hslot hw
  obtain ⟨-, hrun, hbps, -⟩ := id hz
  have hs : s.storing s := storing_refl hz hcan
  have ht : s.storing (lanesStep p 3 (slotStore d slot) s) := storing_lanesStep hs
  have hreg : ∀ a, (lanesStep p 3 (slotStore d slot) s).reg a = s.reg a := reg_congr ht.regs
  have hregs : (lanesStep p 3 (slotStore d slot) s).regsOk := by
    unfold State.regsOk; rw [ht.regs]; exact regsOk_of_canonical hcan
  have hcopy : ∀ l < 3, Memory.readLe ((lanesStep p 3 (slotStore d slot) s).lane l).sram
      (gBase + 0x8000 + 8 * slot) 8 = v.toNat := fun l hl =>
    lanesStep_slotStore hs (fun m hm => hw ⟨m, lanesIn_lt hm⟩) (by rw [hin]; simp; omega)
  obtain ⟨uhalt, uin, uexec, ulanes⟩ := voteSlot_agreed hregs ((lanesIn_congr hreg).trans hin)
    ((halted_congr hreg).trans (halted_of_engineRuns hrun)) hslot hcopy
  refine ⟨voteSlot slot (lanesStep p 3 (slotStore d slot) s), exec_st_outputSlot hz hslot ?_, uhalt, uin, ?_, fun l => ?_⟩
  · rw [uexec, ht.exec]; exact hbps
  · rw [uexec]; exact mapGet_mapPut_self _ _ _
  · rw [lane_congr ulanes]; exact hcopy l l.isLt

end

section
/-!
SUPPORT. A boundary that takes an SBO's command back while its switch test runs: the abort of the test (R402) comes after
the steps of R34 and is no part of them.
-/
namespace Sys2Proof.Machine

/-- A boundary that is due: the steps of R34, and then the abort of the switch tests whose SBO changes its command
(R73, R402). -/
theorem exec_strideBoundary_due {s : State} (h : s.boundaryDue = true) :
    exec .strideBoundary s = .next (sboChanged s (boundarySteps s.boundAt (boundaryOpens s))) := by
  have he : exec .strideBoundary s = .next (strideBoundary s) := rfl
  rw [he, strideBoundary, if_pos h, boundaryNow]

/-- A program whose only binding is output slot 0 to SBO 0. -/
def sboProgram : Program :=
  { version := 2, progId := 1, kSize := 0, msgSize := 0, declWcet := [], types := [], insts := [], tasks := [],
    binds := [⟨1, 0, P.SBO, 0, 0, 0⟩], code := [], consts := [], data := [], image := [] }

/-- A released module in RUN: SBO 0 is commanded on, a step of its switch test runs, and the stride that closes has
written 0 to the output slot of the SBO. -/
def sboReleasing : State :=
  { State.reset with
    regs := ((State.reset.setF R.BOOT_STAT 3 0 1).setF R.EXEC_MODE 3 0 modeRun).regs
    boot := { bootZero with powered := true }
    starter := { starterZero with running := true }
    exec := { execZero with prog := some sboProgram, executed := true, outCur := [(0, 1)], outPend := [(0, 0)] }
    safety := { safetyZero with tests := { testZero with phase := 1 } :: List.replicate 3 testZero } }

theorem sboReleasing_sound : sboReleasing.Inv ∧ sboReleasing.boundaryDue = true := by
  unfold State.Inv; decide +kernel

/-- The steps of R34 commit the slot and leave the test running; the change of the command then aborts it. -/
theorem sboReleasing_boundary :
    let t := boundarySteps sboReleasing.boundAt (boundaryOpens sboReleasing)
    (t.sboTest 0).phase = 1 ∧ ((sboChanged sboReleasing t).sboTest 0).phase = 0 := by
  decide +kernel

end Sys2Proof.Machine
end

section
open Sys2Proof Sys2Proof.Machine

/-- Refutes O26: a boundary that takes the command of an SBO back while a step of its switch test runs also aborts the
test (R402), so that more than the steps of R34 follows the opening. -/
theorem not_boundaryOpensStride : ¬ Obligations.BoundaryOpensStride := by
  intro h
  obtain ⟨hinv, hdue⟩ := sboReleasing_sound
  obtain ⟨hstep, -⟩ := (h sboReleasing hinv).1 hdue
  have hsame : sboChanged sboReleasing (boundarySteps sboReleasing.boundAt (boundaryOpens sboReleasing))
      = boundarySteps sboReleasing.boundAt (boundaryOpens sboReleasing) :=
    Host.Outcome.next.inj ((exec_strideBoundary_due hdue).symm.trans hstep)
  obtain ⟨hruns, haborted⟩ := sboReleasing_boundary
  rw [hsame, hruns] at haborted
  exact absurd haborted (by decide)

end

section
/-!
SUPPORT. What a Stride instruction that only changes its engine leaves (R183, R188): the engines of the lanes in service
take what the instruction makes of them, and nothing else of the block moves.
-/
namespace Sys2Proof.Machine

variable {s t : State}

/-! ### Operations that leave the cycle count of a task alone -/

@[simp] theorem setW_cycles (e : Engine) (r : Nat) (v : DWord) : (e.setW r v).cycles = e.cycles := rfl
@[simp] theorem setAlu_cycles (e : Engine) (x : Alu) : (e.setAlu x).cycles = e.cycles := rfl
@[simp] theorem setV_cycles (e : Engine) (b : Bool) : (e.setV b).cycles = e.cycles := rfl

@[simp] theorem setLoops_cycles (e : Engine) (ls : List LoopEnt) : (e.setLoops ls).cycles = e.cycles := by
  unfold Engine.setLoops; split <;> rfl

@[simp] theorem reach_cycles (e : Engine) (pc : Nat) : (e.reach pc).cycles = e.cycles := by
  unfold Engine.reach
  dsimp only
  split <;> simp

/-! ### The lanes in service in turn -/

/-- The lanes of a list change one by one, each once. -/
theorem lane_foldl_updLane {g : Nat → Lane → Lane} {ls : List Nat} (hn : ls.Nodup) (hl : ∀ l ∈ ls, l < t.lanes.length)
    (m : Nat) : (ls.foldl (fun t l => updLane l (g l) t) t).lane m = if m ∈ ls then g m (t.lane m) else t.lane m := by
  induction ls generalizing t with
  | nil => rfl
  | cons l ls ih =>
    obtain ⟨hnot, hn⟩ := List.nodup_cons.1 hn
    obtain ⟨hl, hls⟩ := List.forall_mem_cons.1 hl
    rw [List.foldl_cons, ih hn fun k hk => (modAt_length (g l) t.lanes l).symm ▸ hls k hk, lane_updLane m _ hl]
    by_cases hm : m = l
    · subst hm; simp [hnot]
    · simp [hm]

theorem foldl_updLane_only_lanes (g : Nat → Lane → Lane) (ls : List Nat) :
    ls.foldl (fun t l => updLane l (g l) t) t
      = { t with lanes := (ls.foldl (fun t l => updLane l (g l) t) t).lanes } := by
  induction ls generalizing t with
  | nil => rfl
  | cons l ls ih => exact ih

theorem mem_lanesIn {l : Nat} (h : l < 3) : l ∈ s.lanesIn ↔ s.inService l = true := by
  simp [State.lanesIn, h]

/-! ### An instruction that writes no memory -/

/-- Lane `l` takes the engine that the instruction leaves. -/
def engineStep (p : Program) (cost : Nat) (f : ZCtx → ZRes) (s : State) (l : Nat) (x : Lane) : Lane :=
  { x with eng := { (f (s.zctx p l)).e with cycles := (f (s.zctx p l)).e.cycles + cost } }

theorem lanesStep_of_no_writes {p : Program} {cost : Nat} {f : ZCtx → ZRes} (hw : ∀ c, (f c).writes = []) :
    lanesStep p cost f s = s.lanesIn.foldl (fun t l => updLane l (engineStep p cost f s l) t) s := by
  simp only [lanesStep, laneStep, hw, List.foldl_nil]
  rfl

/-- Of an instruction that only changes the engine: in each lane in service its engine is what `f` makes of it, and the
rest of the block stands. -/
theorem zPlain_zMoves {p : Program} {n cost : Nat} {ok : ZCtx → Bool} {f : ZCtx → Engine} (hz : s.zAt p n)
    (hok : ok (s.zctx p s.lead) = true) (hcyc : ∀ c, (f c).cycles = c.e.cycles) :
    s.zMoves (zPlain n cost ok f s) p n cost f := by
  obtain ⟨-, -, hbps, -, hthree, -⟩ := id hz
  have hstep := lanesStep_of_no_writes (s := s) (p := p) (cost := cost) (f := fun c => ZRes.ofEng (c.next n (f c)))
    fun _ => rfl
  have honly := foldl_updLane_only_lanes (t := s)
    (engineStep p cost (fun c => ZRes.ofEng (c.next n (f c))) s) s.lanesIn
  have hrun : zPlain n cost ok f s = lanesStep p cost (fun c => ZRes.ofEng (c.next n (f c))) s :=
    zRun_of_zAt hz hok rfl rfl rfl (by
      change (lanesStep p cost (fun c => ZRes.ofEng (c.next n (f c))) s).exec.bps = []
      rw [hstep, honly]; exact hbps)
  rw [hrun, hstep]
  refine ⟨honly, fun l hl => ?_⟩
  rw [lane_foldl_updLane lanesIn_nodup (fun m hm => hthree ▸ lanesIn_lt hm), State.zLane]
  simp only [mem_lanesIn hl]
  split
  · simp [engineStep, ZRes.ofEng, ZCtx.next, State.zctx, hcyc]
  · rfl

/-- The same for a command `o` that carries out such an instruction, its result spelled `f`. -/
theorem moves_of_zPlain {o : Host.Outcome State Fault Refusal} {p : Program} {n cost : Nat} {ok : ZCtx → Bool}
    {f g : ZCtx → Engine} (ho : o = .next (zPlain n cost ok g s)) (hz : s.zAt p n) (hok : ok (s.zctx p s.lead) = true)
    (hcyc : ∀ c, (g c).cycles = c.e.cycles) (hg : ∀ c, g c = f c) :
    ∃ t, o = .next t ∧ s.zMoves t p n cost f := by
  obtain rfl : g = f := funext hg
  exact ⟨_, ho, zPlain_zMoves hz hok hcyc⟩

/-- The same for an instruction with a result in D and flags, its cost spelled `k`. -/
theorem moves_of_zAlu {o : Host.Outcome State Fault Refusal} {p : Program} {cost k : Nat} {ok : ZCtx → Bool} {d : ZReg}
    {f : ZCtx → Alu} (ho : o = .next (zAlu cost ok d f s)) (hz : s.zAt p 1) (hok : ok (s.zctx p s.lead) = true)
    (hk : cost = k) :
    ∃ t, o = .next t ∧ s.zMoves t p 1 k (fun c => (c.e.setAlu (f c)).setW d (f c).res) := by
  subst hk
  exact moves_of_zPlain ho hz hok (fun _ => rfl) fun _ => rfl

/-- An instruction that admission refuses where the engines stand is not carried out. -/
theorem zPlain_of_not_ok {p : Program} {n cost : Nat} {ok : ZCtx → Bool} {f : ZCtx → Engine} (hz : s.zAt p n)
    (hok : ok (s.zctx p s.lead) = false) : zPlain n cost ok f s = s := by
  obtain ⟨hp, -⟩ := hz
  simp [zPlain, zRun, hp, hok]

/-! ### Types and costs (R188, R189) -/

/-- REAL64 is met in a version 2 image only (R184, R208). -/
theorem tyOk_zctx {p : Program} {t : ZTy} {l : Nat} (h : t = .real64 → p.version = 2) : (s.zctx p l).tyOk t = true := by
  by_cases ht : t = .real64
  · simp [ZCtx.tyOk, State.zctx, h ht]
  · simp [ZCtx.tyOk, ht]

theorem satOk_of_imp {t : ZTy} {sat : Bool} (h : sat = true → tySat t = true) : satOk t sat = true := by
  cases sat <;> simp [satOk, h]

theorem cost3_eq (t : ZTy) (i r32 r64 : Nat) :
    cost3 t i r32 r64 = if t = .real32 then r32 else if t = .real64 then r64 else i := by simp [cost3]

/-- Both REAL types cost the same. -/
theorem cost3_real (t : ZTy) (i r : Nat) : cost3 t i r r = if t.isReal then r else i := by cases t <;> rfl

theorem tyAdd_of_ne {t : ZTy} (h : t ≠ .bool) : tyAdd t = true := by simp [tyAdd, h]

theorem tyMul_of_ne {t : ZTy} (h : t ≠ .bool) (h' : t ≠ .tod) : tyMul t = true := by simp [tyMul, h, h']

/-! ### Immediates -/

theorem signExtend_eq_ofInt (imm : BitVec 16) : imm.signExtend 64 = BitVec.ofInt 64 imm.toInt := rfl

theorem add_signExtend (x : DWord) (imm : BitVec 16) :
    x + imm.signExtend 64 = BitVec.ofInt 64 (x.toInt + imm.toInt) := by
  rw [BitVec.ofInt_add, BitVec.ofInt_toInt]; rfl

/-- LDIH: the low 16 bits that the shift leaves free take the immediate. -/
theorem shl_or_zeroExtend (x : DWord) (imm : BitVec 16) :
    (x <<< 16) ||| imm.zeroExtend 64 = BitVec.ofNat 64 (x.toNat * 65536 + imm.toNat) := by
  apply BitVec.eq_of_toNat_eq
  have hi := imm.isLt
  simp only [BitVec.toNat_or, BitVec.toNat_shiftLeft, BitVec.zeroExtend_eq_setWidth, BitVec.toNat_setWidth,
    BitVec.toNat_ofNat]
  have h1 : x.toNat <<< 16 % 2 ^ 64 = (x.toNat % 2 ^ 48) <<< 16 := by
    simp only [Nat.shiftLeft_eq]; omega
  rw [h1, Nat.mod_eq_of_lt (a := imm.toNat) (by omega), ← Nat.shiftLeft_add_eq_or_of_lt hi]
  simp only [Nat.shiftLeft_eq]; omega

theorem ofNat_b2n (b : Bool) : BitVec.ofNat 64 (b2n b) = if b then 1 else 0 := by cases b <;> rfl

end Sys2Proof.Machine
end

section
open Sys2Proof Sys2Proof.Machine

/-- Settles O33: each instruction is one that only changes its engine, and its result is the one stated. -/
theorem engineMoves : Obligations.EngineMoves := by
  intro s p d a imm k hz
  refine ⟨?nop, ?mov, ?ldi, ?ldih, ?getf, ?setf, ?clrq, ?addi, ?setc⟩
  case nop => exact moves_of_zPlain rfl hz rfl (fun _ => rfl) fun _ => rfl
  case mov => exact moves_of_zPlain rfl hz rfl (fun _ => rfl) fun _ => rfl
  case ldi => exact moves_of_zPlain rfl hz rfl (fun _ => rfl) fun c => congrArg _ (signExtend_eq_ofInt imm)
  case ldih => exact moves_of_zPlain rfl hz rfl (fun _ => rfl) fun c => congrArg _ (shl_or_zeroExtend (c.w d) imm)
  case getf => exact moves_of_zPlain rfl hz rfl (fun _ => rfl) fun _ => rfl
  case setf => exact moves_of_zPlain rfl hz rfl (fun _ => rfl) fun _ => rfl
  case clrq => exact moves_of_zPlain rfl hz rfl (fun _ => rfl) fun _ => rfl
  case addi => exact moves_of_zPlain rfl hz rfl (fun _ => rfl) fun c => congrArg _ (add_signExtend (c.w a) imm)
  case setc => exact moves_of_zPlain rfl hz rfl (fun _ => rfl) fun c => congrArg _ (ofNat_b2n (c.e.cond k))

end

section
open Sys2Proof Sys2Proof.Machine

/-- Settles O34: each instruction is one that only changes its engine, and the hypotheses on its types are those of
admission (R189). -/
theorem engineArithmetic : Obligations.EngineArithmetic := by
  intro s p d a b t t2 sat hz hreal hsat
  have hty : (s.zctx p s.lead).tyOk t = true := tyOk_zctx fun h => hreal (.inl h)
  have hty2 : (s.zctx p s.lead).tyOk t2 = true := tyOk_zctx fun h => hreal (.inr h)
  have hs : satOk t sat = true := satOk_of_imp fun h => (hsat h).1
  refine ⟨fun hbool => ?addSub, fun hbool htod => ?mulToMax, fun hmod => ?mod, ?cmp, ?cvt⟩
  case addSub =>
    have hok : (tyAdd t && satOk t sat && (s.zctx p s.lead).tyOk t) = true := by rw [tyAdd_of_ne hbool, hs, hty]; rfl
    exact ⟨moves_of_zAlu rfl hz hok (cost3_eq t 1 4 5), moves_of_zAlu rfl hz hok (cost3_eq t 1 4 5)⟩
  case mulToMax =>
    have hmul : tyMul t = true := tyMul_of_ne hbool htod
    have hok : (tyMul t && satOk t sat && (s.zctx p s.lead).tyOk t) = true := by rw [hmul, hs, hty]; rfl
    have hokM : (tyMul t && (s.zctx p s.lead).tyOk t) = true := by rw [hmul, hty]; rfl
    exact ⟨moves_of_zAlu rfl hz hok rfl, moves_of_zAlu rfl hz hok rfl, moves_of_zAlu rfl hz hok rfl,
      moves_of_zAlu rfl hz hok rfl, moves_of_zAlu rfl hz hokM (cost3_real t 1 2),
      moves_of_zAlu rfl hz hokM (cost3_real t 1 2)⟩
  case mod => exact moves_of_zAlu rfl hz hmod rfl
  case cmp =>
    rw [← cost3_real t 1 2]
    exact moves_of_zPlain rfl hz hty (fun _ => rfl) fun _ => rfl
  case cvt =>
    have hok : ((s.zctx p s.lead).tyOk t && (s.zctx p s.lead).tyOk t2 && (!sat || (tySat t && tySat t2))) = true := by
      rw [hty, hty2]
      cases sat with
      | false => rfl
      | true => obtain ⟨h, h2⟩ := hsat rfl; rw [h, h2]; rfl
    exact moves_of_zPlain rfl hz hok (fun _ => rfl) fun _ => rfl

end

section
open Sys2Proof Sys2Proof.Machine

/-- Settles O37: each block is an instruction that only changes its engine, and admission refuses the MUX whose operands
pass W15 (R206). -/
theorem statelessBlocks : Obligations.StatelessBlocks := by
  intro s p d a b t hz
  obtain ⟨hp, -⟩ := id hz
  refine ⟨fun hbool hreal => ?limit, ?sel, fun hfit => ?mux, fun hbeyond => ?refused⟩
  case limit =>
    have hok : (tyAdd t && (s.zctx p s.lead).tyOk t) = true := by
      rw [tyAdd_of_ne hbool, tyOk_zctx hreal]; rfl
    refine moves_of_zPlain rfl hz hok (fun c => ?_) fun c => ?_
    · split
      · rfl
      · split
        · rfl
        · split <;> rfl
    · split
      · simp [Engine.setV, Engine.setW]
      · rfl
  case sel => exact moves_of_zPlain rfl hz rfl (fun _ => rfl) fun _ => rfl
  case mux =>
    refine moves_of_zPlain rfl hz (decide_eq_true hfit) (fun c => ?_) fun c => ?_
    · dsimp only
      split <;> rfl
    · dsimp only
      split
      · rfl
      · simp [Engine.setV, Engine.setW]
  case refused =>
    have hno : decide (a.val + b.val ≤ 15) = false := decide_eq_false (Nat.not_le.2 hbeyond)
    exact congrArg Host.Outcome.next (zPlain_of_not_ok hz hno)

end

section
/-!
SUPPORT. Integer results (R190): the value of a register as a balanced remainder, what wrapping and saturating make of an
exact result, and the corners of DIV, MOD, NEG and ABS.
-/
namespace Sys2Proof.Machine

variable {t : ZTy}

/-! ### The types of two's complement: INT16, INT32, INT64 and TIME -/

theorem cast_two_pow (n : Nat) : ((2 ^ n : Nat) : Int) = 2 ^ n := Int.natCast_pow 2 n

theorem two_pow_split {n : Nat} (hn : 0 < n) : 2 ^ n = 2 * 2 ^ (n - 1) := by
  rw [← Nat.pow_succ', Nat.succ_eq_add_one, Nat.sub_add_cancel hn]

theorem toSigned_eq_bmod {n : Nat} (hn : 0 < n) (v : Nat) : toSigned n v = (v : Int).bmod (2 ^ n) := by
  have hsplit := two_pow_split hn
  unfold toSigned
  rw [Int.bmod_def, ← cast_two_pow]
  dsimp only
  generalize 2 ^ n = m at hsplit ⊢
  generalize 2 ^ (n - 1) = h at hsplit ⊢
  subst hsplit
  omega

theorem val_eq_toSigned (h : t ≠ .bool) (w : DWord) : t.val w = toSigned t.width w.toNat := by
  unfold ZTy.val
  split
  · exact absurd rfl h
  · rfl

theorem fit_false_eq_toSigned (h : t ≠ .tod) (v : Int) :
    t.fit false v = toSigned t.width (v % (2 ^ t.width : Int)).toNat := by
  unfold ZTy.fit
  rw [if_neg Bool.false_ne_true]
  split
  · exact absurd rfl h
  · rfl

theorem fit_true (v : Int) : t.fit true v = if v < t.lo then t.lo else if t.hi < v then t.hi else v := rfl

theorem width_pos (t : ZTy) : 0 < t.width := by cases t <;> decide

theorem width_le (t : ZTy) : t.width ≤ 64 := by cases t <;> decide

section twosComplement

variable (ht : isIntTy t = true ∨ t = .time)
include ht

theorem ne_bool_of_int : t ≠ .bool := by rintro rfl; simp [isIntTy] at ht

theorem ne_tod_of_int : t ≠ .tod := by rintro rfl; simp [isIntTy] at ht

theorem isReal_of_int : t.isReal = false := by
  cases t <;> simp [isIntTy] at ht <;> rfl

theorem lo_of_int : t.lo = -(2 ^ (t.width - 1)) := by
  unfold ZTy.lo
  split
  · exact absurd rfl (ne_bool_of_int ht)
  · exact absurd rfl (ne_tod_of_int ht)
  · rfl

theorem hi_of_int : t.hi = -t.lo - 1 := by
  rw [lo_of_int ht]
  unfold ZTy.hi
  split
  · exact absurd rfl (ne_bool_of_int ht)
  · exact absurd rfl (ne_tod_of_int ht)
  · rw [Int.neg_neg]

theorem lo_neg : t.lo < 0 := by
  rw [lo_of_int ht]
  have hpos := Nat.two_pow_pos (t.width - 1)
  rw [← cast_two_pow]
  omega

/-- The numbers of the type's width are twice as many as its negative values. -/
theorem two_pow_width : ((2 ^ t.width : Nat) : Int) = -2 * t.lo := by
  rw [two_pow_split (width_pos t), lo_of_int ht, ← cast_two_pow]
  omega

theorem bmod_limits (v : Int) : t.lo ≤ v.bmod (2 ^ t.width) ∧ v.bmod (2 ^ t.width) ≤ t.hi := by
  have hle := Int.le_bmod (x := v) (m := 2 ^ t.width) (Nat.two_pow_pos _)
  have hlt := Int.bmod_lt (x := v) (m := 2 ^ t.width) (Nat.two_pow_pos _)
  rw [two_pow_width ht] at hle hlt
  rw [hi_of_int ht]
  omega

theorem bmod_of_mem {v : Int} (hlo : t.lo ≤ v) (hhi : v ≤ t.hi) : v.bmod (2 ^ t.width) = v := by
  rw [hi_of_int ht] at hhi
  apply Int.bmod_eq_of_le_mul_two <;> rw [two_pow_width ht] <;> omega

/-! ### Wrapping and saturating -/

theorem val_eq_bmod (w : DWord) : t.val w = (w.toNat : Int).bmod (2 ^ t.width) := by
  rw [val_eq_toSigned (ne_bool_of_int ht), toSigned_eq_bmod (width_pos t)]

/-- A register that holds the low bits of `r` holds `r` in two's complement. -/
theorem val_intWord (r : Int) : t.val (intWord r) = r.bmod (2 ^ t.width) := by
  have hdvd : ((2 ^ t.width : Nat) : Int) ∣ ((2 ^ 64 : Nat) : Int) :=
    Int.natCast_dvd_natCast.2 (Nat.pow_dvd_pow 2 (width_le t))
  have hne : ((2 ^ 64 : Nat) : Int) ≠ 0 := by decide
  rw [val_eq_bmod ht, intWord, BitVec.toNat_ofInt, Int.toNat_of_nonneg (Int.emod_nonneg _ hne), ← Int.emod_bmod, Int.emod_emod_of_dvd _ hdvd, Int.emod_bmod]

theorem val_limits (w : DWord) : t.lo ≤ t.val w ∧ t.val w ≤ t.hi := by
  rw [val_eq_bmod ht]; exact bmod_limits ht _

theorem fit_false (v : Int) : t.fit false v = v.bmod (2 ^ t.width) := by
  have hne : ((2 ^ t.width : Nat) : Int) ≠ 0 := Int.natCast_ne_zero.2 (Nat.ne_of_gt (Nat.two_pow_pos t.width))
  rw [fit_false_eq_toSigned (ne_tod_of_int ht), toSigned_eq_bmod (width_pos t), ← cast_two_pow,
    Int.toNat_of_nonneg (Int.emod_nonneg _ hne), Int.emod_bmod]

theorem fit_limits (sat : Bool) (v : Int) : t.lo ≤ t.fit sat v ∧ t.fit sat v ≤ t.hi := by
  cases sat with
  | false => rw [fit_false ht]; exact bmod_limits ht v
  | true =>
    have hneg := lo_neg ht
    rw [fit_true, hi_of_int ht]
    split
    · omega
    · split <;> omega

theorem fit_of_mem (sat : Bool) {v : Int} (hlo : t.lo ≤ v) (hhi : v ≤ t.hi) : t.fit sat v = v := by
  cases sat with
  | false => rw [fit_false ht, bmod_of_mem ht hlo hhi]
  | true => rw [fit_true, if_neg (by omega), if_neg (by omega)]

theorem fit_zero (sat : Bool) : t.fit sat 0 = 0 := by
  have hneg := lo_neg ht
  exact fit_of_mem ht sat (by omega) (by rw [hi_of_int ht]; omega)

/-- Wrapping agrees with the exact result modulo 2^width. -/
theorem fit_false_congr (v : Int) : (t.fit false v - v) % (2 ^ t.width : Int) = 0 := by
  rw [fit_false ht, ← cast_two_pow, ← Int.emod_eq_emod_iff_emod_sub_eq_zero, Int.bmod_emod]

/-- The one value whose negative is not in the type: it wraps to itself and saturates at the upper limit. -/
theorem fit_neg_lo (sat : Bool) : t.fit sat (-t.lo) = if sat then t.hi else t.lo := by
  have hneg := lo_neg ht
  have hhi := hi_of_int ht
  cases sat with
  | false =>
    have hwrap : (-t.lo).bmod (2 ^ t.width) = t.lo.bmod (2 ^ t.width) := by
      rw [← Int.add_bmod_right t.lo, two_pow_width ht]
      congr 1
      omega
    rw [fit_false ht, hwrap, bmod_of_mem ht (Int.le_refl _) (by omega)]
    rfl
  | true => rw [fit_true, if_neg (by omega), if_pos (by omega)]; rfl

/-! ### The result and its flags -/

/-- The register holds the result that fits the type. -/
theorem val_intWord_of_mem {r : Int} (hlo : t.lo ≤ r) (hhi : r ≤ t.hi) : t.val (intWord r) = r := by
  rw [val_intWord ht, bmod_of_mem ht hlo hhi]

theorem val_intAlu (sat : Bool) (v : Int) (c : Bool) : t.val (intAlu t sat v c).res = t.fit sat v :=
  val_intWord_of_mem ht (fit_limits ht sat v).1 (fit_limits ht sat v).2

end twosComplement

theorem intAlu_v_iff (sat : Bool) (v : Int) (c : Bool) : (intAlu t sat v c).v = true ↔ v < t.lo ∨ t.hi < v := by
  simp [intAlu]

/-! ### Operations on a type that is not REAL -/

/-- What a division of `x` by 0 gives: 0, or the limit on the dividend's side. -/
def divZero (t : ZTy) (sat : Bool) (x : Int) : Int := if !sat || x == 0 then 0 else if 0 < x then t.hi else t.lo

section notReal

variable (hr : t.isReal = false)
include hr

theorem aluAdd_of_not_real (sat : Bool) (a b : DWord) : aluAdd t sat a b =
    intAlu t sat (t.val a + t.val b) (decide (2 ^ t.width ≤ t.uval a + t.uval b)) := by
  rw [aluAdd, hr]; rfl

theorem aluSub_of_not_real (sat : Bool) (a b : DWord) : aluSub t sat a b =
    intAlu t sat (t.val a - t.val b) (decide (t.uval a < t.uval b)) := by
  rw [aluSub, hr]; rfl

theorem aluMul_of_not_real (sat : Bool) (a b : DWord) :
    aluMul t sat a b = intAlu t sat (t.val a * t.val b) false := by
  rw [aluMul, hr]; rfl

theorem aluNeg_of_not_real (sat : Bool) (a : DWord) : aluNeg t sat a = intAlu t sat (-(t.val a)) false := by
  rw [aluNeg, hr]; rfl

theorem aluAbs_of_not_real (sat : Bool) (a : DWord) : aluAbs t sat a = intAlu t sat (t.val a).natAbs false := by
  rw [aluAbs, hr]; rfl

theorem aluDiv_of_ne_zero {a b : DWord} (sat : Bool) (hb : t.val b ≠ 0) :
    aluDiv t sat a b = intAlu t sat ((t.val a).tdiv (t.val b)) false := by
  rw [aluDiv, hr, if_neg Bool.false_ne_true]
  exact if_neg hb

theorem aluDiv_zero {a b : DWord} (sat : Bool) (hb : t.val b = 0) : aluDiv t sat a b =
    ⟨intWord (divZero t sat (t.val a)), divZero t sat (t.val a) == 0, decide (divZero t sat (t.val a) < 0), true,
      false⟩ := by
  rw [aluDiv, hr, if_neg Bool.false_ne_true]
  exact if_pos hb

end notReal

theorem aluMod_of_ne_zero {a b : DWord} (hb : t.val b ≠ 0) :
    aluMod t a b = intAlu t false ((t.val a).tmod (t.val b)) false := if_neg hb

theorem aluMod_zero {a b : DWord} (hb : t.val b = 0) : aluMod t a b = ⟨0, true, false, true, false⟩ := if_pos hb

theorem divZero_wrapped (x : Int) : divZero t false x = 0 := rfl

theorem divZero_self (sat : Bool) : divZero t sat 0 = 0 := by cases sat <;> rfl

theorem divZero_of_pos {x : Int} (hx : 0 < x) : divZero t true x = t.hi := by
  simp [divZero, hx, Int.ne_of_gt hx]

theorem divZero_of_neg {x : Int} (hx : x < 0) : divZero t true x = t.lo := by
  simp [divZero, Int.ne_of_lt hx, Int.not_lt.2 (Int.le_of_lt hx)]

section twosComplement

variable (ht : isIntTy t = true ∨ t = .time)
include ht

theorem val_zero : t.val 0 = 0 := by
  have hneg := lo_neg ht
  exact val_intWord_of_mem ht (r := 0) (by omega) (by rw [hi_of_int ht]; omega)

theorem divZero_limits (sat : Bool) (x : Int) : t.lo ≤ divZero t sat x ∧ divZero t sat x ≤ t.hi := by
  have hneg := lo_neg ht
  have hhi := hi_of_int ht
  unfold divZero
  split
  · omega
  · split <;> omega

theorem val_aluDiv_zero {a b : DWord} (sat : Bool) (hb : t.val b = 0) :
    t.val (aluDiv t sat a b).res = divZero t sat (t.val a) := by
  rw [aluDiv_zero (isReal_of_int ht) sat hb]
  exact val_intWord_of_mem ht (divZero_limits ht sat _).1 (divZero_limits ht sat _).2

/-- The negative of the minimum lies above the type: V is set, and the result wraps to the minimum or is the maximum. -/
theorem intAlu_neg_lo (sat c : Bool) :
    (intAlu t sat (-t.lo) c).v = true ∧ t.val (intAlu t sat (-t.lo) c).res = if sat then t.hi else t.lo := by
  refine ⟨(intAlu_v_iff sat _ c).2 (.inr ?_), (val_intAlu ht sat _ c).trans (fit_neg_lo ht sat)⟩
  rw [hi_of_int ht]; omega

/-- A result of 0 sets Z and not V. -/
theorem intAlu_zero (sat c : Bool) : t.val (intAlu t sat 0 c).res = 0 ∧ (intAlu t sat 0 c).z = true ∧
    (intAlu t sat 0 c).v = false := by
  have hneg := lo_neg ht
  have hhi := hi_of_int ht
  refine ⟨(val_intAlu ht sat 0 c).trans (fit_zero ht sat), beq_iff_eq.2 (fit_zero ht sat), ?_⟩
  rw [Bool.eq_false_iff, ne_eq, intAlu_v_iff]
  omega

/-! ### The rule of R190 -/

theorem intAlu_rule (sat : Bool) (v : Int) (c : Bool) :
    let x := intAlu t sat v c
    let r := t.val x.res
    (t.lo ≤ v → v ≤ t.hi → r = v) ∧ (x.v = true ↔ v < t.lo ∨ t.hi < v) ∧ (x.z = true ↔ r = 0) ∧ (x.n = true ↔ r < 0) ∧
      (sat = false → (r - v) % (2 ^ t.width : Int) = 0 ∧ t.lo ≤ r ∧ r ≤ t.hi) ∧
      (sat = true → v < t.lo → r = t.lo) ∧ (sat = true → t.hi < v → r = t.hi) := by
  have hneg := lo_neg ht
  have hhi := hi_of_int ht
  dsimp only
  rw [val_intAlu ht]
  refine ⟨fit_of_mem ht sat, intAlu_v_iff sat v c, beq_iff_eq, decide_eq_true_iff, ?_, ?_, ?_⟩
  · rintro rfl
    exact ⟨fit_false_congr ht v, fit_limits ht false v⟩
  · rintro rfl hv
    rw [fit_true, if_pos hv]
  · rintro rfl hv
    rw [fit_true, if_neg (by omega), if_pos hv]

theorem div_mod_by_zero (sat : Bool) {a b : DWord} (hb : t.val b = 0) :
    (aluDiv t sat a b).v = true ∧ (aluMod t a b).v = true ∧ (aluMod t a b).z = true ∧
      t.val (aluMod t a b).res = 0 ∧ (sat = false → t.val (aluDiv t sat a b).res = 0) ∧
      (sat = true → 0 < t.val a → t.val (aluDiv t sat a b).res = t.hi) ∧
      (sat = true → t.val a < 0 → t.val (aluDiv t sat a b).res = t.lo) ∧
      (t.val a = 0 → t.val (aluDiv t sat a b).res = 0 ∧ (aluDiv t sat a b).z = true) := by
  rw [val_aluDiv_zero ht sat hb, aluDiv_zero (isReal_of_int ht) sat hb, aluMod_zero hb]
  refine ⟨rfl, rfl, rfl, val_zero ht, ?_, ?_, ?_, fun ha => ?_⟩
  · rintro rfl; exact divZero_wrapped _
  · rintro rfl ha; exact divZero_of_pos ha
  · rintro rfl ha; exact divZero_of_neg ha
  · rw [ha, divZero_self]; exact ⟨rfl, rfl⟩

theorem div_mod_lo_neg_one (sat : Bool) {a b : DWord} (ha : t.val a = t.lo) (hb : t.val b = -1) :
    (aluDiv t sat a b).v = true ∧ t.val (aluDiv t sat a b).res = (if sat then t.hi else t.lo) ∧
      t.val (aluMod t a b).res = 0 ∧ (aluMod t a b).z = true ∧ (aluMod t a b).v = false := by
  have hne : t.val b ≠ 0 := by omega
  rw [aluDiv_of_ne_zero (isReal_of_int ht) sat hne, aluMod_of_ne_zero hne, ha, hb, Int.tdiv_neg, Int.tdiv_one,
    Int.tmod_neg, Int.tmod_one]
  obtain ⟨hv, hres⟩ := intAlu_neg_lo ht sat false
  exact ⟨hv, hres, intAlu_zero ht false false⟩

theorem neg_abs_lo (sat : Bool) {a : DWord} (ha : t.val a = t.lo) :
    (aluNeg t sat a).v = true ∧ t.val (aluNeg t sat a).res = (if sat then t.hi else t.lo) ∧
      (aluAbs t sat a).v = true ∧ t.val (aluAbs t sat a).res = (if sat then t.hi else t.lo) := by
  have habs : ((t.val a).natAbs : Int) = -t.lo := by rw [ha, Int.ofNat_natAbs_of_nonpos (Int.le_of_lt (lo_neg ht))]
  rw [aluNeg_of_not_real (isReal_of_int ht), aluAbs_of_not_real (isReal_of_int ht), habs, ha]
  obtain ⟨hv, hres⟩ := intAlu_neg_lo ht sat false
  exact ⟨hv, hres, hv, hres⟩

end twosComplement

end Sys2Proof.Machine
end

section
open Sys2Proof Sys2Proof.Machine

/-- Settles O35: the rule of R190 for an exact result, the exact result of each operation, and the corners of its table. -/
theorem integerResults : Obligations.IntegerResults := by
  refine ⟨fun t sat v c ht => intAlu_rule ht sat v c, fun t sat a b ht => ?addSub, fun t sat a b ht => ?others,
    fun v => ?tod⟩
  case addSub =>
    have hr : t.isReal = false := by
      rcases ht with h | rfl | rfl
      · exact isReal_of_int (.inl h)
      · rfl
      · rfl
    exact ⟨aluAdd_of_not_real hr sat a b, aluSub_of_not_real hr sat a b⟩
  case others =>
    have hr := isReal_of_int ht
    exact ⟨aluMul_of_not_real hr sat a b, aluNeg_of_not_real hr sat a, aluAbs_of_not_real hr sat a,
      fun hb => ⟨aluDiv_of_ne_zero hr sat hb, aluMod_of_ne_zero hb⟩, fun hb => div_mod_by_zero ht sat hb,
      fun ha hb => div_mod_lo_neg_one ht sat ha hb, fun ha => neg_abs_lo ht sat ha⟩
  case tod =>
    have hlo : ZTy.tod.lo = 0 := rfl
    have hhi : ZTy.tod.hi = 86399999999999 := rfl
    refine ⟨rfl, fun hv => ?_, fun hv => ?_⟩
    · rw [fit_true, hlo, if_pos hv]
    · rw [fit_true, hlo, hhi, if_neg (by omega), if_pos hv]

end

section
/-!
SUPPORT. The three timer programs, one equation per branch (R203).
-/
namespace Sys2Proof.Machine

variable (m : Timer) (now : Nat) (since : Nat → Nat) (p : Nat)

theorem ton_false : m.ton now since false p = ⟨m.start, 0, false, false, false⟩ := rfl

theorem ton_true : m.ton now since true p =
    ⟨if m.run then m.start else now, min (since (if m.run then m.start else now)) p, true,
      decide (p ≤ since (if m.run then m.start else now)), true⟩ := by
  obtain ⟨start, et, prev, q, run⟩ := m
  cases run <;> rfl

theorem tof_true : m.tof now since true p = ⟨m.start, 0, true, true, false⟩ := rfl

/-- IN has fallen, or the delay that its fall started still runs. -/
theorem tof_false_timing (h : m.prev = true ∨ m.run = true) : m.tof now since false p =
    ⟨if m.prev then now else m.start, min (since (if m.prev then now else m.start)) p, false,
      decide (since (if m.prev then now else m.start) < p), decide (since (if m.prev then now else m.start) < p)⟩ := by
  obtain ⟨start, et, prev, q, run⟩ := m
  cases prev with
  | true => rfl
  | false =>
    obtain rfl : run = true := by simpa using h
    rfl

theorem tof_false_idle (hprev : m.prev = false) (hrun : m.run = false) :
    m.tof now since false p = ⟨m.start, m.et, false, false, false⟩ := by
  obtain ⟨start, et, prev, q, run⟩ := m
  obtain rfl : prev = false := hprev
  obtain rfl : run = false := hrun
  rfl

theorem tp_running {inp : Bool} (hrun : m.run = true) (h : since m.start < p) :
    m.tp now since inp p = ⟨m.start, since m.start, inp, true, true⟩ := by
  simp [Timer.tp, hrun, h]

theorem tp_over {inp : Bool} (hrun : m.run = true) (h : p ≤ since m.start) :
    m.tp now since inp p = ⟨m.start, p, inp, false, false⟩ := by
  simp [Timer.tp, hrun, Nat.not_lt.2 h]

theorem tp_starts (hrun : m.run = false) (hprev : m.prev = false) :
    m.tp now since true p = ⟨now, 0, true, decide (0 < p), true⟩ := by
  simp [Timer.tp, hrun, hprev]

theorem tp_rests {inp : Bool} (hrun : m.run = false) (h : inp = true → m.prev = true) :
    m.tp now since inp p = ⟨m.start, if inp then m.et else 0, inp, false, false⟩ := by
  have hedge : (inp && !m.prev) = false := by cases inp <;> simp [h]
  simp [Timer.tp, hrun, hedge]

/-! ### IN is stored as the previous IN -/

theorem ton_prev (inp : Bool) : (m.ton now since inp p).prev = inp := by
  cases inp
  · rw [ton_false]
  · rw [ton_true]

theorem tof_prev (inp : Bool) : (m.tof now since inp p).prev = inp := by
  cases inp
  · by_cases h : m.prev = true ∨ m.run = true
    · rw [tof_false_timing m now since p h]
    · obtain ⟨hprev, hrun⟩ := not_or.1 h
      rw [tof_false_idle m now since p (by simpa using hprev) (by simpa using hrun)]
  · rw [tof_true]

theorem tp_prev (inp : Bool) : (m.tp now since inp p).prev = inp := by
  unfold Timer.tp
  dsimp only
  split
  · split <;> rfl
  · split <;> rfl

end Sys2Proof.Machine
end

section
open Sys2Proof Sys2Proof.Machine

/-- Settles O41: each clause is the equation of its branch. -/
theorem timerRules : Obligations.TimerRules := by
  intro m now since inp p
  refine ⟨ton_prev m now since p inp, tof_prev m now since p inp, tp_prev m now since p inp, ?tonOff, ?tonOn, ?tofOn,
    ?tofTiming, ?tofIdle, ?tpRunning, ?tpOver, ?tpStarts, ?tpRests⟩
  case tonOff => rintro rfl; exact ⟨rfl, rfl, rfl⟩
  case tonOn =>
    rintro rfl
    rw [ton_true]
    exact ⟨rfl, rfl, rfl, decide_eq_true_iff⟩
  case tofOn => rintro rfl; exact ⟨rfl, rfl, rfl⟩
  case tofTiming =>
    rintro rfl h
    rw [tof_false_timing m now since p h]
    exact ⟨rfl, rfl, decide_eq_true_iff, rfl⟩
  case tofIdle =>
    rintro rfl hprev hrun
    rw [tof_false_idle m now since p hprev hrun]
    exact ⟨rfl, rfl⟩
  case tpRunning =>
    intro hrun h
    rw [tp_running m now since p hrun h]
    exact ⟨rfl, rfl, rfl⟩
  case tpOver =>
    intro hrun h
    rw [tp_over m now since p hrun h]
    exact ⟨rfl, rfl, rfl⟩
  case tpStarts =>
    rintro hrun rfl hprev
    rw [tp_starts m now since p hrun hprev]
    exact ⟨rfl, rfl, rfl, decide_eq_true_iff⟩
  case tpRests =>
    intro hrun h
    rw [tp_rests m now since p hrun h]
    exact ⟨rfl, rfl, rfl⟩

end

section
/-!
SUPPORT. A transmit unit of the Stride engines (R207): its words as bytes, the vote of each word whose copies agree (R95),
and what MPUT of a unit that fits leaves.
-/
namespace Sys2Proof.Machine

variable {s t : State}

/-! ### The words of a unit -/

@[simp] theorem readN_length (m : List Host.Cell) (a n : Nat) : (Memory.readN m a n).length = n := by
  induction n generalizing a with
  | zero => rfl
  | succ n ih => simp [Memory.readN, ih]

theorem leNat_lt (bs : List Byte) : leNat bs < 256 ^ bs.length := by
  induction bs with
  | nil => simp [leNat]
  | cons b bs ih =>
    have hb := b.isLt
    rw [leNat, List.length_cons, Nat.pow_succ]
    omega

/-- A number's bytes are those that spelled it, then zeros. -/
theorem leBytes_leNat {bs : List Byte} {n : Nat} (h : bs.length ≤ n) :
    leBytes n (leNat bs) = bs ++ List.replicate (n - bs.length) 0 := by
  induction n generalizing bs with
  | zero =>
    obtain rfl : bs = [] := List.length_eq_zero_iff.1 (Nat.le_zero.1 h)
    rfl
  | succ n ih =>
    cases bs with
    | nil => simpa [leBytes, leNat, List.replicate_succ] using ih (bs := []) (Nat.zero_le n)
    | cons b bs =>
      have hb := b.isLt
      have hdiv : (b.toNat + 256 * leNat bs) / 256 = leNat bs := by omega
      have hlow : BitVec.ofNat 8 (b.toNat + 256 * leNat bs) = b := by
        apply BitVec.eq_of_toNat_eq
        rw [BitVec.toNat_ofNat]; omega
      rw [leBytes, leNat, hdiv, hlow, ih (Nat.le_of_succ_le_succ h), List.length_cons, Nat.add_sub_add_right]
      rfl

/-- The 64-bit word of a unit at byte `i`, which its last bytes may not fill. -/
def unitWord (bs : List Byte) (i : Nat) : Nat := leNat ((bs.drop i).take 8)

theorem unitWord_lt (bs : List Byte) (i : Nat) : unitWord bs i < 2 ^ 64 :=
  calc unitWord bs i < 256 ^ ((bs.drop i).take 8).length := leNat_lt _
    _ ≤ 256 ^ 8 := Nat.pow_le_pow_right (by decide) (List.length_take_le _ _)
    _ = 2 ^ 64 := by decide

/-- A unit with zeros after its end. -/
def padded (bs : List Byte) (k : Nat) : List Byte := bs ++ List.replicate k 0

theorem leBytes_unitWord {bs : List Byte} {i k : Nat} (h : i + 8 ≤ k) :
    leBytes 8 (unitWord bs i) = ((padded bs k).drop i).take 8 := by
  have hzeros : min (8 - (bs.length - i)) (k - (i - bs.length)) = 8 - min 8 (bs.length - i) := by omega
  rw [unitWord, leBytes_leNat (List.length_take_le _ _), padded, List.drop_append, List.take_append,
    List.drop_replicate, List.take_replicate, List.length_take, List.length_drop, hzeros]

theorem take_padded (bs : List Byte) (k : Nat) : (padded bs k).take bs.length = bs := List.take_left

/-! ### The vote of a unit whose copies agree -/

/-- The block after three lanes presented the same value `v` to `a` (R95): the comparator holds its bundle. -/
def afterVote (a v : Nat) (t : State) : State :=
  updVoting (fun x => { x with lastBundle := writeBundle a 0xFF v }) (t.bumpBy R.PFC_DLY_PAR_CNT 0)

theorem reg_afterVote {a v : Nat} (hr : t.regsOk) (b : Nat) : (afterVote a v t).reg b = t.reg b :=
  (reg_congr (updVoting_regs _ _) b).trans (reg_bumpBy_zero hr b)

theorem regsOk_afterVote {a v : Nat} (hr : t.regsOk) : (afterVote a v t).regsOk := by
  have hbump : (t.bumpBy R.PFC_DLY_PAR_CNT 0).regsOk := regsOk_setReg hr
  unfold State.regsOk at hbump ⊢
  rwa [afterVote, updVoting_regs]

theorem afterVote_exec (a v : Nat) : (afterVote a v t).exec = t.exec := rfl

/-- The vote of one word of a unit, at an address above the comms RAM (R207). -/
theorem voteValue_unitWord {mb i : Nat} {unit : Nat → List Byte} {bs : List Byte} (hin : t.lanesIn = [0, 1, 2])
    (hmb : mb < 4096) (hi : i < 0x10000) (hunit : ∀ l < 3, unit l = bs) :
    voteValue (0x800000 + 4096 * mb + i) (fun l => leNat (((unit l).drop i).take 8)) t
      = (some (unitWord bs i), afterVote (0x800000 + 4096 * mb + i) (unitWord bs i) t) :=
  voteValue_agreed hin (by omega) (by omega) (unitWord_lt bs i) fun l hl => by rw [hunit l hl]; rfl

/-- Three lanes in service that hold the same unit: its words are forwarded one by one, and no register and nothing of
the execution model moves (R95, R207). -/
theorem voteUnit_agreed {mb n k : Nat} {unit : Nat → List Byte} {bs acc : List Byte} (hr : t.regsOk)
    (hin : t.lanesIn = [0, 1, 2]) (hmb : mb < 4096) (hunit : ∀ l < 3, unit l = bs) (hn : acc.length + 8 * n ≤ k)
    (hk : k ≤ 0x10000) (hacc : acc = (padded bs k).take acc.length) :
    ∃ u, voteUnit mb unit n acc t = ((padded bs k).take (acc.length + 8 * n), u) ∧ (∀ a, u.reg a = t.reg a) ∧
      u.exec = t.exec := by
  induction n generalizing acc t with
  | zero => exact ⟨t, by rw [voteUnit, Nat.mul_zero, Nat.add_zero, ← hacc], fun _ => rfl, rfl⟩
  | succ n ih =>
    have hlen : (acc ++ leBytes 8 (unitWord bs acc.length)).length = acc.length + 8 := by simp
    have hnext : acc ++ leBytes 8 (unitWord bs acc.length) = (padded bs k).take (acc.length + 8) := by
      rw [leBytes_unitWord (k := k) (by omega), List.take_add, ← hacc]
    obtain ⟨u, hu, hureg, huexec⟩ := ih (acc := acc ++ leBytes 8 (unitWord bs acc.length))
      (regsOk_afterVote (a := 0x800000 + 4096 * mb + acc.length) (v := unitWord bs acc.length) hr)
      ((lanesIn_congr (reg_afterVote hr)).trans hin) (by omega) (by rw [hlen]; exact hnext)
    refine ⟨u, ?_, fun a => (hureg a).trans (reg_afterVote hr a), huexec.trans (afterVote_exec _ _)⟩
    rw [voteUnit]
    dsimp only
    rw [voteValue_unitWord hin hmb (by omega) hunit]
    dsimp only
    rw [hu, hlen, Nat.mul_succ, Nat.add_assoc, Nat.add_comm 8]

/-- A unit whose copies agree enters the pending store of its block (R207). -/
theorem voteTx_agreed {mb owner : Nat} {unit : Nat → List Byte} {bs : List Byte} (hr : t.regsOk)
    (hin : t.lanesIn = [0, 1, 2]) (hh : t.halted = false) (hmb : mb < 4096) (hunit : ∀ l < 3, unit l = bs)
    (hlen : bs.length ≤ 4096) :
    (voteTx mb unit bs.length owner t).halted = false ∧ (voteTx mb unit bs.length owner t).lanesIn = [0, 1, 2] ∧
      (voteTx mb unit bs.length owner t).exec = { t.exec with txPend := mapPut t.exec.txPend mb (bs, owner) } := by
  obtain ⟨u, hu, hreg, hexec⟩ := voteUnit_agreed (n := (bs.length + 7) / 8) (k := 8 * ((bs.length + 7) / 8)) (acc := [])
    hr hin hmb hunit (by simp) (by omega) rfl
  have hunitBytes : ((padded bs (8 * ((bs.length + 7) / 8))).take (8 * ((bs.length + 7) / 8))).take bs.length = bs := by
    rw [List.take_take, Nat.min_eq_left (by omega), take_padded]
  have hhu : u.halted = false := (halted_congr hreg).trans hh
  have htx : voteTx mb unit bs.length owner t
      = updExec (fun e => { e with txPend := mapPut e.txPend mb (bs, owner) }) u := by
    unfold voteTx
    rw [hu]
    dsimp only
    rw [hhu, if_neg Bool.false_ne_true, List.length_nil, Nat.zero_add, hunitBytes]
  rw [htx]
  refine ⟨(halted_congr fun a => reg_congr (updExec_regs _ _) a).trans hhu,
    (lanesIn_congr fun a => (reg_congr (updExec_regs _ _) a).trans (hreg a)).trans hin, ?_⟩
  rw [updExec_exec, hexec]

/-! ### One instruction that sends a unit -/

/-- The unit that lane `l` presents. -/
def unitOf (p : Program) (f : ZCtx → ZRes) (s : State) (l : Nat) : List Byte :=
  match (f (s.zctx p l)).tx with | some (_, b, _) => b | none => []

/-- An instruction that neither traps nor ends the task nor writes an output slot, and sends a unit: the lanes' own
writes, then the vote of the unit. -/
theorem zRun_tx_of_zAt {p : Program} {n cost mb owner : Nat} {bs : List Byte} {ok : ZCtx → Bool} {f : ZCtx → ZRes}
    (hz : s.zAt p n) (hok : ok (s.zctx p s.lead) = true) (htrap : (f (s.zctx p s.lead)).trap = none)
    (houts : (f (s.zctx p s.lead)).outs = []) (htx : (f (s.zctx p s.lead)).tx = some (mb, bs, owner))
    (hend : (f (s.zctx p s.lead)).ended = false)
    (hbps : (voteTx mb (unitOf p f s) bs.length owner (lanesStep p cost f s)).exec.bps = []) :
    zRun n cost ok f s = voteTx mb (unitOf p f s) bs.length owner (lanesStep p cost f s) := by
  obtain ⟨hp, hrun, -, hclean, -, hpc⟩ := hz
  have hreads : engineReads p n f s = s := by simp [engineReads, hclean]
  have hlast : decide ((s.zctx p s.lead).lvl.last < (s.zctx p s.lead).e.pc + 4 * n) = false := by simpa using hpc
  unfold zRun
  rw [hp]
  dsimp only
  rw [hrun, hok, hlast, hreads, htrap, houts, htx, hend, hrun]
  simp only [Bool.not_true, Bool.or_self, Bool.false_eq_true, if_false]
  split
  · rfl
  · exact arrive_of_no_bps hbps

/-! ### MPUT -/

/-- What MPUT of a unit that fits does in one lane: D tells DONE, and the unit leaves for its block (R207). -/
def unitSend (d : ZReg) (sp : ZSpace) (mb off len : Nat) (c : ZCtx) : ZRes :=
  ⟨c.next 3 ((c.e.setV false).setW d (BitVec.ofNat 64 (2 ^ 24 * cDone))), [], [],
    some (mb, Memory.readN c.mem (c.spaceBase sp + off) len, c.owner), none, false, [(c.spaceBase sp + off, len)]⟩

/-- Where the block takes the unit, MPUT does that in every lane. -/
theorem zMput_of_fits {p : Program} {d : ZReg} {sp : ZSpace} {mb off len : Nat} {b : Binding}
    (hb : p.block 3 mb = some b) (hlen : len ≤ b.size) :
    ∃ f : ZCtx → ZRes, zMput d sp mb off len s
        = zRun 3 (4 + (len + 7) / 8) (fun c => mbOk 3 mb c && copyOk sp off len c) f s ∧
      ∀ l, f (s.zctx p l) = unitSend d sp mb off len (s.zctx p l) := by
  refine ⟨_, rfl, fun l => ?_⟩
  have hprog : (s.zctx p l).prog = p := rfl
  simp only [hprog, hb, unitSend, Nat.not_lt.2 hlen, decide_false, Bool.false_eq_true, if_false]

theorem unitOf_unitSend {p : Program} {f : ZCtx → ZRes} {d : ZReg} {sp : ZSpace} {mb off len l : Nat}
    (hf : f (s.zctx p l) = unitSend d sp mb off len (s.zctx p l)) :
    unitOf p f s l = Memory.readN (s.lane l).sram ((s.zctx p l).spaceBase sp + off) len := by
  rw [unitOf, hf]; rfl

/-- A block that is bound for transmission takes MPUT in a version 2 image (R207, R208). -/
theorem mbOk_zctx {p : Program} {kind mb l : Nat} {b : Binding} (hver : p.version = 2) (hb : p.block kind mb = some b) :
    mbOk kind mb (s.zctx p l) = true := by
  simp [mbOk, ZCtx.msgOk, State.zctx, hver, hb]

end Sys2Proof.Machine
end

section
open Sys2Proof Sys2Proof.Machine

/-- Settles O44: the lanes present the same unit, the copies of each of its words agree, and the vote carries the unit
into the pending store of its block. -/
theorem unitLeavesAsVoted : Obligations.UnitLeavesAsVoted := by
  intro s p d mb b sp off len bs hver hb hz hin hcan hcopy hfit hsame
  obtain ⟨-, hrun, hbps, -⟩ := id hz
  obtain ⟨f, hmput, hf⟩ := zMput_of_fits (s := s) (d := d) (sp := sp) (off := off.toNat) hb hfit
  have hs : s.storing s := storing_refl hz hcan
  have hlead : (s.lead : Nat) = (0 : Fin 3) := by rw [State.lead, hin]; rfl
  have hok : (mbOk 3 mb.toNat (s.zctx p s.lead) && copyOk sp off.toNat len.toNat (s.zctx p s.lead)) = true := by
    rw [mbOk_zctx hver hb, hcopy]; rfl
  have hunit : ∀ l < 3, unitOf p f s l = bs := fun l hl => (unitOf_unitSend (hf l)).trans (hsame ⟨l, hl⟩)
  have hlen : bs.length = len.toNat := by rw [← hsame 0, readN_length]
  have hmax : bs.length ≤ 4096 := by
    simp only [copyOk, Bool.and_eq_true, decide_eq_true_eq] at hcopy
    omega
  have htx : (f (s.zctx p s.lead)).tx = some (mb.toNat, bs, (s.zctx p s.lead).owner) := by
    rw [hf, ← hsame 0, ← hlead]; rfl
  have ht : s.storing (lanesStep p (4 + (len.toNat + 7) / 8) f s) := storing_lanesStep hs
  have hreg := reg_congr ht.regs
  have hregs : (lanesStep p (4 + (len.toNat + 7) / 8) f s).regsOk := by
    unfold State.regsOk; rw [ht.regs]; exact regsOk_of_canonical hcan
  obtain ⟨uhalt, uin, uexec⟩ := voteTx_agreed (owner := (s.zctx p s.lead).owner) hregs ((lanesIn_congr hreg).trans hin)
    ((halted_congr hreg).trans (halted_of_engineRuns hrun)) mb.isLt hunit hmax
  have hall := zRun_tx_of_zAt (cost := 4 + (len.toNat + 7) / 8)
    (ok := fun c => mbOk 3 mb.toNat c && copyOk sp off.toNat len.toNat c) hz hok (by rw [hf]; rfl) (by rw [hf]; rfl) htx
    (by rw [hf]; rfl) (by rw [uexec, ht.exec]; exact hbps)
  refine ⟨_, congrArg Host.Outcome.next (hmput.trans hall), uhalt, uin, (s.zctx p s.lead).owner, ?_⟩
  rw [uexec]
  exact mapGet_mapPut_self _ _ _

end
